-- ==== Sys2Proof/Word.lean ====
section
/-! DEFINITION. The words Fyhus' records and registers are made of. -/

namespace Sys2Proof

/-- One byte of a record, ring entry or window (R7: multi-byte fields are little-endian). -/
abbrev Byte := BitVec 8

/-- A 128-byte submission record (Tables 3.4 and 3.6). -/
abbrev SqRec := BitVec 1024

/-- The 128-byte header of a parameter block (Table 9.1). -/
abbrev Header := BitVec 1024

/-- The 256 bytes of class R plan parameters (Table 13.2). -/
abbrev PlanBits := BitVec 2048

/-- fp32 bits (R9, R10). -/
abbrev F32 := BitVec 32

end Sys2Proof
end

