-- ==== Sys2Proof/Syntax.lean ====
section
/-! DEFINITION. The commands of one Fyhus slice: one constructor of `Instr` per row of spec/opcode_table.json,
with what the step brings from outside (a record, a read's data, what a check found) as its operands. -/

namespace Sys2Proof

/-- Request classes (R41, Table 3.6). -/
inductive Cls where
  | g | e | r
deriving DecidableEq, Repr

/-- The status codes of Table 5.1 (R119). -/
inductive Status where
  | ok | partialRes | fewer | deadlineMissed | fallbackUsed | noValidToken
  | rejQuota | rejCapacity | rejInfeasible | rejModel | rejFormat | rejSealedWrite | rejRngTable
  | faultTile | faultState | faultSliceLost | faultPageLost
  | abortedHost | expiredTtl | staleHandle
deriving DecidableEq, Repr

/-- The path by which a dictionary write reaches the slice (R457). -/
inductive Path where
  /-- the mailbox, with the REQ_ID that MB_RESP echoes (R445) -/
  | mailbox (reqId : Nat)
  /-- a vendor-defined MCTP request: source endpoint, message tag, REQ_ID (R453) -/
  | mctp (src tag reqId : Nat)
  /-- a SET_PARAM consumed from a ring pair (R82) -/
  | setParam (ring : Nat)
  /-- a store to a directly mapped entry (R450) -/
  | direct
deriving DecidableEq, Repr

/-- A FAB_T access (R34, R35): offset in the window, size in bytes, direction, whether the source is a Fyhus slice. -/
structure FabtAccess where
  offset : Nat
  size : Nat
  write : Bool
  fromSlice : Bool
  /-- the bytes written, where a register of the mailbox is (R445) -/
  value : BitVec 64 := 0
deriving DecidableEq, Repr

/-- What a hand-over creates (R27, R364, R396). -/
inductive HandOverKind where
  | submit
  | spawn (parent : Nat)
  | restore
deriving DecidableEq, Repr

/-- The fields of one turn: of a SUBMIT or CONTINUE record (Table 3.6), or of a spawn (R364). -/
structure TurnReq where
  promptAddr : Nat
  promptLen : Nat
  toklogAddr : Nat
  maxTokens : Nat
  deadline : Nat
  /-- TICK of consumption on the owning slice (ADMIT_TICK, R101) -/
  consumeTick : Nat
  hseq : Nat
  stream : Bool
  /-- the parameter block; address 0 for none, or for the previous turn's -/
  paramAddr : Nat
  paramLen : Nat
  /-- tokens of its used bias entries -/
  biasTokens : List Nat
deriving DecidableEq, Repr

/-- The normalised record and header figures of a sequence image (R394, R395). -/
structure ImageRef where
  addr : Nat
  len : Nat
  record : BitVec 4096
  clen : Nat
  npages : Nat
  pageOff : Nat
  forced : Bool
deriving DecidableEq, Repr

/-- The hand-over of an admitted request to its home slice (R27). -/
structure HandOver where
  id : Nat
  src : Nat
  kind : HandOverKind
  ring : Nat
  client : Nat
  userTag : Nat
  cls : Cls
  singleTurn : Bool
  version : Nat
  adapter : Nat
  group : Nat
  turn : TurnReq
  resultAddr : Nat
  resultLen : Nat
  header : Header
  plan : PlanBits
  /-- CACHED_PAGES of the lookup answer (R233) -/
  cachedPages : Nat
  fellBack : Bool
  /-- fallback steps marked at admission, bit 0 F1, bit 1 F2, bit 2 F3 (R361) -/
  fbUsed : Nat
  /-- epoch number to which a class R request is pinned (R357) -/
  epoch : Option Nat
  flow : Option Nat
  image : Option ImageRef
deriving DecidableEq, Repr

/-- A packed generation request on its way to the owning slice (R364). -/
structure SpawnReq where
  id : Nat
  /-- home slice of the parent -/
  src : Nat
  parent : Nat
  ring : Nat
  client : Nat
  userTag : Nat
  model : Nat
  adapter : Nat
  singleTurn : Bool
  turn : TurnReq
  paramAddr : Nat
  paramLen : Nat
  flow : Option Nat
deriving DecidableEq, Repr

/-- The acknowledgement of a hand-over: the handle and the tokens found cached, or a refusal (R27); to a spawn, the
owning slice's answer, with the code of a refusal (R364). -/
inductive HandOverResult where
  | accepted (handle cachedTokens : Nat)
  | refused (st : Status)
deriving DecidableEq, Repr

/-- What a host command that reaches a home slice asks for (R80). -/
inductive HostOp where
  | cont (turn : TurnReq) (header : Option Header)
  | abort
  | abortClient
  | pause
  | resume
  | save (imageAddr imageLen : Nat)
deriving DecidableEq, Repr

/-- A host command naming a sequence homed on another slice (R26, R80). -/
structure HostCmd where
  id : Nat
  src : Nat
  ring : Nat
  client : Nat
  handle : Nat
  op : HostOp
deriving DecidableEq, Repr

/-- The outcome of a host command: its answer, the wait of an answer still to come, or, for a CONTINUE that the home
slice cannot take, the refusal that queues it for capacity (R27). -/
inductive HostResult where
  | ack (arg0 : Nat)
  | saved (bytes : Nat)
  | refused (st : Status)
  | queueForCapacity
  | later
deriving DecidableEq, Repr

/-- A completion on its way to a completion ring (Tables 3.8 and 3.8a). BSEQ, HSEQ_ECHO and the trailer are put in
when it is written (R74). -/
structure Compl where
  ring : Nat
  ctype : Nat
  status : Status
  handle : Nat
  client : Nat
  userTag : Nat
  tokenEnd : Nat
  hseqOf : Nat
  arg0 : Nat
  arg1 : Nat
  arg2 : Nat
  /-- the answer of a record that carried NO_IRQ (R91) -/
  noIrq : Bool
  /-- home slice that sent it -/
  home : Nat
deriving DecidableEq, Repr

/-- A record delta for a parity slice (R379): the XOR of the record and of the timer words, old against new. -/
structure ParityDelta where
  /-- slice that sends it -/
  src : Nat
  /-- slice whose record it concerns: the sender, or a lost slice whose stripe the sender adopts (R383) -/
  member : Nat
  slot : Nat
  updNo : Nat
  record : BitVec 4096
  timers : BitVec 256
deriving DecidableEq, Repr

/-- The parts of a sequence that its 512-byte record does not hold and a rebuild needs (log entry 20). -/
structure SeqExtra where
  version : Nat
  adapter : Nat
  owner : Nat
  maxTokens : Nat
  deadline : Nat
  paramAddr : Nat
  paramLen : Nat
  biasTokens : List Nat
  /-- bytes of the stop entries of the parameter block (R269) -/
  stops : Nat
  /-- entries of the sequence's turn list (Table 8.5), in host memory -/
  turns : List (BitVec 256)
  resultAddr : Nat
  resultLen : Nat
  plan : PlanBits
  /-- entries of the list that the plan's stage reads, as the work area holds them (R347) -/
  list : List (Nat × F32)
deriving DecidableEq, Repr

/-- What an adopter has read for one stripe of a lost slice (R383, R385). -/
structure StripeRead where
  lost : Nat
  stripe : Nat
  /-- records of the other surviving members, slot `stripe` -/
  members : List (BitVec 4096)
  parity : BitVec 4096
  memberTimers : List (BitVec 256)
  parityTimers : BitVec 256
  /-- update number last applied for the lost member -/
  lastUpd : Nat
  /-- another lost member has not been removed from the stripe's parity: the stripe has lost two (R382) -/
  twice : Bool
  extra : SeqExtra
  /-- page number and T0/T1 entry of each page that stays with this sequence: at N = 32 from the mirror (R385), and
  from a slice that was drained from itself (R392); empty otherwise -/
  mirror : List (Nat × BitVec 256)
  /-- page number and T2 frame of each page homed in T2, from the lost slice's page table (R385) or from a drained slice
  itself (R392) -/
  spilled : List (Nat × Nat)
  /-- the lost slice was drained before, and answered for its entries (R392) -/
  drained : Bool
deriving DecidableEq, Repr

/-- The two halves of the borrowed-frame exchange of R393, and the T1 frames of a lost slice that its custodian is told
of (R385). -/
inductive FrameMsg where
  | ask (src : Nat)
  | answer (src : Nat) (frames : List Nat)
  | released (lost : Nat) (frames : List Nat)
deriving DecidableEq, Repr

/-- What a FORWARD_PAIR tells beside its pair of handles (log entry 136): the group that the sequence runs in, the loss
of its flow's entry (Table 14.4), or stripes of `lost` that have lost two members (R382, R383). -/
inductive PairNote where
  | none
  | group (g : Nat)
  | noFlow
  | lostStripes (js : List Nat)
deriving DecidableEq, Repr

/-- The structure that a grotto word belongs to (Table 14.4). -/
inductive GrottoLoc where
  | seqRecord (slot : Nat)
  | paritySlot (i : Nat)
  | flowEntry (i : Nat)
  | dirT1 (i : Nat)
  | dirT2 (i : Nat)
  | prefixEntry (i : Nat)
  /-- logit staging, token staging or the selection store: the lane group that read the word, and the lane -/
  | staging (laneGroup lane : Nat)
  | tableT (word : Nat)
  /-- a delay-list row, by the timer entries it holds -/
  | delayRow (timers : List Nat)
  | inflight (islot : Nat)
  | account (client : Nat)
  | window (block : Nat)
  /-- trace records, by their place in the ring counted from the oldest waiting -/
  | traceRing (places : List Nat)
  | dictionary
  | idle
deriving DecidableEq, Repr

/-- What a read of a grotto word finds (R372, R374). -/
inductive Ecc where
  | clean | correctable | uncorrectable
deriving DecidableEq, Repr

/-- What a read of DIAG_DATA finds where the word is in error (R460): the structure it belongs to, and the error. -/
abbrev DiagFind := Option (GrottoLoc × Ecc)

/-- Faults that a lane or table read may meet while a position is processed or words are served (R375, R304). -/
structure Hazard where
  /-- lane group and lane that fails its residue check -/
  lane : Option (Nat × Nat)
  /-- grotto address of a table word whose read was uncorrectable -/
  table : Option Nat
deriving DecidableEq, Repr

/-- An MCTP packet as MGT presents it (R60, R454): DSP0236 transport fields and at most 64 payload bytes. -/
structure MctpPacket where
  /-- destination endpoint identifier -/
  dest : Nat
  src : Nat
  som : Bool
  eom : Bool
  seqNo : Nat
  tagOwner : Bool
  tag : Nat
  payload : List Byte
deriving DecidableEq, Repr

/-- An answer of a slice to a transfer of an epoch publication (R356). -/
structure EpochAck where
  src : Nat
  pub : Nat
  accepted : Bool
deriving DecidableEq, Repr

/-- The commands: one constructor per row of spec/opcode_table.json, in its order. -/
inductive Instr where
  -- resets, isolation and start-up (chapter 15)
  | porstNAssert
  | porstNRelease
  | wrstNAssert
  | wrstNRelease
  /-- `rootLock`: the input is FY_ROOT_LOCK, not FY_SRST_N (Table 2.7, R408) -/
  | fySrstNAssert (rootLock : Bool := false)
  | fySrstNRelease (rootLock : Bool := false)
  | fyIsoNAssert
  | fyIsoNRelease
  | sliceStart
  /-- `failing`: rows of the dictionary region that self-test finds failing (R414) -/
  | dictionaryRegionDone (failing : Nat)
  | grottoTestDone (failing : Nat)
  /-- `failing`: lanes that fail the patrol test, (lane group, lane) (R414) -/
  | laneGroupsDone (failing : List (Nat × Nat))
  /-- `cts`: the ciphertexts the eight cores return, as u128 under R298 -/
  | cipherSelfTest (cts : List (BitVec 128))
  /-- `uncorrectable`: grotto address of a table word that cannot be read when the generation ends (R304) -/
  | classTTableDone (uncorrectable : Option Nat)
  | finalChecks
  -- doorbells and FAB_T / FAB_I
  | sqTail (p v : Nat)
  | cqHead (p v : Nat)
  | fabtAccessRefused (a : FabtAccess)
  | sqRecordRead (req : Nat) (record : SqRec)
  | fabiWriteResponse (req : Nat)
  | fabiErrorResponse (req : Nat)
  -- consumption of the record at the head of ring pair p
  | submit (p : Nat)
  | cont (p : Nat)
  | abort (p : Nat)
  | abortClient (p : Nat)
  | pause (p : Nat)
  | resume (p : Nat)
  | save (p : Nat)
  | restore (p : Nat)
  | epochPublish (p : Nat)
  | setParam (p : Nat)
  -- hand-overs, forwarded commands, lookups, queue
  | handOver (h : HandOver)
  | handOverAck (id : Nat) (r : HandOverResult)
  | handOverTimeout (id : Nat)
  | hostCommandTransfer (c : HostCmd)
  /-- `tokenEnd`: tokens of the sequence's current turn, for TOKEN_END of the answer (Table 3.8) -/
  | hostCommandAck (id : Nat) (r : HostResult) (tokenEnd : Nat := 0)
  | prefixLookup (src : Nat) (msg : BitVec 2048)
  | lookupAnswer (src : Nat) (msg : BitVec 256)
  | lookupTimeout (id : Nat)
  | queueRetest
  | queueSweep
  -- completion rings
  | completionTransfer (c : Compl)
  | completionWrite (p : Nat)
  | cqStall (p : Nat)
  | cqIrqTimeout (p : Nat)
  | ringEnable (path : Path) (p v : Nat)
  | ringReset (path : Path) (p v : Nat)
  | ringDiscard (path : Path) (p v : Nat)
  | ringClearErr (path : Path) (p v : Nat)
  | seqQueryHandle (path : Path) (h : Nat)
  -- timers
  | deadlineExpiry (slot : Nat)
  | ttlExpiry (slot : Nat)
  | quarantineExpiry (slot : Nat)
  | notBeforeExpiry (slot : Nat)
  | backoffExpiry (slot : Nat)
  | idleDemoteExpiry (slot : Nat)
  | demotionStageDeferred (slot : Nat)
  | slotReclaim
  -- ENDs between slices
  | endTransfer (c : Compl)
  /-- a refused END is sent again for the sequence in `slot` -/
  | endRetry (slot : Nat)
  | endWrittenReport (handle : Nat)
  | release (handle : Nat)
  -- accounting rounds
  /-- `fit`: the slices that are in FY_READY and not draining, as the package's slices find one another (R137) -/
  | aggRoundOpen (fit : BitVec 32 := BitVec.allOnes 32)
  | deltaEntry (src : Nat) (e : BitVec 256)
  | aggRoundClose
  | aggregateEntry (e : BitVec 512) (last : Bool)
  | acctAggLost
  | acctReset (path : Path) (v : Nat)
  | resetEntry (src : Nat) (e : BitVec 512)
  -- steps and commands
  | stepBuild (g : Nat) (stalledAway : List Nat)
  | cmdIssue (islot : Nat)
  | energyCorrUpdate
  | switchRateSample
  | completion (rec : BitVec 256)
  | killAck (rec : BitVec 128)
  | cmdTimeout (islot : Nat)
  | killAckTimeout (islot : Nat)
  | lgiBeat (hdr : BitVec 256) (data : BitVec 16384)
  | samplePosition (slot node : Nat) (hz : Hazard)
  | digestRound (slot : Nat) (hz : Hazard := ⟨none, none⟩)
  | sequenceCommit (slot : Nat)
  | draftPost (v : Nat)
  -- models and groups
  | modelWarmupDone (g s : Nat)
  | groupHotMap (path : Path) (g s v : Nat)
  | groupCfg (path : Path) (g v : Nat)
  -- context store
  | pgmStatus (rec : BitVec 128)
  | ctxReclaim
  | replayTimeout (slot : Nat)
  | mirrorWrite (src idx : Nat) (entry : BitVec 256)
  | mirrorTimeout
  -- selection and random words
  | selectionClaim (slot : Nat)
  | selectionDelivered (slot : Nat)
  | rnsRequest (rec : BitVec 256) (hz : Hazard)
  | tableKey (path : Path) (key : BitVec 128)
  -- epochs
  | install (src pub descAddr : Nat) (desc : BitVec 1024)
  | installTimeout (pub : Nat)
  | activate (src pub epoch index : Nat)
  | cancel (src pub epoch index : Nat)
  | epochTransferAck (a : EpochAck)
  | epochGraceExpiry (e : Nat)
  | spawn (r : SpawnReq)
  -- parity, loss and rebuild
  | parityDelta (d : ParityDelta)
  | parityAck (member slot updNo : Nat)
  | sliceSuspect (slice : Nat)
  | sliceOnline (path : Path) (v : Nat)
  | rebuildStripe (r : StripeRead)
  | forwardPair (lost old new : Nat) (note : PairNote := .none)
  | ownershipAnnouncement (ring slice : Nat)
  | frameRequest (m : FrameMsg)
  | sliceDrain (path : Path) (v : Nat)
  | sliceQuiesced
  | tileOnline (path : Path) (x v : Nat)
  | tileDrainTimeout (tile : Nat)
  | tileLost (path : Path) (tile : Nat)
  -- grotto and lane faults
  | scrub (addr : Nat) (loc : GrottoLoc) (found : Ecc)
  | eccCeWindow
  | lanePatrol (failing : List (Nat × Nat))
  | laneSubstitution (group : Nat)
  | laneGroupGate (group : Nat)
  | laneGroupUngate (group : Nat)
  -- power
  | budgetRecord (rec : BitVec 256)
  | pwrStale
  | telemetry (powerMw laneBusy : Nat)
  | rootMhz (path : Path) (v : Nat)
  | tickLoad (path : Path) (v : Nat)
  | sealSlice (path : Path) (v : BitVec 64)
  -- dictionary paths
  | mbRead (reqId idx sub : Nat) (found : DiagFind := none)
  | mbWrite (reqId idx sub : Nat) (data : List Byte)
  | mbCommit (reqId idx sub : Nat)
  | mbReadInfo (reqId idx sub : Nat)
  | mailboxOverrun
  | mctpPacket (p : MctpPacket)
  | mctpRead (found : DiagFind := none)
  | mctpWrite
  | mctpCommit
  | mctpReadInfo
  | setEndpointId
  | getEndpointId
  | getMctpVersionSupport
  | getMessageTypeSupport
  | getVendorDefinedMessageSupport
  | msiMask (path : Path) (v : BitVec 256)
  | cvcCfg (path : Path) (c : Nat) (v : BitVec 64)
  | cvcReset (path : Path) (v : Nat)
  | legacyCtrl (path : Path) (v : Nat)
  | legacyValue (path : Path) (v : BitVec 64)
  | traceExport
  | traceTail (path : Path) (v : Nat)
  | traceHostBase (path : Path) (v : Nat)
  | directWriteRefused (idx sub : Nat) (data : List Byte)
  | registerWrite (path : Path) (idx sub : Nat) (data : List Byte)
  | fabiReadResponse (req : Nat) (data : List Byte)
  | workListFetch (offset bytes : Nat)
  | directReadLatch (offset : Nat)
  | railGating (vddFy : Bool)
deriving DecidableEq, Repr

end Sys2Proof
end

