-- ==== Sys2Proof/Config.lean ====
section
/-! DEFINITION. What the manual leaves open and a run of the block nevertheless uses: each is a constant with
no body, so a statement about it holds whatever it is. -/

namespace Sys2Proof.Config

/-- VENDOR_ID: "fixed in the silicon", value not given (R458, R466). Log entry 3. -/
opaque vendorId : BitVec 16

/-- The raw grotto word that DIAG_DATA reads (R460): Table 1.3 gives the sizes of the grotto's regions and not
their addresses, so which structure lies at an address is open. First argument: the model's free-value counter.
Log entry 4. -/
opaque grottoWord : Nat → Nat → BitVec 64

/-- The SECDED check bits that DIAG_CHECK reads (R23, R460: the code is not given). Log entry 4. -/
opaque grottoCheck : Nat → Nat → BitVec 8

/-- The body of the answer to Get MCTP Version Support: R60 says that it is answered, DSP0236 owns the content.
Log entry 5. -/
opaque mctpVersionReply : List Byte

/-- Which lane group serves a position or folds a list: R18 and R20 leave the assignment open. Arguments: tag, entry
and unit. -/
opaque laneGroup : Nat → Nat → Nat → Nat

/-- Address of frame 0 of a tier's pool (1 or 2) of another slice: CTX_T1_BASE and CTX_T2_BASE are held by the slice
itself alone, and a rebuilt sequence borrows frames of the lost slice's pools (R385). -/
opaque poolBase : Nat → Nat → Nat

/-- Addresses of the grotto's parity record slots and of the mirror region of the T0/T1 directory: as for `grottoWord`,
their place is open (R22). Log entry 4. -/
opaque parityRegion : Nat → Bool
opaque mirrorRegion : Nat → Bool

/-- Scratch frames that a class R stage's block states (R192): the block of Table 13.4 has no field for them. Argument:
the block. Log entry 133. -/
opaque stageScratch : Nat → Nat

/-- SLACK of a REJECT record for a request with a deadline that is refused before test 7 has predicted its time, which
R126 and R433 leave open. Arguments: ring pair, HSEQ and TICK. Log entry 150. -/
opaque untestedSlack : Nat → Nat → Nat → BitVec 32

/-- The tier code that a DEMOTE or PROMOTE record gives for a sequence image, which lies in no tier (R433, R394). Log
entry 148. -/
opaque imageTier : BitVec 2

/-- Bytes of a sequence image that the DMA engines write and Fyhus never holds: the pages, and what lies between the
tokens and the first page, which IMG_CRC covers too (Table 14.7). Arguments: a drawn number and the byte's offset. Log
entry 6. -/
opaque imageByte : Nat → Nat → BitVec 8

/-- A value for a result the manual states no value for, drawn by the model's free-value counter. Log entry 6. -/
opaque freeNat : Nat → Nat

end Sys2Proof.Config
end

