-- ==== Sys2Proof/Machine/State.lean ====
section
/-! DEFINITION. The state of one Fyhus slice, as plain data, unit by unit (Table 1.1), and the state after reset. -/

namespace Sys2Proof.Machine

/-- Tables with a key: pairs in strictly rising key order (`Map.wf`), written by the operations of Machine/Ops.lean. -/
abbrev Map (α : Type) := List (Nat × α)

/-- Bytes of the work-list export window (4 MiB, Table 2.2): pairs in strictly rising address order, none of them
zero, since the window reads zero where nothing has been written after a reset (Table 15.4). -/
abbrev Memory := List Host.Cell

/-! ### Clocks, resets, lanes, power (chapter 15) -/

/-- Start-up phases (Table 15.5). -/
inductive Phase where
  | held | waiting | dict | grotto | lanes | cipher | table | final | ready | failed
deriving DecidableEq, Repr

/-- What is fixed in a slice's place and silicon (R1, R17, R34, R458). -/
structure Ident where
  n : Nat := 32
  index : Nat := 0
  windowBase : Nat := 0
  stepping : Nat := 0x4100
deriving DecidableEq, Repr

/-- A write of TABLE_KEY that waits for the class-T phase (R413). -/
structure HeldKey where
  path : Path
  key : BitVec 128
deriving DecidableEq, Repr

structure Clk where
  /-- levels of PORST_N, WRST_N, FY_SRST_N, FY_ROOT_LOCK and FY_ISO_N (R62) -/
  porstN : Bool := true
  wrstN : Bool := true
  srstN : Bool := true
  rootLock : Bool := true
  isoN : Bool := true
  /-- the repair map does not stand: power-on, or a rail was gated (R409) -/
  mapLost : Bool := true
  phase : Phase := .waiting
  /-- this start runs built-in self-test, not a clear pass (R409) -/
  bist : Bool := true
  /-- the start waits its index (R411) -/
  staggered : Bool := true
  /-- ROOTCYC at the start of the current phase -/
  phaseCyc : Nat := 0
  rootcyc : Nat := 0
  tickOffset : Nat := 0
  present : Bool := false
  ready : Bool := false
  spareRows : Nat := 10752
  rowsRepaired : Nat := 0
  lanesRetired : Nat := 0
  failCode : Nat := 0
  /-- LANE_DUTY, D of R406 -/
  duty : Nat := 256
  heldKey : Option HeldKey := none
  /-- cycle at which a regeneration of the class-T table ends (R301); none while the table stands -/
  tableBusy : Option Nat := none
  /-- path that a running regeneration answers (R302) -/
  tablePath : Option Path := none
deriving DecidableEq, Repr

/-- The clock of a lane group (R407): running, gated, waiting to ungate, or ungating since a ROOTCYC. -/
inductive LaneGate where
  | on | gated | waiting
  | ungating (since : Nat)
deriving DecidableEq, Repr

/-- One lane group (R18, R19, R376, R407). -/
structure LaneGroup where
  active : Nat := 32
  spares : Nat := 2
  /-- lanes retired and not yet replaced -/
  retired : List Nat := []
  gate : LaneGate := .on
  /-- ROOTCYC of the last issue -/
  lastIssue : Nat := 0
deriving DecidableEq, Repr

/-- An accepted budget record (R56). -/
structure Budget where
  seq : Nat := 0
  dieMw : Nat := 0
  fyMw : Nat := 7200
  headroom : Int := 0
  tempMax : Int := 0
deriving DecidableEq, Repr

structure Power where
  budget : Option Budget := none
  acceptTick : Nat := 0
  stale : Bool := false
  /-- lane energy of the interval in fJ (R59, R136) -/
  laneFj : Nat := 0
  /-- estimated tile energy of the steps composed in the interval, µJ (R165) -/
  stepEstUj : Nat := 0
  /-- the last step composed on the slice was trimmed or lengthened for power (Table 5.3) -/
  limited : Bool := false
  ingressBound : Bool := false
  throttled : Bool := false
  /-- interval of 100 TICK whose telemetry was sent last (R59) -/
  teleRound : Nat := 0
deriving DecidableEq, Repr

/-! ### The FAB_I port (R38 to R40) -/

/-- What a FAB_I access serves, and so what its response does (R40, R463). -/
inductive FabiKind where
  | sqRead (p k : Nat)
  | cqWrite (p : Nat)
  | msi (v : Nat)
  | tokenLog (slot : Nat)
  | report (slot : Nat)
  /-- a trace record's write to the host ring, by its place in the count of TRACE_HEAD -/
  | traceExport (pos : Nat)
  | xfer (dest : Nat)
  /-- a mirror write of a T0/T1 entry (R241): its response acknowledges it -/
  | mirror (idx : Nat)
  | acctDelta (client : Nat)
  /-- bytes of a parameter block from an offset on (R246) -/
  | paramBlock (did off : Nat)
  | promptProbe (did : Nat)
  | image (did : Nat)
  | epochDesc (pub : Nat)
  | prefixPages (slot : Nat)
  | promptTail (slot : Nat)
  /-- tokens of a page for its chain hash, from a prompt or from a token log -/
  | chainTokens (slot page : Nat) (log : Bool)
  /-- an input of R248, by its code -/
  | inputs (slot node : Nat)
  | pageTable (slot : Nat)
  | turnList (slot : Nat)
  /-- tokens of positions from `pos` on, read for a re-prefill chunk -/
  | replayRead (slot pos : Nat) (log : Bool)
  | replayWrite (slot islot : Nat)
  | draftBank (slot : Nat)
  | draftRequest (slot : Nat)
  | sampleBox (slot islot : Nat)
  | pathBlock (slot : Nat)
  | stageBlock (slot : Nat)
  | stageList (slot : Nat)
  | resultBody (slot : Nat)
  | resultHeader (slot : Nat)
  | tombLine (slot line : Nat)
  | passage (slot : Nat)
  | packWrite (slot : Nat)
  /-- tokens of positions from `pos` on, read for an image -/
  | saveTokens (slot pos : Nat) (log : Bool)
  | imageWrite (slot : Nat)
  | imageHeader (slot : Nat)
  | maskBlock
  /-- what it served is gone: its response has no effect -/
  | dropped
deriving DecidableEq, Repr

/-! ### Messages at the boundary -/

/-- Transfers to other slices (R26). -/
inductive Xfer where
  | handOver (h : HandOver)
  | handOverAck (id : Nat) (r : HandOverResult)
  | hostCmd (c : HostCmd)
  | hostCmdAck (id : Nat) (r : HostResult) (tokenEnd : Nat)
  | lookup (m : BitVec 2048)
  | answer (m : BitVec 256)
  | completion (c : Compl)
  | endC (c : Compl)
  | endRefused (handle : Nat)
  | endWritten (handle : Nat)
  | release (handle : Nat)
  | delta (e : BitVec 256)
  | reset (e : BitVec 512)
  | aggregate (e : BitVec 512)
  | parityDelta (d : ParityDelta)
  | parityAck (member slot updNo : Nat)
  | mirror (idx : Nat) (entry : BitVec 256)
  | mirrorAck (idx : Nat)
  | install (pub descAddr : Nat) (desc : BitVec 1024)
  | activate (pub epoch index : Nat)
  | cancel (pub epoch index : Nat)
  | epochAck (pub : Nat) (accepted : Bool)
  | spawn (r : SpawnReq)
  | forward (lost old new : Nat) (note : PairNote)
  | announce (ring slice : Nat)
  | frameAsk
  | frameAnswer (frames : List Nat)
  | frameRelease (lost : Nat) (frames : List Nat)
deriving DecidableEq, Repr

structure FabiReq where
  id : Nat
  kind : FabiKind
  write : Bool
  addr : Nat
  /-- bytes of the access -/
  len : Nat
  /-- the bytes written, little-endian; 0 for a read -/
  data : Nat
  /-- already issued once more (R463) -/
  again : Bool := false
  /-- the transfer that the access carries to another slice, sent when the access is issued (R38, R39) -/
  xfer : Option (Nat × Xfer) := none
  /-- TICK at which it was issued -/
  tick : Nat := 0
deriving DecidableEq, Repr

/-- Transfers that another transfer answers, or that no record is lost with: what answers them tells of their loss. Of
every other transfer the response of its write is the acknowledgement (R381). -/
def Xfer.answered : Xfer → Bool
  | .handOver _ | .hostCmd _ | .parityDelta _ | .lookup _ | .answer _ | .delta _ | .reset _ | .aggregate _ | .mirror _ _ => true
  -- one that no publication waits for goes to a slice that comes online (R356)
  | .install pub _ _ | .activate pub _ _ => pub ≠ 0
  | _ => false

/-- Transfers that a slice that comes online has before its question for frames is answered (R356, R393). -/
def Xfer.beforeFrames : Xfer → Bool
  | .install pub _ _ | .activate pub _ _ => pub = 0
  | .forward _ _ _ _ => true
  | _ => false

structure Fabi where
  outstanding : List FabiReq := []
  /-- held back while 512 are outstanding (R38) -/
  waiting : List FabiReq := []
  nextId : Nat := 0
deriving DecidableEq, Repr

/-- What the slice has sent over its ports, oldest first (the model's record of the boundary, log entry 7). -/
inductive Out where
  | cmd (m : BitVec 512)
  | kill (m : BitVec 128)
  | lgiCredit (beats : Nat)
  | rnsBeat (tag entry : Nat) (last : Bool) (rstatus : Nat) (words : List (BitVec 64))
  | pgm (m : BitVec 512)
  | telemetry (m : BitVec 256)
  | mgt (p : MctpPacket)
  | fabt (error : Bool) (data : Nat)
  | xfer (dest : Nat) (x : Xfer)
deriving DecidableEq, Repr

/-! ### Rings (chapter 3) -/

/-- The check-value channels as a record of a snoop point meets them: CVC_CFG by channel, LEGACY_CFG and HOLD. What
changes while a record passes takes effect at the record's end (R423, R430). -/
structure CvcView where
  chans : Map Nat := []
  legacy : Nat := 0
  hold : Bool := false
  /-- LEGACY_VALUE has been written meanwhile: the value written stays (R430) -/
  replaced : Bool := false
deriving DecidableEq, Repr

structure Ring where
  sqHead : Nat := 0
  sqTail : Nat := 0
  cqTail : Nat := 0
  cqHead : Nat := 0
  stalled : Bool := false
  errSq : Bool := false
  errCq : Bool := false
  doorbellErr : Bool := false
  unanswered : Nat := 0
  /-- records read ahead, by SQ count (R77) -/
  held : Map SqRec := []
  /-- SQ count of the next record to read -/
  fetchNext : Nat := 0
  /-- completions that wait, oldest first (R89) -/
  waiting : List Compl := []
  /-- the oldest waiting completion's write is outstanding -/
  writing : Bool := false
  /-- the channels that see the completion being written (R422, R423) -/
  view : CvcView := {}
  fullSince : Option Nat := none
  /-- records written and not yet signalled, and the TICK of the oldest (R91) -/
  irqCount : Nat := 0
  irqOldest : Option Nat := none
  /-- CQ_VECTOR, CQ_IRQ_COUNT, CQ_IRQ_TICKS and CQ_STALL_TICKS as the newest record written met them (R72) -/
  useVector : Nat := 0
  useCount : Nat := 0
  useTicks : Nat := 0
  useStall : Nat := 0
  /-- owner announced for the pair, where known (R387) -/
  owner : Option Nat := none
deriving DecidableEq, Repr

/-! ### Sequences (chapters 4, 8, 9, 12, 13) -/

/-- Request states (Table 4.1). ARRIVED and QUEUED live in the turnstile. -/
inductive SeqState where
  | free | arrived | queued | admitted | prefill | decode | waiting | parked | paused | finishing | done | faulted | aborted
deriving DecidableEq, Repr

/-- The task-control block (Table 4.4) but for HANDLE's slot part, which is the record's key. -/
structure Tcb where
  handle : Nat := 0
  state : SeqState := .admitted
  prior : SeqState := .admitted
  cls : Cls := .g
  singleTurn : Bool := false
  stream : Bool := false
  expired : Bool := false
  parkPending : Bool := false
  /-- WAIT_MODE: true is OR -/
  waitOr : Bool := false
  rerunUsed : Bool := false
  flags : BitVec 16 := 0
  waitMask : BitVec 16 := 0
  ring : Nat := 0
  client : Nat := 0
  partition : Nat := 0
  group : Nat := 0
  flow : Option Nat := none
  status : Status := .ok
  tokenEnd : Nat := 0
  admitTick : Nat := 0
  stateTick : Nat := 0
  lastStep : Nat := 0
  hseqOf : Nat := 0
  userTag : Nat := 0
  waitTicks : Nat := 0
deriving DecidableEq, Repr

/-- Where a page of a sequence has its home (R218). -/
inductive Home where
  | t1 (dir : Nat)
  | t2 (entry : Nat)
  | none
deriving DecidableEq, Repr

/-- One page of a sequence: its home, and whether the sequence's page-table entry names the T0 copy (Table 8.4). -/
structure PageRef where
  home : Home := .none
  t0 : Bool := false
deriving DecidableEq, Repr

/-- A turn-list entry (Table 8.5). -/
structure Turn where
  promptAddr : Nat
  toklogAddr : Nat
  base : Nat
  promptLen : Nat
  gen : Nat
deriving DecidableEq, Repr

/-- The context block (Table 8.6); PAGES_T0, PAGES_T1 and PAGES_T2 are counted from the pages. -/
structure CtxBlk where
  lastHash : Nat := 0
  clen : Nat := 0
  turnBase : Nat := 0
  recomputeFrom : Nat := 0
  affTile : Option Nat := none
  recompute : Bool := false
  pendCompact : Bool := false
  treeBank : Bool := false
  demoteStage : Nat := 0
  turns : List Turn := []
  pages : List PageRef := []
  /-- leaves held, page-table root index and leaf number (R215) -/
  leaves : Map Nat := []
  /-- T0 frames of the tree scratch (R227) -/
  scratch : List Nat := []
  /-- page-table writes without a response (R215) -/
  ptabWrites : Nat := 0
  /-- pages already hashed or skipped for the chain hash (LAST_HASH stands after them) -/
  hashedPages : Nat := 0
  /-- tokens read so far of the page being hashed, and whether a read is outstanding -/
  hashTokens : List Nat := []
  hashing : Bool := false
  /-- the tokens of a page could not be read: the chain goes no further (Table 2.14) -/
  hashStopped : Bool := false
  /-- a demotion stage waits for outstanding moves (R235), and the arming it belongs to -/
  deferred : Bool := false
  /-- T1 frames and entries, and leaves, that the next entry lacked when it was to be written (R215, R222) -/
  lacks : Nat × Nat := (0, 0)
  /-- the re-prefill that is due has started (R243) -/
  refillBegun : Bool := false
deriving DecidableEq, Repr

/-- The sampling block (R247). -/
structure SampBlk where
  header : Header := 0
  winStart : Nat := 0
  genStart : Nat := 0
  /-- the window ring: position modulo 64 and token -/
  ring : Map Nat := []
  rngClass : Nat := 0
deriving DecidableEq, Repr

/-- A draft node: token and parent (R321). -/
structure DraftNode where
  token : Nat
  parent : Nat
deriving DecidableEq, Repr

/-- The speculation block (Table 12.2) and the staged draft (R323). -/
structure SpecBlk where
  dlen : Nat := 0
  zeroRun : Nat := 0
  suspLeft : Nat := 0
  dseq : Nat := 0
  dbank : Bool := false
  dvalid : Bool := false
  dslot : Nat := 0
  dpos : Nat := 0
  ddepth : Nat := 0
  nodes : List DraftNode := []
  drafted : Nat := 0
  accepted : Nat := 0
  pathLen : Nat := 0
  pathDst : Nat := 0
  endDefer : Bool := false
  endReason : Nat := 0
  path : List Nat := []
  /-- POS, ROOT_TOKEN and DEPTH_MAX of the latest request (Table 12.3) -/
  reqPos : Nat := 0
  rootToken : Nat := 0
  depthMax : Nat := 0
  /-- a posted draft whose bank is being read, the staging slot taken for it, and POS of its header -/
  reading : Bool := false
  readSlot : Nat := 0
  readPos : Nat := 0
  /-- bank that holds the staged draft (R325) -/
  bank : Bool := false
  /-- restored or rebuilt here, and no request written yet (Table 12.8) -/
  anew : Bool := false
deriving DecidableEq, Repr

/-- A sum of scores, exact (R279): the finite part in units of 2^-149, and the infinities counted. -/
structure ScoreSum where
  fin : Int := 0
  pos : Nat := 0
  neg : Nat := 0
deriving DecidableEq, Repr

/-- What a score selection returned (R277 to R281). -/
structure SelResult where
  /-- (item, score) in result order -/
  entries : List (Nat × F32) := []
  raw : ScoreSum := {}
  chosen : ScoreSum := {}
  nan : Nat := 0
  dup : Nat := 0
  tomb : Nat := 0
  tie : Nat := 0
  fewer : Bool := false
deriving DecidableEq, Repr

/-- Where the packing of a plan stands (R363 to R365). -/
inductive PackPhase where
  | idle | template | entry | passage | query | prompt | spawned | summary
deriving DecidableEq, Repr

/-- The plan block (R353), and what a plan's stages leave for one another. -/
structure PlanBlk where
  bits : PlanBits := 0
  epoch : Nat := 0
  epochSlot : Nat := 0
  stage : Nat := 0
  fbUsed : Nat := 0
  retryUsed : Bool := false
  coverage : Nat := 65536
  missing : Nat := 0
  /-- list indices of the stage that have work (index 0 for EMBED), those still to enter in a step, and those missing
  (R347, R360) -/
  lists : List Nat := []
  todo : List Nat := []
  missingLists : List Nat := []
  /-- the stage has been entered in a step whole (R361) -/
  stageIssued : Bool := false
  /-- the stage's selection has been delivered and not yet committed -/
  delivered : Bool := false
  /-- the latest selection delivered -/
  latest : Option SelResult := none
  partialSeen : Bool := false
  fewer : Bool := false
  /-- list and stage-block writes without a response (R348) -/
  writes : Nat := 0
  /-- the result buffer is being written, and the header that follows the body (R292) -/
  resultBusy : Bool := false
  header : BitVec 512 := 0
  packPhase : PackPhase := .idle
  packed : Nat := 0
  skipped : Nat := 0
  /-- words of the spawned prompt so far, and items still to look up -/
  packTokens : List Nat := []
  packTodo : List Nat := []
  spawnSent : Bool := false
  /-- outcome of the spawn: handle, or 0 with the refusal code -/
  spawned : Option (Nat × Status) := none
deriving DecidableEq, Repr

/-- A distribution at a position (R255 to R259). -/
structure Dist where
  /-- survivors, token ascending, with GW -/
  kept : List (Nat × Nat) := []
  ssel : Nat := 0
  s : Nat := 0
  nan : Nat := 0
  masked : Nat := 0
  underflow : Nat := 0
  infUniform : Bool := false
  greedy : Bool := false
  /-- alternatives: token and GW -/
  alts : List (Nat × Nat) := []
  /-- the greedy token -/
  best : Nat := 0
  /-- the token of the draw (R258) under domain 0x01 -/
  drawn : Nat := 0
  valid : Bool := true
deriving DecidableEq, Repr

/-- A token emitted in a step, with what is reported of it. -/
structure Emit where
  token : Nat
  lp : F32
  alts : List (Nat × F32)
  report : BitVec 512
deriving DecidableEq, Repr

/-- What the lanes have produced for a sequence in its step (R183). -/
structure Outcome where
  emits : List Emit := []
  /-- reason, where the last token written ends the turn (R269) -/
  ends : Option Nat := none
  noValid : Bool := false
  accepted : Nat := 0
  full : Bool := false
  path : List Nat := []
  ready : Bool := false
deriving DecidableEq, Repr

/-- A digest-mode position in progress (R263 to R266). -/
structure DigestPos where
  islot : Nat
  /-- lane group that resolves it -/
  lane : Nat := 0
  round : Nat := 0
  fetched : List Nat := []
  requested : List Nat := []
  fall : Bool := false
  mismatch : Bool := false
deriving DecidableEq, Repr

/-- An answer still owed for a command that waits on the sequence. -/
structure OwedAns where
  id : Nat
  src : Nat
deriving DecidableEq, Repr

/-- What goes to the owning slice in the order in which a sequence produced it: a completion, or the answer of a command
with the tokens of the turn (R30, R39). -/
inductive Outgoing where
  | compl (c : Compl)
  | ack (a : OwedAns) (r : HostResult) (tokenEnd : Nat)
deriving DecidableEq, Repr

/-- A SAVE in progress (R395). -/
structure SaveJob where
  ans : OwedAns
  addr : Nat
  len : Nat
  /-- 0 waits for moves, 1 copies pages and tokens, 2 writes the record, 3 the header -/
  phase : Nat := 0
  /-- the record and the tokens written so far, by position, which IMG_CRC covers (Table 14.7) -/
  record : BitVec 4096 := 0
  tokens : List (Nat × Nat) := []
  writes : Nat := 0
  failed : Bool := false
deriving DecidableEq, Repr

/-- A work-list entry (Table 6.1), with the sequence, client and placement it belongs to. -/
structure WlEntry where
  slot : Nat := 0
  handle : Nat := 0
  kind : Nat := 0
  logitMode : Nat := 0
  lastChunk : Bool := false
  tree : Bool := false
  rerun : Bool := false
  nodes : Nat := 0
  pageTokens : Nat := 16
  pos : Nat := 0
  tokenIn : Nat := 0
  ntok : Nat := 0
  tentPage : Nat := 0
  tentOff : Nat := 0
  adapter : Nat := 0
  ptab : Nat := 0
  inAddr : Nat := 0
  outAddr : Nat := 0
  argAddr : Nat := 0
  client : Nat := 0
  partition : Nat := 0
  cls : Cls := .g
  list : Nat := 0
  /-- a stage's selection descriptor (R283) -/
  sel : Nat := 0
  /-- a VERIFY under CHAIN_REJECT, which sends draft logits (R327) -/
  chain : Bool := false
  /-- blocks that the fetch records have asked for, and FDONE, of a digest entry (R267) -/
  asked : List Nat := []
  fdone : Bool := false
  aff : Option Nat := none
  /-- the entry's work under R126, and its whole predicted cost, for R130 -/
  cost : Nat := 0
  price : Nat := 0
  /-- T0/T1 directory entries whose pages its command may read or write, and T0 frames, as page identifiers (R219) -/
  dirs : List Nat := []
  frames : List Nat := []
deriving DecidableEq, Repr

/-- The entry of a sequence in a step, from its writing to its commit or withdrawal: the command that holds it and what
is known of it. -/
structure Work where
  tag : Nat
  islot : Nat
  /-- index of the entry in its command -/
  idx : Nat
  step : Nat
  entry : WlEntry
  /-- the command is complete (R181) -/
  complete : Bool := false
deriving DecidableEq, Repr

/-- A live sequence: its record's blocks, the bits the ringmaster and the dispatch unit hold for its slot, and the
figures of its request that later rules read. -/
structure Seq where
  tcb : Tcb := {}
  ctx : CtxBlk := {}
  samp : SampBlk := {}
  spec : SpecBlk := {}
  plan : PlanBlk := {}
  version : Nat := 0
  adapter : Nat := 0
  /-- slice that owns the ring pair -/
  owner : Nat := 0
  promptLen : Nat := 0
  maxTokens : Nat := 0
  deadline : Nat := 0
  promptAddr : Nat := 0
  toklogAddr : Nat := 0
  /-- parameter block of the latest turn that named one, and the tokens of its bias entries (R244, R248, R261) -/
  paramAddr : Nat := 0
  paramLen : Nat := 0
  biasTokens : List Nat := []
  resultAddr : Nat := 0
  resultLen : Nat := 0
  inStep : Bool := false
  /-- the entry of the next step carries RERUN (R188) -/
  rerunMark : Bool := false
  /-- commits still guarded (R194) -/
  guardLeft : Nat := 0
  /-- commits since the deadline was last checked (R142) -/
  checkCount : Nat := 0
  fallbackUsed : Bool := false
  /-- END's ARG0 reason -/
  endReason : Nat := 3
  engineNs : Nat := 0
  energyUj : Nat := 0
  /-- the hand-over still to be acknowledged: id, asking slice, pages reported cached (R27, R233) -/
  joining : Option (Nat × Nat × Nat) := none
  /-- the prompt tail for the window ring has not been read yet (R247) -/
  tailDue : Bool := false
  dists : Map Dist := []
  outcome : Outcome := {}
  work : Option Work := none
  digest : Option DigestPos := none
  /-- inputs of R248 present for the position: bias, stop and mask bytes read -/
  inputs : Map Nat := []
  inputsDue : Nat := 0
  /-- token-log and report writes of the last commit without a response, and what waits behind them (R39, R85) -/
  logWrites : Nat := 0
  behind : List Outgoing := []
  /-- PAUSE answers owed by R464 -/
  pauseAns : List OwedAns := []
  saving : Option SaveJob := none
  /-- commands that arrived during a SAVE and take effect after it (R80) -/
  afterSave : List HostCmd := []
  /-- replay block held, and the TICK since which none was free (R239, R240) -/
  replay : Option Nat := none
  replaySince : Option Nat := none
  /-- the END was sent (row 26), and the TICK at which it was last sent again (R380) -/
  endSent : Bool := false
  endRefusedTick : Option Nat := none
  /-- restored image: copies still to return -/
  restoring : Bool := false
  parent : Option Nat := none
  /-- demoted after its commit (R194) -/
  evictAfter : Bool := false
  /-- the asking slice refused the late acknowledgement: the slot goes without an END (R27) -/
  unwanted : Bool := false
  /-- TICK at which the TTL expired (R107) -/
  ttlExpired : Nat := 0
deriving DecidableEq, Repr

/-- A delay-list entry (R114). -/
structure Timer where
  due : Nat
  kind : Nat
  /-- its place in the order of arming, which orders the entries of a list -/
  order : Nat := 0
deriving DecidableEq, Repr

/-- A flow-table entry (Table 4.7). QHEAD and QTAIL are the ends of `queue`. -/
structure Flow where
  key : Nat
  ring : Nat
  client : Nat
  busy : Bool := false
  queue : List Nat := []
  svcHseq : Nat := 0
  svcHandle : Nat := 0
  live : Nat := 0
  served : Nat := 0
  grantTick : Nat := 0
deriving DecidableEq, Repr

/-! ### The turnstile (chapter 5) -/

/-- What a decision decides on. -/
inductive DecOp where
  | submit
  | cont (handle : Nat)
  | restore (addr len : Nat) (forced : Bool)
  | spawn (parent src hid : Nat)
deriving DecidableEq, Repr

/-- Where a decision stands. -/
inductive DecPhase where
  | flowWait
  /-- granted by its flow, or packed, while 64 decisions are in progress (R121) -/
  | granted
  | param
  | prompt
  | image
  | lookups
  | handOver (id tick : Nat)
  | queued
deriving DecidableEq, Repr

/-- Why a queue entry waits (Table 5.2). -/
inductive QWait where
  | flow | cap | share | capacity
deriving DecidableEq, Repr

structure Lookup where
  id : Nat
  group : Nat
  tick : Nat
  answered : Bool := false
  cachedPages : Nat := 0
deriving DecidableEq, Repr

/-- A request in the turnstile, ARRIVED or QUEUED (R97). -/
structure Decision where
  did : Nat
  op : DecOp := .submit
  ring : Nat := 0
  client : Nat := 0
  userTag : Nat := 0
  noIrq : Bool := false
  cls : Cls := .g
  singleTurn : Bool := false
  /-- MODEL as named, and the version it resolved to (R196) -/
  model : Nat := 0
  version : Nat := 0
  adapter : Nat := 0
  flow : Option Nat := none
  turn : TurnReq
  committed : Nat := 0
  group : Nat := 0
  resultAddr : Nat := 0
  resultLen : Nat := 0
  paramAddr : Nat := 0
  paramLen : Nat := 0
  /-- what has been read of the parameter block, and the parts still to read: offset and bytes (R246) -/
  block : List Byte := []
  parts : List (Nat × Nat) := []
  header : Header := 0
  newHeader : Bool := false
  plan : PlanBits := 0
  image : Option ImageRef := none
  phase : DecPhase := .param
  wait : QWait := .flow
  /-- record slot the queue entry occupies (R122) -/
  slot : Option Nat := none
  lookups : List Lookup := []
  /-- (page count, hash) probes of the prompt (R232) -/
  probes : List (Nat × Nat) := []
  struck : List Nat := []
  chosen : Nat := 0
  cached : Nat := 0
  /-- the class G fallback model is being tried (R126) -/
  onFallback : Bool := false
  fbUsed : Nat := 0
  fellBack : Bool := false
  epoch : Option Nat := none
  grant : Bool := false
  retest : Bool := false
  order : Nat := 0
  /-- the client's partition, and the prompt pages whose hashes are probed, as first read (R442) -/
  part : Nat := 0
  probeCount : Nat := 0
  /-- slack that test 7 found (R126) -/
  slack : Option Int := none
deriving DecidableEq, Repr

/-- What the owning slice last heard of an engine group (R124). -/
structure GroupKnow where
  backlogUs : Nat := 0
  freeSlots : Nat := 0
  freePages : Nat := 0
  powerLimited : Bool := false
  noRecord : Bool := false
  draining : Bool := false
  offline : Bool := false
  /-- models last reported HOT (R201) -/
  hot : List Nat := []
deriving DecidableEq, Repr

/-- What kind of record a forwarded command answers (R80). -/
inductive FwdKind where
  | cont (did : Nat)
  | abort
  | clientAbort (group : Nat)
  | pause
  | resume
  | save
deriving DecidableEq, Repr

/-- A command sent to a home slice and not yet acknowledged (R27). -/
structure Fwd where
  id : Nat
  kind : FwdKind
  ring : Nat
  hseq : Nat
  userTag : Nat
  client : Nat
  handle : Nat
  /-- handle that the record named -/
  named : Nat
  noIrq : Bool
  /-- the transfer itself, and the TICK of its latest try (R381) -/
  cmd : HostCmd
  tick : Nat
  /-- its home slice has acknowledged it, with an answer still to come -/
  acked : Bool := false
deriving DecidableEq, Repr

/-- What the owning slice keeps of a live sequence created through one of its ring pairs (check 5 of Table 3.3, and
the figures the tests of a CONTINUE read). -/
structure Owned where
  ring : Nat
  client : Nat
  /-- HSEQ_OF of the turn -/
  hseq : Nat
  version : Nat := 0
  adapter : Nat := 0
  group : Nat := 0
  cls : Cls := .g
  /-- committed context length last reported -/
  clen : Nat := 0
  turns : Nat := 1
  flow : Option Nat := none
  /-- a RESTORE with NO_IRQ whose RESTORED is still to come (R91) -/
  noIrq : Bool := false
  /-- tokens of the current turn last reported (Table 3.8) -/
  tokenEnd : Nat := 0
  /-- an ABORT of it has gone to its home slice (R365) -/
  aborted : Bool := false
deriving DecidableEq, Repr

structure Turnstile where
  decisions : List Decision := []
  nextId : Nat := 1
  order : Nat := 0
  /-- entries still to re-test in the pass in progress (R129) -/
  pass : Option (List Nat) := none
  passDue : Bool := false
  lastPass : Nat := 0
  /-- decision slot last used, and whether a consumption used it (R121) -/
  lastSlot : Option Nat := none
  lastWasConsume : Bool := false
  rrNext : Nat := 0
  know : Map GroupKnow := []
  fwds : List Fwd := []
  /-- requests ended so far by an ABORT_CLIENT whose commands are out, by its number (R80) -/
  clientAborts : Map Nat := []
  /-- live sequences created through this slice's ring pairs, by handle -/
  owned : Map Owned := []
  /-- handles of late hand-over acknowledgements that were refused here: no completion names them (R27, R88) -/
  refused : List Nat := []
  /-- lookups sent to other slices and not yet answered: identifier to group and version (R124) -/
  asked : Map (Nat × Nat) := []
  /-- commands that wait behind a CONTINUE of the same sequence, oldest first, with their place in the order of
  consumption (R80) -/
  behind : List (Nat × Fwd) := []
  lastSweep : Nat := 0
deriving DecidableEq, Repr

/-- A per-client accounting record (Table 5.4); LIVE_LOCAL and DEMAND are counted from the sequences and the queue. -/
structure Acct where
  aggNs : Nat := 0
  aggBytes : Nat := 0
  aggUj : Nat := 0
  vtime : Nat := 0
  dNs : Nat := 0
  dBytes : Nat := 0
  dUj : Nat := 0
  eRemFj : Nat := 0
  seqGrant : Nat := 0
  tokGrant : Nat := 0
  vrem : Nat := 0
  saturated : Bool := false
  active : Bool := false
  dSat : Bool := false
  gap : Bool := false
  tokUsed : Nat := 0
  /-- LIVE_LOCAL and DEMAND as last sent (R137) -/
  sentLive : Nat := 0
  sentDemand : Nat := 0
deriving DecidableEq, Repr

/-- One delta folded by the aggregator in the open round. -/
structure Folded where
  client : Nat
  src : Nat
  ns : Nat
  tok : Nat
deriving DecidableEq, Repr

structure Aggregation where
  /-- round last opened here, and the one last closed here as aggregator -/
  opened : Nat := 0
  closed : Option Nat := none
  /-- round last applied (ACCT_ROUND), and rounds opened since without being applied (R139) -/
  applied : Nat := 0
  missed : Nat := 0
  /-- entries of the round last opened must come back: charges were sent in it, or a client has a cap -/
  owed : Bool := false
  /-- slices in FY_READY and not draining at the round last opened, by bit (R137) -/
  fit : Nat := 2 ^ 32 - 1
  /-- slice to which the latest deltas went -/
  sentTo : Option Nat := none
  folded : List Folded := []
  /-- LIVE_LOCAL and DEMAND as last reported, per client and slice -/
  reports : Map (Map (Nat × Nat)) := []
  /-- sequence grants issued in the previous round, per client -/
  prevGrants : Map Nat := []
  /-- aggregate bits last sent, per client -/
  lastSent : Map Nat := []
  /-- aggregate entries accepted of the round being received -/
  incoming : List (BitVec 512) := []
  excluded : List Nat := []
  /-- snapshots of R140: client and the three counters -/
  snaps : Map (Nat × Nat × Nat) := []
deriving DecidableEq, Repr

/-! ### Steps and commands (chapters 6 and 7) -/

/-- A step from its building to its retirement (R145). -/
structure Step where
  num : Nat := 0
  model : Nat := 0
  entries : List WlEntry := []
  /-- commands of the step not yet returned (in-flight entries), and those not yet issued -/
  segs : List Nat := []
  toIssue : List Nat := []
  /-- a CMD of the step has been issued -/
  issued : Bool := false
  /-- window blocks reserved: first block and count (R168) -/
  blocks : List (Nat × Nat) := []
  buildCyc : Nat := 0
  dispatchCyc : Nat := 0
  tPred : Nat := 0
  tLen : Nat := 0
  energy : Nat := 0
  eRaw : Nat := 0
  /-- tile energy that the step's completions have reported -/
  eMeas : Nat := 0
  tokens : Nat := 0
  digests : Nat := 0
  trimmed : Bool := false
  lengthened : Bool := false
  ingress : Bool := false
  /-- sequences not yet committed or withdrawn -/
  left : List Nat := []
deriving DecidableEq, Repr

/-- A step that is open: the budget latched and the end of its scan pass (R57, R147). -/
structure OpenStep where
  budget : Option Budget := none
  stale : Bool := false
  scanAt : Nat := 0
  /-- an attempt was withdrawn whole, and nothing has been freed since (R465) -/
  blocked : Bool := false
deriving DecidableEq, Repr

/-- A load of a model into a hot slot (R198). -/
structure Load where
  /-- its number among the group's loads, which its descriptors carry -/
  num : Nat
  slot : Nat
  version : Nat
  /-- descriptors not yet DONE -/
  left : Nat
  bytesLeft : Nat
  /-- ROOTCYC at which the slot was written, once it has been -/
  doneCyc : Option Nat := none
deriving DecidableEq, Repr

/-- A request for room on a tile (R192). -/
structure RoomReq where
  slot : Nat
  tile : Nat
  need : Nat
  /-- free frames held for it (R194) -/
  held : Nat := 0
  /-- victims whose eviction is in progress -/
  victims : List Nat := []
deriving DecidableEq, Repr

/-- The group entries of Table 6.4 as an opening of a step took them (R170). -/
structure GroupEntries where
  balanceMode : Nat := 0
  tokenBudget : Nat := 8192
  chunkTokens : Nat := 2048
  chunkMin : Nat := 64
  segEntries : Nat := 64
  segTokens : Nat := 4096
  digestPolicy : Nat := 1
  sealTimeoutUs : Nat := 50
deriving DecidableEq, Repr

structure Group where
  step : Nat := 0
  entries : GroupEntries := {}
  opened : Option OpenStep := none
  building : Option Step := none
  dispatched : List Step := []
  /-- end of the latest dispatched step's stretch -/
  stretchEnd : Nat := 0
  ratio : Nat := 64
  sp : Nat := 0
  sd : Nat := 0
  starts : Nat := 0
  k : Nat := 256
  eMeas : Nat := 0
  eRaw : Nat := 0
  limited : Bool := false
  exitCount : Nat := 0
  loads : List Load := []
  loadCount : Nat := 0
  /-- models whose load failed (R202) -/
  blockedFor : List Nat := []
  /-- order in which steps last took models, latest highest (R199) -/
  lastTaken : Map Nat := []
  rooms : List RoomReq := []
deriving DecidableEq, Repr

/-- In-flight states (Table 7.3); FREE is absence from the table. -/
inductive IState where
  | reserved | issued | draining | killing | orphan
deriving DecidableEq, Repr

/-- A command's entry of the in-flight table (Table 7.2), with its work-list entries. -/
structure InFlight where
  gen : Nat := 1
  istate : IState := .reserved
  kcause : Nat := 0
  tile : Nat := 0
  group : Nat := 0
  partition : Nat := 0
  model : Nat := 0
  prio : Cls := .g
  wlAddr : Nat := 0
  step : Nat := 0
  issueTick : Nat := 0
  dueTick : Nat := 0
  lgiExpect : Nat := 0
  lgiSeen : Nat := 0
  cstatus : Nat := 0
  failEntry : Nat := 0xFFFF
  complete : Bool := false
  entries : List WlEntry := []
  /-- first block of the export window and number of blocks (R168) -/
  block : Nat := 0
  blocks : Nat := 0
  /-- host writes the CMD waits for (R169) -/
  writes : Nat := 0
  /-- sequences to whose selection it has delivered a beat (R286) -/
  fed : List Nat := []
  affine : Bool := false
deriving DecidableEq, Repr

structure Tile where
  /-- credits reserved or spent (R43) -/
  used : Nat := 0
  suspect : Bool := false
  /-- TICK at which the tile was taken out in order (R390) -/
  drainTick : Option Nat := none
  /-- frames that returned DST_ERR twice (R225) -/
  bad : List Nat := []
deriving DecidableEq, Repr

/-- An LGI unit in staging (R46, R47). -/
structure LgiUnit where
  tag : Nat
  /-- record slot of the entry's sequence -/
  slot : Nat
  entry : Nat
  node : Nat
  unit : Nat
  kind : Nat
  format : Nat
  nextOff : Nat := 0
  bytes : Nat := 0
  beats : Nat := 0
  /-- data bytes, little-endian -/
  data : Nat := 0
  complete : Bool := false
  /-- its bytes are not held: they were folded, or its sequence has left the command -/
  gone : Bool := false
deriving DecidableEq, Repr

/-! ### Context store (chapter 8) -/

inductive T0State where
  | none | clean | dirty | moving
deriving DecidableEq, Repr

/-- Page states (Table 8.3); FREE is absence from the directory. -/
inductive PState where
  | held | cached | filling | spilling
deriving DecidableEq, Repr

/-- A T0/T1 directory entry (Table 8.1). -/
structure Dir1 where
  crc64 : Nat := 0
  home : Nat := 0
  t0Tile : Nat := 0
  t0Frame : Nat := 0
  t0 : T0State := .none
  pstate : PState := .held
  refs : Nat := 1
  fill : Nat := 0
  hashed : Bool := false
  part : Nat := 0
  model : Nat := 0
  adapter : Nat := 0
  prefixIdx : Nat := 0
  keepDue : Nat := 0
deriving DecidableEq, Repr

/-- A T2 directory entry (Table 8.2). -/
structure Dir2 where
  frame : Nat := 0
  slot : Nat := 0
  pageNo : Nat := 0
  fill : Nat := 0
  part : Nat := 0
  model : Nat := 0
  adapter : Nat := 0
  pstate : PState := .held
deriving DecidableEq, Repr

/-- A valid prefix-table entry (R230). -/
structure PrefixEntry where
  hash : Nat
  dir : Nat
  scope : Nat
  /-- full pages that the hash covers: a chain hash stands for one page count (R229), which a lookup's answer names -/
  pages : Nat
  age : Nat := 0
deriving DecidableEq, Repr

inductive MoveKind where
  | promote | writeback | spill | fill | fillT0
  /-- an own T0 copy of a shared page, whose reference goes when it returns (R233) -/
  | promoteCopy (shared : Nat)
  | weights (g slot num : Nat)
  | saveCopy
  | restoreCopy
deriving DecidableEq, Repr

/-- An outstanding page move; its key is DESC_ID (R53, R220). -/
structure Move where
  kind : MoveKind
  /-- record slot and page number of the sequence it is made for -/
  slot : Nat := 0
  page : Nat := 0
  dir : Nat := 0
  t2 : Nat := 0
  frame : Nat := 0
  tile : Nat := 0
  srcPage : Nat := 0
  dstPage : Nat := 0
  srcAddr : Nat := 0
  dstAddr : Nat := 0
  bytes : Nat := 0
  partition : Nat := 0
  client : Nat := 0
  spill : Bool := false
  again : Bool := false
  /-- the T0 copy is dropped when this write-back returns (R221) -/
  dropAfter : Bool := false
  cause : Nat := 0
deriving DecidableEq, Repr

structure Ctx where
  dir1 : Map Dir1 := []
  dir2 : Map Dir2 := []
  prefixes : Map PrefixEntry := []
  moves : Map Move := []
  /-- moves that wait for a descriptor (at most 1,024 outstanding, R55) -/
  moveQueue : List Move := []
  /-- T1 and T2 frames kept out of the pools (R225, R393) -/
  badT1 : List Nat := []
  badT2 : List Nat := []
  /-- page identifiers of destination frames that have returned DST_ERR once (R225) -/
  dstErrs : List Nat := []
  /-- frames of this slice's own pools that others hold since it was lost, by holder, as page identifiers (R393) -/
  lent : Map (List Nat) := []
  /-- bytes moved in the current interval: demotions, promotions, weights (R190) -/
  moved : Nat × Nat × Nat := (0, 0, 0)
  /-- whether moves of each kind were outstanding at every TICK so far -/
  busyAll : Bool × Bool × Bool := (true, true, true)
  /-- mirror kept for the partner slice (R241), as entry bits -/
  mirror : Map (BitVec 256) := []
  /-- mirror writes without acknowledgement, by entry, oldest first: TICK, and the T1 frames that the write releases -/
  mirrorOut : Map (List (Nat × List Nat)) := []
  mirrorStopped : Bool := false
  /-- slices asked for the frames of this slice's pools, whose answers are still to come (R393) -/
  asked : List Nat := []
  /-- slices that have asked for frames and are not answered yet (R393) -/
  asks : List Nat := []
  /-- as custodian of a lost partner's T1 pool: its frames that have been released since (R385) -/
  custody : Map (List Nat) := []
deriving DecidableEq, Repr

/-! ### Selections (chapter 10) -/

structure SelEntry where
  list : Nat
  pos : Nat
  item : Nat
  score : F32
deriving DecidableEq, Repr

/-- An arriving selection (R288, R289), by the record slot it serves. -/
structure Selection where
  slot : Nat
  /-- descriptor (Table 10.2) -/
  desc : BitVec 64
  claimed : Bool := false
  /-- the raw valid input, latest first, and the NaN entries dropped (R277) -/
  entries : List SelEntry := []
  nan : Nat := 0
  /-- retained entries in key order (R288) -/
  store : List SelEntry := []
  trims : Nat := 0
  levels : Nat := 0
  /-- tombstone lines cached, those being read, and the entries that wait for them -/
  lines : Map Nat := []
  linesDue : List Nat := []
  held : List SelEntry := []
  /-- lane groups that have fed it (R375) -/
  fedBy : List Nat := []
deriving DecidableEq, Repr

/-! ### Epochs (chapter 13) -/

inductive EState where
  | free | installed | current | retired
deriving DecidableEq, Repr

/-- An epoch slot (R355); PINS is counted from the sequences and the hand-overs. -/
structure EpochSlot where
  state : EState := .free
  epoch : Nat := 0
  index : Nat := 0
  desc : BitVec 1024 := 0
  descAddr : Nat := 0
  retireTick : Nat := 0
deriving DecidableEq, Repr

inductive PubPhase where
  | reading | installing | activating
deriving DecidableEq, Repr

/-- An EPOCH_PUBLISH in progress on the owning slice (R356). -/
structure Publication where
  pub : Nat
  ring : Nat
  client : Nat
  hseq : Nat
  userTag : Nat
  noIrq : Bool
  descAddr : Nat
  desc : BitVec 1024 := 0
  phase : PubPhase := .reading
  /-- slices whose acknowledgement is awaited -/
  awaiting : List Nat := []
  /-- slices that have installed -/
  installed : List Nat := []
  tick : Nat := 0
deriving DecidableEq, Repr

/-! ### Faults, parity, rebuild (chapter 14) -/

/-- A fault-log entry (R371). -/
structure FlogEntry where
  tick : Nat
  kind : Nat
  slice : Nat
  loc : Nat
  handle : Nat
  status : Nat
  count : Nat
  detail : Nat
deriving DecidableEq, Repr

/-- Delta buffers of one record slot (R379). -/
structure DeltaBuf where
  /-- the delta outstanding, if any: update number, record and timers -/
  sent : Option (Nat × BitVec 4096 × BitVec 256) := none
  record : BitVec 4096 := 0
  timers : BitVec 256 := 0
  updNo : Nat := 0
  sentTick : Nat := 0
deriving DecidableEq, Repr

/-- A parity slot (R378): parity, timer words and the update number last applied per member. -/
structure ParitySlot where
  record : BitVec 4096 := 0
  timers : BitVec 256 := 0
  applied : Map Nat := []
deriving DecidableEq, Repr

structure Faults where
  flog : Map FlogEntry := []
  flogHead : Nat := 0
  /-- grotto addresses with a corrected error, and the ROOTCYC at which it was met (R373) -/
  eccSeen : Map Nat := []
  /-- 512-byte rows that were due for retirement when no spare row was left (R373) -/
  stayed : List Nat := []
  /-- alert causes raised in an MCLK, and that MCLK (R63) -/
  raised : Nat := 0
  raisedMclk : Nat := 0
  ceCount : Nat := 0
  ceWindow : Nat := 0
  /-- ECC_CE_RATE has been raised for the current window (R372) -/
  ceRaised : Bool := false
  deltas : Map DeltaBuf := []
  parity : Map ParitySlot := []
  /-- completions and SAVED answers that wait for a delta: slot, update number, what goes (R380) -/
  gated : List (Nat × Nat × Outgoing) := []
  /-- completions behind one of the same handle whose write has no response yet: owning slice, completion (R30) -/
  heldCompls : List (Nat × Compl) := []
  /-- hand-over acknowledgements that wait for the parity update to be issued: slot, asking slice, id, handle, tokens
  found cached (R27) -/
  gatedAcks : List (Nat × Nat × Nat × Nat × Nat) := []
  /-- RELEASEs that wait for the FREE delta: slot, update number, owning slice, handle (R380) -/
  releases : List (Nat × Nat × Nat × Nat) := []
  /-- END receipt table of the owning slice: handles (R380) -/
  receipts : List Nat := []
  /-- forwarding entries: lost slice, old handle, new handle (R384) -/
  forwards : List (Nat × Nat × Nat) := []
  /-- stripes this slice has still to adopt: lost slice, stripe (R383) -/
  toAdopt : List (Nat × Nat) := []
  lost : List Nat := []
  /-- commands that name a handle of a lost slice whose stripe is not adopted yet (R384) -/
  heldCmds : List HostCmd := []
  /-- ENDs that wait for an owner of their ring pair (R387) -/
  orphanEnds : List Compl := []
  /-- deltas that remove a lost member from a stripe, not yet acknowledged, with the TICK of the latest try (R383) -/
  removals : List (Nat × ParityDelta) := []
  /-- ENDs sent for stripes that could not be adopted: handle and owning slice (R383) -/
  lostEnds : List (Nat × Nat) := []
  suspects : List Nat := []
  /-- transfers whose write was answered with an error: TICK, slice, transfer (R40, R381) -/
  unacked : List (Nat × Nat × Xfer) := []
  unprotected : Nat := 0
  /-- slots whose record has gone to a parity slice that came back, and is not acknowledged yet (R393) -/
  refreshing : List Nat := []
deriving DecidableEq, Repr

/-! ### Channels, trace, management (chapters 16 to 18) -/

/-- A check-value channel's state (Table 16.4), with the raw register of the window. -/
structure Channel where
  raw : Nat := 0
  value : Nat := 0
  records : Nat := 0
  mismatch : Nat := 0
  gaps : Nat := 0
  repeats : Nat := 0
  last : Nat := 0
  lastSeq : Nat := 0
  /-- BSEQ of the first completion written after ENABLE or RESET (R425) -/
  b0 : Option Nat := none
  /-- a window opened by a read, its raw register, not yet committed (R428) -/
  window : Option Nat := none
  snap : Option (Nat × Nat × Nat × Nat) := none
deriving DecidableEq, Repr

structure Cvc where
  chans : Map Channel := []
  legacyRaw : Nat := 0
  legacyCount : Nat := 0
  legacySkipped : Nat := 0
deriving DecidableEq, Repr

structure Trace where
  /-- records awaiting export, oldest first -/
  ring : List (BitVec 256) := []
  head : Nat := 0
  tail : Nat := 0
  /-- records issued to the host ring and not yet answered -/
  issued : Nat := 0
  /-- places issued whose write met an error response, and that TRACE_HEAD has not passed -/
  lost : List Nat := []
  gapNext : Bool := false
  /-- filters written in an SCLK, as they stood before, and that SCLK (R435) -/
  filterOld : Map Nat := []
  filterSclk : Nat := 0
  /-- decision slot (16 SCLK) of the newest record and how many it accepted (R434, log entry 9) -/
  sclk : Nat := 0
  inSclk : Nat := 0
deriving DecidableEq, Repr

structure MctpMsg where
  src : Nat
  tag : Nat
  body : List Byte
deriving DecidableEq, Repr

/-- A message being assembled (R454). -/
structure MctpPart where
  src : Nat
  tag : Nat
  tagOwner : Bool
  nextSeq : Nat
  packets : Nat
  body : List Byte
deriving DecidableEq, Repr

/-- Sources of the requests that the management unit serves in turn (R449). -/
inductive UnitSource where
  | mailbox | mctp | setParam
deriving DecidableEq, Repr

/-- What a mailbox request in progress waits for. -/
inductive MbJob where
  | table
  | seal
deriving DecidableEq, Repr

structure Mgmt where
  mbCmd : BitVec 64 := 0
  mbLen : Nat := 0
  mbData : List Byte := List.replicate 256 0
  /-- MB_RESP fields (R445) -/
  respReqId : Nat := 0
  respStatus : Status := .ok
  busy : Bool := false
  done : Bool := false
  overrun : Bool := false
  respLen : Nat := 0
  job : Option MbJob := none
  parts : List MctpPart := []
  queue : List MctpMsg := []
  /-- SET_PARAM records that wait for the unit: ring and record (R82, R449) -/
  setParams : List (Nat × SqRec) := []
  /-- the mailbox holds a request that the unit has not taken yet (R448, R449) -/
  mbWaits : Bool := false
  /-- where the request that the unit took last came from (R449) -/
  lastSource : UnitSource := .setParam
  ringLatch : Map Nat := []
  msiLatch : Nat := 0
  /-- MCLK in which the unmasking of a vector last sent its pending write (R65) -/
  unmasked : Map Nat := []
deriving DecidableEq, Repr

/-! ### Random words for tiles (R50 to R52, R311, R312) -/

/-- A request in a pipe: the record, the seed of its entry's sequence, RSTATUS, and the beats already sent. -/
structure RnsJob where
  req : BitVec 256
  seed : Nat
  rstatus : Nat
  sent : Nat := 0
deriving DecidableEq, Repr

/-- The RNS port. Of its 64 request credits, those of the requests in the pipes are spent (R52). -/
structure Rns where
  /-- requests in each class's pipe, oldest first -/
  classT : List RnsJob := []
  classC : List RnsJob := []
  /-- the class-C pipe has its next beat ready -/
  readyC : Bool := false
  /-- the latest beat came from the class-C pipe -/
  lastC : Bool := false
deriving DecidableEq, Repr

/-! ### The slice -/

/-- Everything one slice holds, but for the queue of commands. -/
structure Device where
  ident : Ident := {}
  clk : Clk := {}
  lanes : List LaneGroup := List.replicate 4 {}
  power : Power := {}
  /-- dictionary values that differ from their defaults, key index × 256 + sub-index -/
  od : Map Nat := []
  /-- snapshots of RRS entries: the value read, and the count made since (R444) -/
  snaps : Map (Nat × Nat) := []
  fabi : Fabi := {}
  rings : Map Ring := []
  seqs : Map Seq := []
  /-- generations of the record slots, where not 1 (R103) -/
  gens : Map Nat := []
  /-- delay-list entries armed, key 2s or 2s + 1 (R114) -/
  timers : Map Timer := []
  flows : Map Flow := []
  turn : Turnstile := {}
  acct : Map Acct := []
  agg : Aggregation := {}
  groups : Map Group := []
  inflight : Map InFlight := []
  /-- generations of the in-flight entries, where not 1 (R176) -/
  tgens : Map Nat := []
  tiles : Map Tile := []
  /-- slots that reclamation has ended and that are not yet allocatable (R107) -/
  reclaimed : List Nat := []
  window : Memory := []
  /-- end of the scan pass in progress or last made (R147) -/
  passEnd : Nat := 0
  /-- ring pairs of other slices that are STALLED, as the latest STEP_BUILD brought them (R90, R147) -/
  stalledAway : List Nat := []
  units : List LgiUnit := []
  ctx : Ctx := {}
  sels : List Selection := []
  epochs : List EpochSlot := List.replicate 8 {}
  pubs : List Publication := []
  faults : Faults := {}
  cvc : Cvc := {}
  trace : Trace := {}
  mgmt : Mgmt := {}
  rns : Rns := {}
  out : List Out := []
  /-- the model's own counter of free values drawn (log entry 6) -/
  freeCtr : Nat := 0
deriving DecidableEq, Repr

/-- A slice and the commands that wait, first in, first out. -/
structure State where
  dev : Device
  pending : List Instr
deriving DecidableEq, Repr

/-- No command of Fyhus stops the machine: the manual answers every breach by a refusal on the wire, a counter or a
discard (R14). The type has one constructor, raised by nothing; it would be safe. -/
inductive Fault where
  /-- never raised (safe) -/
  | none
deriving DecidableEq, Repr

inductive Refusal where
  /-- raised by an arm whose command has no meaning yet (safe) -/
  | notModelled (mnemonic : String)
deriving DecidableEq, Repr

/-- The slice right after the release of PORST_N (R408): nothing started, ROOTCYC and TICK at 0, every entry at its
default, the command queue empty. Member and index are the model's (log entry 1). -/
def State.reset : State := { dev := {}, pending := [] }

end Sys2Proof.Machine
end

