-- ==== Sys2Proof/Machine/Ops.lean ====
section
/-! DEFINITION. The named operations over tables, over the bytes of the export window and over lists; the one place
where each of them is written or read. -/

namespace Sys2Proof.Machine

/-! ### Tables -/

/-- The value under key `k`. -/
def Map.find {α : Type} : Map α → Nat → Option α
  | [], _ => none
  | (j, a) :: m, k => if j = k then some a else Map.find m k

/-- The table with `a` under key `k`, in rising key order. -/
def Map.put {α : Type} : Map α → Nat → α → Map α
  | [], k, a => [(k, a)]
  | (j, b) :: m, k, a =>
    if k < j then (k, a) :: (j, b) :: m
    else if k = j then (k, a) :: m
    else (j, b) :: Map.put m k a

/-- The table without key `k`. -/
def Map.del {α : Type} : Map α → Nat → Map α
  | [], _ => []
  | (j, b) :: m, k => if j = k then m else (j, b) :: Map.del m k

/-- The table with `f` applied to the value under `k`, where there is one. -/
def Map.mod {α : Type} (m : Map α) (k : Nat) (f : α → α) : Map α :=
  match Map.find m k with
  | some a => Map.put m k (f a)
  | none => m

/-- `Map.put` of `some`, `Map.del` on `none`. -/
def Map.set {α : Type} (m : Map α) (k : Nat) : Option α → Map α
  | some a => Map.put m k a
  | none => Map.del m k

def Map.has {α : Type} (m : Map α) (k : Nat) : Bool := (Map.find m k).isSome

def Map.getD {α : Type} (m : Map α) (k : Nat) (a : α) : α := (Map.find m k).getD a

def Map.keys {α : Type} (m : Map α) : List Nat := m.map Prod.fst

def Map.vals {α : Type} (m : Map α) : List α := m.map Prod.snd

/-- Keys strictly rise. -/
def Map.wf {α : Type} : Map α → Bool
  | [] => true
  | [_] => true
  | (j, _) :: (k, b) :: m => j < k && Map.wf ((k, b) :: m)

/-- The least number from `k` up to `k + fuel` that is no key of `m`. -/
def Map.leastFree {α : Type} (m : Map α) : Nat → Nat → Option Nat
  | 0, _ => none
  | fuel + 1, k => if Map.has m k then Map.leastFree m fuel (k + 1) else some k

/-! ### The export window -/

/-- A byte of the window: zero where nothing is listed (Table 15.4: cleared at every reset). -/
def Memory.read (m : Memory) (a : Nat) : Byte := Map.getD m a 0

/-- Writing zero removes the entry, so that equal contents are equal data. -/
def Memory.write (m : Memory) (a : Nat) (b : Byte) : Memory :=
  if b = 0 then Map.del m a else Map.put m a b

def Memory.writeBytes : Memory → Nat → List Byte → Memory
  | m, _, [] => m
  | m, a, b :: bs => Memory.writeBytes (Memory.write m a b) (a + 1) bs

def Memory.readBytes (m : Memory) (a : Nat) : Nat → List Byte
  | 0 => []
  | n + 1 => Memory.read m a :: Memory.readBytes m (a + 1) n

/-- Addresses strictly rise and no listed byte is zero. -/
def Memory.wf (m : Memory) : Bool := Map.wf m && m.all (fun p => p.2 != 0)

/-! ### Lists -/

/-- Removes the first element that satisfies `p`. -/
def removeFirst {α : Type} (p : α → Bool) : List α → List α
  | [] => []
  | a :: l => if p a then l else a :: removeFirst p l

/-- Applies `f` to the first element that satisfies `p`. -/
def modFirst {α : Type} (p : α → Bool) (f : α → α) : List α → List α
  | [] => []
  | a :: l => if p a then f a :: l else a :: modFirst p f l

/-- Inserts in order of `le`, after equal elements. -/
def insertBy {α : Type} (le : α → α → Bool) (a : α) : List α → List α
  | [] => [a]
  | b :: l => if le b a then b :: insertBy le a l else a :: b :: l

/-- Merges two lists in order of `le`, the left one first among equals. -/
def mergeBy {α : Type} (le : α → α → Bool) : Nat → List α → List α → List α
  | 0, l, r => l ++ r
  | _, [], r => r
  | _, l, [] => l
  | n + 1, a :: l, b :: r => if le a b then a :: mergeBy le n l (b :: r) else b :: mergeBy le n (a :: l) r

def sortGo {α : Type} (le : α → α → Bool) : Nat → List α → List α
  | 0, l => l
  | n + 1, l =>
    if l.length ≤ 1 then l
    else mergeBy le l.length (sortGo le n (l.take (l.length / 2))) (sortGo le n (l.drop (l.length / 2)))

/-- A stable sort. -/
def sortBy {α : Type} (le : α → α → Bool) (l : List α) : List α := sortGo le (Nat.log2 l.length + 1) l

/-- The first element for which `key` is least. -/
def minBy {α : Type} (key : α → Nat) : List α → Option α
  | [] => none
  | a :: l =>
    match minBy key l with
    | none => some a
    | some b => if key b < key a then some b else some a

def sumBy {α : Type} (f : α → Nat) (l : List α) : Nat := l.foldl (fun n a => n + f a) 0

/-- Replaces element `i`. -/
def setAt {α : Type} : List α → Nat → α → List α
  | [], _, _ => []
  | _ :: l, 0, a => a :: l
  | b :: l, i + 1, a => b :: setAt l i a

def modAt {α : Type} : List α → Nat → (α → α) → List α
  | [], _, _ => []
  | b :: l, 0, f => f b :: l
  | b :: l, i + 1, f => b :: modAt l i f

/-- Positions of a list from `i`, with its elements. -/
def indexed {α : Type} : Nat → List α → List (Nat × α)
  | _, [] => []
  | i, a :: l => (i, a) :: indexed (i + 1) l

def ceilDiv (a b : Nat) : Nat := (a + b - 1) / b

/-- Sticking at `cap`. -/
def satAdd (cap a b : Nat) : Nat := min cap (a + b)

/-- Truncated subtraction modulo `2^w` (R10). -/
def subMod (w a b : Nat) : Nat := (a + 2 ^ w - b % 2 ^ w) % 2 ^ w

/-- A statistics counter is 48 bits and sticks at all-ones (R33, R461). -/
def statMax : Nat := 2 ^ 48 - 1

end Sys2Proof.Machine
end

