-- ==== Sys2Proof/Machine/Bits.lean ====
section
/-! DEFINITION. Bits and bytes: fields of records, little-endian bytes, two's complement (R7, R10), the CRCs of
Table 16.1, AES-128 (FIPS 197) and CMAC (NIST SP 800-38B), and the random words of chapter 11. -/

namespace Sys2Proof.Machine

/-! ### Fields -/

/-- Bits [hi:lo]. -/
def bf (x hi lo : Nat) : Nat := (x >>> lo) % 2 ^ (hi + 1 - lo)

/-- A record from its fields ([hi:lo], value); bits no field covers are zero. -/
def fields : List (Nat × Nat × Nat) → Nat
  | [] => 0
  | (hi, lo, v) :: l => ((v % 2 ^ (hi + 1 - lo)) <<< lo) ||| fields l

/-- Bit `i` as a Bool. -/
def bit (x i : Nat) : Bool := x.testBit i

def ofBool (b : Bool) : Nat := if b then 1 else 0

/-- Two's complement of width `w`. -/
def toSigned (w n : Nat) : Int := if n % 2 ^ w < 2 ^ (w - 1) then (n % 2 ^ w : Nat) else (n % 2 ^ w : Nat) - (2 ^ w : Nat)

def ofSigned (w : Nat) (i : Int) : Nat := (i % (2 ^ w : Nat)).toNat

/-- Clips an Int to an i32 (the SLACK fields of R433). -/
def clipI32 (i : Int) : Nat := ofSigned 32 (max (-(2 ^ 31)) (min (2 ^ 31 - 1) i))

/-- `n` little-endian bytes of `x`. -/
def leBytes (x : Nat) : Nat → List Byte
  | 0 => []
  | n + 1 => BitVec.ofNat 8 x :: leBytes (x >>> 8) n

def ofLe : List Byte → Nat
  | [] => 0
  | b :: l => b.toNat + 256 * ofLe l

/-- `n` bytes from byte `k` of a little-endian record. -/
def bytesAt (x k n : Nat) : Nat := (x >>> (8 * k)) % 2 ^ (8 * n)

/-! ### CRCs -/

/-- One row of Table 16.1. `poly` is in the domain the register works in: reversed where the row reflects. -/
structure CrcKind where
  width : Nat
  poly : Nat
  init : Nat
  refl : Bool
  xorOut : Nat
deriving DecidableEq, Repr

def crc32c : CrcKind := { width := 32, poly := 0x82F63B78, init := 0xFFFFFFFF, refl := true, xorOut := 0xFFFFFFFF }
def crc32 : CrcKind := { width := 32, poly := 0xEDB88320, init := 0xFFFFFFFF, refl := true, xorOut := 0xFFFFFFFF }
def crc64 : CrcKind := { width := 64, poly := 0x42F0E1EBA9EA3693, init := 0, refl := false, xorOut := 0 }
def crc16 : CrcKind := { width := 16, poly := 0x1021, init := 0xFFFF, refl := false, xorOut := 0 }

/-- POLY of Table 16.1. -/
def crcOfPoly (p : Nat) : CrcKind :=
  if p = 0 then crc32c else if p = 1 then crc32 else if p = 2 then crc64 else crc16

/-- `n` single-bit steps of the register. -/
def crcBits (k : CrcKind) : Nat → Nat → Nat
  | 0, r => r
  | n + 1, r =>
    crcBits k n (
      if k.refl then (if r.testBit 0 then (r >>> 1) ^^^ k.poly else r >>> 1)
      else if r.testBit (k.width - 1) then ((r <<< 1) ^^^ k.poly) % 2 ^ k.width else (r <<< 1) % 2 ^ k.width)

def crcByte (k : CrcKind) (r : Nat) (b : Byte) : Nat :=
  crcBits k 8 (if k.refl then r ^^^ b.toNat else r ^^^ (b.toNat <<< (k.width - 8)))

/-- The raw register after more bytes. -/
def crcRaw (k : CrcKind) (r : Nat) (bs : List Byte) : Nat := bs.foldl (crcByte k) r

def crcFinal (k : CrcKind) (r : Nat) : Nat := r ^^^ k.xorOut

def crcOf (k : CrcKind) (bs : List Byte) : Nat := crcFinal k (crcRaw k k.init bs)

/-- CHK of a record of `n` bytes whose CHK is bits [31:0] (R32): the CRC-32C of its other bits. -/
def chkOf (rec n : Nat) : Nat := crcOf crc32c (leBytes (rec >>> 32) (n - 4))

def chkOk (rec n : Nat) : Bool := rec % 2 ^ 32 == chkOf rec n

/-- A record whose CHK field is put in. -/
def withChk (rec n : Nat) : Nat := (rec >>> 32) <<< 32 ||| chkOf rec n

/-! ### AES-128 -/

/-- The S-box of FIPS 197, byte x at bits [8x + 7 : 8x]. -/
def sboxTable : Nat :=
  (0x16bb54b00f2d99416842e6bf0d89a18cdf2855cee9871e9b948ed9691198f8e1 <<< 1792) |||
  (0x9e1dc186b95735610ef6034866b53e708a8bbd4b1f74dde8c6b4a61c2e2578ba <<< 1536) |||
  (0x08ae7a65eaf4566ca94ed58d6d37c8e779e4959162acd3c25c2406490a3a32e0 <<< 1280) |||
  (0xdb0b5ede14b8ee4688902a22dc4f816073195d643d7ea7c41744975fec130ccd <<< 1024) |||
  (0xd2f3ff1021dab6bcf5389d928f40a351a89f3c507f02f94585334d43fbaaefd0 <<< 768) |||
  (0xcf584c4a39becb6a5bb1fc20ed00d153842fe329b3d63b52a05a6e1b1a2c8309 <<< 512) |||
  (0x75b227ebe28012079a059618c323c7041531d871f1e5a534ccf73f362693fdb7 <<< 256) |||
  (0xc072a49cafa2d4adf04759fa7dc982ca76abd7fe2b670130c56f6bf27b777c63 <<< 0)

def sbox (x : Nat) : Nat := (sboxTable >>> (8 * x)) % 256

def xtime (x : Nat) : Nat := if x < 128 then 2 * x else (2 * x ^^^ 0x11B) % 256

def xorList (a b : List Nat) : List Nat := List.zipWith (· ^^^ ·) a b

/-- The next 16 bytes of the key schedule. -/
def nextKey (k : List Nat) (rcon : Nat) : List Nat :=
  match k with
  | [a0, a1, a2, a3, b0, b1, b2, b3, c0, c1, c2, c3, d0, d1, d2, d3] =>
    let e0 := a0 ^^^ sbox d1 ^^^ rcon
    let e1 := a1 ^^^ sbox d2
    let e2 := a2 ^^^ sbox d3
    let e3 := a3 ^^^ sbox d0
    [e0, e1, e2, e3, e0 ^^^ b0, e1 ^^^ b1, e2 ^^^ b2, e3 ^^^ b3,
     e0 ^^^ b0 ^^^ c0, e1 ^^^ b1 ^^^ c1, e2 ^^^ b2 ^^^ c2, e3 ^^^ b3 ^^^ c3,
     e0 ^^^ b0 ^^^ c0 ^^^ d0, e1 ^^^ b1 ^^^ c1 ^^^ d1, e2 ^^^ b2 ^^^ c2 ^^^ d2, e3 ^^^ b3 ^^^ c3 ^^^ d3]
  | _ => k

/-- SubBytes and ShiftRows. -/
def subShift (s : List Nat) : List Nat :=
  match s with
  | [a0, a1, a2, a3, b0, b1, b2, b3, c0, c1, c2, c3, d0, d1, d2, d3] =>
    [sbox a0, sbox b1, sbox c2, sbox d3, sbox b0, sbox c1, sbox d2, sbox a3,
     sbox c0, sbox d1, sbox a2, sbox b3, sbox d0, sbox a1, sbox b2, sbox c3]
  | _ => s

/-- MixColumns. -/
def mixColumns : List Nat → List Nat
  | a :: b :: c :: d :: l =>
    let t := a ^^^ b ^^^ c ^^^ d
    (a ^^^ t ^^^ xtime (a ^^^ b)) :: (b ^^^ t ^^^ xtime (b ^^^ c)) :: (c ^^^ t ^^^ xtime (c ^^^ d))
      :: (d ^^^ t ^^^ xtime (d ^^^ a)) :: mixColumns l
  | _ => []

/-- Rounds with the round constants given; the last has no MixColumns. -/
def aesRounds : List Nat → List Nat → List Nat → List Nat
  | [], _, s => s
  | [r], k, s => xorList (subShift s) (nextKey k r)
  | r :: rs, k, s => aesRounds rs (nextKey k r) (xorList (mixColumns (subShift s)) (nextKey k r))

/-- AES-128 of one block: key bytes, block bytes. -/
def aesBytes (key block : List Nat) : List Nat :=
  aesRounds [0x01, 0x02, 0x04, 0x08, 0x10, 0x20, 0x40, 0x80, 0x1B, 0x36] key (xorList block key)

def leNats (x : Nat) : Nat → List Nat
  | 0 => []
  | n + 1 => x % 256 :: leNats (x >>> 8) n

def ofLeNats : List Nat → Nat
  | [] => 0
  | b :: l => b + 256 * ofLeNats l

/-- aes128_encrypt with key, counter and result as u128 under the byte order of R298. -/
def aes128 (key ctr : Nat) : Nat := ofLeNats (aesBytes (leNats key 16) (leNats ctr 16))

/-- The doubling of SP 800-38B over the bytes of a block, first byte most significant. -/
def cmacDouble (b : List Nat) : List Nat :=
  let n := b.foldl (fun a x => a * 256 + x) 0
  let d := if n < 2 ^ 127 then 2 * n else ((2 * n) % 2 ^ 128) ^^^ 0x87
  (leNats d 16).reverse

/-- Blocks of CMAC after the first: chains full blocks, ends with the last one. -/
def cmacGo (key k1 k2 : List Nat) : Nat → List Nat → List Nat → List Nat
  | 0, x, _ => x
  | fuel + 1, x, m =>
    if m.length > 16 then cmacGo key k1 k2 fuel (aesBytes key (xorList x (m.take 16))) (m.drop 16)
    else if m.length = 16 then aesBytes key (xorList x (xorList m k1))
    else aesBytes key (xorList x (xorList ((m ++ [0x80] ++ List.replicate 16 0).take 16) k2))

/-- cmac_aes128: key bytes and message bytes; the 16 bytes of the tag. -/
def cmac (key msg : List Nat) : List Nat :=
  let k1 := cmacDouble (aesBytes key (List.replicate 16 0))
  cmacGo key k1 (cmacDouble k1) (msg.length + 1) (List.replicate 16 0) msg

/-! ### Random words (chapter 11) -/

/-- R299. -/
def rngCounter (dom pos draw elem : Nat) : Nat :=
  (dom <<< 120) ||| ((pos % 2 ^ 40) <<< 80) ||| ((draw % 2 ^ 16) <<< 64) ||| elem % 2 ^ 64

/-- TAB of R301 under a table key. -/
def tableWord (key i : Nat) : Nat :=
  let y := aes128 key (i / 2)
  if i % 2 = 0 then y % 2 ^ 64 else y >>> 64

def rotl64 (v r : Nat) : Nat := if r = 0 then v else ((v <<< r) % 2 ^ 64) ||| (v >>> (64 - r))

/-- mix of R303: the (high, low) halves. -/
def mixWord (x : Nat) : Nat × Nat :=
  let m1 := 0xA3B195C72E4D6F1B
  let m2 := 0xC5D21F8B7A39E467
  let l := x % 2 ^ 64
  let h := (x >>> 64) % 2 ^ 64
  let l := l ^^^ (h * m1) % 2 ^ 64
  let h := h ^^^ (l >>> 29)
  let h := (h * m2) % 2 ^ 64
  let l := l ^^^ (h >>> 32)
  let l := (l * m1) % 2 ^ 64
  let h := h ^^^ (l >>> 31)
  let h := (h * m2) % 2 ^ 64
  let l := l ^^^ (h >>> 29)
  (h, l)

/-- R303. -/
def classT (tableKey seed ctr : Nat) : Nat :=
  let m := mixWord (seed ^^^ ctr)
  let hh := m.1
  let hl := m.2
  let a := hh % 2 ^ 19
  let b := (hh >>> 19) % 2 ^ 19
  let c := (hh >>> 38) % 2 ^ 19
  let r1 := (hh >>> 57) % 64
  let r2 := hl >>> 58
  rotl64 (tableWord tableKey a) r1 ^^^ rotl64 (tableWord tableKey b) r2
    ^^^ (tableWord tableKey c + hl) % 2 ^ 64

/-- R306. -/
def classC (seed ctr : Nat) : Nat :=
  let y := aes128 seed (ctr - ctr % 2)
  if ctr % 2 = 0 then y % 2 ^ 64 else y >>> 64

/-- rand_word of R299. -/
def randWord (tableKey rngClass seed dom pos draw elem : Nat) : Nat :=
  let x := rngCounter dom pos draw elem
  if rngClass = 0 then classT tableKey seed x else classC seed x

/-- The CRC-64 register over table words `i` to `i + n - 1` (R301). -/
def tableCrcGo (key : Nat) : Nat → Nat → Nat → Nat
  | 0, _, r => r
  | n + 1, i, r => tableCrcGo key n (i + 1) (crcRaw crc64 r (leBytes (tableWord key i) 8))

/-- TABLE_CRC of R301. -/
def tableCrc (key : Nat) : Nat := tableCrcGo key (2 ^ 19) 0 0

/-- The default TABLE_KEY (R302): the ASCII bytes of FYHUS-TABLEKEY-1, byte 0 first. -/
def defaultTableKey : Nat := 0x312D59454B454C4241542D5355485946

end Sys2Proof.Machine
end

