-- ==== Sys2Proof/Machine/Dict.lean ====
section
/-! DEFINITION. The object dictionary's map (Table 18.10 with the home tables it cites), and the plain read and write
of an entry's stored value. The rules of the paths stand in Machine/Access.lean, those of single entries in Machine/Registers.lean and Machine/Reading.lean. -/

namespace Sys2Proof.Machine

/-! ### Indices, by the names of Table 18.10 -/

namespace Od

abbrev PRODUCT_NAME : Nat := 0x1000
abbrev VENDOR_ID : Nat := 0x1001
abbrev PACKAGE_N : Nat := 0x1002
abbrev SLICE_INDEX : Nat := 0x1003
abbrev BLOCK_STEPPING : Nat := 0x1004
abbrev OD_VERSION : Nat := 0x1005
abbrev FABT_WINDOW_BASE : Nat := 0x1010
abbrev SLICE_STATE : Nat := 0x1011
abbrev LGI_CREDITS : Nat := 0x1020
abbrev DIRECT_STATUS : Nat := 0x1030
abbrev RING_OWNER : Nat := 0x1100
abbrev SQ_BASE : Nat := 0x1101
abbrev SQ_LOG2 : Nat := 0x1102
abbrev CQ_BASE : Nat := 0x1103
abbrev CQ_LOG2 : Nat := 0x1104
abbrev HSEQ_BASE : Nat := 0x1105
abbrev BSEQ_BASE : Nat := 0x1106
abbrev RING_PARTITION : Nat := 0x1107
abbrev RING_RIGHTS : Nat := 0x1108
abbrev CQ_VECTOR : Nat := 0x1109
abbrev CQ_IRQ_COUNT : Nat := 0x110A
abbrev CQ_IRQ_TICKS : Nat := 0x110B
abbrev CQ_STALL_TICKS : Nat := 0x110C
abbrev RING_CTRL : Nat := 0x110D
abbrev RING_STATE : Nat := 0x110E
abbrev MCTP_EID : Nat := 0x1200
abbrev MCTP_VDM_VERSION : Nat := 0x1201
abbrev MCTP_MAX_DATA : Nat := 0x1202
abbrev MCTP_STATS : Nat := 0x1203
abbrev MSI_ADDR : Nat := 0x1300
abbrev MSI_DATA : Nat := 0x1301
abbrev MSI_MASK : Nat := 0x1302
abbrev MSI_PENDING : Nat := 0x1303
abbrev SEQ_QUERY_HANDLE : Nat := 0x1400
abbrev SEQ_QUERY_RESULT : Nat := 0x1400
abbrev SEAL : Nat := 0x2000
abbrev SEALED : Nat := 0x2001
abbrev SETUP_FP : Nat := 0x2002
abbrev PARTITION_TABLE : Nat := 0x2010
abbrev PART_MASK_ADDR : Nat := 0x2011
abbrev CLIENT_PARTITION : Nat := 0x2020
abbrev TABLE_KEY : Nat := 0x2030
abbrev TABLE_KEY_FP : Nat := 0x2031
abbrev MCTP_WRITE_MASK : Nat := 0x2040
abbrev PREFIX_KEY : Nat := 0x2050
abbrev PREFIX_SCOPE : Nat := 0x2051
abbrev CLIENT_WEIGHT : Nat := 0x3000
abbrev CLIENT_MAX_SEQ : Nat := 0x3010
abbrev CLIENT_MAX_TPS : Nat := 0x3020
abbrev CLIENT_QUEUE_MAX : Nat := 0x3030
abbrev CLIENT_DEADLINE_POLICY : Nat := 0x3040
abbrev MODEL_ACTIVE : Nat := 0x4000
abbrev MODEL_STATE : Nat := 0x4001
abbrev MODEL_CLASSES : Nat := 0x4002
abbrev MODEL_FALLBACK : Nat := 0x4003
abbrev MODEL_DIGEST : Nat := 0x4004
abbrev MODEL_WEIGHT_BYTES : Nat := 0x4005
abbrev MODEL_IMAGE_ADDR : Nat := 0x4006
abbrev MODEL_WARMUP_US : Nat := 0x4007
abbrev MODEL_PARTITION : Nat := 0x4008
abbrev MODEL_PAGE_BYTES : Nat := 0x4009
abbrev MODEL_VOCAB : Nat := 0x400A
abbrev MODEL_LOGIT_FORMAT : Nat := 0x400B
abbrev MODEL_LIVE : Nat := 0x400C
abbrev MODEL_EMBED_BYTES : Nat := 0x400D
abbrev COST_FIXED_NS : Nat := 0x4100
abbrev COST_PREFILL_PS : Nat := 0x4101
abbrev COST_DECODE_NS : Nat := 0x4102
abbrev COST_STAGE_NS : Nat := 0x4110
abbrev STEP_BASE_NS : Nat := 0x4120
abbrev STEP_PREFILL_PS : Nat := 0x4121
abbrev STEP_DECODE_PS : Nat := 0x4122
abbrev STEP_CTX_PS : Nat := 0x4123
abbrev ENERGY_BASE_UJ : Nat := 0x4130
abbrev ENERGY_PREFILL_NJ : Nat := 0x4131
abbrev ENERGY_DECODE_NJ : Nat := 0x4132
abbrev ENERGY_CTX_NJ : Nat := 0x4133
abbrev STAGE_POWER_MW : Nat := 0x4134
abbrev GROUP_CFG : Nat := 0x4200
abbrev DSP_TILE_CREDITS : Nat := 0x4201
abbrev GROUP_HOT_SLOTS : Nat := 0x4202
abbrev GROUP_SLOT_BYTES : Nat := 0x4203
abbrev GROUP_WEIGHT_BASE : Nat := 0x4204
abbrev GROUP_HOT_PIN : Nat := 0x4205
abbrev GROUP_HOT_MAP : Nat := 0x4210
abbrev CMD_TIMEOUT_US : Nat := 0x4220
abbrev KILL_ACK_TIMEOUT_US : Nat := 0x4221
abbrev PREEMPT_GUARD_STEPS : Nat := 0x4222
abbrev PREEMPT_VTIME_GAP : Nat := 0x4223
abbrev SWITCH_B_DEMOTE_MBPS : Nat := 0x4230
abbrev SWITCH_B_PROMOTE_MBPS : Nat := 0x4231
abbrev SWITCH_B_WEIGHTS_MBPS : Nat := 0x4232
abbrev ADAPTER_MODEL : Nat := 0x4300
abbrev BALANCE_MODE : Nat := 0x5000
abbrev TOKEN_BUDGET : Nat := 0x5001
abbrev CHUNK_TOKENS : Nat := 0x5002
abbrev CHUNK_MIN : Nat := 0x5003
abbrev SEG_ENTRIES : Nat := 0x5004
abbrev SEG_TOKENS : Nat := 0x5005
abbrev DIGEST_POLICY : Nat := 0x5006
abbrev SEAL_TIMEOUT_US : Nat := 0x5007
abbrev D2_FETCH_EST : Nat := 0x5008
abbrev FALLBACK_MARGIN : Nat := 0x5010
abbrev DEADLINE_POLICY : Nat := 0x5011
abbrev DEADLINE_CHECK_STEPS : Nat := 0x5012
abbrev GROUP_LOAD_SLACK : Nat := 0x5020
abbrev DECODE_SLOT_RESERVE : Nat := 0x5021
abbrev QUEUE_LIMIT : Nat := 0x5022
abbrev POWER_PREFILL_LIMIT : Nat := 0x5023
abbrev ADMIT_CANDIDATES : Nat := 0x5024
abbrev QUEUE_RETEST : Nat := 0x5025
abbrev DECODE_PAGE_RESERVE : Nat := 0x5026
abbrev CAP_FLOAT : Nat := 0x5027
abbrev RETRY_BACKOFF : Nat := 0x5030
abbrev SLOT_RECLAIM_LOW : Nat := 0x5031
abbrev RATIO_INIT : Nat := 0x5040
abbrev RATIO_INTERVAL : Nat := 0x5041
abbrev RATIO_MIN : Nat := 0x5042
abbrev RATIO_MAX : Nat := 0x5043
abbrev RATIO_DEADBAND : Nat := 0x5044
abbrev RATIO_STEP : Nat := 0x5045
abbrev RATIO_NOW : Nat := 0x5046
abbrev POWER_HYST : Nat := 0x5050
abbrev POWER_EXIT_STEPS : Nat := 0x5051
abbrev HEADROOM_LOW : Nat := 0x5052
abbrev HEADROOM_MIN : Nat := 0x5053
abbrev HF_FLOOR : Nat := 0x5054
abbrev DIE_OTHER_MW : Nat := 0x5055
abbrev STRETCH_MAX_US : Nat := 0x5056
abbrev ENERGY_CORR : Nat := 0x5057
abbrev STEP_NOW : Nat := 0x5058
abbrev PAGE_TOKENS : Nat := 0x6000
abbrev TTL_DEFAULT : Nat := 0x6001
abbrev IDLE_DEMOTE : Nat := 0x6002
abbrev IDLE_SPILL : Nat := 0x6003
abbrev CTX_FRAME_BYTES : Nat := 0x6004
abbrev CTX_T1_BASE : Nat := 0x6010
abbrev CTX_T1_FRAMES : Nat := 0x6011
abbrev CTX_T2_BASE : Nat := 0x6012
abbrev CTX_T2_FRAMES : Nat := 0x6013
abbrev CTX_T0_FABRIC_BASE : Nat := 0x6014
abbrev CTX_T0_STRIDE : Nat := 0x6015
abbrev CTX_T0_OFFSET : Nat := 0x6016
abbrev CTX_T0_FRAMES : Nat := 0x6017
abbrev CTX_PTAB_BASE : Nat := 0x6018
abbrev CTX_LEAF_BASE : Nat := 0x6019
abbrev CTX_LEAF_COUNT : Nat := 0x601A
abbrev CTX_REPLAY_BASE : Nat := 0x601B
abbrev CTX_REPLAY_BLOCKS : Nat := 0x601C
abbrev CTX_T1_LOW : Nat := 0x6020
abbrev CTX_T1_HYST : Nat := 0x6021
abbrev PREFIX_KEEP : Nat := 0x6022
abbrev PREFIX_LOOKUP_PAGES : Nat := 0x6023
abbrev SAMPLE_MB_BASE : Nat := 0x7000
abbrev DIGEST_ROUNDS_MAX : Nat := 0x7001
abbrev DIGEST_CORR_MAX : Nat := 0x7002
abbrev TABLE_CRC : Nat := 0x7010
abbrev SPEC_MB_BASE : Nat := 0x7020
abbrev DRAFT_POST : Nat := 0x7021
abbrev SPEC_DRAFT_WAIT : Nat := 0x7022
abbrev SPEC_FAIL_LIMIT : Nat := 0x7023
abbrev SPEC_SUSPEND_STEPS : Nat := 0x7024
abbrev EPOCH_TABLE : Nat := 0x8000
abbrev OLDEST_PINNED : Nat := 0x8001
abbrev EPOCH_GRACE : Nat := 0x8002
abbrev ALERT_CAUSE : Nat := 0x9000
abbrev ALERT_MASK : Nat := 0x9001
abbrev SLICE_ONLINE : Nat := 0x9010
abbrev SLICE_DRAIN : Nat := 0x9011
abbrev SLICE_QUIESCED : Nat := 0x9012
abbrev LANE_MAP : Nat := 0x9020
abbrev LANE_ACTIVE : Nat := 0x9021
abbrev TILE_ONLINE : Nat := 0x9030
abbrev TILE_LOST : Nat := 0x9031
abbrev TILE_DRAIN_US : Nat := 0x9032
abbrev PARITY_STATE : Nat := 0x9040
abbrev REBUILD_STATE : Nat := 0x9041
abbrev ECC_CE_LIMIT : Nat := 0x9050
abbrev SPARE_ROWS_LEFT : Nat := 0x9051
abbrev FAULT_LOG : Nat := 0x9060
abbrev FLOG_HEAD : Nat := 0x9061
abbrev FLOG_READ : Nat := 0x9062
abbrev ROOT_MHZ : Nat := 0xA000
abbrev VDD_FY_MIN_MV : Nat := 0xA002
abbrev POWER_MAX_MW : Nat := 0xA003
abbrev LANE_DUTY : Nat := 0xA004
abbrev PWR_FALLBACK_MW : Nat := 0xA010
abbrev PWR_STALE_LIMIT : Nat := 0xA011
abbrev TICK_NOW : Nat := 0xA020
abbrev TICK_LOAD : Nat := 0xA021
abbrev BRINGUP_STATE : Nat := 0xA030
abbrev BIST_RESULT : Nat := 0xA031
abbrev CVC_CFG : Nat := 0xB000
abbrev CVC_STATE : Nat := 0xB001
abbrev CVC_RESET : Nat := 0xB002
abbrev LEGACY_CFG : Nat := 0xB010
abbrev LEGACY_VALUE : Nat := 0xB011
abbrev LEGACY_CTRL : Nat := 0xB012
abbrev LEGACY_COUNT : Nat := 0xB013
abbrev TRACE_KIND_MASK : Nat := 0xC000
abbrev TRACE_PART_MASK : Nat := 0xC001
abbrev TRACE_CLIENT_MAP : Nat := 0xC010
abbrev TRACE_HOST_BASE : Nat := 0xC020
abbrev TRACE_HOST_LOG2 : Nat := 0xC021
abbrev TRACE_HEAD : Nat := 0xC022
abbrev TRACE_TAIL : Nat := 0xC023
abbrev TRACE_IRQ_COUNT : Nat := 0xC024
abbrev TRACE_PENDING : Nat := 0xC025
abbrev TRACE_DROPS : Nat := 0xC030
abbrev ACCT_ENGINE_NS : Nat := 0xD000
abbrev ACCT_BYTES : Nat := 0xD010
abbrev ACCT_ENERGY_UJ : Nat := 0xD020
abbrev ACCT_FLAGS : Nat := 0xD030
abbrev LANE_FJ_PER_ELEMENT : Nat := 0xD040
abbrev ACCT_RESET : Nat := 0xD0F0
abbrev ACCT_ROUND : Nat := 0xD0F1
abbrev ACCT_AGGREGATOR : Nat := 0xD0F2
abbrev DIAG_ADDR : Nat := 0xF000
abbrev DIAG_DATA : Nat := 0xF001
abbrev DIAG_CHECK : Nat := 0xF002
abbrev PORT_ERR_COUNTS : Nat := 0xF010
abbrev TIMER_EXPIRED : Nat := 0xF020
abbrev TIMER_LATE_MAX : Nat := 0xF021
abbrev TIMER_LATE_HIST : Nat := 0xF022
abbrev ADMIT_COUNTS : Nat := 0xF030
abbrev COMPOSE_STATS : Nat := 0xF040
abbrev DISPATCH_STATS : Nat := 0xF050
abbrev CTX_STATS : Nat := 0xF060
abbrev SAMPLE_STATS : Nat := 0xF070
abbrev SEL_STATS : Nat := 0xF080
abbrev RNG_STATS : Nat := 0xF090
abbrev SPEC_STATS : Nat := 0xF0A0
abbrev RANK_STATS : Nat := 0xF0B0
abbrev FAULT_STATS : Nat := 0xF0C0

end Od

/-! ### The map -/

/-- One row of the map: indices `lo` to `hi`, sub-indices `slo` to `shi`, the codes of Tables 18.1 and 18.2, size in
bytes, scope (0 S, 1 P, 2 H), default, least and greatest value, and the alignment its home table asks for. -/
structure OdRow where
  lo : Nat
  hi : Nat
  slo : Nat
  shi : Nat
  ty : Nat
  size : Nat
  acc : Nat
  scope : Nat
  dfl : Nat
  mn : Nat
  mx : Nat
  al : Nat
deriving DecidableEq, Repr

/-- Rows of the map, part 1. -/
def odRows0 : List OdRow := [
  ⟨0x1000, 0x1000, 0, 0, 11, 16, 5, 0, 0, 0, 2 ^ 128 - 1, 1⟩, -- PRODUCT_NAME
  ⟨0x1001, 0x1001, 0, 0, 2, 2, 5, 0, 0, 0, 65535, 1⟩, -- VENDOR_ID
  ⟨0x1002, 0x1002, 0, 0, 1, 1, 5, 0, 0, 0, 255, 1⟩, -- PACKAGE_N
  ⟨0x1003, 0x1003, 0, 0, 1, 1, 5, 0, 0, 0, 255, 1⟩, -- SLICE_INDEX
  ⟨0x1004, 0x1004, 0, 0, 2, 2, 5, 0, 0, 0, 65535, 1⟩, -- BLOCK_STEPPING
  ⟨0x1005, 0x1005, 0, 0, 2, 2, 5, 0, 256, 0, 65535, 1⟩, -- OD_VERSION
  ⟨0x1010, 0x1010, 0, 0, 4, 8, 1, 0, 0, 0, 2 ^ 64 - 1, 1⟩, -- FABT_WINDOW_BASE
  ⟨0x1011, 0x1011, 0, 0, 1, 1, 1, 0, 0, 0, 255, 1⟩, -- SLICE_STATE
  ⟨0x1020, 0x1020, 0, 0, 2, 2, 1, 0, 12288, 0, 65535, 1⟩, -- LGI_CREDITS
  ⟨0x1030, 0x1030, 0, 0, 10, 8, 6, 0, 0, 0, 2 ^ 64 - 1, 1⟩, -- DIRECT_STATUS
  ⟨0x1100, 0x1100, 0, 255, 8, 1, 2, 0, 0, 0, 1, 1⟩, -- RING_OWNER
  ⟨0x1101, 0x1101, 0, 255, 4, 8, 2, 0, 0, 0, 2 ^ 64 - 1, 1⟩, -- SQ_BASE
  ⟨0x1102, 0x1102, 0, 255, 1, 1, 2, 0, 8, 6, 16, 1⟩, -- SQ_LOG2
  ⟨0x1103, 0x1103, 0, 255, 4, 8, 2, 0, 0, 0, 2 ^ 64 - 1, 1⟩, -- CQ_BASE
  ⟨0x1104, 0x1104, 0, 255, 1, 1, 2, 0, 10, 6, 16, 1⟩, -- CQ_LOG2
  ⟨0x1105, 0x1105, 0, 255, 3, 4, 2, 0, 0, 0, 2 ^ 32 - 1, 1⟩, -- HSEQ_BASE
  ⟨0x1106, 0x1106, 0, 255, 3, 4, 2, 0, 0, 0, 2 ^ 32 - 1, 1⟩, -- BSEQ_BASE
  ⟨0x1107, 0x1107, 0, 255, 1, 1, 2, 0, 0, 0, 63, 1⟩, -- RING_PARTITION
  ⟨0x1108, 0x1108, 0, 255, 9, 1, 2, 0, 0, 0, 255, 1⟩, -- RING_RIGHTS
  ⟨0x1109, 0x1109, 0, 255, 1, 1, 2, 0, 0, 0, 255, 1⟩, -- CQ_VECTOR
  ⟨0x110A, 0x110A, 0, 255, 2, 2, 2, 0, 1, 0, 65535, 1⟩, -- CQ_IRQ_COUNT
  ⟨0x110B, 0x110B, 0, 255, 2, 2, 2, 0, 50, 0, 65535, 1⟩, -- CQ_IRQ_TICKS
  ⟨0x110C, 0x110C, 0, 255, 3, 4, 2, 0, 1000, 0, 2 ^ 32 - 1, 1⟩, -- CQ_STALL_TICKS
  ⟨0x110D, 0x110D, 0, 255, 9, 1, 2, 0, 0, 0, 255, 1⟩, -- RING_CTRL
  ⟨0x110E, 0x110E, 0, 255, 10, 32, 1, 0, 0, 0, 2 ^ 256 - 1, 1⟩, -- RING_STATE
  ⟨0x1200, 0x1200, 0, 0, 1, 1, 1, 0, 0, 0, 255, 1⟩, -- MCTP_EID
  ⟨0x1201, 0x1201, 0, 0, 2, 2, 5, 0, 1, 0, 65535, 1⟩, -- MCTP_VDM_VERSION
  ⟨0x1202, 0x1202, 0, 0, 1, 1, 5, 0, 128, 0, 255, 1⟩, -- MCTP_MAX_DATA
  ⟨0x1203, 0x1203, 0, 2, 4, 8, 6, 0, 0, 0, 2 ^ 64 - 1, 1⟩, -- MCTP_STATS
  ⟨0x1300, 0x1300, 0, 255, 4, 8, 2, 0, 0, 0, 2 ^ 64 - 1, 4⟩, -- MSI_ADDR
  ⟨0x1301, 0x1301, 0, 255, 3, 4, 2, 0, 0, 0, 2 ^ 32 - 1, 1⟩, -- MSI_DATA
  ⟨0x1302, 0x1302, 0, 0, 9, 32, 2, 0, 0, 0, 2 ^ 256 - 1, 1⟩, -- MSI_MASK
  ⟨0x1303, 0x1303, 0, 0, 9, 32, 1, 0, 0, 0, 2 ^ 256 - 1, 1⟩, -- MSI_PENDING
  ⟨0x1400, 0x1400, 0, 0, 3, 4, 2, 0, 0, 0, 2 ^ 32 - 1, 1⟩, -- SEQ_QUERY_HANDLE
  ⟨0x1400, 0x1400, 1, 1, 10, 16, 1, 0, 0, 0, 2 ^ 128 - 1, 1⟩, -- SEQ_QUERY_RESULT
  ⟨0x2000, 0x2000, 0, 0, 4, 8, 3, 0, 0, 0, 2 ^ 64 - 1, 1⟩, -- SEAL
  ⟨0x2001, 0x2001, 0, 0, 8, 1, 1, 0, 0, 0, 1, 1⟩, -- SEALED
  ⟨0x2002, 0x2002, 0, 0, 4, 8, 1, 0, 0, 0, 2 ^ 64 - 1, 1⟩, -- SETUP_FP
  ⟨0x2010, 0x2010, 0, 63, 4, 8, 4, 1, 0xFFFFFFFFFFFF0000, 0, 2 ^ 64 - 1, 1⟩, -- PARTITION_TABLE
  ⟨0x2011, 0x2011, 0, 0, 4, 8, 4, 0, 0, 0, 2 ^ 64 - 1, 64⟩] -- PART_MASK_ADDR

/-- Rows of the map, part 2. -/
def odRows1 : List OdRow := [
  ⟨0x2020, 0x202F, 0, 255, 1, 1, 4, 1, 0, 0, 63, 1⟩, -- CLIENT_PARTITION
  ⟨0x2030, 0x2030, 0, 0, 10, 16, 4, 1, 0, 0, 2 ^ 128 - 1, 1⟩, -- TABLE_KEY
  ⟨0x2031, 0x2031, 0, 0, 4, 8, 1, 1, 0, 0, 2 ^ 64 - 1, 1⟩, -- TABLE_KEY_FP
  ⟨0x2040, 0x2040, 0, 0, 9, 32, 4, 1, 0, 0, 2 ^ 256 - 1, 1⟩, -- MCTP_WRITE_MASK
  ⟨0x2050, 0x2050, 0, 63, 10, 16, 4, 1, 0, 0, 2 ^ 128 - 1, 1⟩, -- PREFIX_KEY
  ⟨0x2051, 0x2051, 0, 63, 1, 1, 4, 1, 0, 0, 63, 1⟩, -- PREFIX_SCOPE
  ⟨0x3000, 0x300F, 0, 255, 2, 2, 2, 1, 1, 0, 65535, 1⟩, -- CLIENT_WEIGHT
  ⟨0x3010, 0x301F, 0, 255, 3, 4, 2, 1, 0, 0, 2 ^ 32 - 1, 1⟩, -- CLIENT_MAX_SEQ
  ⟨0x3020, 0x302F, 0, 255, 3, 4, 2, 1, 0, 0, 2 ^ 32 - 1, 1⟩, -- CLIENT_MAX_TPS
  ⟨0x3030, 0x303F, 0, 255, 2, 2, 2, 1, 1024, 0, 65535, 1⟩, -- CLIENT_QUEUE_MAX
  ⟨0x3040, 0x304F, 0, 255, 1, 1, 2, 1, 0, 0, 2, 1⟩, -- CLIENT_DEADLINE_POLICY
  ⟨0x4000, 0x4000, 0, 255, 2, 2, 2, 1, 65535, 0, 65535, 1⟩, -- MODEL_ACTIVE
  ⟨0x4001, 0x4001, 0, 255, 1, 1, 2, 1, 0, 0, 2, 1⟩, -- MODEL_STATE
  ⟨0x4002, 0x4002, 0, 255, 9, 1, 2, 1, 0, 0, 255, 1⟩, -- MODEL_CLASSES
  ⟨0x4003, 0x4003, 0, 255, 2, 2, 2, 1, 65535, 0, 65535, 1⟩, -- MODEL_FALLBACK
  ⟨0x4004, 0x4004, 0, 255, 8, 1, 2, 1, 0, 0, 1, 1⟩, -- MODEL_DIGEST
  ⟨0x4005, 0x4005, 0, 255, 4, 8, 2, 1, 0, 0, 2 ^ 64 - 1, 64⟩, -- MODEL_WEIGHT_BYTES
  ⟨0x4006, 0x4006, 0, 255, 4, 8, 2, 1, 0, 0, 2 ^ 64 - 1, 4096⟩, -- MODEL_IMAGE_ADDR
  ⟨0x4007, 0x4007, 0, 255, 3, 4, 2, 1, 0, 0, 2 ^ 32 - 1, 1⟩, -- MODEL_WARMUP_US
  ⟨0x4008, 0x4008, 0, 255, 1, 1, 2, 1, 0, 0, 63, 1⟩, -- MODEL_PARTITION
  ⟨0x4009, 0x4009, 0, 255, 3, 4, 2, 1, 0, 0, 2 ^ 32 - 1, 64⟩, -- MODEL_PAGE_BYTES
  ⟨0x400A, 0x400A, 0, 255, 3, 4, 2, 1, 0, 1, 0x1000000, 1⟩, -- MODEL_VOCAB
  ⟨0x400B, 0x400B, 0, 255, 1, 1, 2, 1, 1, 0, 4, 1⟩, -- MODEL_LOGIT_FORMAT
  ⟨0x400C, 0x400C, 0, 255, 3, 4, 1, 0, 0, 0, 2 ^ 32 - 1, 1⟩, -- MODEL_LIVE
  ⟨0x400D, 0x400D, 0, 255, 3, 4, 2, 1, 0, 0, 2 ^ 32 - 1, 64⟩, -- MODEL_EMBED_BYTES
  ⟨0x4100, 0x4100, 0, 255, 3, 4, 2, 1, 0, 0, 2 ^ 32 - 1, 1⟩, -- COST_FIXED_NS
  ⟨0x4101, 0x4101, 0, 255, 3, 4, 2, 1, 0, 0, 2 ^ 32 - 1, 1⟩, -- COST_PREFILL_PS
  ⟨0x4102, 0x4102, 0, 255, 3, 4, 2, 1, 0, 0, 2 ^ 32 - 1, 1⟩, -- COST_DECODE_NS
  ⟨0x4110, 0x4117, 0, 255, 3, 4, 2, 1, 0, 0, 2 ^ 32 - 1, 1⟩, -- COST_STAGE_NS
  ⟨0x4120, 0x4120, 0, 255, 3, 4, 2, 1, 0, 0, 2 ^ 32 - 1, 1⟩, -- STEP_BASE_NS
  ⟨0x4121, 0x4121, 0, 255, 3, 4, 2, 1, 0, 0, 2 ^ 32 - 1, 1⟩, -- STEP_PREFILL_PS
  ⟨0x4122, 0x4122, 0, 255, 3, 4, 2, 1, 0, 0, 2 ^ 32 - 1, 1⟩, -- STEP_DECODE_PS
  ⟨0x4123, 0x4123, 0, 255, 3, 4, 2, 1, 0, 0, 2 ^ 32 - 1, 1⟩, -- STEP_CTX_PS
  ⟨0x4130, 0x4130, 0, 255, 3, 4, 2, 1, 0, 0, 2 ^ 32 - 1, 1⟩, -- ENERGY_BASE_UJ
  ⟨0x4131, 0x4131, 0, 255, 3, 4, 2, 1, 0, 0, 2 ^ 32 - 1, 1⟩, -- ENERGY_PREFILL_NJ
  ⟨0x4132, 0x4132, 0, 255, 3, 4, 2, 1, 0, 0, 2 ^ 32 - 1, 1⟩, -- ENERGY_DECODE_NJ
  ⟨0x4133, 0x4133, 0, 255, 3, 4, 2, 1, 0, 0, 2 ^ 32 - 1, 1⟩, -- ENERGY_CTX_NJ
  ⟨0x4134, 0x4134, 0, 255, 3, 4, 2, 1, 0, 0, 2 ^ 32 - 1, 1⟩, -- STAGE_POWER_MW
  ⟨0x4200, 0x4200, 0, 255, 3, 4, 2, 1, 0, 0, 2 ^ 32 - 1, 1⟩, -- GROUP_CFG
  ⟨0x4201, 0x4201, 0, 0, 1, 1, 2, 1, 2, 1, 8, 1⟩] -- DSP_TILE_CREDITS

/-- Rows of the map, part 3. -/
def odRows2 : List OdRow := [
  ⟨0x4202, 0x4202, 0, 255, 1, 1, 2, 2, 1, 1, 8, 1⟩, -- GROUP_HOT_SLOTS
  ⟨0x4203, 0x4203, 0, 255, 4, 8, 2, 2, 0, 0, 2 ^ 64 - 1, 1⟩, -- GROUP_SLOT_BYTES
  ⟨0x4204, 0x4204, 0, 255, 4, 8, 2, 2, 0, 0, 2 ^ 64 - 1, 1⟩, -- GROUP_WEIGHT_BASE
  ⟨0x4205, 0x4205, 0, 255, 9, 1, 2, 2, 0, 0, 255, 1⟩, -- GROUP_HOT_PIN
  ⟨0x4210, 0x4217, 0, 255, 2, 2, 2, 2, 65535, 0, 65535, 1⟩, -- GROUP_HOT_MAP
  ⟨0x4220, 0x4220, 0, 0, 3, 4, 2, 1, 10000, 100, 0x989680, 1⟩, -- CMD_TIMEOUT_US
  ⟨0x4221, 0x4221, 0, 0, 3, 4, 2, 1, 1000, 100, 0xF4240, 1⟩, -- KILL_ACK_TIMEOUT_US
  ⟨0x4222, 0x4222, 0, 0, 2, 2, 2, 1, 8, 0, 65535, 1⟩, -- PREEMPT_GUARD_STEPS
  ⟨0x4223, 0x4223, 0, 0, 4, 8, 2, 1, 0x100000000, 0, 2 ^ 64 - 1, 1⟩, -- PREEMPT_VTIME_GAP
  ⟨0x4230, 0x4230, 0, 0, 3, 4, 1, 0, 0x186A0, 0, 2 ^ 32 - 1, 1⟩, -- SWITCH_B_DEMOTE_MBPS
  ⟨0x4231, 0x4231, 0, 0, 3, 4, 1, 0, 0x186A0, 0, 2 ^ 32 - 1, 1⟩, -- SWITCH_B_PROMOTE_MBPS
  ⟨0x4232, 0x4232, 0, 0, 3, 4, 1, 0, 0xF4240, 0, 2 ^ 32 - 1, 1⟩, -- SWITCH_B_WEIGHTS_MBPS
  ⟨0x4300, 0x430F, 0, 255, 2, 2, 2, 1, 0, 0, 65535, 1⟩, -- ADAPTER_MODEL
  ⟨0x5000, 0x5000, 0, 255, 1, 1, 2, 2, 0, 0, 1, 1⟩, -- BALANCE_MODE
  ⟨0x5001, 0x5001, 0, 255, 3, 4, 2, 2, 8192, 1, 0x100000, 1⟩, -- TOKEN_BUDGET
  ⟨0x5002, 0x5002, 0, 255, 2, 2, 2, 2, 2048, 16, 65535, 1⟩, -- CHUNK_TOKENS
  ⟨0x5003, 0x5003, 0, 255, 2, 2, 2, 2, 64, 1, 65535, 1⟩, -- CHUNK_MIN
  ⟨0x5004, 0x5004, 0, 255, 2, 2, 2, 2, 64, 1, 8192, 1⟩, -- SEG_ENTRIES
  ⟨0x5005, 0x5005, 0, 255, 3, 4, 2, 2, 4096, 1, 0x100000, 1⟩, -- SEG_TOKENS
  ⟨0x5006, 0x5006, 0, 255, 1, 1, 2, 2, 1, 0, 2, 1⟩, -- DIGEST_POLICY
  ⟨0x5007, 0x5007, 0, 255, 3, 4, 2, 2, 50, 0, 2 ^ 32 - 1, 1⟩, -- SEAL_TIMEOUT_US
  ⟨0x5008, 0x5008, 0, 0, 1, 1, 2, 1, 4, 1, 255, 1⟩, -- D2_FETCH_EST
  ⟨0x5010, 0x5010, 0, 0, 3, 4, 2, 1, 250, 0, 2 ^ 32 - 1, 1⟩, -- FALLBACK_MARGIN
  ⟨0x5011, 0x5011, 0, 0, 1, 1, 2, 1, 1, 1, 2, 1⟩, -- DEADLINE_POLICY
  ⟨0x5012, 0x5012, 0, 0, 2, 2, 2, 1, 16, 1, 65535, 1⟩, -- DEADLINE_CHECK_STEPS
  ⟨0x5020, 0x5020, 0, 0, 3, 4, 2, 1, 200, 0, 2 ^ 32 - 1, 1⟩, -- GROUP_LOAD_SLACK
  ⟨0x5021, 0x5021, 0, 0, 2, 2, 2, 1, 512, 0, 4096, 1⟩, -- DECODE_SLOT_RESERVE
  ⟨0x5022, 0x5022, 0, 0, 2, 2, 2, 1, 4096, 0, 16384, 1⟩, -- QUEUE_LIMIT
  ⟨0x5023, 0x5023, 0, 0, 3, 4, 2, 1, 8192, 0, 2 ^ 32 - 1, 1⟩, -- POWER_PREFILL_LIMIT
  ⟨0x5024, 0x5024, 0, 0, 1, 1, 2, 1, 4, 1, 8, 1⟩, -- ADMIT_CANDIDATES
  ⟨0x5025, 0x5025, 0, 0, 2, 2, 2, 1, 5, 0, 65535, 1⟩, -- QUEUE_RETEST
  ⟨0x5026, 0x5026, 0, 0, 2, 2, 2, 1, 4, 0, 65535, 1⟩, -- DECODE_PAGE_RESERVE
  ⟨0x5027, 0x5027, 0, 0, 2, 2, 2, 1, 4, 0, 65535, 1⟩, -- CAP_FLOAT
  ⟨0x5030, 0x5030, 0, 0, 2, 2, 2, 1, 20, 1, 65535, 1⟩, -- RETRY_BACKOFF
  ⟨0x5031, 0x5031, 0, 0, 2, 2, 2, 1, 256, 0, 4096, 1⟩, -- SLOT_RECLAIM_LOW
  ⟨0x5040, 0x5040, 0, 255, 2, 2, 2, 2, 64, 0, 256, 1⟩, -- RATIO_INIT
  ⟨0x5041, 0x5041, 0, 0, 2, 2, 2, 1, 32, 1, 65535, 1⟩, -- RATIO_INTERVAL
  ⟨0x5042, 0x5042, 0, 0, 2, 2, 2, 1, 16, 0, 256, 1⟩, -- RATIO_MIN
  ⟨0x5043, 0x5043, 0, 0, 2, 2, 2, 1, 192, 0, 256, 1⟩, -- RATIO_MAX
  ⟨0x5044, 0x5044, 0, 0, 2, 2, 2, 1, 16, 1, 256, 1⟩] -- RATIO_DEADBAND

/-- Rows of the map, part 4. -/
def odRows3 : List OdRow := [
  ⟨0x5045, 0x5045, 0, 0, 2, 2, 2, 1, 32, 1, 256, 1⟩, -- RATIO_STEP
  ⟨0x5046, 0x5046, 0, 255, 2, 2, 1, 2, 0, 0, 65535, 1⟩, -- RATIO_NOW
  ⟨0x5050, 0x5050, 0, 0, 2, 2, 2, 1, 16, 0, 255, 1⟩, -- POWER_HYST
  ⟨0x5051, 0x5051, 0, 0, 2, 2, 2, 1, 8, 1, 65535, 1⟩, -- POWER_EXIT_STEPS
  ⟨0x5052, 0x5052, 0, 0, 5, 4, 2, 1, 160, 0, 2 ^ 32 - 1, 1⟩, -- HEADROOM_LOW
  ⟨0x5053, 0x5053, 0, 0, 5, 4, 2, 1, 0, 0, 2 ^ 32 - 1, 1⟩, -- HEADROOM_MIN
  ⟨0x5054, 0x5054, 0, 0, 2, 2, 2, 1, 64, 0, 256, 1⟩, -- HF_FLOOR
  ⟨0x5055, 0x5055, 0, 0, 3, 4, 2, 1, 0, 0, 2 ^ 32 - 1, 1⟩, -- DIE_OTHER_MW
  ⟨0x5056, 0x5056, 0, 0, 3, 4, 2, 1, 1000, 0, 2 ^ 32 - 1, 1⟩, -- STRETCH_MAX_US
  ⟨0x5057, 0x5057, 0, 255, 2, 2, 1, 2, 256, 0, 65535, 1⟩, -- ENERGY_CORR
  ⟨0x5058, 0x5058, 0, 255, 3, 4, 1, 2, 0, 0, 2 ^ 32 - 1, 1⟩, -- STEP_NOW
  ⟨0x6000, 0x6000, 0, 255, 1, 1, 2, 1, 16, 0, 255, 1⟩, -- PAGE_TOKENS
  ⟨0x6001, 0x6001, 0, 0, 3, 4, 2, 1, 0x11E1A300, 1, 2 ^ 32 - 1, 1⟩, -- TTL_DEFAULT
  ⟨0x6002, 0x6002, 0, 0, 3, 4, 2, 1, 0x1E8480, 1, 2 ^ 32 - 1, 1⟩, -- IDLE_DEMOTE
  ⟨0x6003, 0x6003, 0, 0, 3, 4, 2, 1, 0x1C9C380, 1, 2 ^ 32 - 1, 1⟩, -- IDLE_SPILL
  ⟨0x6004, 0x6004, 0, 0, 3, 4, 2, 0, 0, 0, 2 ^ 32 - 1, 4096⟩, -- CTX_FRAME_BYTES
  ⟨0x6010, 0x6010, 0, 0, 4, 8, 2, 0, 0, 0, 2 ^ 64 - 1, 4096⟩, -- CTX_T1_BASE
  ⟨0x6011, 0x6011, 0, 0, 3, 4, 2, 0, 0, 0, 0x40000000, 1⟩, -- CTX_T1_FRAMES
  ⟨0x6012, 0x6012, 0, 0, 4, 8, 2, 0, 0, 0, 2 ^ 64 - 1, 4096⟩, -- CTX_T2_BASE
  ⟨0x6013, 0x6013, 0, 0, 3, 4, 2, 0, 0, 0, 0x40000000, 1⟩, -- CTX_T2_FRAMES
  ⟨0x6014, 0x6014, 0, 0, 4, 8, 2, 0, 0, 0, 2 ^ 64 - 1, 1⟩, -- CTX_T0_FABRIC_BASE
  ⟨0x6015, 0x6015, 0, 0, 4, 8, 2, 0, 0, 0, 2 ^ 64 - 1, 1⟩, -- CTX_T0_STRIDE
  ⟨0x6016, 0x6016, 0, 0, 3, 4, 2, 0, 0, 0, 2 ^ 32 - 1, 1⟩, -- CTX_T0_OFFSET
  ⟨0x6017, 0x6017, 0, 0, 3, 4, 2, 0, 0, 0, 0x40000, 1⟩, -- CTX_T0_FRAMES
  ⟨0x6018, 0x6018, 0, 0, 4, 8, 2, 0, 0, 0, 2 ^ 64 - 1, 16384⟩, -- CTX_PTAB_BASE
  ⟨0x6019, 0x6019, 0, 0, 4, 8, 2, 0, 0, 0, 2 ^ 64 - 1, 4096⟩, -- CTX_LEAF_BASE
  ⟨0x601A, 0x601A, 0, 0, 3, 4, 2, 0, 0x10000, 0x10000, 0x1000000, 1⟩, -- CTX_LEAF_COUNT
  ⟨0x601B, 0x601B, 0, 0, 4, 8, 2, 0, 0, 0, 2 ^ 64 - 1, 4096⟩, -- CTX_REPLAY_BASE
  ⟨0x601C, 0x601C, 0, 0, 2, 2, 2, 0, 16, 1, 64, 1⟩, -- CTX_REPLAY_BLOCKS
  ⟨0x6020, 0x6020, 0, 0, 3, 4, 2, 1, 1024, 0, 2 ^ 32 - 1, 1⟩, -- CTX_T1_LOW
  ⟨0x6021, 0x6021, 0, 0, 3, 4, 2, 1, 512, 0, 2 ^ 32 - 1, 1⟩, -- CTX_T1_HYST
  ⟨0x6022, 0x6022, 0, 0, 3, 4, 2, 1, 0x3938700, 0, 0x7FFFFFFF, 1⟩, -- PREFIX_KEEP
  ⟨0x6023, 0x6023, 0, 0, 2, 2, 2, 1, 512, 1, 1024, 1⟩, -- PREFIX_LOOKUP_PAGES
  ⟨0x7000, 0x7000, 0, 0, 4, 8, 2, 0, 0, 0, 2 ^ 64 - 1, 4096⟩, -- SAMPLE_MB_BASE
  ⟨0x7001, 0x7001, 0, 0, 1, 1, 2, 1, 4, 1, 8, 1⟩, -- DIGEST_ROUNDS_MAX
  ⟨0x7002, 0x7002, 0, 0, 1, 1, 2, 1, 4, 0, 28, 1⟩, -- DIGEST_CORR_MAX
  ⟨0x7010, 0x7010, 0, 0, 4, 8, 1, 0, 0, 0, 2 ^ 64 - 1, 1⟩, -- TABLE_CRC
  ⟨0x7020, 0x7020, 0, 0, 4, 8, 2, 0, 0, 0, 2 ^ 64 - 1, 4096⟩, -- SPEC_MB_BASE
  ⟨0x7021, 0x7021, 0, 0, 4, 8, 3, 0, 0, 0, 2 ^ 64 - 1, 1⟩, -- DRAFT_POST
  ⟨0x7022, 0x7022, 0, 0, 2, 2, 2, 1, 20, 0, 65535, 1⟩] -- SPEC_DRAFT_WAIT

/-- Rows of the map, part 5. -/
def odRows4 : List OdRow := [
  ⟨0x7023, 0x7023, 0, 0, 1, 1, 2, 1, 8, 1, 255, 1⟩, -- SPEC_FAIL_LIMIT
  ⟨0x7024, 0x7024, 0, 0, 2, 2, 2, 1, 64, 1, 127, 1⟩, -- SPEC_SUSPEND_STEPS
  ⟨0x8000, 0x8000, 0, 7, 10, 32, 1, 0, 0, 0, 2 ^ 256 - 1, 1⟩, -- EPOCH_TABLE
  ⟨0x8001, 0x8001, 0, 15, 3, 4, 1, 0, 0, 0, 2 ^ 32 - 1, 1⟩, -- OLDEST_PINNED
  ⟨0x8002, 0x8002, 0, 0, 3, 4, 2, 1, 100, 20, 65535, 1⟩, -- EPOCH_GRACE
  ⟨0x9000, 0x9000, 0, 0, 9, 8, 6, 0, 0, 0, 2 ^ 64 - 1, 1⟩, -- ALERT_CAUSE
  ⟨0x9001, 0x9001, 0, 0, 9, 8, 2, 0, 0x1EBA0, 0, 2 ^ 64 - 1, 1⟩, -- ALERT_MASK
  ⟨0x9010, 0x9010, 0, 0, 9, 4, 2, 1, 0, 0, 2 ^ 32 - 1, 1⟩, -- SLICE_ONLINE
  ⟨0x9011, 0x9011, 0, 0, 8, 1, 2, 0, 0, 0, 1, 1⟩, -- SLICE_DRAIN
  ⟨0x9012, 0x9012, 0, 0, 8, 1, 1, 0, 0, 0, 1, 1⟩, -- SLICE_QUIESCED
  ⟨0x9020, 0x9020, 0, 0, 4, 8, 1, 0, 0, 0, 2 ^ 64 - 1, 1⟩, -- LANE_MAP
  ⟨0x9021, 0x9021, 0, 0, 2, 2, 1, 0, 128, 0, 65535, 1⟩, -- LANE_ACTIVE
  ⟨0x9030, 0x9030, 0, 1, 9, 8, 2, 0, 2 ^ 64 - 1, 0, 2 ^ 64 - 1, 1⟩, -- TILE_ONLINE
  ⟨0x9031, 0x9031, 0, 0, 2, 2, 3, 0, 0, 0, 4095, 1⟩, -- TILE_LOST
  ⟨0x9032, 0x9032, 0, 0, 3, 4, 2, 0, 1000, 1, 0x989680, 1⟩, -- TILE_DRAIN_US
  ⟨0x9040, 0x9040, 0, 0, 10, 8, 1, 0, 0, 0, 2 ^ 64 - 1, 1⟩, -- PARITY_STATE
  ⟨0x9041, 0x9041, 0, 0, 3, 4, 1, 0, 0, 0, 2 ^ 32 - 1, 1⟩, -- REBUILD_STATE
  ⟨0x9050, 0x9050, 0, 0, 2, 2, 2, 0, 64, 1, 65535, 1⟩, -- ECC_CE_LIMIT
  ⟨0x9051, 0x9051, 0, 0, 2, 2, 1, 0, 0, 0, 65535, 1⟩, -- SPARE_ROWS_LEFT
  ⟨0x9060, 0x9060, 0, 63, 10, 32, 1, 0, 0, 0, 2 ^ 256 - 1, 1⟩, -- FAULT_LOG
  ⟨0x9061, 0x9061, 0, 0, 3, 4, 1, 0, 0, 0, 2 ^ 32 - 1, 1⟩, -- FLOG_HEAD
  ⟨0x9062, 0x9062, 0, 0, 3, 4, 2, 0, 0, 0, 2 ^ 32 - 1, 1⟩, -- FLOG_READ
  ⟨0xA000, 0xA000, 0, 0, 2, 2, 4, 1, 5400, 3600, 5400, 1⟩, -- ROOT_MHZ
  ⟨0xA002, 0xA002, 0, 0, 2, 2, 1, 0, 770, 0, 65535, 1⟩, -- VDD_FY_MIN_MV
  ⟨0xA003, 0xA003, 0, 0, 2, 2, 1, 0, 7200, 0, 65535, 1⟩, -- POWER_MAX_MW
  ⟨0xA004, 0xA004, 0, 0, 2, 2, 1, 0, 256, 0, 65535, 1⟩, -- LANE_DUTY
  ⟨0xA010, 0xA010, 0, 0, 3, 4, 2, 0, 0x186A0, 0, 2 ^ 32 - 1, 1⟩, -- PWR_FALLBACK_MW
  ⟨0xA011, 0xA011, 0, 0, 1, 1, 2, 0, 3, 1, 255, 1⟩, -- PWR_STALE_LIMIT
  ⟨0xA020, 0xA020, 0, 0, 4, 8, 1, 0, 0, 0, 2 ^ 64 - 1, 1⟩, -- TICK_NOW
  ⟨0xA021, 0xA021, 0, 0, 4, 8, 3, 0, 0, 0, 2 ^ 64 - 1, 1⟩, -- TICK_LOAD
  ⟨0xA030, 0xA030, 0, 0, 1, 1, 1, 0, 0, 0, 255, 1⟩, -- BRINGUP_STATE
  ⟨0xA031, 0xA031, 0, 0, 4, 8, 1, 0, 0, 0, 2 ^ 64 - 1, 1⟩, -- BIST_RESULT
  ⟨0xB000, 0xB000, 0, 63, 4, 8, 2, 0, 0, 0, 2 ^ 64 - 1, 1⟩, -- CVC_CFG
  ⟨0xB001, 0xB001, 0, 63, 10, 32, 6, 0, 0, 0, 2 ^ 256 - 1, 1⟩, -- CVC_STATE
  ⟨0xB002, 0xB002, 0, 0, 1, 1, 3, 0, 0, 0, 255, 1⟩, -- CVC_RESET
  ⟨0xB010, 0xB010, 0, 0, 3, 4, 2, 0, 0, 0, 2 ^ 32 - 1, 1⟩, -- LEGACY_CFG
  ⟨0xB011, 0xB011, 0, 0, 4, 8, 2, 0, 0, 0, 2 ^ 64 - 1, 1⟩, -- LEGACY_VALUE
  ⟨0xB012, 0xB012, 0, 0, 9, 4, 2, 0, 0, 0, 2 ^ 32 - 1, 1⟩, -- LEGACY_CTRL
  ⟨0xB013, 0xB013, 0, 0, 3, 4, 1, 0, 0, 0, 2 ^ 32 - 1, 1⟩, -- LEGACY_COUNT
  ⟨0xC000, 0xC000, 0, 0, 9, 2, 2, 0, 61342, 0, 65535, 1⟩] -- TRACE_KIND_MASK

/-- Rows of the map, part 6. -/
def odRows5 : List OdRow := [
  ⟨0xC001, 0xC001, 0, 0, 9, 8, 2, 0, 2 ^ 64 - 1, 0, 2 ^ 64 - 1, 1⟩, -- TRACE_PART_MASK
  ⟨0xC010, 0xC010, 0, 63, 9, 8, 2, 0, 2 ^ 64 - 1, 0, 2 ^ 64 - 1, 1⟩, -- TRACE_CLIENT_MAP
  ⟨0xC020, 0xC020, 0, 0, 4, 8, 2, 0, 0, 0, 2 ^ 64 - 1, 4096⟩, -- TRACE_HOST_BASE
  ⟨0xC021, 0xC021, 0, 0, 1, 1, 2, 0, 16, 7, 24, 1⟩, -- TRACE_HOST_LOG2
  ⟨0xC022, 0xC022, 0, 0, 3, 4, 1, 0, 0, 0, 2 ^ 32 - 1, 1⟩, -- TRACE_HEAD
  ⟨0xC023, 0xC023, 0, 0, 3, 4, 2, 0, 0, 0, 2 ^ 32 - 1, 1⟩, -- TRACE_TAIL
  ⟨0xC024, 0xC024, 0, 0, 3, 4, 2, 0, 4096, 0, 2 ^ 32 - 1, 1⟩, -- TRACE_IRQ_COUNT
  ⟨0xC025, 0xC025, 0, 0, 3, 4, 1, 0, 0, 0, 2 ^ 32 - 1, 1⟩, -- TRACE_PENDING
  ⟨0xC030, 0xC030, 0, 3, 4, 8, 6, 0, 0, 0, 2 ^ 64 - 1, 1⟩, -- TRACE_DROPS
  ⟨0xD000, 0xD00F, 0, 255, 4, 8, 6, 0, 0, 0, 2 ^ 64 - 1, 1⟩, -- ACCT_ENGINE_NS
  ⟨0xD010, 0xD01F, 0, 255, 4, 8, 6, 0, 0, 0, 2 ^ 64 - 1, 1⟩, -- ACCT_BYTES
  ⟨0xD020, 0xD02F, 0, 255, 4, 8, 6, 0, 0, 0, 2 ^ 64 - 1, 1⟩, -- ACCT_ENERGY_UJ
  ⟨0xD030, 0xD03F, 0, 255, 9, 1, 1, 0, 0, 0, 255, 1⟩, -- ACCT_FLAGS
  ⟨0xD040, 0xD040, 0, 0, 3, 4, 2, 1, 1410, 0, 2 ^ 32 - 1, 1⟩, -- LANE_FJ_PER_ELEMENT
  ⟨0xD0F0, 0xD0F0, 0, 0, 2, 2, 3, 0, 0, 0, 65535, 1⟩, -- ACCT_RESET
  ⟨0xD0F1, 0xD0F1, 0, 0, 3, 4, 1, 0, 0, 0, 2 ^ 32 - 1, 1⟩, -- ACCT_ROUND
  ⟨0xD0F2, 0xD0F2, 0, 0, 1, 1, 1, 0, 0, 0, 255, 1⟩, -- ACCT_AGGREGATOR
  ⟨0xF000, 0xF000, 0, 0, 3, 4, 2, 0, 0, 0, 0x7FFFFF8, 8⟩, -- DIAG_ADDR
  ⟨0xF001, 0xF001, 0, 0, 4, 8, 1, 0, 0, 0, 2 ^ 64 - 1, 1⟩, -- DIAG_DATA
  ⟨0xF002, 0xF002, 0, 0, 1, 1, 1, 0, 0, 0, 255, 1⟩, -- DIAG_CHECK
  ⟨0xF010, 0xF010, 1, 11, 4, 8, 6, 0, 0, 0, 2 ^ 48 - 1, 1⟩, -- PORT_ERR_COUNTS
  ⟨0xF020, 0xF020, 0, 0, 4, 8, 6, 0, 0, 0, 2 ^ 48 - 1, 1⟩, -- TIMER_EXPIRED
  ⟨0xF021, 0xF021, 0, 0, 4, 8, 6, 0, 0, 0, 2 ^ 48 - 1, 1⟩, -- TIMER_LATE_MAX
  ⟨0xF022, 0xF022, 0, 7, 4, 8, 6, 0, 0, 0, 2 ^ 48 - 1, 1⟩, -- TIMER_LATE_HIST
  ⟨0xF030, 0xF030, 0, 5, 4, 8, 6, 0, 0, 0, 2 ^ 48 - 1, 1⟩, -- ADMIT_COUNTS
  ⟨0xF040, 0xF040, 0, 7, 4, 8, 6, 0, 0, 0, 2 ^ 48 - 1, 1⟩, -- COMPOSE_STATS
  ⟨0xF050, 0xF050, 0, 8, 4, 8, 6, 0, 0, 0, 2 ^ 48 - 1, 1⟩, -- DISPATCH_STATS
  ⟨0xF060, 0xF060, 0, 8, 4, 8, 6, 0, 0, 0, 2 ^ 48 - 1, 1⟩, -- CTX_STATS
  ⟨0xF070, 0xF070, 0, 6, 4, 8, 6, 0, 0, 0, 2 ^ 48 - 1, 1⟩, -- SAMPLE_STATS
  ⟨0xF080, 0xF080, 0, 7, 4, 8, 6, 0, 0, 0, 2 ^ 48 - 1, 1⟩, -- SEL_STATS
  ⟨0xF090, 0xF090, 0, 5, 4, 8, 6, 0, 0, 0, 2 ^ 48 - 1, 1⟩, -- RNG_STATS
  ⟨0xF0A0, 0xF0A0, 0, 7, 4, 8, 6, 0, 0, 0, 2 ^ 48 - 1, 1⟩, -- SPEC_STATS
  ⟨0xF0B0, 0xF0B0, 0, 7, 4, 8, 6, 0, 0, 0, 2 ^ 48 - 1, 1⟩, -- RANK_STATS
  ⟨0xF0C0, 0xF0C0, 0, 7, 4, 8, 6, 0, 0, 0, 2 ^ 48 - 1, 1⟩] -- FAULT_STATS

/-- Table 18.10. -/
def odTable : List OdRow := odRows0 ++ odRows1 ++ odRows2 ++ odRows3 ++ odRows4 ++ odRows5

/-- The row of an entry; none where the entry is absent (R439). -/
def odRow (idx sub : Nat) : Option OdRow :=
  odTable.find? (fun r => r.lo ≤ idx && idx ≤ r.hi && r.slo ≤ sub && sub ≤ r.shi)

/-- The default an entry takes at every reset. Those that depend on the member, the slice or the sub-index stand
first. -/
def odDefault (d : Device) (idx sub : Nat) : Nat :=
  if idx = Od.SLICE_ONLINE then 2 ^ d.ident.n - 1
  else if idx = Od.TABLE_KEY then defaultTableKey
  else if idx = Od.PREFIX_SCOPE then sub
  else if Od.ADAPTER_MODEL ≤ idx && idx ≤ Od.ADAPTER_MODEL + 15 then
    (if idx = Od.ADAPTER_MODEL && sub = 0 then 0xFFFE else 0xFFFF)
  else match odRow idx sub with
    | some r => r.dfl
    | none => 0

/-- Key of an entry in the stored map. -/
def odKey (idx sub : Nat) : Nat := idx * 256 + sub

/-- The stored value of an entry. -/
def odGet (d : Device) (idx sub : Nat) : Nat := Map.getD d.od (odKey idx sub) (odDefault d idx sub)

/-- Stores a value; an entry at its default is not listed. -/
def odSet (d : Device) (idx sub v : Nat) : Device :=
  { d with od := if v = odDefault d idx sub then Map.del d.od (odKey idx sub) else Map.put d.od (odKey idx sub) v }

/-- The sub-indices of an index that are stored, with their values. -/
def odStored (d : Device) (idx : Nat) : List (Nat × Nat) :=
  (d.od.filter (fun p => p.1 / 256 = idx)).map (fun p => (p.1 % 256, p.2))

/-- Entries spread over 16 indices by client or adapter (R144). -/
def odGetC (d : Device) (idx c : Nat) : Nat := odGet d (idx + c / 256) (c % 256)

def odSetC (d : Device) (idx c v : Nat) : Device := odSet d (idx + c / 256) (c % 256) v

/-- Counts `n` towards an entry's snapshot, where one stands: what a commit leaves of a counter (R444). -/
def sinceSnap (d : Device) (idx sub n : Nat) : Device :=
  { d with snaps := Map.mod d.snaps (odKey idx sub) (fun s => (s.1, s.2 + n)) }

/-- A statistics counter advances by `n`, 48 bits, sticking at all-ones (R33, R461). -/
def bumpBy (d : Device) (idx sub n : Nat) : Device :=
  sinceSnap (odSet d idx sub (satAdd statMax (odGet d idx sub) n)) idx sub n

def bump (d : Device) (idx sub : Nat) : Device := bumpBy d idx sub 1

/-- A statistics maximum. -/
def bumpMax (d : Device) (idx sub n : Nat) : Device := odSet d idx sub (max (odGet d idx sub) (min statMax n))

/-! ### Port error counters (Table 2.13) -/

abbrev PERR_UNMAPPED : Nat := 0x01
abbrev PERR_ORIGIN : Nat := 0x02
abbrev PERR_LGI_STALE : Nat := 0x03
abbrev PERR_LGI_FORMAT : Nat := 0x04
abbrev PERR_DSP_STALE : Nat := 0x05
abbrev PERR_DSP_FORMAT : Nat := 0x06
abbrev PERR_RNS_DENIED : Nat := 0x07
abbrev PERR_FABI : Nat := 0x08
abbrev PERR_SEALED : Nat := 0x09
abbrev PERR_EARLY : Nat := 0x0A
abbrev PERR_PGM : Nat := 0x0B

def portErr (d : Device) (sub : Nat) : Device := bump d Od.PORT_ERR_COUNTS sub

end Sys2Proof.Machine
end

