-- ==== Sys2Proof/Machine/Flags.lean ====
section
/-! DEFINITION. Flags, interrupts, alerts, the fault log, the decision trace, the check-value channels and the FAB_I
port: what almost every command raises or uses. -/

namespace Sys2Proof.Machine

/-! ### Time (R402, R432) -/

def Device.mhz (d : Device) : Nat := odGet d Od.ROOT_MHZ 0

/-- TICK of R402. -/
def Device.tick (d : Device) : Nat := (d.clk.rootcyc / d.mhz + d.clk.tickOffset) % 2 ^ 64

/-- SCLK elapsed since the current TICK began (R432). -/
def Device.subTick (d : Device) : Nat := (d.clk.rootcyc % d.mhz) / 4

/-- SCLK count since reset (R400). -/
def Device.sclk (d : Device) : Nat := d.clk.rootcyc / 4

/-! ### FAB_I (R38) -/

/-- FAB_I takes a further access: fewer than 512 are outstanding, and isolation does not clamp the port (R38, R66). -/
def fabiOpen (d : Device) : Bool := d.fabi.outstanding.length < 512 && d.clk.isoN

/-- The access goes out on the port, and with it the transfer it carries. -/
def fabiOut (d : Device) (r : FabiReq) : Device :=
  { d with
    fabi := { d.fabi with outstanding := d.fabi.outstanding ++ [{ r with tick := d.tick }] }
    out := d.out ++ (r.xfer.map (fun x => Out.xfer x.1 x.2)).toList }

/-- Issues an access, or holds it back while the port takes none. -/
def fabiIssue (d : Device) (r : FabiReq) : Device :=
  if fabiOpen d then fabiOut d r else { d with fabi := { d.fabi with waiting := d.fabi.waiting ++ [r] } }

def fabiNew (d : Device) (kind : FabiKind) (write : Bool) (addr len data : Nat) (x : Option (Nat × Xfer) := none) : Device :=
  fabiIssue { d with fabi := { d.fabi with nextId := d.fabi.nextId + 1 } }
    { id := d.fabi.nextId, kind := kind, write := write, addr := addr % 2 ^ 64, len := len, data := data, xfer := x }

def fabiRead (d : Device) (kind : FabiKind) (addr len : Nat) : Device := fabiNew d kind false addr len 0

def fabiWrite (d : Device) (kind : FabiKind) (addr len data : Nat) : Device :=
  fabiNew d kind true addr len (data % 2 ^ (8 * len))

/-- The write that carries a transfer to another slice. -/
def fabiXfer (d : Device) (kind : FabiKind) (len data dest : Nat) (x : Xfer) : Device :=
  fabiNew d kind true 0 len (data % 2 ^ (8 * len)) (some (dest, x))

/-- Issues the oldest access held back, where the port takes it. -/
def fabiPump (d : Device) : Device :=
  match d.fabi.waiting with
  | [] => d
  | w :: ws => if fabiOpen d then fabiOut { d with fabi := { d.fabi with waiting := ws } } w else d

/-- Takes a completed access off the port; the oldest access held back is issued in its place. -/
def fabiDone (d : Device) (id : Nat) : Device :=
  fabiPump { d with fabi := { d.fabi with outstanding := removeFirst (fun r => r.id = id) d.fabi.outstanding } }

def fabiFind (d : Device) (id : Nat) : Option FabiReq := d.fabi.outstanding.find? (fun r => r.id = id)

/-- Accesses of a kind still on the port or held back. -/
def fabiCount (d : Device) (p : FabiKind → Bool) : Nat :=
  ((d.fabi.outstanding ++ d.fabi.waiting).filter (fun r => p r.kind)).length

/-- Responses still to come for accesses of some kinds find nothing to serve. -/
def fabiDrop (d : Device) (p : FabiKind → Bool) : Device :=
  let f (r : FabiReq) : FabiReq := if p r.kind then { r with kind := .dropped } else r
  { d with fabi := { d.fabi with outstanding := d.fabi.outstanding.map f, waiting := d.fabi.waiting.map f } }

/-- The record slot that an access serves. -/
def FabiKind.slot : FabiKind → Option Nat
  | .tokenLog s | .report s | .prefixPages s | .promptTail s | .pageTable s | .turnList s | .draftBank s | .draftRequest s
  | .pathBlock s | .stageBlock s | .stageList s | .resultBody s | .resultHeader s | .passage s | .packWrite s
  | .imageWrite s | .imageHeader s => some s
  | .chainTokens s _ _ | .inputs s _ | .replayRead s _ _ | .replayWrite s _ | .sampleBox s _ | .tombLine s _
  | .saveTokens s _ _ => some s
  | _ => none

/-! ### Outputs -/

def emit (d : Device) (o : Out) : Device := { d with out := d.out ++ [o] }

/-- Sends a transfer to a slice (R26, R39 order 3): a transfer to another slice leaves with FAB_I writes of `len` bytes in
all, at most 512 each (Table 2.2), of which the last carries it. A transfer to the slice itself needs no port and comes
back as a command (log entry 8). -/
def sendXfer (d : Device) (dest : Nat) (x : Xfer) (len : Nat := 32) : Device :=
  if dest = d.ident.index then emit d (.xfer dest x)
  else
    let full := (len - 1) / 512
    fabiXfer ((List.range full).foldl (fun d _ => fabiWrite d (.xfer dest) 0 512 0) d) (.xfer dest) (len - 512 * full) 0 dest x

/-! ### Interrupts (R64, R65) -/

def msiMasked (d : Device) (v : Nat) : Bool := bit (odGet d Od.MSI_MASK 0) v

/-- MCLK count since reset (R400). -/
def Device.mclk (d : Device) : Nat := d.clk.rootcyc / 64

/-- Sends vector `v`, or sets its pending bit where it is masked or has no address. A cause in the MCLK of an unmask that
has sent the vector's pending write gives no write of its own (R65). -/
def raiseVector (d : Device) (v : Nat) : Device :=
  if msiMasked d v || odGet d Od.MSI_ADDR v = 0 then
    odSet d Od.MSI_PENDING 0 (odGet d Od.MSI_PENDING 0 ||| 2 ^ v)
  else if Map.find d.mgmt.unmasked v = some d.mclk then d
  else fabiWrite d (.msi v) (odGet d Od.MSI_ADDR v) 4 (odGet d Od.MSI_DATA v)

/-- Sends a pending vector that has an address, once, and clears its bit (R65). -/
def sendPending (d : Device) (v : Nat) : Device :=
  if bit (odGet d Od.MSI_PENDING 0) v && odGet d Od.MSI_ADDR v ≠ 0 then
    let d := { d with mgmt := { d.mgmt with unmasked := Map.put d.mgmt.unmasked v d.mclk } }
    fabiWrite (odSet d Od.MSI_PENDING 0 (odGet d Od.MSI_PENDING 0 ^^^ 2 ^ v))
      (.msi v) (odGet d Od.MSI_ADDR v) 4 (odGet d Od.MSI_DATA v)
  else d

/-! ### Alerts (R63, R370, Table 14.2) -/

abbrev ALERT_FABRIC_ERR : Nat := 0
abbrev ALERT_PWR_STALE : Nat := 1
abbrev ALERT_TIMER_LATE : Nat := 2
abbrev ALERT_ACCT_AGG_LOST : Nat := 3
abbrev ALERT_ACCT_SAT : Nat := 4
abbrev ALERT_TILE_HUNG : Nat := 5
abbrev ALERT_MODEL_LOAD_ERR : Nat := 6
abbrev ALERT_MIRROR_LOST : Nat := 7
abbrev ALERT_RNG_TABLE_ERR : Nat := 8
abbrev ALERT_RNG_SELFTEST : Nat := 9
abbrev ALERT_ECC_CE_RATE : Nat := 10
abbrev ALERT_ECC_UE : Nat := 11
abbrev ALERT_LANE_SPARE_USED : Nat := 12
abbrev ALERT_LANE_DEGRADED : Nat := 13
abbrev ALERT_SLICE_SUSPECT : Nat := 14
abbrev ALERT_PARITY_DEGRADED : Nat := 15
abbrev ALERT_REBUILD_FAULT : Nat := 16
abbrev ALERT_FLOG_OVERRUN : Nat := 17

/-- Causes raised in the current MCLK; a commit in it clears none of them (R63). -/
def raisedNow (d : Device) : Nat := if d.faults.raisedMclk = d.mclk then d.faults.raised else 0

/-- A cause is noted for the MCLK in which it arises. -/
def noteRaised (d : Device) (b : Nat) : Device :=
  { d with faults := { d.faults with raised := raisedNow d ||| 2 ^ b, raisedMclk := d.mclk } }

/-- Sets a cause; an unmasked one raises vector 0 (Table 2.8). A cause that is set already raises it again, and a write
of ALERT_MASK raises nothing (log entry 117). -/
def raiseCause (d : Device) (b : Nat) : Device :=
  let d := odSet (noteRaised d b) Od.ALERT_CAUSE 0 (odGet d Od.ALERT_CAUSE 0 ||| 2 ^ b)
  if bit (odGet d Od.ALERT_MASK 0) b then raiseVector d 0 else d

/-- The slice pulls FY_ALERT low (R63). -/
def alertLow (d : Device) : Bool := (odGet d Od.ALERT_CAUSE 0 &&& odGet d Od.ALERT_MASK 0) ≠ 0

/-! ### Check-value channels (chapter 16) -/

abbrev PT_SQ_READ : Nat := 1
abbrev PT_CQ_WRITE : Nat := 2
abbrev PT_MAILBOX : Nat := 3
abbrev PT_PGM : Nat := 4
abbrev PT_WORKLIST : Nat := 5
abbrev PT_TRACE : Nat := 6
abbrev PT_SPILL : Nat := 7

def cvcEnabled (cfg : Nat) : Bool := bit cfg 63
def cvcPoly (cfg : Nat) : CrcKind := crcOfPoly (bf cfg 62 61)
def cvcTrailer (cfg : Nat) : Bool := bit cfg 60

/-- The channel set up as `cfg` sees a record at a point with a selector value (R422). -/
def cvcSees (cfg point sel : Nat) : Bool :=
  cvcEnabled cfg && bf cfg 59 56 = point && (bit cfg 55 || bf cfg 54 47 = sel
    || point = PT_MAILBOX || point = PT_TRACE)

/-- A RUNNING fold of one record; a record of a ring carries TRL_ALIVE. -/
def Channel.fold (ch : Channel) (k : CrcKind) (r n seq : Nat) (ring : Bool) : Channel :=
  { ch with
    raw := crcRaw k ch.raw (leBytes r n)
    window := ch.window.map (fun w => crcRaw k w (leBytes r n))
    records := satAdd statMax ch.records 1
    last := if ring then bf r 31 24 else ch.last
    lastSeq := seq }

/-- The CRC of R424: TRL_CRC, bytes 4 to 7, taken as zero. TRL_CRC holds its low 32 bits. -/
def trailerCrc (k : CrcKind) (r n : Nat) : Nat :=
  crcOf k (leBytes (fields [(31, 0, r)] ||| (r >>> 64) <<< 64) n)

/-- A TRAILER check of a submission record (R426). -/
def Channel.check (ch : Channel) (k : CrcKind) (r seq : Nat) : Channel :=
  let alive := bf r 31 24
  let c := trailerCrc k r 128
  let dd := subMod 8 alive (ch.last + 1)
  { ch with
    value := c
    records := satAdd statMax ch.records 1
    repeats := satAdd (2 ^ 24 - 1) ch.repeats (if dd = 255 then 1 else 0)
    gaps := satAdd (2 ^ 24 - 1) ch.gaps (if dd ≤ 127 then dd else 0)
    mismatch := satAdd (2 ^ 24 - 1) ch.mismatch
      ((if 127 < dd && dd < 255 then 1 else 0) + (if c % 2 ^ 32 = bf r 63 32 then 0 else 1))
    last := alive
    lastSeq := seq }

/-- A TRAILER channel after the completion it filled has been written. -/
def Channel.wrote (ch : Channel) (k : CrcKind) (r seq : Nat) : Channel :=
  { ch with value := trailerCrc k r 64, records := satAdd statMax ch.records 1, last := bf r 31 24, lastSeq := seq }

/-- Applies `f` to channel `c`. -/
def chanMod (d : Device) (c : Nat) (f : Channel → Channel) : Device :=
  { d with cvc := { d.cvc with chans := Map.put d.cvc.chans c (f (Map.getD d.cvc.chans c {})) } }

/-- One channel's view of a record. -/
def cvcOne (d : Device) (c cfg point sel r n seq : Nat) : Device :=
  if cvcSees cfg point sel then
    if cvcTrailer cfg then
      if point = PT_SQ_READ then chanMod d c (fun ch => ch.check (cvcPoly cfg) r seq)
      else chanMod d c (fun ch => ch.wrote (cvcPoly cfg) r seq)
    else chanMod d c (fun ch => ch.fold (cvcPoly cfg) r n seq (point = PT_SQ_READ || point = PT_CQ_WRITE))
  else d

/-- The legacy channel's view (R429, R430). -/
def cvcLegacy (d : Device) (v : CvcView) (point sel r n : Nat) : Device :=
  let cfg := v.legacy
  if bit cfg 31 && bf cfg 28 25 = point
      && (bit cfg 24 || bf cfg 23 16 = sel || point = PT_MAILBOX || point = PT_TRACE) then
    if v.hold then
      { d with cvc := { d.cvc with legacySkipped := satAdd (2 ^ 24 - 1) d.cvc.legacySkipped 1 } }
    else
      let raw := if v.replaced then d.cvc.legacyRaw else crcRaw (crcOfPoly (bf cfg 30 29)) d.cvc.legacyRaw (leBytes r n)
      { d with cvc := { d.cvc with legacyRaw := raw, legacyCount := (d.cvc.legacyCount + 1) % 2 ^ 32 } }
  else d

/-- The channels as they stand. -/
def cvcView (d : Device) : CvcView :=
  { chans := odStored d Od.CVC_CFG, legacy := odGet d Od.LEGACY_CFG 0, hold := bit (odGet d Od.LEGACY_CTRL 0) 0 }

/-- A record of `n` bytes passes a snoop point, as the channels stood when it began. -/
def cvcPassAs (d : Device) (v : CvcView) (point sel r n seq : Nat) : Device :=
  cvcLegacy (v.chans.foldl (fun d p => cvcOne d p.1 p.2 point sel r n seq) d) v point sel r n

/-- A record of `n` bytes passes a snoop point. -/
def cvcPass (d : Device) (point sel r n seq : Nat) : Device := cvcPassAs d (cvcView d) point sel r n seq

/-- Changes what completions in progress are still to meet. -/
def modViews (d : Device) (f : CvcView → CvcView) : Device :=
  { d with rings := d.rings.map (fun (p : Nat × Ring) => (p.1, { p.2 with view := f p.2.view })) }

/-- The TRAILER channel of a ring pair at a point, if one is enabled. -/
def trailerAt (d : Device) (point ring : Nat) : Option (Nat × Nat) :=
  (odStored d Od.CVC_CFG).find? (fun p => cvcEnabled p.2 && cvcTrailer p.2 && bf p.2 59 56 = point && bf p.2 54 47 = ring)

/-- The trailer of a completion with a BSEQ (R425): the record with TRL_CRC and TRL_ALIVE filled, and the slice with
B0 noted. -/
def cqTrailer (d : Device) (ring bseq r : Nat) : Device × Nat :=
  match trailerAt d PT_CQ_WRITE ring with
  | none => (d, r)
  | some (c, cfg) =>
    let b0 := (Map.getD d.cvc.chans c {}).b0.getD bseq
    let r := r ||| fields [(31, 24, (bf cfg 46 39 + subMod 32 bseq b0) % 256)]
    (chanMod d c (fun ch => { ch with b0 := some b0 }), r ||| fields [(63, 32, trailerCrc (cvcPoly cfg) r 64 % 2 ^ 32)])

/-! ### The decision trace (chapter 17) -/

abbrev TR_ADMIT : Nat := 1
abbrev TR_QUEUE : Nat := 2
abbrev TR_REJECT : Nat := 3
abbrev TR_COMPOSE : Nat := 4
abbrev TR_DISPATCH : Nat := 5
abbrev TR_COMMIT : Nat := 6
abbrev TR_KILL : Nat := 7
abbrev TR_PREEMPT : Nat := 8
abbrev TR_DEMOTE : Nat := 9
abbrev TR_PROMOTE : Nat := 10
abbrev TR_FALLBACK : Nat := 11
abbrev TR_SAMPLE : Nat := 12
abbrev TR_EVICT_PREFIX : Nat := 13
abbrev TR_EPOCH : Nat := 14
abbrev TR_FAULT : Nat := 15

/-- The kinds of Table 17.2 that carry a client and so pass the client and partition filters. -/
def traceHasClient (kind : Nat) : Bool :=
  !(kind = TR_COMPOSE || kind = TR_DISPATCH || kind = TR_KILL || kind = TR_EVICT_PREFIX || kind = TR_EPOCH)

/-- The slice `n` SCLK later, for the time of a record. -/
def laterSclk (d : Device) (n : Nat) : Device := { d with clk := { d.clk with rootcyc := d.clk.rootcyc + 4 * n } }

/-- A filter as it stands for the records of this SCLK: a write applies from the following SCLK on (R435). -/
def traceFilter (d : Device) (idx sub : Nat) : Nat :=
  if d.trace.filterSclk = d.sclk then (Map.find d.trace.filterOld (odKey idx sub)).getD (odGet d idx sub) else odGet d idx sub

/-- Keeps the value of a filter for the rest of the SCLK in which it is written. -/
def keepFilter (d : Device) (idx sub : Nat) : Device :=
  let old := if d.trace.filterSclk = d.sclk then d.trace.filterOld else []
  { d with trace := { d.trace with
      filterSclk := d.sclk, filterOld := Map.put old (odKey idx sub) (traceFilter d idx sub) } }

/-- The filters of R435. A FAULT record carries a client only when it names a sequence. -/
def traceWanted (d : Device) (kind handle client part : Nat) : Bool :=
  bit (traceFilter d Od.TRACE_KIND_MASK 0) kind &&
    (!traceHasClient kind || (kind = TR_FAULT && handle = 0) ||
      (bit (traceFilter d Od.TRACE_CLIENT_MAP (client / 64)) (client % 64) && bit (traceFilter d Od.TRACE_PART_MASK 0) part))

/-- A drop of R436, by cause: 0 ring full, 1 over 4 per SCLK, 2 export error, 3 uncorrectable word. -/
def traceDrop (d : Device) (cause n : Nat) : Device :=
  if n = 0 then d
  else let d := bumpBy d Od.TRACE_DROPS cause n
       { d with trace := { d.trace with gapNext := true } }

/-- Table 17.1. -/
def traceRecord (d : Device) (kind handle client part args : Nat) : Nat :=
  fields [(255, 208, d.tick), (207, 197, d.subTick), (196, 192, d.ident.index), (191, 188, kind),
    (187, 187, ofBool d.trace.gapNext), (183, 152, handle), (151, 140, client), (139, 134, part), (127, 0, args)]

/-- Records that the current window of 16 SCLK has taken. -/
def tracedNow (d : Device) : Nat := if d.trace.sclk = d.clk.rootcyc / 64 then d.trace.inSclk else 0

/-- Writes a record into the ring, subject to the filters, to 4 records per SCLK and to the ring's 131,072 places
(R434 to R436). The model's time moves by 16 SCLK: the records of such a window take its SCLKs in turn, four in each, and
one beyond the last is dropped (log entry 9). -/
def traceRec (d : Device) (kind handle client part args : Nat) : Device :=
  let n := tracedNow d
  let e := laterSclk d (n / 4)
  if !traceWanted e kind handle client part then d
  else if 64 ≤ n then traceDrop d 1 1
  else if 131072 ≤ d.trace.ring.length then traceDrop d 0 1
  else { d with trace := { d.trace with
         ring := d.trace.ring ++ [BitVec.ofNat 256 (traceRecord e kind handle client part args)],
         gapNext := false, sclk := d.clk.rootcyc / 64, inSclk := n + 1 } }

/-! ### The fault log (R371) -/

def FlogEntry.bits (e : FlogEntry) : Nat :=
  fields [(255, 192, e.tick), (191, 184, e.kind), (183, 179, e.slice), (175, 128, e.loc), (127, 96, e.handle),
    (95, 88, e.status), (87, 64, e.count), (63, 0, e.detail)]

/-- Client and partition of the sequence that a handle names here, for a FAULT record; 0 where none does (Table 17.1). -/
def handleOwner (d : Device) (handle : Nat) : Nat × Nat :=
  match d.seqs.find? (fun p => p.2.tcb.handle = handle && handle ≠ 0) with
  | some p => (p.2.tcb.client, p.2.tcb.partition)
  | none => (0, 0)

/-- Logs an event: folds it into the newest entry, or writes the next one. -/
def flogWrite (d : Device) (kind loc handle status detail : Nat) : Device :=
  let newest := Map.find d.faults.flog ((d.faults.flogHead + 2 ^ 32 - 1) % 64)
  let fold := match newest with
    | some e => e.kind = kind && e.loc = loc && d.tick - e.tick ≤ 1000
    | none => false
  if fold then
    let l := Map.mod d.faults.flog ((d.faults.flogHead + 2 ^ 32 - 1) % 64)
      (fun e => { e with count := satAdd (2 ^ 24 - 1) e.count 1 })
    { d with faults := { d.faults with flog := l } }
  else
    let full := 64 ≤ subMod 32 d.faults.flogHead (odGet d Od.FLOG_READ 0)
    let e : FlogEntry :=
      { tick := d.tick, kind := kind, slice := d.ident.index, loc := loc, handle := handle, status := status,
        count := 1, detail := detail }
    let l := Map.put d.faults.flog (d.faults.flogHead % 64) e
    let d := { d with faults := { d.faults with flog := l, flogHead := (d.faults.flogHead + 1) % 2 ^ 32 } }
    let o := handleOwner d handle
    let d := traceRec d TR_FAULT handle o.1 o.2
      (fields [(123, 116, kind), (115, 68, loc), (67, 60, status), (59, 28, detail)])
    if full then raiseCause d ALERT_FLOG_OVERRUN else d

/-- Raises a cause and logs it. -/
def alertLog (d : Device) (cause loc handle status detail : Nat) : Device :=
  flogWrite (raiseCause d cause) cause loc handle status detail

/-- SLICE_SUSPECT: the cause, and the log entry that names the slice (R381). -/
def suspectSlice (d : Device) (k : Nat) : Device :=
  alertLog { d with faults := { d.faults with suspects := (d.faults.suspects ++ [k]).dedup } } ALERT_SLICE_SUSPECT k 0 0 0

/-- A transfer to a slice has not been acknowledged for 10 TICK, and it will not be sent again (R381). -/
def suspectOnce (d : Device) (k : Nat) : Device :=
  if d.faults.suspects.contains k || !bit (odGet d Od.SLICE_ONLINE 0) k || k = d.ident.index then d else suspectSlice d k

/-- Handle of the sequence in a slot, for HANDLE of R371; 0 where none is concerned. -/
def slotHandle (d : Device) (slot : Nat) : Nat :=
  match Map.find d.seqs slot with | some q => q.tcb.handle | none => 0

/-! ### The outward state (R62, R66) -/

/-- FY_PRESENT as the host sees it. -/
def fyPresent (d : Device) : Bool := d.clk.present && d.clk.isoN

/-- FY_READY as the host sees it. -/
def fyReady (d : Device) : Bool := d.clk.ready && d.clk.isoN

/-- FY_IDLE: nothing outstanding on FAB_I, DSP, RNS or PGM; 1 while absent (Table 2.9). A command that is only reserved
is not on DSP yet, and one that is DRAINING has been answered there (Table 7.3). -/
def fyIdle (d : Device) : Bool :=
  !fyPresent d || (d.fabi.outstanding.isEmpty && d.ctx.moves.isEmpty && d.rns.classT.isEmpty && d.rns.classC.isEmpty
    && d.inflight.all (fun p => p.2.istate = .reserved || p.2.istate = .draining))

/-- FY_ALERT pulled low by this slice (R63, R66). -/
def fyAlert (d : Device) : Bool := fyPresent d && alertLow d

/-! ### Running a command -/

/-- What every command's meaning answers: the slice after it, the queue as it was. -/
def next (s : State) (d : Device) : Host.Outcome State Fault Refusal := .next { s with dev := d }

/-- Commands of the data plane act only while FY_READY is 1; before that, what arrives is lost (R37, R67, R68). -/
def whenReady (d : Device) (f : Device → Device) : Device := if fyReady d then f d else d

/-- The slice serves FAB_T while FY_PRESENT is 1 (R66, R68). -/
def whenPresent (d : Device) (f : Device → Device) : Device := if fyPresent d then f d else d

/-! ### Updates of one unit -/

def Device.modClk (d : Device) (f : Clk → Clk) : Device := { d with clk := f d.clk }
def Device.modPower (d : Device) (f : Power → Power) : Device := { d with power := f d.power }
def Device.modTurn (d : Device) (f : Turnstile → Turnstile) : Device := { d with turn := f d.turn }
def Device.modAgg (d : Device) (f : Aggregation → Aggregation) : Device := { d with agg := f d.agg }
def Device.modCtx (d : Device) (f : Ctx → Ctx) : Device := { d with ctx := f d.ctx }
def Device.modFaults (d : Device) (f : Faults → Faults) : Device := { d with faults := f d.faults }
def Device.modTrace (d : Device) (f : Trace → Trace) : Device := { d with trace := f d.trace }
def Device.modMgmt (d : Device) (f : Mgmt → Mgmt) : Device := { d with mgmt := f d.mgmt }
def Device.modCvc (d : Device) (f : Cvc → Cvc) : Device := { d with cvc := f d.cvc }

def Device.ring (d : Device) (p : Nat) : Ring := Map.getD d.rings p {}
def Device.modRing (d : Device) (p : Nat) (f : Ring → Ring) : Device :=
  { d with rings := Map.put d.rings p (f (d.ring p)) }

def Device.seq? (d : Device) (slot : Nat) : Option Seq := Map.find d.seqs slot
def Device.modSeq (d : Device) (slot : Nat) (f : Seq → Seq) : Device := { d with seqs := Map.mod d.seqs slot f }
def Device.putSeq (d : Device) (slot : Nat) (q : Seq) : Device := { d with seqs := Map.put d.seqs slot q }

def Device.group (d : Device) (g : Nat) : Group := Map.getD d.groups g {}
def Device.modGroup (d : Device) (g : Nat) (f : Group → Group) : Device :=
  { d with groups := Map.put d.groups g (f (d.group g)) }

def Device.tile (d : Device) (t : Nat) : Tile := Map.getD d.tiles t {}
def Device.modTile (d : Device) (t : Nat) (f : Tile → Tile) : Device :=
  { d with tiles := Map.put d.tiles t (f (d.tile t)) }

def Device.client (d : Device) (c : Nat) : Acct := Map.getD d.acct c {}
def Device.modClient (d : Device) (c : Nat) (f : Acct → Acct) : Device :=
  { d with acct := Map.put d.acct c (f (d.client c)) }

def Device.modInflight (d : Device) (i : Nat) (f : InFlight → InFlight) : Device :=
  { d with inflight := Map.mod d.inflight i f }

end Sys2Proof.Machine
end

