-- ==== Sys2Proof/Machine/Charges.lean ====
section
/-! DEFINITION. Charges to a client's accounting record (R130, R136, Table 5.4). -/

namespace Sys2Proof.Machine

/-- A D field of `w` bits after a charge, and whether it passed all-ones. -/
def addD (w a n : Nat) : Nat × Bool := (min (2 ^ w - 1) (a + n), decide (2 ^ w - 1 < a + n))

def chargeNs (d : Device) (c n : Nat) : Device :=
  d.modClient c (fun a => { a with dNs := (addD 40 a.dNs n).1, dSat := a.dSat || (addD 40 a.dNs n).2 })

def chargeBytes (d : Device) (c n : Nat) : Device :=
  d.modClient c (fun a => { a with dBytes := (addD 40 a.dBytes n).1, dSat := a.dSat || (addD 40 a.dBytes n).2 })

def chargeUj (d : Device) (c n : Nat) : Device :=
  d.modClient c (fun a => { a with dUj := (addD 28 a.dUj n).1, dSat := a.dSat || (addD 28 a.dUj n).2 })

/-- Lane energy of `n` elements: whole microjoules move on, the rest stays in E_REM_FJ. -/
def chargeLanes (d : Device) (c n : Nat) : Device :=
  let fj := n * odGet d Od.LANE_FJ_PER_ELEMENT 0
  let all := (d.client c).eRemFj + fj
  let d := chargeUj (d.modClient c (fun a => { a with eRemFj := all % 10 ^ 9 })) c (all / 10 ^ 9)
  d.modPower (fun p => { p with laneFj := p.laneFj + fj })

/-- Tokens committed: TOK_USED rises, and the token grant of a capped client falls, stopping at 0 (R134). -/
def chargeTokens (d : Device) (c n : Nat) : Device :=
  let capped : Bool := odGetC d Od.CLIENT_MAX_TPS c ≠ 0
  d.modClient c (fun a => { a with
    tokUsed := (addD 24 a.tokUsed n).1, dSat := a.dSat || (addD 24 a.tokUsed n).2
    tokGrant := if capped then a.tokGrant - n else a.tokGrant })

end Sys2Proof.Machine
end

