-- ==== Sys2Proof/Machine/Operands.lean ====
section
/-! DEFINITION. Operand forms: the codes and bit layouts of the records that commands carry and the slice writes. -/

namespace Sys2Proof.Machine

/-! ### Selection descriptors (Table 10.2) -/

namespace Sel
def k (x : Nat) : Nat := bf x 63 48
def lists (x : Nat) : Nat := bf x 47 37
def idw (x : Nat) : Nat := bf x 36 35
def dir (x : Nat) : Bool := bit x 34
def approx (x : Nat) : Bool := bit x 33
def dedupe (x : Nat) : Bool := bit x 32
def tomb (x : Nat) : Bool := bit x 31
def toResult (x : Nat) : Bool := bit x 30
/-- Bytes of an entry in a result body (R292). -/
def width (x : Nat) : Nat := if idw x = 2 then 16 else 8
end Sel

/-! ### Codes -/

/-- Table 4.1. -/
def SeqState.code : SeqState → Nat
  | .free => 0 | .arrived => 1 | .queued => 2 | .admitted => 3 | .prefill => 4 | .decode => 5 | .waiting => 6
  | .parked => 7 | .paused => 8 | .finishing => 9 | .done => 10 | .faulted => 11 | .aborted => 12

def SeqState.ofCode (c : Nat) : SeqState :=
  if c = 1 then .arrived else if c = 2 then .queued else if c = 3 then .admitted else if c = 4 then .prefill
  else if c = 5 then .decode else if c = 6 then .waiting else if c = 7 then .parked else if c = 8 then .paused
  else if c = 9 then .finishing else if c = 10 then .done else if c = 11 then .faulted else if c = 12 then .aborted
  else .free

/-! ### Handles (R103) -/

def mkHandle (slice slot gen : Nat) : Nat := fields [(31, 27, slice), (26, 11, slot), (10, 0, gen)]
def handleSlice (h : Nat) : Nat := bf h 31 27
def handleSlot (h : Nat) : Nat := bf h 26 11
def handleGen (h : Nat) : Nat := bf h 10 0

/-! ### Submission records (Tables 3.4 and 3.6) -/

namespace Sq
def hseq (r : Nat) : Nat := bf r 1023 992
def opcode (r : Nat) : Nat := bf r 991 984
def flags (r : Nat) : Nat := bf r 983 976
def stream (r : Nat) : Bool := bit r 976
def singleTurn (r : Nat) : Bool := bit r 977
def byHseq (r : Nat) : Bool := bit r 978
def force (r : Nat) : Bool := bit r 979
def noIrq (r : Nat) : Bool := bit r 980
def client (r : Nat) : Nat := bf r 975 964
def userTag (r : Nat) : Nat := bf r 959 896
/-- PROMPT_ADDR, IMAGE_ADDR or DESC_ADDR -/
def addr (r : Nat) : Nat := bf r 895 832
def toklogAddr (r : Nat) : Nat := bf r 831 768
def paramAddr (r : Nat) : Nat := bf r 767 704
/-- RESULT_ADDR or VALUE -/
def resultAddr (r : Nat) : Nat := bf r 703 640
def cls (r : Nat) : Nat := bf r 639 638
def model (r : Nat) : Nat := bf r 637 630
def adapter (r : Nat) : Nat := bf r 629 618
def deadline (r : Nat) : Nat := bf r 607 576
def promptLen (r : Nat) : Nat := bf r 575 553
def maxTokens (r : Nat) : Nat := bf r 543 521
/-- FLOW_KEY or TARGET_HSEQ -/
def flowKey (r : Nat) : Nat := bf r 511 480
def paramLen (r : Nat) : Nat := bf r 479 464
/-- RESULT_LEN, IMAGE_LEN or DESC_LEN -/
def resultLen (r : Nat) : Nat := bf r 447 416
def handle (r : Nat) : Nat := bf r 415 384
def odIndex (r : Nat) : Nat := bf r 383 368
def odSub (r : Nat) : Nat := bf r 367 360

/-- The bits an opcode uses: the common fields, the trailer, and its body fields and FLAGS (Tables 3.4 to 3.6). All
other bits are zero in a well-formed record (check 2 of Table 3.3). -/
def usedMask (op : Nat) : Nat :=
  let ones (hi lo : Nat) : Nat := (2 ^ (hi + 1 - lo) - 1) <<< lo
  let common := ones 1023 984 ||| ones 980 980 ||| ones 975 964 ||| ones 959 896 ||| ones 63 24
  let turn := ones 895 832 ||| ones 831 768 ||| ones 767 704 ||| ones 607 576 ||| ones 575 553 ||| ones 543 521
    ||| ones 479 464 ||| ones 976 976
  common |||
  (if op = 0x01 then turn ||| ones 977 977 ||| ones 703 640 ||| ones 639 638 ||| ones 637 630 ||| ones 629 618
      ||| ones 511 480 ||| ones 447 416
   else if op = 0x02 then turn ||| ones 415 384
   else if op = 0x03 then ones 978 978 ||| ones 511 480 ||| ones 415 384
   else if op = 0x05 || op = 0x06 then ones 415 384
   else if op = 0x07 then ones 895 832 ||| ones 447 416 ||| ones 415 384
   else if op = 0x08 then ones 895 832 ||| ones 447 416 ||| ones 979 979
   else if op = 0x09 then ones 895 832 ||| ones 447 416
   else if op = 0x0A then ones 703 640 ||| ones 383 368 ||| ones 367 360
   else 0)

/-- Check 2 of Table 3.3. For ABORT, HANDLE is used without BY_HSEQ and TARGET_HSEQ with it. CLASS 3 is refused
here too (Table 3.6). -/
def formatOk (r : Nat) : Bool :=
  let op := opcode r
  1 ≤ op && op ≤ 0x0A && r &&& usedMask op = r
    && !(op = 0x03 && byHseq r && handle r ≠ 0) && !(op = 0x03 && !byHseq r && flowKey r ≠ 0)
    && !(op = 0x01 && cls r = 3)
end Sq

/-! ### Completion records (Table 3.8) -/

abbrev CT_ADMITTED : Nat := 1
abbrev CT_REFUSED : Nat := 2
abbrev CT_ACK : Nat := 3
abbrev CT_TOKENS : Nat := 4
abbrev CT_TURN_END : Nat := 5
abbrev CT_END : Nat := 6
abbrev CT_SAVED : Nat := 7
abbrev CT_RESTORED : Nat := 8
abbrev CT_SPAWNED : Nat := 9

/-! ### Budget, telemetry, commands to tiles -/

namespace Pwr
def seq (r : Nat) : Nat := bf r 255 224
def dieMw (r : Nat) : Nat := bf r 223 192
def fyMw (r : Nat) : Nat := bf r 191 176
def headroom (r : Nat) : Int := toSigned 16 (bf r 175 160)
def tempMax (r : Nat) : Int := toSigned 16 (bf r 159 144)
end Pwr

/-! ### Work-list entries (Tables 6.1 and 6.2) -/

abbrev K_NOP : Nat := 0
abbrev K_PREFILL : Nat := 1
abbrev K_DECODE : Nat := 2
abbrev K_VERIFY : Nat := 3
abbrev K_COMPACT : Nat := 4
abbrev K_EMBED : Nat := 5
abbrev K_COARSE : Nat := 6
abbrev K_SCAN : Nat := 7
abbrev K_REFINE : Nat := 8
abbrev K_RERANK : Nat := 9

def WlEntry.isStage (e : WlEntry) : Bool := 5 ≤ e.kind && e.kind ≤ 9
def WlEntry.isDecode (e : WlEntry) : Bool := e.kind = K_DECODE || e.kind = K_VERIFY

/-- Token cost of R154. -/
def WlEntry.tokens (e : WlEntry) : Nat :=
  if e.kind = K_PREFILL then e.ntok else if e.kind = K_DECODE then 1 else if e.kind = K_VERIFY then e.nodes + 1 else 0

/-- PAGE_SIZE of Table 6.1. -/
def pageSizeCode (p : Nat) : Nat := if p = 32 then 1 else if p = 64 then 2 else 0

/-- Table 6.1, with the fields that the kind uses (R151). A NOP is all zero but for its CHK. -/
def WlEntry.bits (e : WlEntry) : Nat :=
  let paged := e.kind = K_PREFILL || e.kind = K_DECODE || e.kind = K_VERIFY || e.kind = K_COMPACT
  if e.kind = K_NOP then withChk 0 64
  else withChk (fields [(511, 480, e.handle), (479, 476, e.kind), (475, 474, e.logitMode),
    (473, 468, ofBool e.lastChunk + 2 * ofBool e.tree + 4 * ofBool e.rerun), (467, 461, e.nodes),
    (460, 459, if paged then pageSizeCode e.pageTokens else 0), (447, 424, e.pos), (423, 400, e.tokenIn),
    (399, 384, e.ntok), (383, 352, e.tentPage), (351, 346, e.tentOff), (345, 334, e.adapter),
    (333, 327, e.ntok >>> 16), (319, 256, e.ptab), (255, 192, e.inAddr), (191, 128, e.outAddr),
    (127, 64, e.argAddr)]) 64

/-- Table 2.3. -/
def cmdMessage (tag wlAddr wlCount tile group part model prio step : Nat) : Nat :=
  withChk (fields [(511, 480, tag), (479, 416, wlAddr), (415, 400, wlCount), (399, 388, tile), (387, 380, group),
    (379, 374, part), (373, 366, model), (365, 364, prio), (63, 32, step)]) 64

/-- The KILL message of R41. -/
def killMessage (tag tile : Nat) : Nat := withChk (fields [(127, 96, tag), (95, 84, tile)]) 16

/-- The descriptor of R53. -/
def pgmMessage (id part spill bytes src dst srcAddr dstAddr : Nat) : Nat :=
  withChk (fields [(511, 496, id), (495, 490, part), (489, 489, spill), (479, 448, bytes), (447, 416, src),
    (415, 384, dst), (383, 320, srcAddr), (319, 256, dstAddr)]) 64

/-- The record of R59. -/
def telemetryMessage (seqEcho powerMw laneUj stepEst busy flags : Nat) : Nat :=
  withChk (fields [(255, 224, seqEcho), (223, 208, powerMw), (207, 176, laneUj), (175, 144, stepEst),
    (143, 128, busy), (127, 120, flags)]) 32

end Sys2Proof.Machine

namespace Sys2Proof

open Sys2Proof.Machine

/-- Table 5.1. -/
def Status.code : Status → Nat
  | .ok => 0x00 | .partialRes => 0x01 | .fewer => 0x02 | .deadlineMissed => 0x03 | .fallbackUsed => 0x04
  | .noValidToken => 0x05 | .rejQuota => 0x10 | .rejCapacity => 0x11 | .rejInfeasible => 0x12 | .rejModel => 0x13
  | .rejFormat => 0x14 | .rejSealedWrite => 0x15 | .rejRngTable => 0x16 | .faultTile => 0x20 | .faultState => 0x21
  | .faultSliceLost => 0x22 | .faultPageLost => 0x23 | .abortedHost => 0x30 | .expiredTtl => 0x31
  | .staleHandle => 0x32

def Status.ofCode (c : Nat) : Status :=
  if c = 0x01 then .partialRes else if c = 0x02 then .fewer else if c = 0x03 then .deadlineMissed
  else if c = 0x04 then .fallbackUsed else if c = 0x05 then .noValidToken else if c = 0x10 then .rejQuota
  else if c = 0x11 then .rejCapacity else if c = 0x12 then .rejInfeasible else if c = 0x13 then .rejModel
  else if c = 0x14 then .rejFormat else if c = 0x15 then .rejSealedWrite else if c = 0x16 then .rejRngTable
  else if c = 0x20 then .faultTile else if c = 0x21 then .faultState else if c = 0x22 then .faultSliceLost
  else if c = 0x23 then .faultPageLost else if c = 0x30 then .abortedHost else if c = 0x31 then .expiredTtl
  else if c = 0x32 then .staleHandle else .ok

/-- CLASS of Tables 3.6 and 4.4: 0 G; 1 E; 2 R. -/
def Cls.code : Cls → Nat
  | .g => 0 | .e => 1 | .r => 2

def Cls.ofCode (c : Nat) : Cls := if c = 0 then .g else if c = 1 then .e else .r

/-- The one completion written for a consumed record (R79, Table 3.8). -/
def Compl.isAnswer (c : Compl) : Bool :=
  c.ctype = CT_ADMITTED || c.ctype = CT_REFUSED || c.ctype = CT_ACK || c.ctype = CT_SAVED || c.ctype = CT_RESTORED

def Compl.bits (c : Compl) (bseq hseqEcho : Nat) : Nat :=
  fields [(511, 480, bseq), (479, 448, hseqEcho), (447, 384, c.userTag), (383, 352, c.handle),
    (351, 344, c.status.code), (343, 336, c.ctype), (335, 324, c.client), (319, 297, c.tokenEnd),
    (287, 256, c.hseqOf), (255, 192, c.arg0), (191, 128, c.arg1), (127, 64, c.arg2)]

end Sys2Proof
end

