-- ==== Sys2Proof/Machine/Pages.lean ====
section
/-! DEFINITION. The context directory (chapter 8): frames, page identifiers, page tables, moves, references and the
prefix table. What a move's return or a commit sets off in other units stands in Machine/Tasks.lean and above. -/

namespace Sys2Proof.Machine

/-! ### Pools and identifiers (R209, R210) -/

def frameBytes (d : Device) : Nat := odGet d Od.CTX_FRAME_BYTES 0

def pageNone : Nat := 0xFFFFFFFF
def t0PageId (tile frame : Nat) : Nat := fields [(31, 30, 0), (29, 18, tile), (17, 0, frame)]
def t1PageId (f : Nat) : Nat := fields [(31, 30, 1), (29, 0, f)]
def t2PageId (f : Nat) : Nat := fields [(31, 30, 2), (29, 0, f)]

def t0Addr (d : Device) (tile f : Nat) : Nat :=
  odGet d Od.CTX_T0_FABRIC_BASE 0 + tile * odGet d Od.CTX_T0_STRIDE 0 + odGet d Od.CTX_T0_OFFSET 0 + f * frameBytes d

/-- Frames of a lost slice's pools that a rebuilt sequence borrows (R385) stand in the directories above 2^30. -/
def borrowedFrame (slice f : Nat) : Nat := 2 ^ 30 * (slice + 1) + f
def isBorrowed (f : Nat) : Bool := 2 ^ 30 ≤ f
/-- The slice whose pool a borrowed frame belongs to. -/
def lender (f : Nat) : Nat := f / 2 ^ 30 - 1

def t1Addr (d : Device) (f : Nat) : Nat :=
  (if isBorrowed f then Config.poolBase 1 (lender f) else odGet d Od.CTX_T1_BASE 0) + f % 2 ^ 30 * frameBytes d
def t2Addr (d : Device) (f : Nat) : Nat :=
  (if isBorrowed f then Config.poolBase 2 (lender f) else odGet d Od.CTX_T2_BASE 0) + f % 2 ^ 30 * frameBytes d

/-- P of R208. -/
def pageTokens (d : Device) (v : Nat) : Nat := max 1 (odGet d Od.PAGE_TOKENS v)

/-- The least number from `lo` below `hi` that is not in `used` (free choice of R224 and of the pools: the lowest,
log entry 10). -/
def leastNotIn (used : List Nat) : Nat → Nat → Nat → Option Nat
  | 0, _, _ => none
  | fuel + 1, lo, hi => if hi ≤ lo then none else if used.contains lo then leastNotIn used fuel (lo + 1) hi else some lo

def leastFree (used : List Nat) (hi : Nat) : Option Nat := leastNotIn used (used.length + 1) 0 hi

/-- Frames of the slice's own pools that others hold since it was lost (R393), by tier. -/
def lentFrames (d : Device) (tier : Nat) : List Nat :=
  (((Map.vals d.ctx.lent).flatten).filter (fun p => p / 2 ^ 30 = tier)).map (· % 2 ^ 30)

/-- A descriptor whose destination lies farther from the tiles (R190). -/
def Move.isDemotion (m : Move) : Bool :=
  match m.kind with
  | .writeback | .spill => true
  | _ => false

def Move.isPromotion (m : Move) : Bool :=
  match m.kind with
  | .promote | .promoteCopy _ | .fill | .fillT0 => true
  | _ => false

def Move.isWeights (m : Move) : Bool :=
  match m.kind with
  | .weights _ _ _ => true
  | _ => false

/-- The move has a T2 directory entry. -/
def Move.hasT2 (m : Move) : Bool :=
  match m.kind with
  | .spill | .fill | .fillT0 | .restoreCopy => true
  | _ => false

/-- Descriptors outstanding or waiting. -/
def allMoves (d : Device) : List Move := Map.vals d.ctx.moves ++ d.ctx.moveQueue

/-- Frames of the slice's own pool of a tier that a descriptor not yet returned names: they are in no pool (R219). -/
def movingFrames (d : Device) (tier : Nat) : List Nat :=
  let own (f : Nat) : Nat := if tier = 1 then t1Addr d f else t2Addr d f
  ((((allMoves d).map (fun m => [(m.srcPage, m.srcAddr), (m.dstPage, m.dstAddr)])).flatten).filter (fun x =>
    bf x.1 31 30 = tier && x.2 = own (x.1 % 2 ^ 30))).map (fun x => x.1 % 2 ^ 30)

/-- T0 frames of a tile, of page identifiers. -/
def framesOn (tile : Nat) (ps : List Nat) : List Nat :=
  (ps.filter (fun p => p / 2 ^ 18 = tile)).map (· % 2 ^ 18)

/-- T0 frames of a tile that a descriptor not yet returned, or a command in flight, may use (R219). -/
def busyT0 (d : Device) (tile : Nat) : List Nat :=
  framesOn tile (((allMoves d).map (fun m => [m.srcPage, m.dstPage])).flatten
    ++ (d.inflight.map (fun p => (p.2.entries.map WlEntry.frames).flatten)).flatten)

def usedT1 (d : Device) : List Nat :=
  ((d.ctx.dir1.map (fun p => p.2.home) ++ (d.ctx.mirrorOut.map (fun p => (p.2.map Prod.snd).flatten)).flatten).filter
    (fun f => !isBorrowed f) ++ d.ctx.badT1 ++ lentFrames d 1 ++ movingFrames d 1).dedup
def usedDir1 (d : Device) : List Nat :=
  (Map.keys d.ctx.dir1 ++ Map.keys d.ctx.mirrorOut
    ++ ((allMoves d).filter (fun m => m.isDemotion || m.isPromotion)).map (fun m => m.dir)).dedup
def usedT2 (d : Device) : List Nat :=
  ((d.ctx.dir2.map (fun p => p.2.frame)).filter (fun f => !isBorrowed f) ++ d.ctx.badT2 ++ lentFrames d 2
    ++ movingFrames d 2).dedup
def usedDir2 (d : Device) : List Nat := Map.keys d.ctx.dir2 ++ ((allMoves d).filter Move.hasT2).map (fun m => m.t2)
def usedT0 (d : Device) (tile : Nat) : List Nat :=
  ((d.ctx.dir1.filter (fun p => p.2.t0 ≠ .none && p.2.t0Tile = tile)).map (fun p => p.2.t0Frame)
    ++ (d.seqs.map (fun p => if p.2.ctx.affTile = some tile then p.2.ctx.scratch else [])).flatten
    ++ (d.tile tile).bad ++ busyT0 d tile).dedup
def usedLeaves (d : Device) : List Nat := (d.seqs.map (fun p => Map.vals p.2.ctx.leaves)).flatten
def freeLeafCount (d : Device) : Nat := odGet d Od.CTX_LEAF_COUNT 0 - (usedLeaves d).length

def freeT1Frame (d : Device) : Option Nat := leastFree (usedT1 d) (odGet d Od.CTX_T1_FRAMES 0)
def freeDir1 (d : Device) : Option Nat := leastFree (usedDir1 d) 131072
def freeT2Frame (d : Device) : Option Nat := leastFree (usedT2 d) (odGet d Od.CTX_T2_FRAMES 0)
def freeDir2 (d : Device) : Option Nat := leastFree (usedDir2 d) 524288

/-- A RESTORE needs a T2 frame and directory entry for each page of its image (R396). -/
def imageRoom (d : Device) (im : ImageRef) : Bool :=
  im.npages ≤ odGet d Od.CTX_T2_FRAMES 0 - (usedT2 d).length && im.npages ≤ 524288 - (usedDir2 d).length

def freeT1Count (d : Device) : Nat := odGet d Od.CTX_T1_FRAMES 0 - (usedT1 d).length
def freeDir1Count (d : Device) : Nat := 131072 - (usedDir1 d).length
def freeT0Count (d : Device) (tile : Nat) : Nat := odGet d Od.CTX_T0_FRAMES 0 - (usedT0 d tile).length

/-- Frames of a tile that are held for requesters of room other than the one given (R194). -/
def heldFor (d : Device) (tile slot : Nat) : Nat :=
  sumBy (fun p => sumBy RoomReq.held (p.2.rooms.filter (fun r => r.tile = tile && r.slot ≠ slot))) d.groups

/-- A T0 frame of a tile that a sequence may take. -/
def freeT0Frame (d : Device) (tile slot : Nat) : Option Nat :=
  if freeT0Count d tile ≤ heldFor d tile slot then none else leastFree (usedT0 d tile) (odGet d Od.CTX_T0_FRAMES 0)

/-- A sequence has taken a frame of a tile on which it asked for room. -/
def useRoom (d : Device) (tile slot : Nat) : Device :=
  { d with groups := d.groups.map (fun p => (p.1, { p.2 with
      rooms := (p.2.rooms.map (fun r =>
        if r.slot = slot && r.tile = tile then { r with need := r.need - 1, held := r.held - 1 } else r)).filter
          (fun r => r.need ≠ 0 || !r.victims.isEmpty) })) }

/-- A T0 frame of a tile has come free by the eviction of a victim: it is held for the requester that the victim was
evicted for (R194). -/
def grantRoom (d : Device) (tile victim : Nat) : Device :=
  { d with groups := d.groups.map (fun p => (p.1, { p.2 with
      rooms := p.2.rooms.map (fun r =>
        if r.tile = tile && r.victims.contains victim && r.held < r.need then { r with held := r.held + 1 } else r) })) }

/-- The least base of `n` contiguous free T0 frames (R227). -/
def contiguousT0 (used : List Nat) (n hi : Nat) : Nat → Nat → Option Nat
  | 0, _ => none
  | fuel + 1, b =>
    if hi < b + n then none
    else if (List.range n).all (fun i => !used.contains (b + i)) then some b
    else contiguousT0 used n hi fuel (b + 1)

def cachedCount (d : Device) : Nat := (d.ctx.dir1.filter (fun p => p.2.pstate = .cached)).length

/-- FREE_PAGES of R223. -/
def freePages (d : Device) : Nat :=
  min 0xFFFFFF (min (freeT1Count d + cachedCount d) (freeDir1Count d + cachedCount d))

/-! ### Directory updates -/

def modDir1 (d : Device) (i : Nat) (f : Dir1 → Dir1) : Device :=
  d.modCtx (fun c => { c with dir1 := Map.mod c.dir1 i f })
def putDir1 (d : Device) (i : Nat) (e : Dir1) : Device := d.modCtx (fun c => { c with dir1 := Map.put c.dir1 i e })
def delDir1 (d : Device) (i : Nat) : Device := d.modCtx (fun c => { c with dir1 := Map.del c.dir1 i })
def modDir2 (d : Device) (i : Nat) (f : Dir2 → Dir2) : Device :=
  d.modCtx (fun c => { c with dir2 := Map.mod c.dir2 i f })
def putDir2 (d : Device) (i : Nat) (e : Dir2) : Device := d.modCtx (fun c => { c with dir2 := Map.put c.dir2 i e })
def delDir2 (d : Device) (i : Nat) : Device := d.modCtx (fun c => { c with dir2 := Map.del c.dir2 i })
def dir1? (d : Device) (i : Nat) : Option Dir1 := Map.find d.ctx.dir1 i

def modBlk (d : Device) (slot : Nat) (f : CtxBlk → CtxBlk) : Device :=
  d.modSeq slot (fun q => { q with ctx := f q.ctx })

/-- A command that is not FREE may read or write the page of an entry (R219). -/
def dirBusy (d : Device) (i : Nat) : Bool := d.inflight.any (fun p => p.2.entries.any (fun e => e.dirs.contains i))

/-- A holder of entry `i` has the copy's tile as its AFF_TILE. -/
def copyUsed (d : Device) (i tile : Nat) : Bool :=
  d.seqs.any (fun p => p.2.ctx.affTile = some tile && p.2.ctx.pages.any (fun r => r.home = .t1 i))

def T0State.code : T0State → Nat
  | .none => 0 | .clean => 1 | .dirty => 2 | .moving => 3

def PState.code : PState → Nat
  | .held => 1 | .cached => 2 | .filling => 3 | .spilling => 4

/-- Table 8.1. -/
def Dir1.bits (e : Dir1) : Nat :=
  fields [(255, 192, e.crc64), (191, 162, e.home), (161, 150, e.t0Tile), (149, 132, e.t0Frame), (131, 130, e.t0.code),
    (129, 127, e.pstate.code), (126, 111, e.refs), (110, 104, e.fill), (103, 103, ofBool e.hashed), (102, 97, e.part),
    (96, 89, e.model), (88, 77, e.adapter), (76, 57, e.prefixIdx), (56, 25, e.keepDue)]

/-- The entry that Table 8.1 lays out; none for FREE. -/
def Dir1.ofBits (x : Nat) : Option Dir1 :=
  let p := bf x 129 127
  if p = 0 then none
  else some
    { crc64 := bf x 255 192, home := bf x 191 162, t0Tile := bf x 161 150, t0Frame := bf x 149 132,
      t0 := if bf x 131 130 = 1 then .clean else if bf x 131 130 = 2 then .dirty
        else if bf x 131 130 = 3 then .moving else .none,
      pstate := if p = 2 then .cached else if p = 3 then .filling else if p = 4 then .spilling else .held,
      refs := bf x 126 111, fill := bf x 110 104, hashed := bit x 103, part := bf x 102 97, model := bf x 96 89,
      adapter := bf x 88 77, prefixIdx := bf x 76 57, keepDue := bf x 56 25 }

/-! ### Pages of a sequence -/

def pageAt (q : Seq) (k : Nat) : PageRef := q.ctx.pages.getD k {}

def setPage (d : Device) (slot k : Nat) (f : PageRef → PageRef) : Device :=
  modBlk d slot (fun c => { c with pages := modAt c.pages k f })

/-- The T0 copy that the sequence's page-table entry names, as (tile, frame). -/
def t0Copy (d : Device) (r : PageRef) : Option (Nat × Nat) :=
  if !r.t0 then none
  else match r.home with
    | .t1 i =>
      match dir1? d i with
      | some e => if e.t0 = .none then none else some (e.t0Tile, e.t0Frame)
      | none => none
    | _ => none

/-- PAGES_T0, PAGES_T1 and PAGES_T2 of Table 8.6. -/
def pagesT0 (d : Device) (q : Seq) : Nat := (q.ctx.pages.filter (fun r => (t0Copy d r).isSome)).length
def pagesT1 (q : Seq) : Nat := (q.ctx.pages.filter (fun r => match r.home with | .t1 _ => true | _ => false)).length
def pagesT2 (q : Seq) : Nat := (q.ctx.pages.filter (fun r => match r.home with | .t2 _ => true | _ => false)).length

/-- AFF_VALID is cleared when PAGES_T0 reaches 0 (R224); a tree scratch stands on AFF_TILE and goes with it. -/
def affUpdate (d : Device) (slot : Nat) : Device :=
  match d.seq? slot with
  | some q => if pagesT0 d q = 0 then modBlk d slot (fun c => { c with affTile := none, scratch := [] }) else d
  | none => d

/-- Page k is present for R147 (R218). -/
def pagePresent (d : Device) (q : Seq) (k : Nat) : Bool :=
  match (pageAt q k).home with
  | .t1 i =>
    match dir1? d i with
    | some e => (e.t0 = .clean || e.t0 = .dirty) && q.ctx.affTile = some e.t0Tile && (pageAt q k).t0
        && Map.has q.ctx.leaves (k / 512)
    | none => false
  | _ => false

/-- Pages below a context length. -/
def pagesBelow (d : Device) (q : Seq) (len : Nat) : Nat := ceilDiv len (pageTokens d q.version)

/-- Every page that the sequence's next step names is present: those below CLEN, or below RECOMPUTE_FROM while a
re-prefill is due (R218, R239). -/
def pagesReady (d : Device) (q : Seq) : Bool :=
  q.ctx.ptabWrites = 0 &&
    (List.range (pagesBelow d q (if q.ctx.recompute then q.ctx.recomputeFrom else q.ctx.clen))).all (pagePresent d q)

/-! ### Page table and turn list (R214 to R216) -/

def ptabRoot (d : Device) (slot : Nat) : Nat := odGet d Od.CTX_PTAB_BASE 0 + slot * 16384

def homePageId (d : Device) : Home → Nat
  | .t1 i => match dir1? d i with | some e => t1PageId e.home | none => pageNone
  | .t2 i => match Map.find d.ctx.dir2 i with | some e => t2PageId e.frame | none => pageNone
  | .none => pageNone

/-- Table 8.4. -/
def ptabEntry (d : Device) (q : Seq) (k : Nat) : Nat :=
  fields [(63, 32, match t0Copy d (pageAt q k) with | some (t, f) => t0PageId t f | none => pageNone),
    (31, 0, homePageId d (pageAt q k).home)]

def leafAddr (d : Device) (l : Nat) : Nat := odGet d Od.CTX_LEAF_BASE 0 + l * 4096

def ptabWrite (d : Device) (slot addr data : Nat) (len : Nat := 8) : Device :=
  fabiWrite (modBlk d slot (fun c => { c with ptabWrites := c.ptabWrites + 1 })) (.pageTable slot) addr len data

/-- The root of a new record names no leaf (R214). -/
def clearRoot (d : Device) (slot : Nat) : Device := ptabWrite d slot (ptabRoot d slot) 0 4096

/-- The leaves of a sequence are returned: its root entries name none (R214, R215). -/
def dropLeaves (d : Device) (slot : Nat) : Device :=
  match d.seq? slot with
  | none => d
  | some q =>
    (Map.keys q.ctx.leaves).foldl (fun d k => ptabWrite d slot (ptabRoot d slot + 8 * k) 0)
      (modBlk d slot (fun c => { c with leaves := [] }))

/-- Takes a leaf for page k where the sequence has none yet and the pool has one. -/
def takeLeaf (d : Device) (slot k : Nat) : Device :=
  match d.seq? slot with
  | none => d
  | some q =>
    if Map.has q.ctx.leaves (k / 512) then d
    else match leastFree (usedLeaves d) (odGet d Od.CTX_LEAF_COUNT 0) with
      | none => d
      | some l =>
        ptabWrite (modBlk d slot (fun c => { c with leaves := Map.put c.leaves (k / 512) l })) slot
          (ptabRoot d slot + 8 * (k / 512)) (leafAddr d l)

/-- Writes the page-table entry of page k (R215); with no leaf free the write waits for one. -/
def writePtab (d : Device) (slot k : Nat) : Device :=
  let d := takeLeaf d slot k
  match d.seq? slot with
  | none => d
  | some q =>
    match Map.find q.ctx.leaves (k / 512) with
    | none => d
    | some l => ptabWrite d slot (leafAddr d l + 8 * (k % 512)) (ptabEntry d q k)

/-- Table 8.5. -/
def Turn.bits (t : Turn) : Nat :=
  fields [(255, 192, t.promptAddr), (191, 128, t.toklogAddr), (127, 105, t.base), (104, 82, t.promptLen), (81, 59, t.gen)]

/-- Writes the newest turn-list entry. -/
def writeTurn (d : Device) (slot : Nat) : Device :=
  match d.seq? slot with
  | none => d
  | some q =>
    match q.ctx.turns.getLast? with
    | none => d
    | some t =>
      fabiWrite d (.turnList slot)
        (ptabRoot d slot + 0x1000 + 32 * (q.ctx.turns.length - 1)) 32 t.bits

/-- Where the token of a context position stands in host memory: address, and whether in a token log (R216). -/
def tokenSource (turns : List Turn) (pos : Nat) : Option (Nat × Bool) :=
  match turns.reverse.find? (fun t => t.base ≤ pos) with
  | none => none
  | some t =>
    let j := pos - t.base
    if j < t.promptLen then some (t.promptAddr + 4 * j, false) else some (t.toklogAddr + 8 * (j - t.promptLen), true)

/-- Positions from `pos` that lie one behind another in one buffer, at most `n`. -/
def tokenRun (turns : List Turn) (pos n : Nat) : Nat :=
  match turns.reverse.find? (fun t => t.base ≤ pos) with
  | none => 0
  | some t =>
    let next := match turns.find? (fun u => pos < u.base) with | some u => u.base | none => pos + n
    let stop := if pos - t.base < t.promptLen then t.base + t.promptLen else pos + n
    min n (min (next - pos) (stop - pos))

/-! ### Moves (R219, R220) -/

/-- The bytes of a descriptor are charged to the client of the sequence that causes it (R136). -/
def chargeMove (d : Device) (m : Move) : Device :=
  if m.isWeights then d else chargeBytes d m.client m.bytes

/-- Posts a descriptor under the lowest free DESC_ID; with 1,024 outstanding it waits (R53, R55). -/
def postMove (d : Device) (m : Move) : Device :=
  match leastFree (Map.keys d.ctx.moves) 1024 with
  | none => d.modCtx (fun c => { c with moveQueue := c.moveQueue ++ [m] })
  | some id =>
    let w := pgmMessage id m.partition (ofBool m.spill) m.bytes m.srcPage m.dstPage m.srcAddr m.dstAddr
    let d := chargeMove (d.modCtx (fun c => { c with moves := Map.put c.moves id m })) m
    let d := emit d (.pgm (BitVec.ofNat 512 w))
    let d := cvcPass d PT_PGM m.partition w 64 0
    if m.spill then cvcPass d PT_SPILL m.partition w 64 0 else d

/-- Moves outstanding or waiting for a record slot. -/
def movesOf (d : Device) (slot : Nat) : List Move := (allMoves d).filter (fun m => m.slot = slot && !m.isWeights)

/-- A move of a directory entry is outstanding. -/
def dirMoving (d : Device) (i : Nat) : Bool :=
  (allMoves d).any (fun m => m.dir = i && (m.isDemotion || m.isPromotion))

/-- A promotion or demotion of the sequence is outstanding, or a COMPACT is pending (R193, R227). -/
def seqMoving (d : Device) (slot : Nat) (q : Seq) : Bool :=
  (movesOf d slot).any (fun m => m.isDemotion || m.isPromotion) || q.ctx.pendCompact

/-- A move of the sequence of any kind is outstanding, or a COMPACT is pending (R222, R227, R235). -/
def moveOut (d : Device) (slot : Nat) (q : Seq) : Bool := !(movesOf d slot).isEmpty || q.ctx.pendCompact

/-- A demotion descriptor of the sequence is outstanding. -/
def demoting (d : Device) (slot : Nat) : Bool := (movesOf d slot).any Move.isDemotion

/-- DEMOTE or PROMOTE of Table 17.2. -/
def traceMove (d : Device) (q : Seq) (kind fromT toT pages cause tile : Nat) : Device :=
  if pages = 0 then d
  else traceRec d kind q.tcb.handle q.tcb.client q.tcb.partition
    (fields [(127, 126, fromT), (125, 124, toT), (123, 105, pages), (104, 101, cause), (100, 89, tile)])

def pageBytes (d : Device) (v : Nat) : Nat := odGet d Od.MODEL_PAGE_BYTES v

/-- PROMOTE of page k onto AFF_TILE, where a frame is free there. A copy that already stands on the tile is named. -/
def promotePage (d : Device) (slot k cause : Nat) : Device :=
  match d.seq? slot with
  | none => d
  | some q =>
    match (pageAt q k).home, q.ctx.affTile with
    | .t1 i, some tile =>
      match dir1? d i with
      | none => d
      | some e =>
        if e.t0 ≠ .none then
          if e.t0Tile = tile && !(pageAt q k).t0 && (e.t0 = .clean || e.t0 = .dirty) then
            writePtab (setPage d slot k (fun r => { r with t0 := true })) slot k
          else d
        else match freeT0Frame d tile slot with
          | none => d
          | some f =>
            postMove (modDir1 (useRoom d tile slot) i (fun e => { e with t0 := .moving, t0Tile := tile, t0Frame := f }))
              { kind := .promote, slot := slot, page := k, dir := i, frame := f, tile := tile,
                srcPage := t1PageId e.home, dstPage := t0PageId tile f, srcAddr := t1Addr d e.home,
                dstAddr := t0Addr d tile f, bytes := pageBytes d e.model, partition := q.tcb.partition,
                client := q.tcb.client, cause := cause }
    | _, _ => d

/-- A page of its own at `k` whose T0 copy on `tile` is promoted from the shared home of entry `i` (R233); the reference
to the shared page goes when the copy has returned. -/
def ownPage (d : Device) (slot k i tile cause : Nat) : Device :=
  match d.seq? slot, dir1? d i, freeT1Frame d, freeDir1 d, freeT0Frame d tile slot with
  | some q, some e, some f1, some j, some f0 =>
    let e' : Dir1 :=
      { home := f1, t0Tile := tile, t0Frame := f0, t0 := .moving, fill := e.fill, part := q.tcb.partition,
        model := e.model, adapter := e.adapter }
    let d := setPage (putDir1 (useRoom d tile slot) j e') slot k (fun r => { r with home := .t1 j, t0 := false })
    postMove d
      { kind := .promoteCopy i, slot := slot, page := k, dir := j, frame := f0, tile := tile, srcPage := t1PageId e.home
        dstPage := t0PageId tile f0, srcAddr := t1Addr d e.home, dstAddr := t0Addr d tile f0
        bytes := pageBytes d e.model, partition := q.tcb.partition, client := q.tcb.client, cause := cause }
  | _, _, _, _, _ => d

/-- WRITEBACK of page k (R221); `drop`: the copy is freed when it returns. None is posted while a command may read or
write the page (R219), or while a COMPACT is pending (R227). `payer`: the client that causes the move. -/
def writebackPage (d : Device) (slot k cause : Nat) (drop : Bool) (payer : Option Nat := none) : Device :=
  match d.seq? slot with
  | none => d
  | some q =>
    match (pageAt q k).home with
    | .t1 i =>
      match dir1? d i with
      | none => d
      | some e =>
        if e.t0 = .dirty && !dirBusy d i && !q.ctx.pendCompact then
          postMove (bump (modDir1 d i (fun e => { e with t0 := .moving })) Od.CTX_STATS 6)
            { kind := .writeback, slot := slot, page := k, dir := i, frame := e.t0Frame, tile := e.t0Tile,
              srcPage := t0PageId e.t0Tile e.t0Frame, dstPage := t1PageId e.home,
              srcAddr := t0Addr d e.t0Tile e.t0Frame, dstAddr := t1Addr d e.home, bytes := pageBytes d e.model,
              partition := q.tcb.partition, client := payer.getD q.tcb.client, dropAfter := drop, cause := cause }
        else d
    | _ => d

/-- SPILL of page k to a T2 frame; with no frame or entry free the page stays in T1 (R222). -/
def spillPage (d : Device) (slot k cause : Nat) : Device :=
  match d.seq? slot with
  | none => d
  | some q =>
    match (pageAt q k).home with
    | .t1 i =>
      match dir1? d i, freeT2Frame d, freeDir2 d with
      | some e, some f, some j =>
        let d := putDir2 d j
          { frame := f, slot := slot, pageNo := k, fill := e.fill, part := q.tcb.partition, model := e.model,
            adapter := e.adapter, pstate := .spilling }
        let d := if e.refs = 1 && !e.hashed then modDir1 d i (fun e => { e with pstate := .spilling }) else d
        postMove (bump d Od.CTX_STATS 4)
          { kind := .spill, slot := slot, page := k, dir := i, t2 := j, frame := f, srcPage := t1PageId e.home,
            dstPage := t2PageId f, srcAddr := t1Addr d e.home, dstAddr := t2Addr d f, bytes := pageBytes d e.model,
            partition := q.tcb.partition, client := q.tcb.client, spill := true, cause := cause }
      | _, _, _ => d
    | _ => d

/-- FILL and FILL_T0 of page k, posted together (R220). -/
def fillPage (d : Device) (slot k cause : Nat) : Device :=
  match d.seq? slot with
  | none => d
  | some q =>
    match (pageAt q k).home, q.ctx.affTile with
    | .t2 j, some tile =>
      match Map.find d.ctx.dir2 j, freeT1Frame d, freeDir1 d, freeT0Frame d tile slot with
      | some e2, some f1, some i, some f0 =>
        if e2.pstate ≠ .held then d
        else
        let e : Dir1 :=
          { home := f1, t0Tile := tile, t0Frame := f0, t0 := .moving, pstate := .filling, refs := 1, fill := e2.fill,
            part := e2.part, model := e2.model, adapter := e2.adapter }
        let m : Move :=
          { kind := .fill, slot := slot, page := k, dir := i, t2 := j, frame := f1, tile := tile,
            srcPage := t2PageId e2.frame, dstPage := t1PageId f1, srcAddr := t2Addr d e2.frame, dstAddr := t1Addr d f1,
            bytes := pageBytes d e2.model, partition := q.tcb.partition, client := q.tcb.client, cause := cause }
        let d := modDir2 (putDir1 (useRoom d tile slot) i e) j (fun x => { x with pstate := .filling })
        let d := postMove (bump d Od.CTX_STATS 5) m
        postMove d { m with kind := .fillT0, frame := f0, dstPage := t0PageId tile f0, dstAddr := t0Addr d tile f0 }
      | _, _, _, _ => d
    | _, _ => d

/-! ### Prefix table (R228 to R231) -/

def prefixScope (d : Device) (part : Nat) : Nat := odGet d Od.PREFIX_SCOPE part

/-- The key of a scope: the one written, or the derived one (R228). -/
def prefixKey (d : Device) (q : Nat) : Nat :=
  match Map.find d.od (odKey Od.PREFIX_KEY q) with
  | some k => k
  | none => aes128 (odGet d Od.TABLE_KEY 0) q

/-- R229. -/
def chainHash (prev : Nat) (toks : List Nat) (model adapter key : Nat) : Nat :=
  let msg := leNats prev 12 ++ (toks.map (fun t => leNats t 4)).flatten ++ [model % 256] ++ leNats (adapter % 4096) 2
  ofLeNats ((cmac (leNats key 16) msg).take 12)

/-- C_k of R229. -/
def pageCrc (toks : List Nat) : Nat := crcOf crc64 (toks.map (fun t => leBytes t 4)).flatten

/-- The way of the set of `h` that a probe of R230 hits. -/
def prefixProbe (d : Device) (h scope model adapter : Nat) : Option (Nat × PrefixEntry) :=
  let base := (h % 2 ^ 17) * 8
  d.ctx.prefixes.find? (fun p => p.1 / 8 = base / 8 && p.2.hash = h && p.2.scope = scope &&
    match dir1? d p.2.dir with
    | some e => (e.pstate = .held || e.pstate = .cached) && e.model = model && e.adapter = adapter
    | none => false)

/-- A hit or an insertion makes its way the youngest of its set (R230, R231). -/
def prefixAge (d : Device) (idx : Nat) : Device :=
  d.modCtx (fun c => { c with
    prefixes := c.prefixes.map (fun p =>
      if p.1 = idx then (p.1, { p.2 with age := 0 })
      else if p.1 / 8 = idx / 8 then (p.1, { p.2 with age := min 7 (p.2.age + 1) }) else p) })

/-- Frees the T0 copy of an entry. -/
def dropCopy (d : Device) (i : Nat) : Device := modDir1 d i (fun e => { e with t0 := .none, t0Tile := 0, t0Frame := 0 })

/-- The page-table entry of page k is written without its T0 copy (R215). -/
def unname (d : Device) (slot k : Nat) : Device := writePtab (setPage d slot k (fun r => { r with t0 := false })) slot k

/-- Frees the T0 copy of an entry, and writes the page-table entries that name it (R215). -/
def dropNamed (d : Device) (i : Nat) : Device :=
  d.seqs.foldl (fun d p =>
    (indexed 0 p.2.ctx.pages).foldl (fun d kr => if kr.2.home = .t1 i && kr.2.t0 then unname d p.1 kr.1 else d) d)
    (dropCopy d i)

/-- Removes a prefix entry: its page loses HASHED, and is freed where it was CACHED (R231). -/
def prefixRemove (d : Device) (idx : Nat) : Device :=
  match Map.find d.ctx.prefixes idx with
  | none => d
  | some p =>
    let d := d.modCtx (fun c => { c with prefixes := Map.del c.prefixes idx })
    match dir1? d p.dir with
    | none => d
    | some e => if e.pstate = .cached then delDir1 d p.dir else modDir1 d p.dir (fun e => { e with hashed := false })

/-- An eviction under R231, with its lantern record. -/
def prefixEvict (d : Device) (idx : Nat) : Device :=
  match Map.find d.ctx.prefixes idx with
  | none => d
  | some p =>
    let freed := match dir1? d p.dir with | some e => e.pstate = .cached | none => false
    let d := traceRec (bump d Od.CTX_STATS 3) TR_EVICT_PREFIX 0 0 0
      (fields [(127, 111, idx / 8), (110, 108, idx), (107, 91, p.dir), (90, 85, p.scope), (84, 82, p.age),
        (81, 81, ofBool freed), (80, 49, p.hash >>> 64)])
    prefixRemove d idx

/-- The way that takes a new entry of the set (R231): an invalid one, or that of greatest AGE, lower way on ties. -/
def prefixWay (d : Device) (set : Nat) : Nat :=
  match (List.range 8).find? (fun w => !Map.has d.ctx.prefixes (set * 8 + w)) with
  | some w => set * 8 + w
  | none =>
    match minBy (fun p => (7 - p.2.age) * 8 + p.1 % 8) (d.ctx.prefixes.filter (fun p => p.1 / 8 = set)) with
    | some p => p.1
    | none => set * 8

/-- Inserts page entry `i` under hash `h`, which covers `pages` full pages, unless `h` already hits (R230, R231). -/
def prefixInsert (d : Device) (i h crc pages : Nat) : Device :=
  match dir1? d i with
  | none => d
  | some e =>
    let scope := prefixScope d e.part
    match prefixProbe d h scope e.model e.adapter with
    | some (idx, _) => prefixAge d idx
    | none =>
      let idx := prefixWay d (h % 2 ^ 17)
      let d := prefixEvict d idx
      let d := d.modCtx (fun c => { c with
        prefixes := Map.put c.prefixes idx { hash := h, dir := i, scope := scope, pages := pages } })
      let d := modDir1 d i (fun e => { e with hashed := true, crc64 := crc, prefixIdx := idx })
      prefixAge d idx

/-! ### References (R213) -/

/-- One holder less of a T0/T1 entry: at 0 the page becomes CACHED where HASHED, and FREE otherwise. The T0 copy that no
holder uses any more goes at the end of the command, or with the last command that may read it (`dropStrays`). -/
def unref (d : Device) (i : Nat) : Device :=
  match dir1? d i with
  | none => d
  | some e =>
    if 1 < e.refs then modDir1 d i (fun e => { e with refs := e.refs - 1 })
    else if e.hashed then
      modDir1 d i (fun e => { e with refs := 0, pstate := .cached,
                                     keepDue := (d.tick + odGet d Od.PREFIX_KEEP 0) % 2 ^ 32 })
    else delDir1 d i

/-- The sequence gives page k up: its reference, or its T2 frame. -/
def releasePage (d : Device) (slot k : Nat) : Device :=
  match d.seq? slot with
  | none => d
  | some q =>
    let d := match (pageAt q k).home with
      | .t1 i => unref d i
      | .t2 j => delDir2 d j
      | .none => d
    setPage d slot k (fun _ => {})

/-- A move of the page is outstanding, so its frames are not free yet (R237). -/
def pageMoving (d : Device) (slot k : Nat) : Bool := (movesOf d slot).any (fun m => m.page = k)

/-- Takes the cleared pages off the end of the list. -/
def trimPages (d : Device) (slot : Nat) : Device :=
  modBlk d slot (fun c => { c with pages := (c.pages.reverse.dropWhile (fun r => r.home = .none)).reverse })

/-- Releases pages `k` and up, `n` of them, but for those with a move outstanding. -/
def releaseFrom (d : Device) (slot : Nat) : Nat → Nat → Device
  | 0, _ => d
  | n + 1, k => releaseFrom (if pageMoving d slot k then d else releasePage d slot k) slot n (k + 1)

/-- A leaf returned lets a sequence that lacks one write its entries (R215). -/
def leafRetry (d : Device) : Device :=
  d.seqs.foldl (fun d p =>
    (indexed 0 p.2.ctx.pages).foldl (fun d kr =>
      match d.seq? p.1 with
      | some q => if kr.2.home ≠ .none && !Map.has q.ctx.leaves (kr.1 / 512) then writePtab d p.1 kr.1 else d
      | none => d) d) d

/-- Releases every page, the scratch, and, when no page is left, the leaves (R215, R237). -/
def releaseAll (d : Device) (slot : Nat) : Device :=
  match d.seq? slot with
  | none => d
  | some q =>
    let d := trimPages (releaseFrom d slot q.ctx.pages.length 0) slot
    let d := modBlk d slot (fun c => { c with scratch := [] })
    match d.seq? slot with
    | none => d
    | some q =>
      if q.ctx.pages.isEmpty then
        leafRetry (affUpdate (modBlk (dropLeaves d slot) slot (fun c => { c with affTile := none })) slot)
      else d

/-! ### New pages (R226) -/

/-- Takes a page at the end of the sequence's list, on its tile with FILL 0, and writes its page-table entry. A
page slot that is cleared in place (R239) is filled where it stands. -/
def newPage (d : Device) (slot k tile : Nat) : Device :=
  match d.seq? slot, freeT1Frame d, freeDir1 d, freeT0Frame d tile slot with
  | some q, some f1, some i, some f0 =>
    let d := putDir1 (useRoom d tile slot) i
      { home := f1, t0Tile := tile, t0Frame := f0, t0 := .clean, refs := 1, part := q.tcb.partition, model := q.version,
        adapter := q.adapter }
    let r : PageRef := { home := .t1 i, t0 := true }
    let d := modBlk d slot (fun c => { c with
      pages := if k < c.pages.length then setAt c.pages k r
        else c.pages ++ List.replicate (k - c.pages.length) {} ++ [r]
      affTile := some tile })
    writePtab d slot k
  | _, _, _, _ => d

/-- A page kept with nothing in it (R239) that has no T0 copy: the re-prefill rewrites it in a frame to be taken. -/
def frameless (d : Device) (q : Seq) (k : Nat) : Bool :=
  match (pageAt q k).home with
  | .t1 i => (match dir1? d i with | some e => e.fill = 0 && e.t0 = .none | none => false)
  | _ => false

/-- Gives such a page a T0 frame on the tile, and writes its page-table entry. -/
def retakeFrame (d : Device) (slot k tile : Nat) : Device :=
  match d.seq? slot, freeT0Frame d tile slot with
  | some q, some f0 =>
    (match (pageAt q k).home with
     | .t1 i =>
       let d := modDir1 (useRoom d tile slot) i (fun e => { e with t0Tile := tile, t0Frame := f0, t0 := .clean })
       let d := setPage (modBlk d slot (fun c => { c with affTile := some tile })) slot k (fun r => { r with t0 := true })
       writePtab d slot k
     | _ => d)
  | _, _ => d

/-- Every page of positions `pos` to `pos + ntok − 1` exists on `tile`, taking new ones as needed. -/
def ensurePages (d : Device) (slot tile : Nat) : Nat → Nat → Device
  | 0, _ => d
  | n + 1, k =>
    let d := match d.seq? slot with
      | some q =>
        if (pageAt q k).home = .none then newPage d slot k tile
        else if frameless d q k then retakeFrame d slot k tile
        else d
      | none => d
    ensurePages d slot tile n (k + 1)

/-- Page numbers that positions `pos` to `pos + ntok − 1` fall into. -/
def pageSpan (d : Device) (q : Seq) (pos ntok : Nat) : List Nat :=
  let p := pageTokens d q.version
  if ntok = 0 then [] else (List.range ((pos + ntok - 1) / p + 1)).filter (fun k => pos / p ≤ k)

/-! ### Commit (R226) -/

/-- Raises FILL of page k to `fill` and marks it DIRTY; the T0 copy, where it still stands, then differs from the home. -/
def fillTo (d : Device) (slot k fill : Nat) : Device :=
  match d.seq? slot with
  | none => d
  | some q =>
    match (pageAt q k).home with
    | .t1 i =>
      match dir1? d i with
      | some e => if e.fill < fill then modDir1 d i (fun e => { e with fill := fill, t0 := if e.t0 = .none then .none else .dirty }) else d
      | none => d
    | _ => d

/-- FILL of every page below `len` from page `k` on, `n` pages. -/
def fillBelow (d : Device) (slot p len : Nat) : Nat → Nat → Device
  | 0, _ => d
  | n + 1, k => fillBelow (if k * p < len then fillTo d slot k (min p (len - k * p)) else d) slot p len n (k + 1)

/-- Write-backs of the pages whose FILL has reached P (R221). -/
def writebackFull (d : Device) (slot : Nat) : Nat → Nat → Device
  | 0, _ => d
  | n + 1, k =>
    let d := match d.seq? slot with
      | some q =>
        match (pageAt q k).home with
        | .t1 i =>
          match dir1? d i with
          | some e => if e.fill = pageTokens d q.version && e.t0 = .dirty then writebackPage d slot k 0 false else d
          | none => d
        | _ => d
      | none => d
    writebackFull d slot n (k + 1)

end Sys2Proof.Machine
end

