-- ==== Sys2Proof/Machine/Rings.lean ====
section
/-! DEFINITION. Submission and completion rings (chapter 3): what the owning slice of a ring pair does with doorbells,
read-ahead, waiting completions and their writes. -/

namespace Sys2Proof.Machine

/-- seq_diff of chapter 3. -/
def seqDiff (a b : Nat) : Nat := subMod 32 a b

/-- seq_after of chapter 3. -/
def seqAfter (a b : Nat) : Bool := seqDiff a b ≠ 0 && seqDiff a b < 2 ^ 31

def ringOwned (d : Device) (p : Nat) : Bool := odGet d Od.RING_OWNER p = 1
def ringEnabled (d : Device) (p : Nat) : Bool := bit (odGet d Od.RING_CTRL p) 0
def sqSize (d : Device) (p : Nat) : Nat := 2 ^ odGet d Od.SQ_LOG2 p
def cqSize (d : Device) (p : Nat) : Nat := 2 ^ odGet d Od.CQ_LOG2 p
def cqFull (d : Device) (p : Nat) : Bool := cqSize d p ≤ seqDiff (d.ring p).cqTail (d.ring p).cqHead

/-- HSEQ that R74 expects at SQ count `k`. -/
def hseqAt (d : Device) (p k : Nat) : Nat := (odGet d Od.HSEQ_BASE p + k) % 2 ^ 32

/-! ### Read-ahead (R77) -/

/-- Issues reads of covered records while fewer than 8 are read ahead. -/
def sqFetch (d : Device) (p : Nat) : Nat → Device
  | 0 => d
  | n + 1 =>
    let r := d.ring p
    if r.fetchNext ≠ r.sqTail && seqDiff r.fetchNext r.sqHead < 8 && !r.errSq then
      let k := r.fetchNext
      sqFetch (fabiRead (d.modRing p (fun r => { r with fetchNext := (k + 1) % 2 ^ 32 }))
        (.sqRead p k) (odGet d Od.SQ_BASE p + 128 * (k % sqSize d p)) 128) p n
    else d

/-- Responses still to come for reads of ring `p` find nothing to serve. -/
def dropSqReads (d : Device) (p : Nat) : Device :=
  fabiDrop d (fun k => match k with | .sqRead q _ => q = p | _ => false)

/-! ### Completions (R87 to R92) -/

/-- A completion joins the pair's waiting completions. A waiting TOKENS completion of the same sequence gives way to
its next TOKENS or TURN_END (R89); the record whose write is outstanding no longer waits. -/
def cqEnqueue (d : Device) (c : Compl) : Device :=
  d.modRing c.ring (fun r =>
    let merge := c.ctype = CT_TOKENS || c.ctype = CT_TURN_END
    let stale (w : Compl) : Bool := merge && w.ctype = CT_TOKENS && w.handle = c.handle
    match r.writing, r.waiting with
    | true, w :: ws => { r with waiting := w :: ws.filter (fun x => !stale x) ++ [c] }
    | _, ws => { r with waiting := ws.filter (fun x => !stale x) ++ [c] })

/-- HSEQ of the last record consumed on the pair; HSEQ_BASE − 1 before any (Table 3.8). -/
def hseqEcho (d : Device) (p : Nat) : Nat := subMod 32 (odGet d Od.HSEQ_BASE p + (d.ring p).sqHead) 1

/-- Fyhus may write the pair's oldest waiting completion now (R74, R89, R92). -/
def cqMayWrite (d : Device) (p : Nat) : Bool :=
  let r := d.ring p
  !r.writing && !r.waiting.isEmpty && !r.errCq && !cqFull d p && ringOwned d p

/-- Issues the write of the oldest waiting completion, with the BSEQ of its place (R74) and its trailer (R425). -/
def cqIssue (d : Device) (p : Nat) : Device :=
  let r := d.ring p
  match r.waiting with
  | [] => d
  | c :: _ =>
    let bseq := (odGet d Od.BSEQ_BASE p + r.cqTail) % 2 ^ 32
    let t := cqTrailer d p bseq (c.bits bseq (hseqEcho d p))
    let v := cvcView d
    let d := t.1.modRing p (fun r => { r with writing := true, view := v })
    fabiWrite d (.cqWrite p) (odGet d Od.CQ_BASE p + 64 * (r.cqTail % cqSize d p)) 64 t.2

/-- A record has been written: the pair's interrupt and stall settings hold for it (R72). -/
def takeRingUse (d : Device) (p : Nat) : Device :=
  let v := odGet d Od.CQ_VECTOR p
  let n := odGet d Od.CQ_IRQ_COUNT p
  let t := odGet d Od.CQ_IRQ_TICKS p
  let s := odGet d Od.CQ_STALL_TICKS p
  d.modRing p (fun r => { r with useVector := v, useCount := n, useTicks := t, useStall := s })

/-- Sends the pair's interrupt and starts counting afresh (R91). A slice uses the settings only of a pair it owns (R70). -/
def ringIrq (d : Device) (p : Nat) : Device :=
  let r := d.ring p
  if r.useVector = 0 || r.useCount = 0 || !ringOwned d p then d
  else raiseVector (d.modRing p (fun r => { r with irqCount := 0, irqOldest := none })) r.useVector

/-- Counts a written completion towards the pair's interrupt; an answer of a NO_IRQ record is left out (R91). -/
def ringIrqCount (d : Device) (p : Nat) (c : Compl) : Device :=
  if c.noIrq && c.isAnswer then d
  else
    let t := d.tick
    let d := d.modRing p (fun r => { r with irqCount := r.irqCount + 1, irqOldest := some (r.irqOldest.getD t) })
    if (d.ring p).useCount ≤ (d.ring p).irqCount then ringIrq d p else d

/-- Notes since when the completion ring has been full (R90). -/
def noteFull (d : Device) (p : Nat) : Device :=
  let full := cqFull d p
  let t := d.tick
  d.modRing p (fun r => { r with fullSince := if full then some (r.fullSince.getD t) else none })

/-- Answers a consumed record on its own pair (R79). -/
def answer (d : Device) (p ctype : Nat) (st : Status) (hseq userTag client handle arg0 arg1 : Nat) (noIrq : Bool)
    (tokenEnd : Nat := 0) : Device :=
  cqEnqueue d
    { ring := p, ctype := ctype, status := st, handle := handle, client := client, userTag := userTag, tokenEnd := tokenEnd,
      hseqOf := hseq, arg0 := arg0, arg1 := arg1, arg2 := 0, noIrq := noIrq, home := d.ident.index }

/-- Tokens of the current turn of a sequence that this slice owns, as last reported (Table 3.8). -/
def ownedTokens (d : Device) (handle : Nat) : Nat :=
  match Map.find d.turn.owned handle with
  | some o => o.tokenEnd
  | none => 0

/-- TEST of a REJECT record (Table 17.2) with the refusal itself (R433). -/
def refuse (d : Device) (p : Nat) (st : Status) (hseq userTag client handle arg0 : Nat) (noIrq : Bool) (test slack : Nat)
    (tokenEnd : Nat := 0) : Device :=
  let d := traceRec d TR_REJECT handle client (odGetC d Od.CLIENT_PARTITION client)
    (fields [(127, 96, hseq), (95, 88, p), (87, 80, st.code), (79, 76, test), (75, 44, slack)])
  answer d p CT_REFUSED st hseq userTag client handle arg0 0 noIrq tokenEnd

/-- SLACK of a request without a deadline (R433). -/
def noSlack : Nat := 0x7FFFFFFF

/-- SLACK of a request with a deadline for which no time has been predicted: any value but `noSlack` (log entry 150). -/
def openSlack (d : Device) (ring hseq : Nat) : Nat :=
  let v := (Config.untestedSlack ring hseq d.tick).toNat
  if v = noSlack then noSlack - 1 else v

/-- Completions that wait: those whose write is not issued (R89). -/
def ringWaiting (r : Ring) : List Compl := if r.writing then r.waiting.drop 1 else r.waiting

/-! ### RING_STATE (Table 3.9) -/

def ringState (d : Device) (p : Nat) : Nat :=
  let r := d.ring p
  fields [(255, 224, r.sqHead), (223, 192, r.sqTail), (191, 160, hseqEcho d p), (159, 128, r.cqTail),
    (127, 96, r.cqHead), (95, 64, odGet d Od.BSEQ_BASE p + r.cqTail), (63, 48, min 65535 (ringWaiting r).length),
    (47, 40, ofBool (ringEnabled d p) + 2 * ofBool (cqFull d p) + 4 * ofBool r.stalled + 8 * ofBool r.errSq
      + 16 * ofBool r.errCq + 32 * ofBool r.doorbellErr), (31, 0, r.unanswered)]

end Sys2Proof.Machine
end

