-- ==== Sys2Proof/Machine/Tasks.lean ====
section
/-! DEFINITION. The task unit (chapter 4): timers, event flags, waits and state changes, and how a home slice sends
completions. -/

namespace Sys2Proof.Machine

def modTcb (d : Device) (slot : Nat) (f : Tcb → Tcb) : Device := d.modSeq slot (fun q => { q with tcb := f q.tcb })

/-- Running, in the sense of R83 (R98). -/
def SeqState.running : SeqState → Bool
  | .admitted | .prefill | .decode | .waiting => true
  | _ => false

/-- The ready bit of R102. -/
def seqReady (q : Seq) : Bool :=
  (q.tcb.state = .admitted || q.tcb.state = .prefill || q.tcb.state = .decode) && !q.tcb.parkPending

/-! ### Delay lists (R114, R115) -/

abbrev TK_DEADLINE : Nat := 1
abbrev TK_TTL : Nat := 2
abbrev TK_QUARANTINE : Nat := 3
abbrev TK_NOT_BEFORE : Nat := 4
abbrev TK_BACKOFF : Nat := 5
abbrev TK_IDLE_DEMOTE : Nat := 6

abbrev FL_COMMITTED : Nat := 0
abbrev FL_PAGES_READY : Nat := 1
abbrev FL_STAGE_DONE : Nat := 2
abbrev FL_KILLS_DONE : Nat := 3
abbrev FL_TMR_A : Nat := 4
abbrev FL_TMR_B : Nat := 5
abbrev FL_SLOTS_OK : Nat := 6
abbrev FL_DRAFT_READY : Nat := 7
abbrev FL_SPILL_DONE : Nat := 8
abbrev FL_PARK_REQ : Nat := 9
abbrev FL_ABORT_REQ : Nat := 10
abbrev FL_FAULT : Nat := 11
abbrev FL_CONTINUE_REQ : Nat := 12
abbrev FL_RESUME_REQ : Nat := 13
abbrev FL_RERUN : Nat := 14
abbrev FL_SAVE_DONE : Nat := 15

def timerKey (slot : Nat) (b : Bool) : Nat := 2 * slot + ofBool b

def flagBit (i : Nat) : BitVec 16 := BitVec.ofNat 16 (2 ^ i)

def setFlagBit (d : Device) (slot i : Nat) (v : Bool) : Device :=
  modTcb d slot (fun t => { t with flags := if v then t.flags ||| flagBit i else t.flags &&& ~~~(flagBit i) })

/-- A delay-list entry as it is armed: the newest of all. -/
def newTimer (d : Device) (kind due : Nat) : Timer :=
  { due := due, kind := kind, order := (Map.vals d.timers).foldl (fun n t => max n (t.order + 1)) 0 }

/-- Level of the timing wheel that holds a DUE: each bucket of 256^L TICK moves down once its first DUE is 256 TICK ahead
(R115, log entry 132). -/
def wheelLevel (now due : Nat) : Nat :=
  ((List.range 4).find? (fun l => 256 ^ (l + 1) * (due / 256 ^ (l + 1)) ≤ now + 256)).getD 4

/-- The list of the wheel in which an entry stands: its level, and its bucket there. -/
def wheelList (now : Nat) (t : Timer) : Nat × Nat := (wheelLevel now t.due, t.due / 256 ^ wheelLevel now t.due)

/-- NEXT and PREV of an entry: its neighbours in the list, oldest arming first, an end linking to itself (R114). -/
def timerLinks (d : Device) (key : Nat) (t : Timer) : Nat × Nat :=
  let same := d.timers.filter (fun p => wheelList d.tick p.2 = wheelList d.tick t)
  let after := minBy (fun p => p.2.order) (same.filter (fun p => t.order < p.2.order))
  let before := minBy (fun p => t.order - p.2.order) (same.filter (fun p => p.2.order < t.order))
  ((after.map Prod.fst).getD key, (before.map Prod.fst).getD key)

/-- Arms or rearms timer A or B; a DUE beyond the horizon is clamped, and the timer's flag is cleared. -/
def armTimer (d : Device) (slot : Nat) (b : Bool) (kind due : Nat) : Device :=
  let due := min due (d.tick + (2 ^ 40 - 1))
  setFlagBit { d with timers := Map.put d.timers (timerKey slot b) (newTimer d kind due) } slot
    (if b then FL_TMR_B else FL_TMR_A) false

def cancelTimer (d : Device) (slot : Nat) (b : Bool) : Device :=
  { d with timers := Map.del d.timers (timerKey slot b) }

/-- Cancels timer B where it is armed with one of the kinds given. -/
def cancelKind (d : Device) (slot : Nat) (b : Bool) (kinds : List Nat) : Device :=
  match Map.find d.timers (timerKey slot b) with
  | some t => if kinds.contains t.kind then cancelTimer d slot b else d
  | none => d

def timerOf (d : Device) (slot : Nat) (b : Bool) : Option Timer := Map.find d.timers (timerKey slot b)

/-- The expiry of a timer whose DUE has come: it leaves the lists and its lateness is recorded (R117). -/
def expireTimer (d : Device) (slot : Nat) (b : Bool) (t : Timer) : Device :=
  let late := d.tick - t.due
  let bin := if late = 0 then 0 else if late = 1 then 1 else if late ≤ 3 then 2 else if late ≤ 15 then 3
    else if late ≤ 63 then 4 else if late ≤ 255 then 5 else if late ≤ 1023 then 6 else 7
  let d := bump (bumpMax (bump (cancelTimer d slot b) Od.TIMER_EXPIRED 0) Od.TIMER_LATE_MAX 0 late) Od.TIMER_LATE_HIST bin
  if 64 ≤ late then alertLog d ALERT_TIMER_LATE 0 (slotHandle d slot) 0 late else d

/-- A timer of the slot is armed with `kind` and due, and none is due before it (R115). -/
def timerDue (d : Device) (slot : Nat) (b : Bool) (kind : Nat) : Option Timer :=
  match timerOf d slot b with
  | some t => if t.kind = kind && t.due ≤ d.tick && d.timers.all (fun p => t.due ≤ p.2.due) then some t else none
  | none => none

/-! ### Commands of a sequence -/

/-- In-flight entries that hold an entry of the slot. -/
def inflightOf (d : Device) (slot : Nat) : List (Nat × InFlight) :=
  d.inflight.filter (fun p => p.2.entries.any (fun e => e.kind ≠ 0 && e.slot = slot))

/-- A KILL_ACK is outstanding for a command of the slot (R108). -/
def killsOutstanding (d : Device) (slot : Nat) : Bool :=
  (inflightOf d slot).any (fun p => p.2.istate = .killing || p.2.istate = .orphan)

/-- A command of the slot's entries is not FREE (R193). -/
def seqInFlight (d : Device) (slot : Nat) : Bool := !(inflightOf d slot).isEmpty

/-- Free in-flight slots exceed the reserve of the class (R108, R167). -/
def slotsOk (d : Device) (c : Cls) : Bool :=
  (match c with | .g => 0 | _ => odGet d Od.DECODE_SLOT_RESERVE 0) < 4096 - d.inflight.length

/-! ### Flags and waits (R108 to R110) -/

/-- What the sequence's next entry lacked when it was to be written is still not free (R215, R222). -/
def lacking (d : Device) (q : Seq) : Bool :=
  freeT1Count d < q.ctx.lacks.1 || freeDir1Count d < q.ctx.lacks.1 || freeLeafCount d < q.ctx.lacks.2

/-- Whether the condition that a flag records holds now; `none` for a flag that records an event (R109). -/
def flagCondition (d : Device) (slot : Nat) (q : Seq) (i : Nat) : Option Bool :=
  if i = FL_PAGES_READY then some (pagesReady d q && !lacking d q)
  else if i = FL_STAGE_DONE then some (!seqInFlight d slot)
  else if i = FL_KILLS_DONE then some (!killsOutstanding d slot)
  else if i = FL_SLOTS_OK then some (slotsOk d q.tcb.cls)
  else if i = FL_DRAFT_READY then some (q.spec.dvalid && q.spec.dpos = q.ctx.clen)
  else if i = FL_SPILL_DONE then some (!demoting d slot)
  else none

/-- Brings the flags of a mask up to date (R109). -/
def refreshFlags (d : Device) (slot : Nat) (mask : BitVec 16) : Device :=
  (List.range 16).foldl (fun d i =>
    if mask.getLsbD i then
      match d.seq? slot with
      | some q => match flagCondition d slot q i with | some v => setFlagBit d slot i v | none => d
      | none => d
    else d) d

/-- The mask is met under the mode, or ABORT_REQ or FAULT ends the wait (R109). -/
def waitMet (t : Tcb) : Bool :=
  t.flags.getLsbD FL_ABORT_REQ || t.flags.getLsbD FL_FAULT ||
    (if t.waitOr then (t.flags &&& t.waitMask) ≠ 0 else (t.flags &&& t.waitMask) = t.waitMask)

/-- A wait ends: the flags that satisfied it and WAIT_MASK are cleared. -/
def endWait (t : Tcb) : Tcb := { t with flags := t.flags &&& ~~~t.waitMask, waitMask := 0 }

/-- Enters a state: STATE_TICK, and WAIT_TICKS when WAITING or PARKED is left (R101). -/
def enterState (d : Device) (slot : Nat) (st : SeqState) : Device :=
  let now := d.tick
  modTcb d slot (fun t =>
    { t with
      waitTicks := if t.state = .waiting || t.state = .parked then satAdd (2 ^ 32 - 1) t.waitTicks (now - t.stateTick)
        else t.waitTicks
      state := st
      stateTick := now })

/-- Row 13: a satisfied wait returns the sequence to PRIOR_STATE. -/
def evalWait (d : Device) (slot : Nat) : Device :=
  match d.seq? slot with
  | none => d
  | some q =>
    if q.tcb.state = .waiting && q.tcb.waitMask ≠ 0 && waitMet q.tcb then
      enterState (cancelKind (modTcb d slot endWait) slot true [TK_NOT_BEFORE, TK_BACKOFF]) slot q.tcb.prior
    else d

/-- A unit sets a flag (R108); the wait is evaluated after it. -/
def setFlag (d : Device) (slot i : Nat) : Device := evalWait (setFlagBit d slot i true) slot

/-- A unit sets a wait (R109, R110): row 12, or recorded in place while PARKED, or ended at once where satisfied. -/
def startWait (d : Device) (slot : Nat) (flags : List Nat) (or_ : Bool) : Device :=
  let mask := flags.foldl (fun m i => m ||| flagBit i) 0
  let d := modTcb d slot (fun t => { t with waitMask := mask, waitOr := or_ })
  let d := refreshFlags d slot mask
  match d.seq? slot with
  | none => d
  | some q =>
    if waitMet q.tcb then
      let d := modTcb d slot endWait
      if q.tcb.state = .waiting then enterState d slot q.tcb.prior else d
    else if q.tcb.state = .admitted || q.tcb.state = .prefill || q.tcb.state = .decode then
      enterState (modTcb d slot (fun t => { t with prior := t.state })) slot .waiting
    else d

/-- Sets the flag that records a condition where the condition has come to hold. -/
def setIfHolds (d : Device) (slot i : Nat) : Device :=
  match d.seq? slot with
  | some q => if flagCondition d slot q i = some true then setFlag d slot i else d
  | none => d

/-- Free in-flight slots stand one above the reserve of the class. -/
def slotsRose (d : Device) (c : Cls) : Bool :=
  (match c with | .g => 0 | _ => odGet d Od.DECODE_SLOT_RESERVE 0) + 1 = 4096 - d.inflight.length

/-- Free in-flight slots have risen: SLOTS_OK is set in the sequences whose reserve they now exceed (R108). -/
def wakeSlots (d : Device) : Device :=
  d.seqs.foldl (fun d p =>
    if p.2.tcb.waitMask.getLsbD FL_SLOTS_OK || slotsRose d p.2.tcb.cls then setIfHolds d p.1 FL_SLOTS_OK else d) d

/-- Pages or leaves have come free: sequences that wait on PAGES_READY are looked at. -/
def wakePages (d : Device) : Device :=
  d.seqs.foldl (fun d p => if p.2.tcb.waitMask.getLsbD FL_PAGES_READY then setIfHolds d p.1 FL_PAGES_READY else d) d

/-- Pages of a sequence have come to stand in T0, or an entry of its page table has been written: PAGES_READY, and the
demotion is over where all are present (R108, R236). -/
def pagesArrived (d : Device) (slot : Nat) : Device :=
  match d.seq? slot with
  | none => d
  | some q =>
    setIfHolds (if pagesReady d q && q.tcb.state ≠ .paused then modBlk d slot (fun c => { c with demoteStage := 0 }) else d)
      slot FL_PAGES_READY

/-! ### Completions of a home slice -/

/-- Completion of a sequence for its ring pair's owner. -/
def seqCompl (d : Device) (q : Seq) (ctype : Nat) (st : Status) (arg0 arg1 arg2 : Nat) : Compl :=
  { ring := q.tcb.ring, ctype := ctype, status := st, handle := q.tcb.handle, client := q.tcb.client,
    userTag := q.tcb.userTag, tokenEnd := q.tcb.tokenEnd, hseqOf := q.tcb.hseqOf, arg0 := arg0, arg1 := arg1,
    arg2 := arg2, noIrq := false, home := d.ident.index }

/-- Answers a command that another slice, or this one, sent to the sequence's home (R27, R80). -/
def hostAck (d : Device) (a : OwedAns) (r : HostResult) (tokenEnd : Nat := 0) : Device :=
  sendXfer d a.src (.hostCmdAck a.id r tokenEnd) 32

/-- A PAUSE that met the end of the turn is answered behind the TURN_END (R464). -/
def answerAtStop (d : Device) (h : Nat) : Device :=
  match d.seq? (handleSlot h) with
  | none => d
  | some q =>
    if q.tcb.handle = h && !q.tcb.parkPending && !q.pauseAns.isEmpty then
      q.pauseAns.foldl (fun d a => hostAck d a (.refused .rejFormat) q.tcb.tokenEnd)
        (d.modSeq (handleSlot h) (fun q => { q with pauseAns := [] }))
    else d

/-- The transfer that carries a completion. -/
def complXfer (c : Compl) : Xfer := if c.ctype = CT_END then .endC c else .completion c

/-- The completion that a transfer carries. -/
def Xfer.compl : Xfer → Option Compl
  | .completion c | .endC c => some c
  | _ => none

/-- Transfers that wait for the port, for the response of their write, or to be sent again after an error. -/
def xfersOut (d : Device) : List (Nat × Xfer) :=
  (d.fabi.outstanding ++ d.fabi.waiting).filterMap (fun r => r.xfer) ++ d.faults.unacked.map (fun u => u.2)

/-- A completion of the handle is on its way to the slice: the next one waits for it (R30, log entry 135). -/
def complPending (d : Device) (owner h : Nat) : Bool :=
  (xfersOut d).any (fun x => x.1 = owner && (match x.2.compl with | some c => c.handle = h | none => false))
    || d.faults.heldCompls.any (fun x => x.1 = owner && x.2.handle = h)

/-- The completion goes; a PAUSE that met the end of the turn is answered behind its TURN_END (R464). -/
def carryCompl (d : Device) (owner : Nat) (c : Compl) : Device :=
  let d := sendXfer d owner (complXfer c) 64
  if c.ctype = CT_TURN_END then answerAtStop d c.handle else d

/-- Puts a completion on its way to the owning slice, behind those of its handle (R30); an END whose owner is lost waits
for a new owner (R387). -/
def shipCompl (d : Device) (owner : Nat) (c : Compl) : Device :=
  if d.faults.lost.contains owner then
    if c.ctype = CT_END then d.modFaults (fun f => { f with orphanEnds := f.orphanEnds ++ [c] }) else d
  else if (xfersOut d).contains (owner, complXfer c) || d.faults.heldCompls.contains (owner, c) then d
  else if complPending d owner c.handle then
    d.modFaults (fun f => { f with heldCompls := f.heldCompls ++ [(owner, c)] })
  else carryCompl d owner c

/-- The write that carried a completion has its response: the next completion of the handle goes (R30). -/
def shipHeld (d : Device) (x : Option (Nat × Xfer)) : Device :=
  match x with
  | none => d
  | some (k, x) =>
    match d.faults.heldCompls.find? (fun h => h.1 = k && (x.compl.map Compl.handle) = some h.2.handle) with
    | some h => carryCompl (d.modFaults (fun f => { f with heldCompls := removeFirst (fun y => y = h) f.heldCompls })) k h.2
    | none => d

/-- Puts on its way what goes to the owning slice. -/
def shipOut (d : Device) (owner : Nat) : Outgoing → Device
  | .compl c => shipCompl d owner c
  | .ack a r n => hostAck d a r n

/-- No update number yet: a delta is still to be formed. -/
def noUpdate : Nat := 65536

/-- R380 has it wait for the delta that covers the record write: a completion, and the answer that becomes SAVED. -/
def Outgoing.waitsDelta : Outgoing → Bool
  | .compl _ => true
  | .ack _ (.saved _) _ => true
  | .ack _ _ _ => false

/-- What a record write causes: at N ≥ 16 it waits for the delta that covers the write (R380; the update number is put in
when the delta is formed). -/
def gateOut (d : Device) (slot owner : Nat) (x : Outgoing) : Device :=
  if 16 ≤ d.ident.n && x.waitsDelta then d.modFaults (fun f => { f with gated := f.gated ++ [(slot, noUpdate, x)] })
  else shipOut d owner x

/-- Sends what tells of a sequence once the token-log and report writes before it have their responses (R39, R85). -/
def sendOut (d : Device) (slot : Nat) (x : Outgoing) : Device :=
  match d.seq? slot with
  | none => d
  | some q =>
    if q.logWrites = 0 && q.behind.isEmpty then gateOut d slot q.owner x
    else d.modSeq slot (fun q => { q with behind := q.behind ++ [x] })

def sendCompl (d : Device) (slot : Nat) (c : Compl) : Device := sendOut d slot (.compl c)

/-- Answers a command on a live sequence, with the tokens of its turn (Table 3.8). -/
def seqAnswer (d : Device) (slot : Nat) (a : OwedAns) (r : HostResult) : Device :=
  match d.seq? slot with
  | none => d
  | some q => sendOut d slot (.ack a r q.tcb.tokenEnd)

/-- Sends what waited behind the writes of a commit. -/
def flushBehind (d : Device) (slot : Nat) : Device :=
  match d.seq? slot with
  | none => d
  | some q =>
    if q.logWrites = 0 then
      q.behind.foldl (fun d x => gateOut d slot q.owner x) (d.modSeq slot (fun q => { q with behind := [] }))
    else d

/-- Slices set in SLICE_ONLINE. -/
def onlineSlices (d : Device) : List Nat := (List.range d.ident.n).filter (fun k => bit (odGet d Od.SLICE_ONLINE 0) k)

/-- A pair of handles goes to every other slice: `new` 0 takes the pair of `old` out of their tables (R384, log entry
136). -/
def tellPair (d : Device) (lost old new : Nat) (note : PairNote) : Device :=
  let len := match note with | .lostStripes js => 32 + 32 * ceilDiv js.length 8 | _ => 32
  ((onlineSlices d).filter (· ≠ d.ident.index)).foldl (fun d k => sendXfer d k (.forward lost old new note) len) d

/-! ### Handles (R104) -/

/-- The record slot of a live sequence that a handle names on this slice. -/
def liveSlot (d : Device) (h : Nat) : Option Nat :=
  if handleSlice h ≠ d.ident.index then none
  else match d.seq? (handleSlot h) with
    | some q => if q.tcb.handle = h then some (handleSlot h) else none
    | none => none

/-- A record slot in quarantine (R105). -/
def quarantined (d : Device) (slot : Nat) : Bool :=
  match timerOf d slot false with
  | some t => t.kind = TK_QUARANTINE
  | none => false

def queueSlots (d : Device) : List Nat := d.turn.decisions.filterMap (fun x => x.slot)

/-- Slots of this slice that a live forwarding entry names (R393). -/
def forwardedSlots (d : Device) : List Nat :=
  (d.faults.forwards.filter (fun x => handleSlice x.2.1 = d.ident.index)).map (fun x => handleSlot x.2.1)

/-- Not FREE, in quarantine, used by the turnstile queue, or named by a forwarding entry (R103, R122, R393). -/
def slotBusy (d : Device) : List Nat :=
  forwardedSlots d ++ Map.keys d.seqs ++ (d.timers.filter (fun p => p.2.kind = TK_QUARANTINE)).map (fun p => p.1 / 2) ++ queueSlots d

def allocSlot (d : Device) : Option Nat := leastFree (slotBusy d) 65536
def allocCount (d : Device) : Nat := 65536 - (slotBusy d).length

def slotGen (d : Device) (slot : Nat) : Nat := Map.getD d.gens slot 1

/-- Advances the generation of a slot (R103). -/
def nextGen (g : Nat) : Nat := if g = 2047 then 1 else g + 1

end Sys2Proof.Machine
end

