-- ==== Sys2Proof/Machine/Commands.lean ====
section
/-! DEFINITION. Commands in flight, kills, withdrawals and the end of a request (chapters 4 and 7). -/

namespace Sys2Proof.Machine

/-- Tag of R176. -/
def mkTag (slice islot tgen : Nat) : Nat := fields [(31, 27, slice), (26, 15, islot), (14, 0, tgen)]
def tagIslot (t : Nat) : Nat := bf t 26 15

def tagOf (d : Device) (i : Nat) (c : InFlight) : Nat := mkTag d.ident.index i c.gen

/-- The in-flight entry that a tag names. -/
def byTag (d : Device) (tag : Nat) : Option (Nat × InFlight) :=
  match Map.find d.inflight (tagIslot tag) with
  | some c => if tagOf d (tagIslot tag) c = tag && c.istate ≠ .reserved then some (tagIslot tag, c) else none
  | none => none

/-- A revoked tag: its KILL has been issued (R44). -/
def InFlight.revoked (c : InFlight) : Bool := c.istate = .killing || c.istate = .orphan

def nextTgen (g : Nat) : Nat := if g = 32767 then 1 else g + 1
def islotGen (d : Device) (i : Nat) : Nat := Map.getD d.tgens i 1

/-! ### The export window (R168) -/

def windowBase (d : Device) : Nat := d.ident.windowBase + 0x400000

/-- Writes one entry at a window offset. -/
def writeEntry (d : Device) (group off : Nat) (e : WlEntry) : Device :=
  cvcPass { d with window := Memory.writeBytes d.window off (leBytes e.bits 64) } PT_WORKLIST group e.bits 64 0

/-- The entries of a slot in a command become NOP; each costs one further write (R170). -/
def nopEntries (d : Device) (i slot : Nat) : Device :=
  match Map.find d.inflight i with
  | none => d
  | some c =>
    let es := c.entries.map (fun e => if e.slot = slot then ({ kind := 0, client := e.client, partition := e.partition } : WlEntry) else e)
    let d := (indexed 0 c.entries).foldl (fun d ke =>
      if ke.2.slot = slot && ke.2.kind ≠ 0 then writeEntry d c.group (c.block * 4096 + 64 * ke.1) { kind := 0 } else d) d
    d.modInflight i (fun c => { c with entries := es })

/-! ### Logit staging (R49) -/

/-- What is left of a unit whose bytes are no longer held: while its command is in flight, its later beats still meet the
checks of R48. -/
def LgiUnit.forget (d : Device) (u : LgiUnit) : Option LgiUnit :=
  if (byTag d u.tag).isSome then some { u with beats := 0, data := 0, gone := true } else none

/-- Takes units out of staging; their beats' credits return. -/
def dropUnits (d : Device) (p : LgiUnit → Bool) : Device :=
  let n := sumBy LgiUnit.beats (d.units.filter p)
  let d := { d with units := d.units.filterMap (fun u => if p u then u.forget d else some u) }
  if n = 0 then d else emit d (.lgiCredit n)

/-- Units of the score kinds, whose entries have been folded as they came (R286). -/
def LgiUnit.score (u : LgiUnit) : Bool := 5 ≤ u.kind

/-! ### Steps -/

/-- Steps of the groups chosen that were withdrawn whole may build again (R465). -/
def unblockOf (d : Device) (p : Nat → Bool) : Device :=
  { d with groups := d.groups.map (fun x =>
      (x.1, if p x.1 then { x.2 with opened := x.2.opened.map (fun o => { o with blocked := false }) } else x.2)) }

/-- An in-flight slot or a block of the window has been freed, for which steps of every group wait. -/
def unblock (d : Device) : Device := unblockOf d (fun _ => true)

/-! ### Groups (Table 7.1) -/

def groupCfg (d : Device) (g : Nat) : Nat := odGet d Od.GROUP_CFG g
def groupHome (d : Device) (g : Nat) : Nat := bf (groupCfg d g) 19 15
def groupCount (d : Device) (g : Nat) : Nat := bf (groupCfg d g) 14 7
def groupFirst (d : Device) (g : Nat) : Nat := bf (groupCfg d g) 6 0

/-- Tiles of a group in index order (R175). -/
def groupTiles (d : Device) (g : Nat) : List Nat :=
  (List.range (groupCount d g)).map (fun i => 128 * groupHome d g + groupFirst d g + i)

def Step.done (st : Step) : Bool := st.segs.isEmpty && st.toIssue.isEmpty && st.left.isEmpty

/-- Retires the dispatched steps of a group that are done (R145): their window blocks come free and their energy
counts for R165. -/
def retireSteps (d : Device) (g : Nat) : Device :=
  let gr := d.group g
  let out := gr.dispatched.filter Step.done
  if out.isEmpty then d
  else unblock (d.modGroup g (fun gr => { gr with
    dispatched := gr.dispatched.filter (fun st => !st.done)
    eRaw := gr.eRaw + sumBy Step.eRaw out
    eMeas := gr.eMeas + sumBy Step.eMeas out }))

/-- Applies `f` to every step of a group that is building or dispatched. -/
def modSteps (d : Device) (g : Nat) (f : Step → Step) : Device :=
  if Map.has d.groups g then
    d.modGroup g (fun gr => { gr with building := gr.building.map f, dispatched := gr.dispatched.map f })
  else d

/-- The sequence has committed or been withdrawn: no step waits for it any more. -/
def leaveStep (d : Device) (slot : Nat) : Device :=
  (Map.keys d.groups).foldl (fun d g =>
    retireSteps (modSteps d g (fun st => { st with left := st.left.filter (· ≠ slot) })) g)
    (d.modSeq slot (fun q => { q with inStep := false }))

/-! ### Freeing and killing (R176, R177, R186, R187) -/

/-- The tile gives a command credit back (R43), for which a step of its group may wait. -/
def returnCredit (d : Device) (tile : Nat) : Device :=
  unblockOf (d.modTile tile (fun t => { t with used := t.used - 1 })) (fun g => (groupTiles d g).contains tile)

/-- The entry returns to FREE: its generation advances and its step counts it no more. -/
def freeEntry (d : Device) (i : Nat) : Device :=
  match Map.find d.inflight i with
  | none => d
  | some c =>
    let tag := tagOf d i c
    let d := { d with inflight := Map.del d.inflight i, tgens := Map.put d.tgens i (nextTgen (islotGen d i)) }
    let d := dropUnits d (fun u => u.tag = tag && u.gone)
    let d := modSteps d c.group (fun st =>
      { st with segs := st.segs.filter (· ≠ i), toIssue := st.toIssue.filter (· ≠ i) })
    wakeSlots (unblock (retireSteps d c.group))

/-- Slots with entries in a command, each once. -/
def commandSlots (c : InFlight) : List Nat := ((c.entries.filter (fun e => e.kind ≠ 0)).map (fun e => e.slot)).dedup

/-- The KILL record of Table 17.2. -/
def traceKill (d : Device) (i : Nat) (c : InFlight) (cause : Nat) : Device :=
  traceRec d TR_KILL 0 0 0 (fields [(127, 96, tagOf d i c), (95, 92, cause), (91, 80, c.tile),
    (79, 64, c.failEntry), (63, 60, c.cstatus)])

/-- TAG of a request for random words (R50). -/
def rnsTag (r : BitVec 256) : Nat := bf r.toNat 255 224

/-- A tag is revoked: its responses in progress end with a STALE beat (R51, R312). -/
def revokeRns (d : Device) (tag : Nat) : Device :=
  let hit (j : RnsJob) : Bool := rnsTag j.req = tag && j.rstatus = 0
  let f (j : RnsJob) : RnsJob := if hit j then { j with rstatus := 2 } else j
  let n := (d.rns.classT.filter hit).length + (d.rns.classC.filter hit).length
  bumpBy { d with rns := { d.rns with classT := d.rns.classT.map f, classC := d.rns.classC.map f } }
    Od.PORT_ERR_COUNTS PERR_LGI_STALE n

/-- The KILL message, where the tile may still hold the command (R187). -/
def sendKill (d : Device) (i : Nat) (c : InFlight) (cause : Nat) : Device :=
  let d := emit (revokeRns (bump d Od.DISPATCH_STATS 2) (tagOf d i c)) (.kill (BitVec.ofNat 128 (killMessage (tagOf d i c) c.tile)))
  d.modInflight i (fun c => { c with istate := .killing, kcause := cause, dueTick := d.tick + odGet d Od.KILL_ACK_TIMEOUT_US 0 })

/-! ### What a lost step means for a sequence (R188, R464) -/

/-- Answers a PAUSE that waited for the step (R464). -/
def answerPause (d : Device) (slot : Nat) (r : HostResult) : Device :=
  match d.seq? slot with
  | none => d
  | some q =>
    let d := modTcb (d.modSeq slot (fun q => { q with pauseAns := [] })) slot (fun t => { t with parkPending := false })
    q.pauseAns.foldl (fun d a => seqAnswer d slot a r) d

/-- Row 14 of Table 4.2: the sequence is PARKED, PRIOR_STATE kept where it was WAITING, and the PAUSE answered. -/
def parkNow (d : Device) (slot : Nat) : Device :=
  let d := modTcb d slot (fun t => { t with prior := if t.state = .waiting then t.prior else t.state })
  answerPause (setFlagBit (enterState d slot .parked) slot FL_PARK_REQ true) slot (.ack 0)

/-- A class R sequence in a fan-out stage (R345, R346). -/
def inFanOut (q : Seq) : Bool :=
  q.tcb.cls = .r && (q.plan.stage = 1 || q.plan.stage = 3 || q.plan.stage = 5 || q.plan.stage = 6)

/-- A plan stage starts over: every list is to be issued again (R286). RETRY_USED clears at boundaries only (R360). -/
def PlanBlk.restart (p : PlanBlk) : PlanBlk :=
  if p.delivered then p
  else { p with todo := p.lists, missingLists := [], missing := 0, stageIssued := false }

/-- Reads of inputs for a position that is given up have no effect (R248). -/
def dropInputs (d : Device) (slot : Nat) : Device :=
  fabiDrop d (fun k => match k with | .inputs s _ => s = slot | _ => false)

/-- What the lanes hold for the sequence's step is dropped, with the replay block of its chunk; its selection, if it has
one, is discarded. -/
def dropOutcome (d : Device) (slot : Nat) : Device :=
  let d := (dropInputs d slot).modSeq slot (fun q => { q with
    outcome := {}, work := none, dists := [], digest := none, inputs := [], inputsDue := 0, replay := none
    plan := q.plan.restart })
  dropUnits { d with sels := d.sels.filter (fun s => s.slot ≠ slot) } (fun u => u.slot = slot)

/-- R: store entries that a selection claims (R289). -/
def Selection.reserve (s : Selection) : Nat := min 65536 (max 1024 (2 * Sel.k s.desc.toNat))

/-- The selection is the oldest without a claim, and a bank and its reserve are free (Table 10.4). -/
def claimable (d : Device) (s : Selection) : Bool :=
  let held := d.sels.filter (·.claimed)
  (d.sels.find? (fun s => !s.claimed)).map (·.slot) = some s.slot && held.length < 28
    && sumBy Selection.reserve held + s.reserve ≤ 65536

/-- A stage asks for its selection's claim; one that must wait is counted (R295). -/
def requestClaim (d : Device) (slot desc : Nat) : Device :=
  let s : Selection := { slot := slot, desc := BitVec.ofNat 64 desc }
  let d := { d with sels := d.sels.filter (fun s => s.slot ≠ slot) ++ [s] }
  if claimable d s then d else bump d Od.SEL_STATS 6

/-- A stage that starts over asks for a new selection (R286, R289). -/
def newClaim (d : Device) (slot : Nat) (old : Option Selection) : Device :=
  match old with
  | some s => requestClaim d slot s.desc.toNat
  | none => d

/-- The step is given up: what it held is dropped, and a fan-out stage asks for its selection again. -/
def dropStep (d : Device) (slot : Nat) : Device :=
  match d.seq? slot with
  | none => d
  | some q =>
    newClaim (dropOutcome d slot) slot (if q.plan.delivered then none else d.sels.find? (fun s => s.slot = slot))

/-- A sequence withdrawn from its step: it leaves the step, parks where a PAUSE is pending, and takes the re-run wait
(R188, Table 4.6). -/
def withdrawSeq (d : Device) (slot : Nat) : Device :=
  match d.seq? slot with
  | none => d
  | some q =>
    if !q.tcb.state.running then leaveStep d slot
    else
      let d := dropStep (leaveStep d slot) slot
      let d := setFlagBit (d.modSeq slot (fun q => { q with rerunMark := true })) slot FL_RERUN true
      let d := if q.tcb.parkPending then parkNow d slot else d
      let d := armTimer d slot true TK_BACKOFF (d.tick + odGet d Od.RETRY_BACKOFF 0)
      startWait d slot [FL_TMR_B, FL_KILLS_DONE] false

/-- The rounds of a command that ends early are over: no record with its tag is written any more (R268). -/
def endRounds (d : Device) (i : Nat) : Device :=
  let its (k : FabiKind) : Bool := match k with | .sampleBox _ j => j = i | _ => false
  fabiDrop { d with fabi := { d.fabi with waiting := d.fabi.waiting.filter (fun r => !its r.kind) } } its

/-- The command itself ends early: withdrawn where it is RESERVED, FREE where the tile no longer holds it, a KILL
where it may (Table 7.6). -/
def endOne (d : Device) (i cause : Nat) : Device :=
  let d := endRounds d i
  match Map.find d.inflight i with
  | none => d
  | some c =>
    if c.istate = .reserved then returnCredit (freeEntry d i) c.tile
    else
      let d := traceKill d i c cause
      if c.istate = .issued && cause ≠ 1 then sendKill d i c cause else freeEntry d i

/-- Fan-out sequences to whose selection one of the commands has delivered a beat (R286). -/
def taintedBy (d : Device) (cs : List Nat) : List Nat :=
  ((cs.filterMap (Map.find d.inflight)).map (fun c => c.fed.filter (fun s =>
    match d.seq? s with | some q => inFanOut q && !q.plan.delivered | none => false))).flatten.dedup

/-- The commands that end with the ones given: a tainted selection takes its stage's other commands with it. -/
def endClosure (d : Device) : Nat → List Nat → List Nat
  | 0, cs => cs
  | n + 1, cs =>
    let t := taintedBy d cs
    let more := (d.inflight.filter (fun p => !cs.contains p.1 && !p.2.revoked
      && (commandSlots p.2).any (fun s => t.contains s))).map Prod.fst
    if more.isEmpty then cs else endClosure d n (cs ++ more)

/-- Lists of a stage that are missing (R360). -/
def listsMissing (d : Device) (slot : Nat) (ls : List Nat) : Device :=
  let d := bumpBy d Od.RANK_STATS 2 ls.length
  setIfHolds (d.modSeq slot (fun q => { q with plan := { q.plan with
    missingLists := q.plan.missingLists ++ ls, missing := q.plan.missing + ls.length } })) slot FL_STAGE_DONE

def listsOf (c : InFlight) (slot : Nat) : List Nat :=
  (c.entries.filter (fun e => e.kind ≠ 0 && e.slot = slot)).map (fun e => e.list)

/-- Commands end early with no sequence counted as failed; `except` is a sequence that is ending. A tainted stage is
withdrawn, lists of other fan-outs are missing, other sequences are withdrawn (R188, R286, R360). -/
def killCommand (d : Device) (i cause except : Nat) : Device :=
  match Map.find d.inflight i with
  | none => d
  | some c =>
    if c.revoked then d
    else
      let cs := endClosure d d.inflight.length [i]
      let tainted := taintedBy d cs
      let ended := cs.filterMap (Map.find d.inflight)
      let d := bumpBy d Od.SEL_STATS 5 (tainted.filter (· ≠ except)).length
      let d := cs.foldl (fun d j => endOne d j (if j = i then cause else 5)) d
      let slots := ((ended.map commandSlots).flatten).dedup
      slots.foldl (fun d s =>
        if s = except then d
        else match d.seq? s with
          | some q =>
            if inFanOut q && !tainted.contains s then listsMissing d s ((ended.map (listsOf · s)).flatten)
            else withdrawSeq d s
          | none => d) d

/-! ### The end of a request (rows 22 to 26 of Table 4.2) -/

/-- The status an END carries (R120). -/
def finalStatus (d : Device) (q : Seq) : Status :=
  if 0x20 ≤ q.tcb.status.code then q.tcb.status
  else if q.tcb.status = .noValidToken then .noValidToken
  else if q.tcb.status = .deadlineMissed || (q.deadline ≠ 0 && q.tcb.admitTick + q.deadline < d.tick) then .deadlineMissed
  else if q.plan.partialSeen then .partialRes
  else if q.plan.fewer then .fewer
  else if q.fallbackUsed then .fallbackUsed
  else .ok

def endState (st : Status) : SeqState :=
  if st = .abortedHost then .aborted
  else if 0x20 ≤ st.code && st.code ≤ 0x23 then .faulted
  else .done

/-- Row 27: the slot returns to FREE, its generation advances, and quarantine starts (R103, R105). PINS of its epoch
falls with it (R357), and the pair of an adopted sequence leaves every forwarding table (R384). -/
def freeSlot (d : Device) (slot : Nat) : Device :=
  match d.seq? slot with
  | none => d
  | some q =>
    let d := { d with
      seqs := Map.del d.seqs slot, gens := Map.put d.gens slot (nextGen (slotGen d slot))
      timers := Map.put (Map.del d.timers (timerKey slot true)) (timerKey slot false)
        (newTimer d TK_QUARANTINE (d.tick + 2048)) }
    let d := fabiDrop d (fun k => k.slot = some slot)
    let d := (d.faults.forwards.filter (fun x => x.2.2 = q.tcb.handle)).foldl (fun d x => tellPair d x.1 x.2.1 0 .none) d
    let d := d.modFaults (fun f => { f with forwards := f.forwards.filter (fun x => x.2.2 ≠ q.tcb.handle) })
    { d with groups := d.groups.map (fun p => (p.1, { p.2 with rooms := p.2.rooms.filter (fun r => r.slot ≠ slot) })) }

/-- ARG0 of an END: the handle that its request spawned, or the reason (R364, Table 3.8). -/
def endArg0 (q : Seq) : Nat :=
  match q.plan.spawned with
  | some (h, _) => if h ≠ 0 then h else q.endReason
  | none => q.endReason

/-- The header of a result, with its STATUS (R291, R292). -/
def writeHeader (d : Device) (slot : Nat) (st : Status) : Device :=
  match d.seq? slot with
  | none => d
  | some q =>
    let h := q.plan.header.toNat % 2 ^ 504 + st.code * 2 ^ 504
    fabiWrite (d.modSeq slot (fun q => { q with plan := { q.plan with resultBusy := true, header := BitVec.ofNat 512 h } }))
      (.resultHeader slot) q.resultAddr 64 h

/-- A header was written before DUE and the END falls after it: the header is to carry DEADLINE_MISSED too (R362). -/
def headerLate (q : Seq) (st : Status) : Bool :=
  st = .deadlineMissed && q.plan.header ≠ 0 && bf q.plan.header.toNat 511 504 ≠ st.code

/-- Row 26: with every kill acknowledged, no command in flight, and every page released, the END is sent. Its status is
that of this moment, also where it then waits for its log writes or its parity (log entry 142). -/
def tryEnd (d : Device) (slot : Nat) : Device :=
  match d.seq? slot with
  | none => d
  | some q =>
    if q.tcb.state ≠ .finishing || seqInFlight d slot then d
    else
      let d := releaseAll d slot
      match d.seq? slot with
      | none => d
      | some q =>
        if !q.ctx.pages.isEmpty || !(movesOf d slot).isEmpty || q.plan.resultBusy then d
        else if q.unwanted then freeSlot d slot
        else
          let st := finalStatus d q
          if headerLate q st then writeHeader d slot st
          else
          let d := modTcb d slot (fun t => { t with status := st })
          let d := d.modSeq slot (fun q => { q with endSent := true })
          let d := match q.tcb.cls with
            | .g => d
            | .e => bump d Od.RANK_STATS 1
            | .r => if st = .partialRes then bump (bump d Od.RANK_STATS 0) Od.RANK_STATS 4 else bump d Od.RANK_STATS 0
          let c := seqCompl d q CT_END st (endArg0 q) q.engineNs q.energyUj
          sendCompl (enterState d slot (endState st)) slot c

/-- The answer of R464 to a PAUSE whose sequence enters FINISHING. -/
def pauseRefusal (st : Status) (ownStop : Bool) : Status :=
  if ownStop then .rejFormat else if st = .abortedHost then .abortedHost else .staleHandle

/-- A SAVE that the end of its sequence overtakes is refused with the end's status, and what waited behind it is answered
as a sequence that is FINISHING answers it (log entry 68). -/
def endSave (d : Device) (slot : Nat) (st : Status) : Device :=
  match d.seq? slot with
  | none => d
  | some q =>
    let late (c : HostCmd) : HostResult := match c.op with
      | .cont _ _ => .refused st
      | .abort | .abortClient => .refused .staleHandle
      | _ => .refused .rejFormat
    let d := d.modSeq slot (fun q => { q with saving := none, afterSave := [] })
    let d := match q.saving with
      | some s => seqAnswer d slot s.ans (.refused st)
      | none => d
    q.afterSave.foldl (fun d c => seqAnswer d slot { id := c.id, src := c.src } (late c)) d

/-- A RESTORE whose sequence ends before its copies have returned is answered REFUSED, with the status of that end (R79,
log entry 137). -/
def endRestore (d : Device) (slot : Nat) (st : Status) : Device :=
  match d.seq? slot with
  | none => d
  | some q =>
    if q.restoring then
      sendCompl (d.modSeq slot (fun q => { q with restoring := false })) slot
        { seqCompl d q CT_REFUSED st 0 0 0 with tokenEnd := 0 }
    else d

/-- A post whose bank is being read is discarded, and counted (R323, R344). -/
def dropPost (d : Device) (slot : Nat) : Device :=
  match d.seq? slot with
  | some q =>
    if q.spec.reading then
      (bump (fabiDrop d (fun k => match k with | .draftBank s => s = slot | _ => false)) Od.SPEC_STATS 1).modSeq slot
        (fun q => { q with spec := { q.spec with reading := false } })
    else d
  | none => d

/-- Enters FINISHING with a status and the reason that END reports; `ownStop`: by row 11, at the end of the turn. -/
def finishSeq (d : Device) (slot : Nat) (st : Status) (reason : Nat) (ownStop : Bool := false) : Device :=
  match d.seq? slot with
  | none => d
  | some q =>
    if q.tcb.state = .finishing || q.endSent then d
    else
      let d := cancelTimer (cancelTimer d slot false) slot true
      let d := endRestore (endSave (answerPause d slot (.refused (pauseRefusal st ownStop))) slot st) slot st
      let keep := flagBit FL_ABORT_REQ ||| flagBit FL_FAULT ||| flagBit FL_KILLS_DONE
      let d := enterState d slot .finishing
      let d := modTcb d slot (fun t =>
        { t with status := st, flags := t.flags &&& keep, waitMask := 0, parkPending := false })
      let d := (dropPost d slot).modSeq slot (fun q => { q with
        endReason := reason, inStep := false
        spec := { q.spec with dvalid := false } })
      -- a selection that one of its issued commands, which this end kills, has fed is tainted (R286, Table 7.6)
      let tainted := inFanOut q && !q.plan.delivered && d.inflight.any (fun p => p.2.istate = .issued && p.2.fed.contains slot)
      let d := if tainted then bump d Od.SEL_STATS 5 else d
      let d := dropOutcome d slot
      let d := d.inflight.foldl (fun d p =>
        if p.2.entries.any (fun e => e.kind ≠ 0 && e.slot = slot) then
          match p.2.istate with
          | .issued => killCommand d p.1 5 slot
          | .reserved => nopEntries d p.1 slot
          | _ => d
        else d) d
      tryEnd (leaveStep d slot) slot

/-- Row 24: the sequence ends with a fault (R185, R368). -/
def faultSeq (d : Device) (slot : Nat) (st : Status) : Device :=
  finishSeq (setFlagBit d slot FL_FAULT true) slot st 3

/-- A sequence that counts as failed: row 23, or row 24 on a second failure in the step (R185). -/
def failSeq (d : Device) (slot : Nat) (st : Status) : Device :=
  match d.seq? slot with
  | none => d
  | some q =>
    if !q.tcb.state.running then leaveStep d slot
    else if q.tcb.rerunUsed then faultSeq (leaveStep d slot) slot st
    else withdrawSeq (modTcb d slot (fun t => { t with rerunUsed := true })) slot

/-- A command with a cause that counts sequences as failed: FAILED, BAD_STREAM or TIMEOUT. `failed` picks them; the
rest is as for `killCommand`. -/
def failCommand (d : Device) (i cause : Nat) (failed : Nat → Bool) : Device :=
  match Map.find d.inflight i with
  | none => d
  | some c =>
    if c.revoked || c.kcause ≠ 0 then d
    else
      let own := commandSlots c
      let cs := endClosure d d.inflight.length [i]
      let tainted := taintedBy d cs
      let ended := cs.filterMap (Map.find d.inflight)
      let d := bumpBy d Od.SEL_STATS 5 tainted.length
      let d := cs.foldl (fun d j => endOne d j (if j = i then cause else 5)) d
      let slots := ((ended.map commandSlots).flatten).dedup
      slots.foldl (fun d s =>
        match d.seq? s with
        | some q =>
          if inFanOut q && !tainted.contains s then listsMissing d s ((ended.map (listsOf · s)).flatten)
          else if own.contains s && failed s then failSeq d s .faultTile
          else withdrawSeq d s
        | none => d) d

/-- The last returns of a sequence's commands: KILLS_DONE, and the end of a FINISHING request. -/
def afterReturn (d : Device) (slots : List Nat) : Device :=
  slots.foldl (fun d s => tryEnd (setIfHolds (setIfHolds d s FL_KILLS_DONE) s FL_STAGE_DONE) s) d

end Sys2Proof.Machine
end

