-- ==== Sys2Proof/Machine/Respond.lean ====
section
/-! DEFINITION. How a dictionary request ends on each path (chapter 18): the mailbox's MB_RESP, an MCTP response, the
answer of a SET_PARAM, DIRECT_STATUS. -/

namespace Sys2Proof.Machine

abbrev OP_READ : Nat := 1
abbrev OP_WRITE : Nat := 2
abbrev OP_COMMIT : Nat := 3
abbrev OP_INFO : Nat := 4

/-- MB_CMD of R445. -/
def mbCmdBits (op reqId idx sub : Nat) : Nat :=
  fields [(63, 56, op), (55, 40, reqId), (23, 8, idx), (7, 0, sub)]

/-- MB_RESP of R445. -/
def mbRespBits (m : Mgmt) : Nat :=
  fields [(63, 48, m.respReqId), (47, 40, m.respStatus.code), (39, 39, ofBool m.busy), (38, 38, ofBool m.done),
    (37, 37, ofBool m.overrun), (15, 0, m.respLen)]

/-- The value bytes of the WRITE that the mailbox's registers hold; a length above 256 fits no entry. -/
def mbValue (m : Mgmt) : List Byte := (m.mbData.take 256 ++ [0]).take m.mbLen

/-- MB_GO: BUSY set, DONE and OVERRUN cleared, and the MAILBOX point sees the request that the registers hold (R448,
R422; its bytes there are MB_CMD and the value, log entry 11). -/
def mbGo (d : Device) : Device :=
  let d := d.modMgmt (fun m => { m with busy := true, done := false, overrun := false, mbWaits := true })
  let c := d.mgmt.mbCmd.toNat
  let value := if bf c 63 56 = OP_WRITE then mbValue d.mgmt else []
  cvcPass d PT_MAILBOX 0 (c ||| ofLe value <<< 64) (8 + value.length) 0

/-- The mailbox takes a request: its registers are written, and MB_GO. -/
def mbAccept (d : Device) (op reqId idx sub : Nat) (value : List Byte) : Device :=
  mbGo (d.modMgmt (fun m => { m with
    mbCmd := BitVec.ofNat 64 (mbCmdBits op reqId idx sub)
    mbLen := if op = OP_WRITE then value.length else m.mbLen
    mbData := if op = OP_WRITE then value.take 256 ++ m.mbData.drop value.length else m.mbData }))

/-- The mailbox holds a request that waits for the unit. -/
def mbHolds (d : Device) (op reqId idx sub : Nat) : Bool :=
  d.mgmt.mbWaits && d.mgmt.mbCmd = BitVec.ofNat 64 (mbCmdBits op reqId idx sub)

/-- The mailbox request ends: MB_DATA where there is data, MB_RESP, and vector 1 (R448). -/
def mbRespond (d : Device) (reqId : Nat) (st : Status) (data : List Byte) : Device :=
  let d := d.modMgmt (fun m => { m with
    mbData := data ++ m.mbData.drop data.length
    respReqId := reqId, respStatus := st, respLen := data.length, busy := false, done := true, job := none })
  let d := cvcPass d PT_MAILBOX 0 (mbRespBits d.mgmt ||| ofLe data <<< 64) (8 + data.length) 0
  raiseVector d 1

/-- VENDOR_ID in a vendor-defined message: most significant byte first (DSP0236, log entry 12). -/
def vendorBytes : List Byte :=
  [BitVec.ofNat 8 (Config.vendorId.toNat >>> 8), BitVec.ofNat 8 Config.vendorId.toNat]

/-- The response body of Table 18.8. -/
def mctpBody (op reqId idx sub : Nat) (st : Status) (data : List Byte) : List Byte :=
  [0x7E] ++ vendorBytes ++ [0x01, BitVec.ofNat 8 (op ||| 0x80)] ++ leBytes reqId 2 ++ leBytes idx 2
    ++ [BitVec.ofNat 8 sub, BitVec.ofNat 8 st.code, BitVec.ofNat 8 data.length] ++ data

/-! ### MCTP messages (R60, R453; DSP0236 for the control commands, log entry 25) -/

def MctpMsg.byte (m : MctpMsg) (i : Nat) : Nat := (m.body.getD i 0).toNat
def MctpMsg.control (m : MctpMsg) : Bool := m.byte 0 = 0
/-- Command code of a control request. -/
def MctpMsg.command (m : MctpMsg) : Nat := m.byte 2
/-- Fields of Table 18.8. -/
def MctpMsg.op (m : MctpMsg) : Nat := m.byte 4
def MctpMsg.reqId (m : MctpMsg) : Nat := m.byte 5 + 256 * m.byte 6
def MctpMsg.idx (m : MctpMsg) : Nat := m.byte 7 + 256 * m.byte 8
def MctpMsg.sub (m : MctpMsg) : Nat := m.byte 9
def MctpMsg.data (m : MctpMsg) : List Byte := m.body.drop 12

/-- A vendor-defined request whose form stands (R453). -/
def MctpMsg.formatOk (m : MctpMsg) : Bool :=
  m.byte 3 = 1 && m.body.length = 12 + m.byte 11 && m.byte 11 ≤ 128 && m.byte 10 = 0 && (m.op = OP_WRITE || m.byte 11 = 0)

/-- The response to a control request: completion code and data. -/
def controlBody (m : MctpMsg) (cc : Nat) (data : List Byte) : List Byte :=
  [0x00, BitVec.ofNat 8 (m.byte 1 % 32), BitVec.ofNat 8 m.command, BitVec.ofNat 8 cc] ++ data

/-- The control commands of R60. -/
def controlSupported (c : Nat) : Bool := c = 1 || c = 2 || c = 4 || c = 5 || c = 6

/-- The answer of a request that needs no entry: an unsupported control command, a request of bad form, an OP outside
Table 18.4. -/
def MctpMsg.refusal (m : MctpMsg) : Option (List Byte) :=
  if m.control then (if controlSupported m.command then none else some (controlBody m 0x05 []))
  else if m.formatOk && 1 ≤ m.op && m.op ≤ 4 then none
  else some (mctpBody m.op m.reqId m.idx m.sub .rejFormat [])

/-- The packets of a message from this endpoint, of 64 bytes each but the last: the request's tag, with TO = 0 (R60,
R453). The sequence number of the first is 0 (log entry 25). -/
def mctpPackets (self dest tag : Nat) : Nat → Nat → List Byte → List MctpPacket
  | 0, _, _ => []
  | n + 1, k, body =>
    { dest := dest, src := self, som := k = 0, eom := body.length ≤ 64, seqNo := k % 4, tagOwner := false, tag := tag
      payload := body.take 64 } :: (if body.length ≤ 64 then [] else mctpPackets self dest tag n (k + 1) (body.drop 64))

/-- A response leaves, packet by packet. -/
def mctpSend (d : Device) (src tag : Nat) (body : List Byte) : Device :=
  (mctpPackets (odGet d Od.MCTP_EID 0) src tag (body.length / 64 + 1) 0 body).foldl (fun d p => emit d (.mgt p))
    (bump d Od.MCTP_STATS 0)

/-- Requests that have come to the head of the queue and need no entry are answered. -/
def mctpRefuse : Nat → Device → Device
  | 0, d => d
  | n + 1, d =>
    match d.mgmt.queue with
    | [] => d
    | m :: ms =>
      match m.refusal with
      | some b => mctpRefuse n (mctpSend (d.modMgmt (fun g => { g with queue := ms })) m.src m.tag b)
      | none => d

/-- Answers the request at the head of the queue with a message body (R454). -/
def mctpAnswer (d : Device) (src tag : Nat) (body : List Byte) : Device :=
  mctpRefuse 4 (mctpSend (d.modMgmt (fun m => { m with queue := m.queue.drop 1 })) src tag body)

/-- Answers the vendor-defined request at the head of the queue (R453). -/
def mctpRespond (d : Device) (src tag op reqId idx sub : Nat) (st : Status) (data : List Byte) : Device :=
  mctpAnswer d src tag (mctpBody op reqId idx sub st data)

/-- Answers a SET_PARAM (R82): ACK with the value read back, or REFUSED. Its pair consumes again (R78). -/
def setParamRespond (d : Device) (ring : Nat) (st : Status) (readBack : Nat) : Device :=
  match d.mgmt.setParams.find? (fun p => p.1 = ring) with
  | none => d
  | some (_, r) =>
    let r := r.toNat
    let d := d.modMgmt (fun m => { m with setParams := removeFirst (fun p => p.1 = ring) m.setParams })
    if st = .ok then
      answer d ring CT_ACK .ok (Sq.hseq r) (Sq.userTag r) (Sq.client r) 0 readBack 0 (Sq.noIrq r)
    else refuse d ring st (Sq.hseq r) (Sq.userTag r) (Sq.client r) 0 0 (Sq.noIrq r) 0 noSlack

/-- A direct write that the entry's rules refuse is recorded in DIRECT_STATUS (R452). -/
def directRefuse (d : Device) (idx sub : Nat) (st : Status) : Device :=
  let n := satAdd (2 ^ 32 - 1) (odGet d Od.DIRECT_STATUS 0 % 2 ^ 32) 1
  sinceSnap (odSet d Od.DIRECT_STATUS 0 (fields [(63, 48, idx), (47, 40, sub), (39, 32, st.code), (31, 0, n)]))
    Od.DIRECT_STATUS 0 1

/-- The end of a write on the path it came by. -/
def respondWrite (d : Device) (path : Path) (idx sub : Nat) (st : Status) (readBack : Nat) : Device :=
  match path with
  | .mailbox reqId => mbRespond d reqId st []
  | .mctp src tag reqId => mctpRespond d src tag OP_WRITE reqId idx sub st []
  | .setParam ring => setParamRespond d ring st readBack
  | .direct => if st = .ok then d else directRefuse d idx sub st

end Sys2Proof.Machine
end

