-- ==== Sys2Proof/Machine/Doorbells.lean ====
section
/-! DEFINITION. Doorbells, refused FAB_T accesses, submission reads and completion writes (chapters 2 and 3). -/

namespace Sys2Proof.Machine

/-! ### Doorbells (R75, R76) -/

/-- `v` is earlier than `w`. -/
def earlier (v w : Nat) : Bool := seqAfter w v

def sqTailOk (d : Device) (p v : Nat) : Bool :=
  seqDiff v (d.ring p).sqHead ≤ sqSize d p && !earlier v (d.ring p).sqTail

def cqHeadOk (d : Device) (p v : Nat) : Bool :=
  !earlier v (d.ring p).cqHead && !earlier (d.ring p).cqTail v

/-- A doorbell write that fails its tests, or meets ENABLE 0, is ignored (R76). -/
def doorbellErr (d : Device) (p : Nat) : Device := d.modRing p (fun r => { r with doorbellErr := true })

/-- A FAB_T access is refused: counted, and answered with an error response (R33, R35). -/
def fabtRefuse (d : Device) (counter : Nat) : Device := emit (portErr d counter) (.fabt true 0)

/-- What every doorbell write meets before its own tests (R35, R37, R68, R76). -/
def doorbell (d : Device) (p : Nat) (f : Device → Device) : Device :=
  whenPresent d (fun d =>
    if !fyReady d then portErr d PERR_EARLY
    else if !ringOwned d p then fabtRefuse d PERR_UNMAPPED
    else if !ringEnabled d p then doorbellErr d p
    else f d)

def sqTailWrite (d : Device) (p v : Nat) : Device :=
  doorbell d p (fun d =>
    if sqTailOk d p v then sqFetch (d.modRing p (fun r => { r with sqTail := v })) p 8 else doorbellErr d p)

/-- STALLED clears at half a ring (R90). -/
def unstall (d : Device) (p : Nat) : Device :=
  if seqDiff (d.ring p).cqTail (d.ring p).cqHead ≤ cqSize d p / 2 then d.modRing p (fun r => { r with stalled := false })
  else d

def cqHeadWrite (d : Device) (p v : Nat) : Device :=
  doorbell d p (fun d =>
    if cqHeadOk d p v then unstall (noteFull (d.modRing p (fun r => { r with cqHead := v })) p) p else doorbellErr d p)

/-- SQ_TAIL. -/
def execSqTail (p v : Nat) (s : State) : Host.Outcome State Fault Refusal := next s (sqTailWrite s.dev p v)
/-- CQ_HEAD. -/
def execCqHead (p v : Nat) (s : State) : Host.Outcome State Fault Refusal := next s (cqHeadWrite s.dev p v)

/-! ### Refused accesses (R34, R35, R445, R450) -/

/-- The direction of a directly mapped offset (Table 18.7): entry, sub-index, size, readable, writable. -/
def directAt (off : Nat) : Option (Nat × Nat × Nat × Bool × Bool) :=
  if off < 0x2000 then (if off % 8 = 0 then some (Od.RING_STATE, off / 32, 8, true, false) else none)
  else if off < 0x4000 then
    (if off % 4 = 0 then some (Od.GROUP_HOT_MAP + (off % 32) / 4, (off - 0x2000) / 32, 4, true, true) else none)
  else if off = 0x4000 then some (Od.DRAFT_POST, 0, 8, false, true)
  else if off = 0x4008 then some (Od.TRACE_HEAD, 0, 4, true, false)
  else if off = 0x400C then some (Od.TRACE_TAIL, 0, 4, true, true)
  else if off = 0x4010 then some (Od.TICK_NOW, 0, 8, true, false)
  else if off = 0x4018 then some (Od.ALERT_CAUSE, 0, 8, true, false)
  else if off = 0x4020 then some (Od.SLICE_STATE, 0, 4, true, false)
  else if off = 0x4028 then some (Od.DIRECT_STATUS, 0, 8, true, false)
  else if 0x4030 ≤ off && off < 0x4050 && off % 8 = 0 then some (Od.MSI_PENDING, 0, 8, true, false)
  else none

/-- Whether the mailbox takes an access (Table 18.3): the region permits 4 B and 8 B (Table 2.2), within a register. -/
def mailboxAccessOk (off size : Nat) (write : Bool) : Bool :=
  (size = 4 || size = 8) && off % size = 0 &&
    (off + size ≤ 0x008 || (off = 0x008 && size = 4) || (off = 0x010 && size = 4 && write)
      || (0x018 ≤ off && off + size ≤ 0x020 && !write) || (0x100 ≤ off && off + size ≤ 0x200))

/-- The counter under which an access is refused (R35); none where it is permitted. Where two cases of R35 or none of
them fit, the choice is log entry 140's. -/
def fabtCase (d : Device) (a : FabtAccess) : Option Nat :=
  let bad := some PERR_UNMAPPED
  if a.offset < 0x100000 then
    let off := a.offset % 4096
    if a.write && a.size = 4 && (off = 0 || off = 4) && ringOwned d (a.offset / 4096) then none else bad
  else if a.offset < 0x101000 then
    if mailboxAccessOk (a.offset - 0x100000) a.size a.write then none else bad
  else if 0x110000 ≤ a.offset && a.offset < 0x120000 then
    match directAt (a.offset - 0x110000) with
    | none => bad
    | some (_, _, size, rd, wr) =>
      if a.size ≠ size then bad
      else if a.write then (if wr then none else some PERR_SEALED)
      else if rd then none else bad
  else if 0x400000 ≤ a.offset && a.offset < 0x800000 then
    if !a.write && a.offset % 64 = 0 && a.size % 64 = 0 && 64 ≤ a.size && a.size ≤ 4096 then none else bad
  else if 0x800000 ≤ a.offset && a.offset < 0x900000 then
    if a.write && !a.fromSlice then some PERR_ORIGIN
    else if a.write && a.offset % 32 = 0 && a.size % 32 = 0 && 32 ≤ a.size && a.size ≤ 512 then none else bad
  else bad

/-- The access is a doorbell write, whatever the pair's owner. -/
def isDoorbell (a : FabtAccess) : Bool :=
  a.offset < 0x100000 && a.write && a.size = 4 && (a.offset % 4096 = 0 || a.offset % 4096 = 4)

/-- An access that R35 refuses has no effect but its counter and its error response. Before FY_READY a doorbell write of
any pair completes, is discarded and counted (R37). -/
def fabtRefused (d : Device) (a : FabtAccess) : Device :=
  whenPresent d (fun d =>
    if isDoorbell a && !fyReady d then portErr d PERR_EARLY
    else match fabtCase d a with | some c => fabtRefuse d c | none => d)

/-! ### Submission reads (R77, R92) -/

/-- A record of ring pair `p` has been read for SQ count `k`. -/
def sqRecordArrived (d : Device) (req : Nat) (r : SqRec) : Device :=
  match fabiFind d req with
  | none => d
  | some a =>
    match a.kind with
    | .sqRead p k => (fabiDone d req).modRing p (fun q => { q with held := Map.put q.held k r })
    | .dropped => fabiDone d req
    | _ => d

/-- SQ_RECORD_READ. -/
def execSqRecordRead (req : Nat) (record : SqRec) (s : State) : Host.Outcome State Fault Refusal :=
  next s (whenReady s.dev (fun d => sqRecordArrived d req record))

/-! ### Completion rings (R89 to R91) -/

/-- The completion belongs to a hand-over that this slice refused: none is written (R27, R88). -/
def complRefused (d : Device) (c : Compl) : Bool := d.turn.refused.contains c.handle

/-- A completion arrives at the owner of its ring pair, with the tokens of its turn; a TURN_END tells the committed
length, and RESTORED, or REFUSED in its place, is the answer of its record (R91), which named no handle. -/
def complArrived (d : Device) (c : Compl) : Device :=
  if ringOwned d c.ring && !complRefused d c then
    let o := Map.find d.turn.owned c.handle
    let quiet := match o with | some o => c.isAnswer && o.noIrq | none => false
    let d := d.modTurn (fun t => { t with owned := Map.mod t.owned c.handle (fun o =>
      let o := { o with tokenEnd := c.tokenEnd }
      if c.ctype = CT_TURN_END then { o with clen := c.arg1 }
      else if c.ctype = CT_RESTORED then { o with clen := c.arg0, noIrq := false } else o) })
    cqEnqueue d { c with noIrq := quiet, handle := if c.ctype = CT_REFUSED then 0 else c.handle }
  else d

/-- COMPLETION_TRANSFER: TOKENS, TURN_END, SAVED, RESTORED or SPAWNED from a home slice. -/
def execCompletionTransfer (c : Compl) (s : State) : Host.Outcome State Fault Refusal :=
  next s (whenReady s.dev (fun d => complArrived d c))

/-- COMPLETION_WRITE: the oldest waiting completion of the pair is written. -/
def execCompletionWrite (p : Nat) (s : State) : Host.Outcome State Fault Refusal :=
  next s (whenReady s.dev (fun d => if cqMayWrite d p then cqIssue d p else d))

/-- The completion ring has been full for CQ_STALL_TICKS. -/
def cqStallDue (d : Device) (p : Nat) : Bool :=
  match (d.ring p).fullSince with
  | some t => ringOwned d p && cqFull d p && t + (d.ring p).useStall ≤ d.tick
  | none => false

/-- CQ_STALL. -/
def execCqStall (p : Nat) (s : State) : Host.Outcome State Fault Refusal :=
  next s (whenReady s.dev (fun d => if cqStallDue d p then d.modRing p (fun r => { r with stalled := true }) else d))

/-- The oldest unsignalled completion has waited CQ_IRQ_TICKS. -/
def cqIrqDue (d : Device) (p : Nat) : Bool :=
  match (d.ring p).irqOldest with
  | some t => ringOwned d p && t + (d.ring p).useTicks ≤ d.tick
  | none => false

/-- CQ_IRQ_TIMEOUT. -/
def execCqIrqTimeout (p : Nat) (s : State) : Host.Outcome State Fault Refusal :=
  next s (whenReady s.dev (fun d => if cqIrqDue d p then ringIrq d p else d))

/-! ### RING_CTRL (R72, R73) -/

/-- A request of the pair is live on a slice this one knows of, queued, or in decision. -/
def ringInUse (d : Device) (p : Nat) : Bool :=
  d.turn.owned.any (fun x => x.2.ring = p) || d.turn.decisions.any (fun x => x.ring = p)

/-- The conditions of RESET. -/
def ringResetOk (d : Device) (p : Nat) : Bool :=
  !ringEnabled d p && !ringInUse d p && (d.ring p).waiting.isEmpty && (d.ring p).unanswered = 0

/-- The conditions under which ENABLE may be set; SEALED is none of them (log entry 139). -/
def ringEnableOk (d : Device) (p : Nat) : Bool :=
  ringOwned d p && odGet d Od.SQ_BASE p % (128 * sqSize d p) = 0 && odGet d Od.CQ_BASE p % (64 * cqSize d p) = 0

/-- RESET: every count zero, the flags clear. Channels on the pair start their alive counts afresh (R425, R426). -/
def ringResetNow (d : Device) (p : Nat) : Device :=
  let d := dropSqReads { d with rings := Map.put d.rings p {} } p
  (odStored d Od.CVC_CFG).foldl (fun d x =>
    if bf x.2 54 47 = p && (bf x.2 59 56 = PT_SQ_READ || bf x.2 59 56 = PT_CQ_WRITE) then
      d.modCvc (fun c => { c with chans := Map.mod c.chans x.1 (fun ch =>
        { ch with b0 := none, last := subMod 8 (bf x.2 46 39) 1 }) })
    else d) d

/-- DISCARD: SQ_TAIL equals SQ_HEAD; records read ahead are read again (R77). -/
def ringDiscardNow (d : Device) (p : Nat) : Device :=
  (dropSqReads d p).modRing p (fun r => { r with sqTail := r.sqHead, fetchNext := r.sqHead, held := [] })

/-- CLEAR_ERR: the failed accesses are tried again (R92). -/
def ringClearErrNow (d : Device) (p : Nat) : Device :=
  let wasCq := (d.ring p).errCq
  let wasSq := (d.ring p).errSq
  let d := d.modRing p (fun r => { r with errSq := false, errCq := false })
  let d := if wasSq && ringOwned d p then
      sqFetch ((dropSqReads d p).modRing p (fun r => { r with fetchNext := r.sqHead, held := [] })) p 8 else d
  if wasCq && cqMayWrite d p then cqIssue d p else d

/-- A write of RING_CTRL (R73); none where it is refused. -/
def ringCtrlWrite (d : Device) (p v : Nat) : Option Device :=
  if (bit v 1 && !ringResetOk d p) || (bit v 2 && ringEnabled d p) || (bit v 0 && !ringEnabled d p && !ringEnableOk d p) then
    none
  else
    let d := if bit v 1 then ringResetNow d p else d
    let d := if bit v 2 then ringDiscardNow d p else d
    let d := if bit v 3 then ringClearErrNow d p else d
    some (odSet d Od.RING_CTRL p (v % 2))

end Sys2Proof.Machine
end

