-- ==== Sys2Proof/Machine/Float.lean ====
section
/-! DEFINITION. fp32 and fp64 (R9, R11): exact values, correctly rounded operations, the logit formats of Table 9.2, the
exponent of R253 and the logarithm of R259. Values are bit patterns held as numbers. -/

namespace Sys2Proof.Machine

/-! ### Rounding -/

/-- Nearest integer of `n / d`, ties to even. -/
def rneDiv (n d : Nat) : Nat :=
  let q := n / d
  let r := n % d
  if 2 * r < d || (2 * r = d && q % 2 = 0) then q else q + 1

/-- floor(log2(n / d)) of a positive ratio. -/
def ratLog2 (n d : Nat) : Int :=
  let l : Int := (Nat.log2 n : Int) - (Nat.log2 d : Int)
  let below : Bool := if 0 ≤ l then n < d * 2 ^ l.toNat else n * 2 ^ (-l).toNat < d
  if below then l - 1 else l

/-- The encoding nearest to `n / d`, ties to even, in a format of `p` significand bits and least exponent `emin`;
`infBits` where it overflows. -/
def roundMag (p : Nat) (emin : Int) (infBits n d : Nat) : Nat :=
  if n = 0 then 0
  else
    let e := max emin (ratLog2 n d)
    let s : Int := e - ((p : Int) - 1)
    let q := if 0 ≤ s then rneDiv n (d * 2 ^ s.toNat) else rneDiv (n * 2 ^ (-s).toNat) d
    min infBits (((e - emin).toNat <<< (p - 1)) + q)

def f32Inf : Nat := 0x7F800000
def f32NegInf : Nat := 0xFF800000
def f32NaNBits : Nat := 0x7FC00000

/-- The fp32 nearest to ±n/d (RNE). -/
def f32OfRat (neg : Bool) (n d : Nat) : Nat := (if neg then 2 ^ 31 else 0) + roundMag 24 (-126) f32Inf n d

/-- The fp64 nearest to ±n/d (RNE). -/
def f64OfRat (neg : Bool) (n d : Nat) : Nat :=
  (if neg then 2 ^ 63 else 0) + roundMag 53 (-1022) 0x7FF0000000000000 n d

/-! ### fp32 values -/

def f32Mag (x : Nat) : Nat := x % 2 ^ 31
def f32Neg (x : Nat) : Bool := bit x 31
def f32Finite (x : Nat) : Bool := f32Mag x < 0x7F800000
def f32NaN (x : Nat) : Bool := 0x7F800000 < f32Mag x
def f32IsInf (x : Nat) : Bool := f32Mag x = 0x7F800000

/-- Magnitude of a finite value in units of 2^−149. -/
def f32Units (x : Nat) : Nat :=
  let e := f32Mag x / 2 ^ 23
  let m := x % 2 ^ 23
  if e = 0 then m else (2 ^ 23 + m) * 2 ^ (e - 1)

/-- A finite value in units of 2^−149. -/
def f32Val (x : Nat) : Int := if f32Neg x then -(f32Units x : Int) else f32Units x

/-- Orders non-NaN values numerically; −0 equals +0. -/
def f32Key (x : Nat) : Int := if f32Neg x then -(f32Mag x : Int) else f32Mag x

/-- The fp32 nearest to an exact value in units of 2^−149; a zero takes the sign given. -/
def f32OfUnits (i : Int) (zeroNeg : Bool) : Nat := f32OfRat (if i = 0 then zeroNeg else i < 0) i.natAbs (2 ^ 149)

def f32Neg1 (x : Nat) : Nat := if f32Neg x then x - 2 ^ 31 else x + 2 ^ 31

/-- Addition, RNE. -/
def f32Add (x y : Nat) : Nat :=
  if f32NaN x || f32NaN y then f32NaNBits
  else if f32IsInf x then (if f32IsInf y && f32Neg x ≠ f32Neg y then f32NaNBits else x)
  else if f32IsInf y then y
  else f32OfUnits (f32Val x + f32Val y) (f32Neg x && f32Neg y)

def f32Sub (x y : Nat) : Nat := if f32NaN y then f32NaNBits else f32Add x (f32Neg1 y)

/-- Multiplication, RNE. -/
def f32Mul (x y : Nat) : Nat :=
  let neg := f32Neg x != f32Neg y
  if f32NaN x || f32NaN y then f32NaNBits
  else if f32IsInf x || f32IsInf y then
    (if f32Mag x = 0 || f32Mag y = 0 then f32NaNBits else if neg then f32NegInf else f32Inf)
  else f32OfRat neg (f32Units x * f32Units y) (2 ^ 298)

/-- Division, RNE. -/
def f32Div (x y : Nat) : Nat :=
  let neg := f32Neg x != f32Neg y
  if f32NaN x || f32NaN y || (f32IsInf x && f32IsInf y) || (f32Mag x = 0 && f32Mag y = 0) then f32NaNBits
  else if f32IsInf x || f32Mag y = 0 then (if neg then f32NegInf else f32Inf)
  else if f32IsInf y then (if neg then 2 ^ 31 else 0)
  else f32OfRat neg (f32Units x) (f32Units y)

/-- The fp32 of a small integer. -/
def f32OfNat (n : Nat) : Nat := f32OfRat false n 1

def f32One : Nat := 0x3F800000

/-- ceil of a finite value, as an exact integer. -/
def f32Ceil (x : Nat) : Int := -((-(f32Val x)) / (2 ^ 149 : Int))

/-! ### Logit formats (R249, Table 9.2) -/

/-- The fp32 of a small floating-point format of `eb` exponent and `mb` mantissa bits, its all-ones exponent an
infinity or NaN as in IEEE 754. -/
def widen (eb mb x : Nat) : Nat :=
  let s := if bit x (eb + mb) then 2 ^ 31 else 0
  let e := (x >>> mb) % 2 ^ eb
  let m := x % 2 ^ mb
  let bias := 2 ^ (eb - 1) - 1
  if e = 2 ^ eb - 1 then s + f32Inf + (m <<< (23 - mb))
  else
    let u := if e = 0 then m else (2 ^ mb + m) * 2 ^ (e - 1)
    s + f32OfRat false u (2 ^ (bias + mb - 1))

/-- E4M3: no infinity; the all-ones encodings are NaN. -/
def widenE4M3 (x : Nat) : Nat :=
  let s := if bit x 7 then 2 ^ 31 else 0
  if x % 128 = 127 then s + f32NaNBits
  else
    let e := (x >>> 3) % 16
    let m := x % 8
    s + f32OfRat false (if e = 0 then m else (8 + m) * 2 ^ (e - 1)) (2 ^ 9)

/-- Bytes of an element of a format. -/
def formatBytes (f : Nat) : Nat := if f = 0 then 4 else if f = 1 || f = 2 then 2 else 1

/-- A logit of a format as fp32. -/
def logitF32 (f x : Nat) : Nat :=
  if f = 0 then x % 2 ^ 32 else if f = 1 then (x % 2 ^ 16) <<< 16 else if f = 2 then widen 5 10 (x % 2 ^ 16)
  else if f = 3 then widenE4M3 (x % 256) else widen 5 2 (x % 256)

/-! ### The exponent (R253) -/

/-- Integer square root by Newton's method from above. -/
def isqrtGo (n : Nat) : Nat → Nat → Nat
  | 0, x => x
  | fuel + 1, x => let y := (x + n / x) / 2; if x ≤ y then x else isqrtGo n fuel y

def isqrt (n : Nat) : Nat := if n = 0 then 0 else isqrtGo n 600 (2 ^ (Nat.log2 n / 2 + 1))

/-- Fraction bits in which powers of two are computed before they are rounded to the table's 40. -/
def expBits : Nat := 256

/-- 2^(−1/2^j) in `expBits` fraction bits. -/
def halfPow : Nat → Nat
  | 0 => 2 ^ (expBits - 1)
  | j + 1 => isqrt (halfPow j * 2 ^ expBits)

/-- The product of 2^(−1/2^j) over the bits of `x`, bit `b` standing for j = top − b. -/
def powGo (x top : Nat) : Nat → Nat → Nat
  | 0, acc => acc
  | b + 1, acc => powGo x top b (if bit x b then (acc * halfPow (top - b)) >>> expBits else acc)

/-- RNE(2^40 × 2^(−x/2^top)) for x below 2^12. -/
def expTable (x top : Nat) : Nat := rneDiv (powGo x top 12 (2 ^ expBits) * 2 ^ 40) (2 ^ expBits)

/-- A[h] and B[l] of R253. -/
def expA (h : Nat) : Nat := expTable h 12
def expB (l : Nat) : Nat := expTable l 24

/-- exp2q of R253 over fp32 bits of a non-negative value. -/
def exp2q (x : Nat) : Nat :=
  let dd := if 0x42800000 ≤ x then 64 * 2 ^ 24 else rneDiv (f32Units x * 2 ^ 24) (2 ^ 149)
  let n := dd / 2 ^ 24
  let f := dd % 2 ^ 24
  let ff := (expA (f / 4096) * expB (f % 4096)) >>> 40
  if 64 ≤ n then 0 else ff >>> n

/-! ### The logarithm (R259) -/

def lnBits : Nat := 384

/-- 2·atanh(u/v) in `lnBits` fraction bits, by its series. -/
def atanhGo (z2n z2d : Nat) : Nat → Nat → Nat → Nat → Nat
  | 0, _, _, acc => acc
  | fuel + 1, k, t, acc => atanhGo z2n z2d fuel (k + 2) (t * z2n / z2d) (acc + 2 * t / k)

def atanh2 (u v : Nat) : Nat := atanhGo (u * u) (v * v) 160 1 (u * 2 ^ lnBits / v) 0

def ln2Fixed : Nat := atanh2 1 3

/-- LP of R259: ln(a/b) for 0 < a ≤ b, in fp32; −inf where a is 0. The logarithm is computed in 384 fraction bits, far
below the spacing at which a rounding could differ. -/
def lnRatio (a b : Nat) : Nat :=
  if a = 0 then f32NegInf
  else if b ≤ a then 0
  else
    let k := (ratLog2 b a).toNat -- a·2^k ≤ b < a·2^(k+1)
    let u := a * 2 ^ k
    f32OfRat true (k * ln2Fixed + atanh2 (b - u) (b + u)) (2 ^ lnBits)

end Sys2Proof.Machine
end

