-- ==== Sys2Proof/Machine/Params.lean ====
section
/-! DEFINITION. Parameter blocks (chapter 9), selection descriptors (chapter 10) and plans (chapter 13): their fields
and the validity that test 2 of Table 5.2 asks. -/

namespace Sys2Proof.Machine

/-! ### The header (Table 9.1) -/

namespace Hdr
def seed (h : Nat) : Nat := bf h 1023 896
def temp (h : Nat) : Nat := bf h 895 864
def repPen (h : Nat) : Nat := bf h 863 832
def presPen (h : Nat) : Nat := bf h 831 800
def freqPen (h : Nat) : Nat := bf h 799 768
def topK (h : Nat) : Nat := bf h 767 736
def topP (h : Nat) : Nat := bf h 735 719
def minP (h : Nat) : Nat := bf h 718 703
def penPrompt (h : Nat) : Nat := bf h 702 696
def numBias (h : Nat) : Nat := bf h 695 689
def nAlt (h : Nat) : Nat := bf h 688 684
def numStop (h : Nat) : Nat := bf h 683 680
def numEnd (h : Nat) : Nat := bf h 679 677
def maskKind (h : Nat) : Nat := bf h 676 675
def endTok (h j : Nat) : Nat := bf h (671 - 24 * j) (648 - 24 * j)
def maskAddr (h : Nat) : Nat := bf h 575 512
def reportAddr (h : Nat) : Nat := bf h 511 448
def notBefore (h : Nat) : Nat := bf h 447 416
def stopLen (h j : Nat) : Nat := bf h (415 - 5 * j) (411 - 5 * j)
def specMode (h : Nat) : Nat := bf h 375 374
def specMax (h : Nat) : Nat := bf h 373 367
end Hdr

/-- The default header of R245: REP_PEN 1.0 and TOP_P 65,536, every other field zero. -/
def defaultHeader : Header := BitVec.ofNat 1024 (fields [(863, 832, 0x3F800000), (735, 719, 65536)])

/-- A positive value from 2^−126 to 65,536. -/
def f32Scale (x : Nat) : Bool := 0x00800000 ≤ x && x ≤ 0x47800000

/-- Bytes of a parameter block; those at and beyond PARAM_LEN read as zero (R244). -/
def blockBytes (b : List Byte) (k n : Nat) : Nat := ofLe ((b.drop k).take n)

def biasEntry (b : List Byte) (i : Nat) : Nat := blockBytes b (0x80 + 8 * i) 8
def stopWord (b : List Byte) (j i : Nat) : Nat := blockBytes b (0x280 + 64 * j + 4 * i) 4

/-- R246, over the fields of the header, with MODEL_VOCAB of the model. -/
def headerFieldsOk (h vocab : Nat) : Bool :=
  (f32Mag (Hdr.temp h) = 0 || f32Scale (Hdr.temp h)) && f32Scale (Hdr.repPen h)
  && f32Mag (Hdr.presPen h) ≤ 0x47800000 && f32Mag (Hdr.freqPen h) ≤ 0x47800000 && Hdr.topP h ≤ 65536
  && Hdr.penPrompt h ≤ 64 && Hdr.numBias h ≤ 64 && Hdr.nAlt h ≤ 20 && Hdr.numStop h ≤ 8 && Hdr.numEnd h ≤ 4
  && Hdr.maskKind h ≠ 3 && Hdr.specMode h ≠ 3
  && (List.range 8).all (fun j =>
      if j < Hdr.numStop h then Hdr.stopLen h j ≠ 0 && Hdr.stopLen h j ≤ 16 else Hdr.stopLen h j = 0)
  && (List.range 4).all (fun j => if j < Hdr.numEnd h then Hdr.endTok h j < vocab else Hdr.endTok h j = 0)
  && bf h 674 672 = 0 && bf h 366 0 = 0
  && (Hdr.maskKind h = 0 || (Hdr.maskAddr h ≠ 0 && Hdr.maskAddr h % 64 = 0)) && Hdr.reportAddr h % 64 = 0

/-- R246, over a class G or R block: its header, and the bias and stop entries that it uses. -/
def headerOk (b : List Byte) (vocab : Nat) : Bool :=
  let h := blockBytes b 0 128
  headerFieldsOk h vocab
  && (List.range (Hdr.numBias h)).all (fun i =>
      let e := biasEntry b i
      bf e 63 40 < vocab && bf e 39 32 = 0 && !f32NaN (bf e 31 0) && bf e 31 0 ≠ 0x7F800000
      && (List.range i).all (fun k => bf (biasEntry b k) 63 40 ≠ bf e 63 40))
  && (List.range (Hdr.numStop h)).all (fun j => (List.range 16).all (fun i =>
      if i < Hdr.stopLen h j then stopWord b j i < vocab && stopWord b j i < 2 ^ 24 else stopWord b j i = 0))

/-- The rows of R315. -/
def specOk (h : Nat) (c : Cls) (vocab : Nat) : Bool :=
  if c ≠ .g then Hdr.specMode h = 0 && Hdr.specMax h = 0
  else if Hdr.specMode h = 0 then Hdr.specMax h = 0
  else if Hdr.specMode h = 1 then 1 ≤ Hdr.specMax h && Hdr.specMax h ≤ 16 && vocab ≤ 1048576
  else 1 ≤ Hdr.specMax h && Hdr.specMax h ≤ 64

/-! ### Selection descriptors (Table 10.2) -/

/-- The conditions of R283 on one descriptor; `scanned`: it follows a scan or refine stage; `last`: the plan's last. -/
def selOk (x resultLen : Nat) (scanned last : Bool) : Bool :=
  1 ≤ Sel.k x && Sel.k x ≤ 32768 && 1 ≤ Sel.lists x && Sel.lists x ≤ 1024 && Sel.idw x ≠ 3
  && (Sel.idw x ≠ 0 || (!Sel.dedupe x && !Sel.tomb x)) && (!Sel.approx x || scanned) && (!Sel.toResult x || last)
  && (!Sel.toResult x || 64 + Sel.k x * Sel.width x ≤ resultLen) && bf x 29 0 = 0

/-! ### Plans (Table 13.2) -/

namespace Plan
def workAddr (p : Nat) : Nat := bf p 2047 1984
def workLen (p : Nat) : Nat := bf p 1983 1952
def allowAddr (p : Nat) : Nat := bf p 1951 1888
def allowBits (p : Nat) : Nat := bf p 1887 1856
def probeSel (p : Nat) : Nat := bf p 1855 1792
def mergeSel (p : Nat) : Nat := bf p 1791 1728
def refineSel (p : Nat) : Nat := bf p 1727 1664
def finalSel (p : Nat) : Nat := bf p 1663 1600
def index (p : Nat) : Nat := bf p 1599 1596
def strict (p : Nat) : Bool := bit p 1595
def refineOn (p : Nat) : Bool := bit p 1594
def packOn (p : Nat) : Bool := bit p 1593
def fbRerankValid (p : Nat) : Bool := bit p 1592
def rerankModel (p : Nat) : Nat := bf p 1591 1584
def fbRerankModel (p : Nat) : Nat := bf p 1583 1576
def fbCand (p : Nat) : Nat := bf p 1575 1560
def fbNprobe (p : Nat) : Nat := bf p 1559 1544
def minCoverage (p : Nat) : Nat := bf p 1543 1527
def packParamAddr (p : Nat) : Nat := bf p 1511 1448
def packPfxAddr (p : Nat) : Nat := bf p 1447 1384
def packPfxLen (p : Nat) : Nat := bf p 1383 1368
def packN (p : Nat) : Nat := bf p 1367 1352
def sepToken (p : Nat) : Nat := bf p 1351 1328
def packMaxTokens (p : Nat) : Nat := bf p 1327 1304
def packModel (p : Nat) : Nat := bf p 1303 1296
def packAdapter (p : Nat) : Nat := bf p 1295 1284
def packMaxNew (p : Nat) : Nat := bf p 1283 1261
def packDeadline (p : Nat) : Nat := bf p 1260 1229
def packSingleTurn (p : Nat) : Bool := bit p 1228
def packQuery (p : Nat) : Bool := bit p 1227

def ceil4K (n : Nat) : Nat := ceilDiv n 4096 * 4096

/-- Offsets of Table 13.3, from the query vector's size in bytes. -/
def qvLen (embed : Nat) : Nat := ceil4K embed
def stageOff (embed : Nat) : Nat := qvLen embed
def probeOff (embed : Nat) : Nat := qvLen embed + 0x40000
def aOff (p embed : Nat) : Nat := probeOff embed + ceil4K (Sel.k (probeSel p) * 8)
def bOff (p embed : Nat) : Nat := aOff p embed + ceil4K (Sel.k (mergeSel p) * Sel.width (mergeSel p))
def packOff (p embed : Nat) : Nat :=
  bOff p embed + ceil4K (if refineOn p then Sel.k (refineSel p) * Sel.width (refineSel p) else 0)
def workEnd (p embed : Nat) : Nat := packOff p embed + (if packOn p then 64 + 4 * packMaxTokens p else 0)

/-- Stages of a plan in order (R345). -/
def stages (c : Cls) (p : Nat) : List Nat :=
  match c with
  | .g => []
  | .e => [0]
  | .r => [0, 1, 2, 3, 4] ++ (if refineOn p then [5] else []) ++ [6, 7] ++ (if packOn p then [8] else [])

/-- The selection that feeds stage 6. -/
def feedSel (p : Nat) : Nat := if refineOn p then refineSel p else mergeSel p

/-- The selection that folds or is stage `s` (Table 13.1). -/
def selOf (p s : Nat) : Nat :=
  if s = 1 || s = 2 then probeSel p else if s = 3 || s = 4 then mergeSel p else if s = 5 then refineSel p
  else if s = 6 || s = 7 then finalSel p else 0

/-- The selection stage that ends fan-out stage `s`. -/
def foldStage (s : Nat) : Nat := if s = 1 then 2 else if s = 3 then 4 else if s = 6 then 7 else s

def isFanOut (s : Nat) : Bool := s = 1 || s = 3 || s = 5 || s = 6
end Plan

/-- R351 and R283 over a class R plan, with the index's current NLISTS and the request's figures. -/
def planOk (p embed nlists resultLen promptLen : Nat) : Bool :=
  let ps := Plan.probeSel p
  let ms := Plan.mergeSel p
  let rs := Plan.refineSel p
  let fs := Plan.finalSel p
  selOk ps resultLen false false && selOk ms resultLen true false && selOk fs resultLen false true
  && (if Plan.refineOn p then selOk rs resultLen true false && Sel.idw rs ≠ 0 else rs = 0)
  && Plan.workAddr p % 4096 = 0 && Plan.workEnd p embed ≤ Plan.workLen p
  && Plan.allowAddr p % 64 = 0 && (Plan.allowAddr p = 0 || Plan.allowBits p ≠ 0)
  && Sel.idw ps = 0 && ceilDiv nlists 4096 ≤ Sel.lists ps && Sel.idw ms ≠ 0 && Sel.idw fs ≠ 0
  && Sel.toResult fs && (Plan.fbNprobe p < Sel.k ps) && (Plan.fbCand p < Sel.k (Plan.feedSel p))
  && Plan.minCoverage p ≤ 65536 && bf p 1526 1512 = 0 && bf p 1226 0 = 0
  && (!Plan.packOn p || (1 ≤ Plan.packN p && Plan.packN p ≤ Sel.k fs && 1 ≤ Plan.packMaxTokens p
      && Plan.packMaxTokens p ≤ 4194304 && Plan.packParamAddr p % 64 = 0
      && (!Plan.packQuery p || Plan.packPfxLen p + promptLen + 2 ≤ Plan.packMaxTokens p)))

/-! ### Models and adapters (R196) -/

def modelRegistered (d : Device) (v : Nat) : Bool := v < 256 && odGet d Od.MODEL_STATE v = 1

/-- The active version of a model identifier, where it is REGISTERED. -/
def resolveModel (d : Device) (m : Nat) : Option Nat :=
  let v := odGet d Od.MODEL_ACTIVE m
  if m < 256 && modelRegistered d v then some v else none

def classOk (d : Device) (v : Nat) (c : Cls) : Bool := bit (odGet d Od.MODEL_CLASSES v) c.code

def adapterOk (d : Device) (adapter m v : Nat) : Bool :=
  let a := odGetC d Od.ADAPTER_MODEL adapter
  a = 0xFFFE || a = m || a = v

/-! ### Cost of plan stages (R126, R361) -/

/-- Version that serves stage `s` with the fallback steps in force. -/
def stageVersion (d : Device) (v p fb s : Nat) : Nat :=
  if s = 6 then
    (resolveModel d (if bit fb 0 then Plan.fbRerankModel p else Plan.rerankModel p)).getD
      (if bit fb 0 then Plan.fbRerankModel p else Plan.rerankModel p)
  else v

/-- COST_STAGE_NS of stage `s` in ns; `cand`: candidates in the input of stage 6. -/
def stageCost (d : Device) (v p fb cand s : Nat) : Nat :=
  if s = 8 then 0
  else
    let c := odGet d (Od.COST_STAGE_NS + s) (stageVersion d v p fb s)
    if s = 6 && bit fb 1 && cand ≠ 0 then ceilDiv (c * Plan.fbCand p) cand
    else if s = 3 && bit fb 2 then ceilDiv (c * Plan.fbNprobe p) (Sel.k (Plan.probeSel p))
    else c

/-- The sum over a list of stages. -/
def stagesCost (d : Device) (v p fb cand : Nat) (ss : List Nat) : Nat := sumBy (stageCost d v p fb cand) ss

/-- R126 in TICK, for work with no start cost of its own added: backlog in µs and work in ns. -/
def predictTicks (backlogUs workNs : Nat) : Nat := ceilDiv (backlogUs * 1000 + workNs) 1000

/-- Work of a class G turn in ns, without COST_FIXED_NS. -/
def genCost (d : Device) (v uncached maxTokens : Nat) : Nat :=
  ceilDiv (uncached * odGet d Od.COST_PREFILL_PS v) 1000 + maxTokens * odGet d Od.COST_DECODE_NS v

end Sys2Proof.Machine
end

