-- ==== Sys2Proof/Machine/Models.lean ====
section
/-! DEFINITION. Engine groups, model loads (R174, R175, R196 to R202), switching costs (R190), the backlog a group
reports (R191) and the answer to a prefix lookup (R125, R232). -/

namespace Sys2Proof.Machine

/-! ### Groups (Table 7.1) -/

/-- ONLINE is 1, and the home slice is not declared lost (R388). -/
def groupOnline (d : Device) (g : Nat) : Bool := bit (groupCfg d g) 20 && !d.faults.lost.contains (groupHome d g)

/-- Groups with a GROUP_CFG, in index order. -/
def groups (d : Device) : List Nat := (odStored d Od.GROUP_CFG).map Prod.fst
def onlineGroups (d : Device) : List Nat := (groups d).filter (groupOnline d)
def homedGroups (d : Device) : List Nat := (groups d).filter (fun g => groupHome d g = d.ident.index)

/-- TILE_ONLINE (R390), for a tile of this slice's die. -/
def tileOnline (d : Device) (t : Nat) : Bool :=
  t / 128 = d.ident.index && bit (odGet d Od.TILE_ONLINE (t % 128 / 64)) (t % 64)

def onlineTiles (d : Device) (g : Nat) : List Nat := (groupTiles d g).filter (tileOnline d)

/-! ### Hot sets (R198) -/

def hotSlots (d : Device) (g : Nat) : Nat := odGet d Od.GROUP_HOT_SLOTS g
def hotAt (d : Device) (g s : Nat) : Nat := odGet d (Od.GROUP_HOT_MAP + s) g
def setHot (d : Device) (g s v : Nat) : Device := odSet d (Od.GROUP_HOT_MAP + s) g v

/-- The slot of `g` that holds `v`. -/
def hotSlotOf (d : Device) (g v : Nat) : Option Nat := (List.range (hotSlots d g)).find? (fun s => hotAt d g s = v)

def loadInto (d : Device) (g s : Nat) : Option Load := (d.group g).loads.find? (fun l => l.slot = s)
def loadBusy (d : Device) (g s : Nat) : Bool :=
  match loadInto d g s with
  | some l => l.doneCyc.isNone
  | none => false

/-- `v` is in a slot and its warm-up has passed (R190, R200). -/
def modelReady (d : Device) (g v : Nat) : Bool :=
  match hotSlotOf d g v with
  | some s => (loadInto d g s).isNone
  | none => false

/-- R199. -/
def canLoad (d : Device) (g v : Nat) : Bool :=
  groupOnline d g && 1 ≤ hotSlots d g && odGet d Od.MODEL_WEIGHT_BYTES v ≤ odGet d Od.GROUP_SLOT_BYTES g
    && !(d.group g).blockedFor.contains v

/-- A command of the group that names version `v` is in flight. -/
def modelInFlight (d : Device) (g v : Nat) : Bool := d.inflight.any (fun p => p.2.group = g && p.2.model = v)

/-- R199. -/
def slotEvictable (d : Device) (g s : Nat) : Bool :=
  !bit (odGet d Od.GROUP_HOT_PIN g) s && !loadBusy d g s && !modelInFlight d g (hotAt d g s)
    && (match (d.group g).building with | some st => st.model ≠ hotAt d g s | none => true)

/-- The slot that takes a load: the lowest empty one, or the evictable one taken longest ago. -/
def loadSlot (d : Device) (g : Nat) : Option Nat :=
  let ss := List.range (hotSlots d g)
  match ss.find? (fun s => hotAt d g s = 0xFFFF && !loadBusy d g s) with
  | some s => some s
  | none => minBy (fun s => Map.getD (d.group g).lastTaken (hotAt d g s) 0) (ss.filter (slotEvictable d g))

/-- A load fails (R202): the slot stays empty, and the model's sequences on the group take row 24. -/
def loadFailed (d : Device) (g s v : Nat) : Device :=
  let d := setHot d g s 0xFFFF
  let d := d.modGroup g (fun gr => { gr with
    loads := gr.loads.filter (fun l => l.slot ≠ s), blockedFor := gr.blockedFor ++ [v] })
  let d := alertLog d ALERT_MODEL_LOAD_ERR g 0 0 v
  d.seqs.foldl (fun d p =>
    if p.2.tcb.group = g && p.2.version = v && p.2.tcb.state.running then faultSeq d p.1 .faultTile else d) d

/-- Descriptors of at most 1 GiB from byte `k·2^30` on (R198). -/
def loadMoves (d : Device) (g s v num bytes : Nat) : Nat → Nat → Device
  | 0, _ => d
  | n + 1, k =>
    let len := min (2 ^ 30) (bytes - k * 2 ^ 30)
    loadMoves (postMove d
      { kind := .weights g s num, slot := 0, srcPage := pageNone, dstPage := pageNone
        srcAddr := odGet d Od.MODEL_IMAGE_ADDR v + k * 2 ^ 30
        dstAddr := odGet d Od.GROUP_WEIGHT_BASE g + s * odGet d Od.GROUP_SLOT_BYTES g + k * 2 ^ 30
        bytes := len, partition := odGet d Od.MODEL_PARTITION v }) g s v num bytes n (k + 1)

/-- Every descriptor has returned DONE: the slot is written, and the warm-up starts (R198). -/
def loadWritten (d : Device) (g s v : Nat) : Device :=
  let now := d.clk.rootcyc
  (setHot d g s v).modGroup g (fun gr => { gr with
    loads := gr.loads.map (fun l => if l.slot = s then { l with left := 0, bytesLeft := 0, doneCyc := some now } else l) })

/-- A load of `v` into slot `s` of `g` starts (R198, R199). -/
def startLoadInto (d : Device) (g s v : Nat) : Device :=
  let bytes := odGet d Od.MODEL_WEIGHT_BYTES v
  let d := bump (setHot d g s 0xFFFF) Od.DISPATCH_STATS 7
  if odGet d Od.GROUP_SLOT_BYTES g < bytes then loadFailed d g s v
  else
    let n := ceilDiv bytes (2 ^ 30)
    let num := (d.group g).loadCount
    let d := d.modGroup g (fun gr => { gr with
      loadCount := gr.loadCount + 1
      loads := gr.loads.filter (fun l => l.slot ≠ s)
        ++ [{ num := num, slot := s, version := v, left := n, bytesLeft := bytes }] })
    if n = 0 then loadWritten d g s v else loadMoves d g s v num bytes n 0

/-- The load into slot `s` that a descriptor belongs to, where it is still in progress. -/
def loadOf (d : Device) (g s num : Nat) : Option Load :=
  match loadInto d g s with
  | some l => if l.num = num then some l else none
  | none => none

/-- A candidate or hand-over of a model that is in no slot (R199). -/
def wantModel (d : Device) (g v : Nat) : Device :=
  if groupHome d g ≠ d.ident.index || !groupOnline d g || (hotSlotOf d g v).isSome
      || (d.group g).loads.any (fun l => l.version = v) || (d.group g).blockedFor.contains v then d
  else match loadSlot d g with
    | some s => startLoadInto d g s v
    | none => d

/-! ### Switching costs (R190) -/

/-- A published rate; 0 is taken as 1 MB/s. -/
def switchRate (d : Device) (entry : Nat) : Nat := max 1 (odGet d entry 0)

def tSeq (d : Device) (v pagesOut pagesIn : Nat) : Nat :=
  600 + ceilDiv (pagesOut * odGet d Od.MODEL_PAGE_BYTES v * 1000) (switchRate d Od.SWITCH_B_DEMOTE_MBPS)
    + ceilDiv (pagesIn * odGet d Od.MODEL_PAGE_BYTES v * 1000) (switchRate d Od.SWITCH_B_PROMOTE_MBPS)

def tModel (d : Device) (v : Nat) : Nat :=
  ceilDiv (odGet d Od.MODEL_WEIGHT_BYTES v * 1000) (switchRate d Od.SWITCH_B_WEIGHTS_MBPS) + 40000

/-! ### Backlog (R191) -/

/-- Now, in ns. -/
def nowNs (d : Device) : Nat := d.clk.rootcyc * 1000 / d.mhz

def nsOf (d : Device) (cyc : Nat) : Nat := cyc * 1000 / d.mhz

/-- Time a step that is dispatched has still to run. -/
def stepLeft (d : Device) (st : Step) : Nat :=
  nsOf d st.dispatchCyc + (if st.lengthened then st.tLen else st.tPred) - nowNs d

/-- Plan stages of a sequence that have not been issued. -/
def stagesUnissued (q : Seq) : List Nat :=
  (Plan.stages q.tcb.cls q.plan.bits.toNat).filter (fun s =>
    q.plan.stage < s || (s = q.plan.stage && !q.plan.stageIssued))

/-- Prompt tokens of the turn not yet committed. -/
def promptLeft (q : Seq) : Nat := q.promptLen - (q.ctx.clen - q.ctx.turnBase)

/-- Candidates in the input of stage 6: those of the list delivered, or K of the selection that feeds it (R361). -/
def planCand (q : Seq) : Nat :=
  let p := q.plan.bits.toNat
  let feed := if Plan.refineOn p then 5 else 3
  if q.plan.stage = 6 || (q.plan.stage = feed && q.plan.delivered) then
    match q.plan.latest with | some r => r.entries.length | none => 0
  else Sel.k (Plan.feedSel p)

/-- What a sequence adds to W. -/
def seqBacklog (d : Device) (slot : Nat) (q : Seq) : Nat :=
  (match q.tcb.cls with
   | .g =>
     if q.tcb.state = .admitted || q.tcb.state = .prefill then
       ceilDiv (promptLeft q * odGet d Od.STEP_PREFILL_PS q.version) 1000
     else 0
   | c =>
     if q.tcb.state.running || q.tcb.state = .parked then
       ceilDiv (stagesCost d q.version q.plan.bits.toNat q.plan.fbUsed (planCand q) ((stagesUnissued q).filter (fun s =>
         s ∈ Plan.stages c q.plan.bits.toNat))) (max 1 (groupCount d q.tcb.group))
     else 0) +
  sumBy (fun m => if m.isDemotion then tSeq d q.version 1 0 else if m.isPromotion then tSeq d q.version 0 1 else 0)
    (movesOf d slot)

/-- ROOTCYC at which the warm-up of a slot written at `cyc` ends (R198). -/
def warmAt (d : Device) (v cyc : Nat) : Nat := cyc + odGet d Od.MODEL_WARMUP_US v * d.mhz

/-- Time still to run of a load in progress, with its warm-up. -/
def loadLeft (d : Device) (l : Load) : Nat :=
  match l.doneCyc with
  | some t => nsOf d (warmAt d l.version t - d.clk.rootcyc)
  | none => ceilDiv (l.bytesLeft * 1000) (switchRate d Od.SWITCH_B_WEIGHTS_MBPS) + 40000
              + odGet d Od.MODEL_WARMUP_US l.version * 1000

/-- BACKLOG_US of a group homed here. -/
def backlogUs (d : Device) (g : Nat) : Nat :=
  let w := sumBy (stepLeft d) (d.group g).dispatched
    + sumBy (fun p => seqBacklog d p.1 p.2) (d.seqs.filter (fun p => p.2.tcb.group = g))
    + sumBy (loadLeft d) (d.group g).loads
  min 0xFFFFF (ceilDiv w 1000)

/-! ### Lookup answers (R125, R232) -/

/-- Probes of a lookup: page counts c_i for K0 pages (R232). -/
def probeCounts (k0 : Nat) : List Nat :=
  if k0 ≤ 16 then (List.range k0).map (· + 1)
  else (List.range 8).map (· + 1) ++ (List.range 8).map (fun i => 8 + ceilDiv ((k0 - 8) * (i + 1)) 8)

/-- The lookup of R232. -/
def lookupMessage (id scope model adapter group : Nat) (probes : List Nat) : Nat :=
  fields ([(2047, 2032, id), (2031, 2026, scope), (2025, 2018, model), (2017, 2006, adapter), (2005, 1998, group),
    (1997, 1993, probes.length)] ++ (indexed 0 probes).map (fun p => (96 * p.1 + 95, 96 * p.1, p.2)))

def offlineGroup (d : Device) (g : Nat) : Bool := !groupOnline d g || (onlineTiles d g).isEmpty

/-- Load summary of Table 5.3 but for CACHED_PAGES. -/
def loadSummary (d : Device) (g cached : Nat) : Nat :=
  fields [(63, 40, cached), (39, 20, backlogUs d g), (19, 7, 4096 - d.inflight.length),
    (6, 6, ofBool d.power.limited), (5, 5, ofBool (allocSlot d).isNone),
    (4, 4, ofBool (odGet d Od.SLICE_DRAIN 0 = 1)), (3, 3, ofBool (offlineGroup d g))]

/-- The greatest page count whose probe hits, with the hits' ages renewed (R230, R232). The hash of page count c_i hits
the entry of a page that ends c_i full pages. -/
def probeAll (d : Device) (scope model adapter : Nat) : List Nat → Device × Nat
  | [] => (d, 0)
  | h :: l =>
    match prefixProbe d h scope model adapter with
    | some (i, p) =>
      let r := probeAll (prefixAge d i) scope model adapter l
      (r.1, max p.pages r.2)
    | none => probeAll d scope model adapter l

/-- Serves a prefix lookup for a group homed here: counted (R243), the slice after it and the 32-byte answer. -/
def serveLookup (d : Device) (id scope model adapter g : Nat) (probes : List Nat) : Device × Nat :=
  let r := probeAll (bump d Od.CTX_STATS 0) scope model adapter probes
  let d := r.1
  (d, fields [(255, 240, id), (191, 168, freePages d), (167, 167, ofBool (hotSlotOf d g model).isSome),
    (127, 64, loadSummary d g r.2)])

end Sys2Proof.Machine
end

