-- ==== Sys2Proof/Machine/Turnstile.lean ====
section
/-! DEFINITION. The turnstile (chapter 5): shares, the queue, flows, the admission tests, candidates, prediction and
hand-over, as the owning slice of a ring pair makes them. -/

namespace Sys2Proof.Machine

/-! ### Shares (R131, R133) -/

def wEff (d : Device) (c : Nat) : Nat := max 1 (odGetC d Od.CLIENT_WEIGHT c)

/-- view_vtime of R131. -/
def viewVtime (d : Device) (c : Nat) : Nat :=
  (Map.getD d.acct c {}).vtime + ((Map.getD d.acct c {}).dNs * 65536) / wEff d c

/-! ### Decisions -/

def dec? (d : Device) (did : Nat) : Option Decision := d.turn.decisions.find? (fun x => x.did = did)

def modDec (d : Device) (did : Nat) (f : Decision → Decision) : Device :=
  d.modTurn (fun t => { t with decisions := modFirst (fun x => x.did = did) f t.decisions })

def delDec (d : Device) (did : Nat) : Device :=
  d.modTurn (fun t => { t with decisions := removeFirst (fun x => x.did = did) t.decisions })

/-- The request waits, and is no decision in progress. -/
def Decision.isQueued (x : Decision) : Bool := x.phase = .queued || x.phase = .flowWait || x.phase = .granted

/-- Decisions in progress (R121). -/
def decisionsBusy (d : Device) : Nat := (d.turn.decisions.filter (fun x => !x.isQueued)).length

/-- Queue entries (R127), of all clients and of one; the latter is DEMAND of Table 5.4. -/
def queueEntries (d : Device) : List Decision := d.turn.decisions.filter (fun x => x.slot.isSome)
def demandOf (d : Device) (c : Nat) : Nat := ((queueEntries d).filter (fun x => x.client = c)).length

/-- LIVE_LOCAL of Table 5.4. -/
def liveOf (d : Device) (c : Nat) : Nat := (d.seqs.filter (fun p => p.2.tcb.client = c)).length

def Decision.isCont (x : Decision) : Bool := match x.op with | .cont _ => true | _ => false
def Decision.isRestore (x : Decision) : Bool := match x.op with | .restore _ _ _ => true | _ => false
def Decision.handle (x : Decision) : Nat := match x.op with | .cont h => h | _ => 0

/-- Slack against a predicted time; `none` without a deadline (R126). -/
def slackOf (d : Device) (x : Decision) (p : Nat) : Option Int :=
  if x.turn.deadline = 0 then none else some ((x.turn.consumeTick + x.turn.deadline : Nat) - (d.tick : Nat) - (p : Nat))

def slackBits (s : Option Int) : Nat := match s with | none => noSlack | some i => clipI32 i

/-! ### Leaving the turnstile -/

/-- Marks one further pass as due (R129). -/
def markPass (d : Device) : Device := d.modTurn (fun t => { t with passDue := true })

/-- The re-test of an entry has ended; `stop` ends the pass (R129). -/
def endRetest (d : Device) (did : Nat) (stop : Bool) : Device :=
  match dec? d did with
  | none => d
  | some x =>
    if x.retest then
      (modDec d did (fun x => { x with retest := false })).modTurn (fun t => { t with
        pass := match t.pass with
          | some (_ :: l) => if stop || l.isEmpty then none else some l
          | p => p })
    else d

/-- A sequence grant goes back (R134). -/
def returnGrant (d : Device) (did : Nat) : Device :=
  match dec? d did with
  | none => d
  | some x =>
    if x.grant then
      (modDec d did (fun x => { x with grant := false })).modClient x.client (fun a => { a with seqGrant := a.seqGrant + 1 })
    else d

/-- Takes the entry out of its flow's queue. -/
def leaveFlowQueue (d : Device) (did : Nat) : Device :=
  { d with flows := d.flows.map (fun p => (p.1, { p.2 with queue := p.2.queue.filter (· ≠ did) })) }

/-- The candidate that refused, or did not acknowledge, a hand-over is struck (R125). -/
def strike (d : Device) (did : Nat) : Device := modDec d did (fun x => { x with struck := x.struck ++ [x.chosen], phase := .lookups })

/-- The decision ends: its grant is kept only where it was admitted. -/
def dropDecision (d : Device) (did : Nat) : Device := leaveFlowQueue (delDec (endRetest d did false) did) did

/-- ADMIT_COUNTS of a refusal (R141). -/
def countRefusal (d : Device) (st : Status) : Device :=
  if st = .rejQuota then bump d Od.ADMIT_COUNTS 3
  else if st = .rejCapacity then bump d Od.ADMIT_COUNTS 4
  else if st = .rejInfeasible then bump d Od.ADMIT_COUNTS 5
  else d

/-- The answer of a refused decision; a spawn's goes to the parent's home (R364). `tokens`: the tokens of the turn that
the home slice reported with its refusal, where it did. -/
def refuseDecision (d : Device) (did : Nat) (st : Status) (test : Nat) (slack : Option Int) (tokens : Option Nat := none) :
    Device :=
  match dec? d did with
  | none => d
  | some x =>
    let slack := match slack with
      | some i => clipI32 i
      | none => if x.turn.deadline = 0 then noSlack else openSlack d x.ring x.turn.hseq
    let d := dropDecision (returnGrant d did) did
    let d := countRefusal d st
    match x.op with
    | .spawn _ src hid =>
      let d := traceRec d TR_REJECT 0 x.client (odGetC d Od.CLIENT_PARTITION x.client)
        (fields [(127, 96, x.turn.hseq), (95, 88, x.ring), (87, 80, st.code), (79, 76, test), (75, 44, slack)])
      sendXfer d src (.handOverAck hid (.refused st)) 32
    | _ => refuse d x.ring st x.turn.hseq x.userTag x.client x.handle 0 x.noIrq test slack
             (tokens.getD (ownedTokens d x.handle))

/-! ### The queue (R122, R127) -/

def highestNotIn (used : List Nat) : Nat → Option Nat
  | 0 => none
  | n + 1 => if used.contains n then highestNotIn used n else some n

/-- The highest-numbered allocatable record slot. -/
def queueSlot (d : Device) : Option Nat := highestNotIn (slotBusy d) 65536

/-- Queues the request, or refuses it at a limit (R127). `test`: of Table 5.2, 0 for a flow. Where both bounds of the
queue are reached, test 4 refuses with REJ_QUOTA and the others with REJ_CAPACITY (log entry 64). -/
def queueDecision (d : Device) (did : Nat) (wait : QWait) (test : Nat) : Device :=
  let d := returnGrant d did
  match dec? d did with
  | none => d
  | some x =>
    let phase : DecPhase := if wait = .flow then .flowWait else .queued
    if x.slot.isSome then
      endRetest (modDec d did (fun x => { x with phase := phase, wait := wait, lookups := x.lookups })) did (test = 6)
    else
      let full := odGet d Od.QUEUE_LIMIT 0 ≤ (queueEntries d).length
      let cfull := odGetC d Od.CLIENT_QUEUE_MAX x.client ≤ demandOf d x.client
      match queueSlot d with
      | none => refuseDecision d did .rejCapacity test none
      | some s =>
        if test = 4 && cfull then refuseDecision d did .rejQuota test none
        else if full then refuseDecision d did .rejCapacity test none
        else if cfull then refuseDecision d did .rejQuota test none
        else
          let d := modDec d did (fun x => { x with phase := phase, wait := wait, slot := some s })
          let d := bump d Od.ADMIT_COUNTS 1
          traceRec d TR_QUEUE 0 x.client (odGetC d Od.CLIENT_PARTITION x.client)
            (fields [(127, 96, x.turn.hseq), (95, 88, x.ring), (87, 84, test), (83, 69, (queueEntries d).length),
              (63, 0, viewVtime d x.client)])

/-! ### Flows (R111 to R113) -/

/-- The set of a flow (R111). -/
def flowSet (ring client key : Nat) : Nat :=
  crcOf crc32c (leBytes (ring <<< 44 ||| client <<< 32 ||| key) 8) % 4096

def findFlow (d : Device) (ring client key : Nat) : Option (Nat × Flow) :=
  d.flows.find? (fun p => p.2.ring = ring && p.2.client = client && p.2.key = key)

/-- A flow entry as the table holds it (Table 4.7). -/
def flowBits (d : Device) (f : Flow) : Nat :=
  let entry (x : Option Nat) : Nat := ((x.bind (dec? d)).bind Decision.slot).getD 0
  fields [(511, 480, f.key), (479, 472, f.ring), (471, 460, f.client), (459, 459, 1), (458, 458, ofBool f.busy),
    (457, 450, f.queue.length), (447, 416, f.svcHseq), (415, 384, f.svcHandle), (383, 368, f.live),
    (367, 352, entry f.queue.head?), (351, 336, entry f.queue.getLast?), (335, 304, f.served), (303, 240, f.grantTick)]

/-- The lowest-numbered invalid way of a set. -/
def freeWay (d : Device) (set : Nat) : Option Nat :=
  ((List.range 8).find? (fun w => !Map.has d.flows (set * 8 + w))).map (fun w => set * 8 + w)

/-- A flow with nothing live, waiting or in service leaves the table. -/
def tidyFlow (d : Device) (i : Nat) : Device :=
  match Map.find d.flows i with
  | some f => if f.live = 0 && f.queue.isEmpty && !f.busy then { d with flows := Map.del d.flows i } else d
  | none => d

def modFlow (d : Device) (i : Nat) (f : Flow → Flow) : Device := { d with flows := Map.mod d.flows i f }

/-- An item enters service; SVC_HANDLE is 0 until it is admitted (R111, R112). -/
def serveFlow (d : Device) (i hseq : Nat) : Device :=
  let now := d.tick
  modFlow d i (fun f => { f with
    busy := true, svcHseq := hseq, svcHandle := 0, served := (f.served + 1) % 2 ^ 32, grantTick := now })

/-! ### Prediction (R126) -/

/-- Work in ns of a request on version `v` with plan fallback steps `fb` and so many uncached prompt tokens. -/
def requestCost (d : Device) (x : Decision) (v fb uncached : Nat) : Nat :=
  odGet d Od.COST_FIXED_NS v +
  match x.cls with
  | .g => genCost d v uncached x.turn.maxTokens
  | c =>
    let p := x.plan.toNat
    stagesCost d v p fb (Sel.k (Plan.feedSel p)) (Plan.stages c p)

/-- BACKLOG_US last reported for a group; 0 before any answer. -/
def knownBacklog (d : Device) (g : Nat) : Nat := (Map.getD d.turn.know g {}).backlogUs

/-- The owning slice knows the group to hold the version (R201). -/
def knownHot (d : Device) (g v : Nat) : Bool := (Map.getD d.turn.know g {}).hot.contains v

/-- B of a candidate: with the cost of a model switch where the group is not known to hold the version (R191). -/
def candBacklog (d : Device) (g v : Nat) : Nat :=
  knownBacklog d g + (if knownHot d g v then 0 else ceilDiv (tModel d v) 1000 + odGet d Od.MODEL_WARMUP_US v)

/-- The group can load the version, as far as the owning slice can tell: a remote group is taken as able. -/
def knownLoadable (d : Device) (g v : Nat) : Bool :=
  groupOnline d g && (groupHome d g ≠ d.ident.index || canLoad d g v)

def groupServes (d : Device) (v g : Nat) : Bool := knownHot d g v || knownLoadable d g v

/-- Versions besides the request's own that its group has to serve (R351). -/
def planVersions (d : Device) (p : Nat) : Option (List Nat) :=
  let one (need : Bool) (m : Nat) (c : Cls) : Option (List Nat) :=
    if !need then some []
    else match resolveModel d m with
      | some v => if classOk d v c then some [v] else none
      | none => none
  match one true (Plan.rerankModel p) .r, one (Plan.fbRerankValid p) (Plan.fbRerankModel p) .r,
      one (Plan.packOn p) (Plan.packModel p) .g with
  | some a, some b, some c => some (a ++ b ++ c)
  | _, _, _ => none

/-- Fallback plans of a class R request, cheapest last (R361): bit 0 F1, bit 1 F2, bit 2 F3. -/
def planFallbacks (p : Nat) : List Nat :=
  let f1 := if Plan.fbRerankValid p then [1] else []
  let f2 := if Plan.fbCand p ≠ 0 then [2] else []
  let f3 := if Plan.fbNprobe p ≠ 0 then [4] else []
  let s := f1 ++ f2 ++ f3
  match s with
  | [a] => [a]
  | [a, b] => [a, a + b]
  | [a, b, c] => [a, a + b, a + b + c]
  | _ => []

/-- Version of the fallback model of a class G or E request, where it passes test 1 in its own right. A class E request
is judged on it as R126 says of class G, by the MODEL_FALLBACK of the model that the record names (log entry 122). -/
def fallbackVersion (d : Device) (x : Decision) : Option Nat :=
  let m := odGet d Od.MODEL_FALLBACK x.model
  if m = 0xFFFF || x.cls = .r then none
  else match resolveModel d m with
    | some v =>
      if classOk d v x.cls && adapterOk d x.adapter m v && (onlineGroups d).any (groupServes d v) then some v else none
    | none => none

/-! ### Test 1 -/

/-- Test 1 of Table 5.2, as far as it needs no parameter block; the version. -/
def testOne (d : Device) (x : Decision) : Option Nat :=
  match resolveModel d x.model with
  | some v =>
    if classOk d v x.cls && adapterOk d x.adapter x.model v && (onlineGroups d).any (groupServes d v) then some v
    else none
  | none => none

/-- The CURRENT epoch slot of an index on this slice. -/
def currentEpoch (d : Device) (index : Nat) : Option EpochSlot :=
  d.epochs.find? (fun e => e.state = .current && e.index = index)

/-- The part of test 1 that reads the plan (R351). -/
def testOnePlan (d : Device) (x : Decision) : Bool :=
  x.cls ≠ .r ||
    (match planVersions d x.plan.toNat with
     | some vs => (onlineGroups d).any (fun g => groupServes d x.version g && vs.all (fun v => groupServes d v g))
        && (currentEpoch d (Plan.index x.plan.toNat)).isSome
     | none => false)

/-! ### Candidates (R124) -/

/-- An answer of the group has been received since the slice raised FY_READY. -/
def groupHeard (d : Device) (g : Nat) : Bool := Map.has d.turn.know g

/-- BACKLOG_US that orders the groups in step 1: 0 for one that has never answered. -/
def orderBacklog (d : Device) (v g : Nat) : Nat := if groupHeard d g then candBacklog d g v else 0

/-- The group holds the version, or it can load it and no online group holds it (step 1). -/
def takenFor (d : Device) (v g : Nat) : Bool :=
  knownHot d g v || (knownLoadable d g v && !(onlineGroups d).any (fun g => knownHot d g v))

/-- Groups that may take the request, in the order of step 1; one that has never answered is asked first. -/
def candidateGroups (d : Device) (x : Decision) : List Nat :=
  let extra := if x.cls = .r then (planVersions d x.plan.toNat).getD [] else []
  let gs := (onlineGroups d).filter (fun g => extra.all (fun v => groupServes d v g) && !x.struck.contains g
    && (!groupHeard d g || takenFor d x.version g))
  (sortBy (fun a b => orderBacklog d x.version a ≤ orderBacklog d x.version b) gs).take (odGet d Od.ADMIT_CANDIDATES 0)

/-- An answer to a lookup: what it says of the group (R124 step 2, R201). -/
def noteAnswer (d : Device) (g v ans : Nat) : Device :=
  let s := bf ans 127 64
  d.modTurn (fun t =>
    let k := Map.getD t.know g {}
    let hot := k.hot.filter (· ≠ v)
    let k : GroupKnow :=
      { backlogUs := bf s 39 20, freeSlots := bf s 19 7, freePages := bf ans 191 168, powerLimited := bit s 6,
        noRecord := bit s 5, draining := bit s 4, offline := bit s 3, hot := if bit ans 167 then hot ++ [v] else hot }
    { t with know := Map.put t.know g k })

/-- Tokens of the prompt not cached on a candidate. -/
def uncachedOf (d : Device) (x : Decision) (cached : Nat) : Nat := x.turn.promptLen - cached * pageTokens d x.version

/-- Step 3 of R124 for one candidate; one on a slice that has been lost since it answered is struck too (R388), and so is
one that turns out not to hold the version while another group does (step 1, log entry 138). -/
def candAlive (d : Device) (x : Decision) (l : Lookup) : Bool :=
  match Map.find d.turn.know l.group with
  | none => false
  | some k =>
    !x.struck.contains l.group && groupOnline d l.group && !k.noRecord && !k.draining && !k.offline
    && (x.isCont || takenFor d x.version l.group)
    && (x.isRestore ||
        ceilDiv (uncachedOf d x l.cachedPages) (pageTokens d x.version) + odGet d Od.DECODE_PAGE_RESERVE 0 ≤ k.freePages)
    && (!x.isRestore || groupHome d l.group ≠ d.ident.index || (match x.image with
        | some im => imageRoom d im
        | none => true))
    && (x.cls = .g || odGet d Od.DECODE_SLOT_RESERVE 0 < k.freeSlots)

def knownLimited (d : Device) (g : Nat) : Bool := (Map.getD d.turn.know g {}).powerLimited

/-- Steps 3 and 4 of R124. -/
def survivors (d : Device) (x : Decision) : List Lookup :=
  let s := x.lookups.filter (candAlive d x)
  let free := s.filter (fun l => !knownLimited d l.group)
  if !free.isEmpty then free
  else s.filter (fun l => x.cls ≠ .g || uncachedOf d x l.cachedPages ≤ odGet d Od.POWER_PREFILL_LIMIT 0)

/-- Step 5 of R124. -/
def chooseGroup (d : Device) (x : Decision) (s : List Lookup) : Option Lookup :=
  match minBy (fun l => candBacklog d l.group x.version) s with
  | none => none
  | some m =>
    let bound := candBacklog d m.group x.version + odGet d Od.GROUP_LOAD_SLACK 0
    minBy (fun l => (2 ^ 24 - l.cachedPages) * 256 + l.group)
      (s.filter (fun l => candBacklog d l.group x.version ≤ bound))

/-! ### Hand-over (R27) -/

def freshId (d : Device) : Device × Nat :=
  (d.modTurn (fun t => { t with nextId := t.nextId + 1 }), d.turn.nextId)

/-- What a decision hands over. -/
def handOverOf (d : Device) (x : Decision) (id g cached : Nat) : HandOver :=
  { id := id, src := d.ident.index
    kind := match x.op with | .restore _ _ _ => .restore | .spawn p _ _ => .spawn p | _ => .submit
    ring := x.ring, client := x.client, userTag := x.userTag, cls := x.cls, singleTurn := x.singleTurn
    version := x.version, adapter := x.adapter, group := g, turn := x.turn, resultAddr := x.resultAddr
    resultLen := x.resultLen, header := x.header, plan := x.plan, cachedPages := cached, fellBack := x.fellBack
    fbUsed := x.fbUsed, epoch := x.epoch, flow := x.flow, image := x.image }

/-- Sends a command to the home slice that its handle names; one that names a lost slice waits until the sequence has
been adopted (R384). -/
def sendHost (d : Device) (c : HostCmd) : Device :=
  if d.faults.lost.contains (handleSlice c.handle) then d.modFaults (fun f => { f with heldCmds := f.heldCmds ++ [c] })
  else sendXfer d (handleSlice c.handle) (.hostCmd c) 512

/-- Sends a command to the home slice and remembers whom its answer answers (R27). -/
def sendFwd (d : Device) (f : Fwd) : Device :=
  let now := d.tick
  sendHost (d.modTurn (fun t => { t with fwds := t.fwds ++ [{ f with tick := now }] })) f.cmd

/-- What a CONTINUE of the sequence holds back goes, of the commands consumed before place `n` (R80). -/
def releaseBefore (d : Device) (h n : Nat) : Device :=
  let mine := d.turn.behind.filter (fun b => b.2.handle = h && b.1 < n)
  mine.foldl (fun d b => sendFwd d b.2)
    (d.modTurn (fun t => { t with behind := t.behind.filter (fun b => !mine.contains b) }))

/-- Sends the admitted request to its group's home slice, or a CONTINUE to its sequence's. -/
def sendHandOver (d : Device) (did g cached : Nat) : Device :=
  match dec? d did with
  | none => d
  | some x =>
    let (d, id) := freshId d
    let d := endRetest d did false
    match x.op with
    | .cont h =>
      let c : HostCmd := { id := id, src := d.ident.index, ring := x.ring, client := x.client, handle := h,
                           op := .cont x.turn (if x.newHeader then some x.header else none) }
      sendFwd (modDec (releaseBefore d h x.order) did (fun x => { x with phase := .handOver id d.tick, chosen := g }))
        { id := id, kind := .cont did, ring := x.ring, hseq := x.turn.hseq, userTag := x.userTag, client := x.client
          handle := h, named := h, noIrq := x.noIrq, cmd := c, tick := d.tick }
    | _ =>
      let d := modDec d did (fun x => { x with phase := .handOver id d.tick, chosen := g, cached := cached })
      sendXfer d (groupHome d g) (.handOver (handOverOf d x id g cached)) 512

/-- The reads of the prompt for the probes of R232: K0 pages. -/
def probePages (d : Device) (x : Decision) : Nat :=
  min ((x.turn.promptLen - 1) / pageTokens d x.version) (odGet d Od.PREFIX_LOOKUP_PAGES 0)

/-! ### Tests 3 to 7 -/

/-- Test 7 on the chosen candidate (R126): what it decides. -/
inductive Verdict where
  | admits (fellBack : Bool) (fbUsed : Nat)
  | tryFallback (v : Nat)
  | infeasible
deriving DecidableEq, Repr

def testSeven (d : Device) (x : Decision) (backlog uncached : Nat) : Verdict :=
  let slack (v fb : Nat) : Option Int := slackOf d x (predictTicks backlog (requestCost d x v fb uncached))
  if x.isRestore then .admits false 0
  else if x.onFallback then
    match slack x.version 0 with
    | none => .admits true 0
    | some s => if 0 ≤ s then .admits true 0 else .infeasible
  else match slack x.version 0 with
    | none => .admits false 0
    | some s =>
      if (odGet d Od.FALLBACK_MARGIN 0 : Int) ≤ s then .admits false 0
      else if x.cls = .r then
        match (planFallbacks x.plan.toNat).find? (fun fb => match slack x.version fb with
            | some s => decide (0 ≤ s) | none => true) with
        | some fb => .admits true fb
        | none => .infeasible
      else if x.isCont then .infeasible
      else match fallbackVersion d x with
        | some v => .tryFallback v
        | none => .infeasible

/-- Slack on a candidate, for the lantern. -/
def candSlack (d : Device) (x : Decision) (l : Lookup) : Option Int :=
  slackOf d x (predictTicks (candBacklog d l.group x.version) (requestCost d x x.version x.fbUsed (uncachedOf d x l.cachedPages)))

/-- Sends the lookups of one request, serving at once those of its own slice (R124 step 2). -/
def sendLookups (d : Device) (did : Nat) : List Nat → Device
  | [] => d
  | g :: gs =>
    match dec? d did with
    | none => d
    | some x =>
      let (d, id) := freshId d
      let id := id % 65536
      let scope := prefixScope d x.part
      if groupHome d g = d.ident.index then
        let r := serveLookup d id scope x.version x.adapter g (x.probes.map Prod.snd)
        let d := noteAnswer r.1 g x.version r.2
        sendLookups (modDec d did (fun x => { x with lookups := x.lookups ++
          [{ id := id, group := g, tick := d.tick, answered := true, cachedPages := bf r.2 127 104 }] })) did gs
      else
        let m := BitVec.ofNat 2048 (lookupMessage id scope x.version x.adapter g (x.probes.map Prod.snd))
        let d := d.modTurn (fun t => { t with asked := Map.put t.asked id (g, x.version) })
        sendLookups (modDec (sendXfer d (groupHome d g) (.lookup m) 256) did (fun x => { x with lookups := x.lookups ++
          [{ id := id, group := g, tick := d.tick }] })) did gs

/-- The fallback of R126 becomes the request's choice: a new test 6 on the fallback's version. -/
def toFallback (d : Device) (did v : Nat) : Device :=
  modDec d did (fun x => { x with onFallback := true, version := v, lookups := [], struck := [], probes := [] })

/-- Test 6 and 7 once every lookup has its answer or has timed out; `true` for the caller to start on the fallback. Where
no candidate of the fallback is left, also after refused hand-overs, there is no usable fallback (R126, log entry 123). -/
def decideGroup (d : Device) (did : Nat) : Device × Bool :=
  match dec? d did with
  | none => (d, false)
  | some x =>
    match chooseGroup d x (survivors d x) with
    | none =>
      if x.onFallback then (refuseDecision d did .rejInfeasible 7 none, false)
      else (queueDecision d did .capacity 6, false)
    | some l =>
      match testSeven d x (candBacklog d l.group x.version) (uncachedOf d x l.cachedPages) with
      | .admits fell fb =>
        let epoch := if x.cls = .r then (currentEpoch d (Plan.index x.plan.toNat)).map EpochSlot.epoch else none
        let slack := candSlack d { x with fbUsed := fb } l
        let d := modDec d did (fun x => { x with fellBack := fell, fbUsed := fb, epoch := epoch, slack := slack })
        (sendHandOver d did l.group l.cachedPages, false)
      | .tryFallback v => (toFallback d did v, true)
      | .infeasible => (refuseDecision d did .rejInfeasible 7 (candSlack d x l), false)

def Lookup.over (d : Device) (l : Lookup) : Bool := l.answered || l.tick + 2 ≤ d.tick

/-- Probes of a lookup are ready: candidates are chosen and asked. `true`: the fallback is to be tried. -/
def askCandidates (d : Device) (did : Nat) : Device × Bool :=
  match dec? d did with
  | none => (d, false)
  | some x =>
    let gs := if x.isCont then [x.group] else candidateGroups d x
    let d := modDec d did (fun x => { x with phase := .lookups, lookups := [] })
    let d := sendLookups d did gs
    match dec? d did with
    | none => (d, false)
    | some x => if x.lookups.all (Lookup.over d) then decideGroup d did else (d, false)

/-- Test 6 begins: the prompt is read for the probes, once for each version. -/
def beginSix (d : Device) (did : Nat) : Device × Bool :=
  match dec? d did with
  | none => (d, false)
  | some x =>
    let k0 := probePages d x
    if x.isCont || x.isRestore || !x.probes.isEmpty || k0 = 0 then askCandidates d did
    else (fabiRead (modDec d did (fun x => { x with phase := .prompt, probeCount := k0 })) (.promptProbe did)
            x.turn.promptAddr (4 * k0 * pageTokens d x.version), false)

/-- Test 6 with the fallback model tried after it where test 7 asks for that. -/
def testSix (d : Device) (did : Nat) : Device :=
  let r := beginSix d did
  if r.2 then (beginSix r.1 did).1 else r.1

/-- After the candidates have answered: as `decideGroup`, going on to the fallback. -/
def decide7 (d : Device) (did : Nat) : Device :=
  let r := decideGroup d did
  if r.2 then (beginSix r.1 did).1 else r.1

/-- Share order of the queue (R128), entries waiting for capacity or shares. -/
def shareOrder (d : Device) : List Decision :=
  sortBy (fun a b => viewVtime d a.client < viewVtime d b.client
      || (viewVtime d a.client = viewVtime d b.client && a.did ≤ b.did))
    (d.turn.decisions.filter (fun x => x.phase = .queued || x.retest))

/-- Test 5: an entry that waits for capacity on the same model precedes the arrival, also while it is re-tested; one that
was queued at test 5 itself counts with them (log entry 143). -/
def preceded (d : Device) (x : Decision) : Bool :=
  match (shareOrder d).find? (fun y => y.wait ≠ .cap && y.version = x.version && y.did ≠ x.did) with
  | some y => viewVtime d y.client < viewVtime d x.client
      || (viewVtime d y.client = viewVtime d x.client && y.did < x.did)
  | none => false

/-- Test 4: whether the client needs a sequence grant and holds one. -/
def testFour (d : Device) (did : Nat) : Option Device :=
  match dec? d did with
  | none => none
  | some x =>
    if x.isCont || odGetC d Od.CLIENT_MAX_SEQ x.client = 0 then some d
    else if (d.client x.client).seqGrant = 0 then none
    else some ((modDec d did (fun x => { x with grant := true })).modClient x.client
      (fun a => { a with seqGrant := a.seqGrant - 1 }))

/-- Tests 3 to 7, of a request whose parameter block has passed test 2. -/
def testsFrom3 (d : Device) (did : Nat) : Device :=
  match dec? d did with
  | none => d
  | some x =>
    if odGetC d Od.CLIENT_WEIGHT x.client = 0 then refuseDecision d did .rejQuota 3 none
    else match testFour d did with
      | none => queueDecision d did .cap 4
      | some d =>
        if !x.isRestore && preceded d x then queueDecision d did .share 5 else testSix d did

/-- A re-test: tests 4, 6 and 7 (R129). -/
def retestDecision (d : Device) (did : Nat) : Device :=
  let d := modDec d did (fun x => { x with retest := true, struck := [] })
  match testFour d did with
  | none => queueDecision d did .cap 4
  | some d => testSix d did

/-! ### Test 2 -/

/-- Limits of Table 3.6 and of test 2 that need no parameter block; the token log is aligned to 8 bytes. -/
def turnLimitsOk (x : Decision) : Bool :=
  1 ≤ x.turn.promptLen && 1 ≤ x.turn.maxTokens && x.committed + x.turn.promptLen + x.turn.maxTokens ≤ 4194304
    && x.paramLen ≤ 4096 && x.turn.toklogAddr % 8 = 0

/-- Test 2 over the bytes of the block (R246, R283, R293, R315, R351). -/
def blockOk (d : Device) (x : Decision) (b : List Byte) : Bool :=
  let vocab := odGet d Od.MODEL_VOCAB x.version
  let h := blockBytes b 0 128
  match x.cls with
  | .g => headerOk b vocab && specOk h .g vocab
  | .e => specOk h .e vocab
  | .r =>
    headerOk b vocab && specOk h .r vocab &&
    (match currentEpoch d (Plan.index x.plan.toNat) with
     | some e => planOk x.plan.toNat (odGet d Od.MODEL_EMBED_BYTES x.version) (bf e.desc.toNat 927 904) x.resultLen
         x.turn.promptLen
     | none => false)

/-- The rest of test 2 with the parameter block read, or for a turn without one (`none`). -/
def paramDecided (d : Device) (did : Nat) (block : Option (List Byte)) : Device :=
  match dec? d did with
  | none => d
  | some x =>
    let x := match block with
      | some b =>
        let h := blockBytes b 0 128
        { x with
          header := BitVec.ofNat 1024 h, newHeader := true
          turn := { x.turn with biasTokens := (List.range (Hdr.numBias h)).map (fun i => bf (biasEntry b i) 63 40) }
          plan := BitVec.ofNat 2048 (if x.cls = .r then blockBytes b 0x480 256 else 0) }
      | none => if x.isCont then x else { x with header := defaultHeader, newHeader := true }
    let d := modDec d did (fun _ => x)
    if !x.isCont && block.isSome && !testOnePlan d x then refuseDecision d did .rejModel 1 none
    else if !turnLimitsOk x || (x.cls = .e && x.resultLen < 64 + odGet d Od.MODEL_EMBED_BYTES x.version)
        || (x.cls = .r && block.isNone)
        || (match block with | some b => !blockOk d x b | none => false) then refuseDecision d did .rejFormat 2 none
    else testsFrom3 d did

/-- What tests 1 and 2 read beside the header: the used bias and stop entries, but for counts out of their range, and a
plan's parameters. Bytes at and beyond PARAM_LEN are not read (R244, R246). -/
def blockParts (c : Cls) (h len : Nat) : List (Nat × Nat) :=
  let want :=
    if c = .e then []
    else (if 64 < Hdr.numBias h || 8 < Hdr.numStop h then []
        else [(0x80, 8 * Hdr.numBias h), (0x280, 64 * Hdr.numStop h)])
      ++ (if c = .r then [(0x480, 256)] else [])
  (want.map (fun p => (p.1, min p.2 (len - p.1)))).filter (fun p => p.2 ≠ 0)

/-- A part of the block has been read: the next one is, or test 2 goes on. -/
def paramRead (d : Device) (did off : Nat) (data : List Byte) : Device :=
  match dec? d did with
  | none => d
  | some x =>
    let b := x.block ++ List.replicate (off - x.block.length) 0 ++ data
    match (if off = 0 then blockParts x.cls (blockBytes b 0 128) x.paramLen else x.parts) with
    | [] => paramDecided (modDec d did (fun x => { x with block := [] })) did (some b)
    | p :: rest =>
      fabiRead (modDec d did (fun x => { x with block := b, parts := rest })) (.paramBlock did p.1) (x.paramAddr + p.1) p.2

/-- Test 2 begins: the parameter block is read where the turn names one, its header first. -/
def beginParam (d : Device) (did : Nat) : Device :=
  match dec? d did with
  | none => d
  | some x =>
    if x.paramAddr = 0 then paramDecided d did none
    else if x.paramLen = 0 || (4096 < x.paramLen && x.cls ≠ .r) then paramDecided d did (some [])
    else
      fabiRead (modDec d did (fun x => { x with phase := .param, block := [], parts := [] })) (.paramBlock did 0) x.paramAddr
        (min 128 x.paramLen)

/-- A CONTINUE begins with what its sequence has come to (R123): 256 turns are the most (R216, log entry 126). -/
def beginCont (d : Device) (did h : Nat) : Device :=
  match Map.find d.turn.owned h with
  | none => refuseDecision d did .staleHandle 0 none
  | some o =>
    if 256 ≤ o.turns then refuseDecision d did .rejCapacity 0 none
    else beginParam (modDec d did (fun x => { x with group := o.group, committed := o.clen })) did

/-- A request granted by its flow, or in no flow, meets the tests of Table 5.2. -/
def beginTests (d : Device) (did : Nat) : Device :=
  match dec? d did with
  | none => d
  | some x =>
    match x.op with
    | .cont h => beginCont d did h
    | _ => match testOne d x with
      | none => refuseDecision d did .rejModel 1 none
      | some v => beginParam (modDec d did (fun x => { x with version := v })) did

/-- The prompt pages for the probes have been read: `n` of them, all or those below a failed read (R463). -/
def probesRead (d : Device) (did : Nat) (toks : List Nat) : Device :=
  match dec? d did with
  | none => d
  | some x =>
    let p := pageTokens d x.version
    let n := toks.length / p
    let key := prefixKey d (prefixScope d x.part)
    let hashes := ((List.range n).foldl (fun (acc : Nat × List Nat) k =>
      let h := chainHash acc.1 ((toks.drop (k * p)).take p) x.version x.adapter key
      (h, acc.2 ++ [h])) (0, [])).2
    let counts := (probeCounts x.probeCount).filter (· ≤ n)
    let probes := counts.filterMap (fun c => hashes[c - 1]?.map (fun h => (c, h)))
    let r := askCandidates (modDec d did (fun x => { x with probes := probes })) did
    if r.2 then (beginSix r.1 did).1 else r.1

/-! ### Flow grants (R112) -/

/-- A request granted by its flow, or packed, begins its decision while fewer than 64 are in progress (R121). -/
def startDecision (d : Device) (did : Nat) : Device :=
  if decisionsBusy d < 64 then beginTests (modDec d did (fun x => { x with phase := .param })) did
  else modDec d did (fun x => { x with phase := .granted })

/-- An earlier CONTINUE of the same sequence is still in the turnstile (R80). -/
def contHeld (d : Device) (x : Decision) : Bool :=
  x.isCont && d.turn.decisions.any (fun y => y.op = x.op && y.order < x.order)

/-- The oldest request that waits for one of the 64 decisions alone begins its own. -/
def startGranted (d : Device) : Device :=
  match d.turn.decisions.find? (fun x => x.phase = .granted && !contHeld d x) with
  | some x => startDecision d x.did
  | none => d

/-- The item in service leaves it, and the next waiting item is granted; its queue entry is freed (R122). -/
def flowEnd (d : Device) (i : Nat) : Device :=
  match Map.find d.flows i with
  | none => d
  | some f =>
    let d := modFlow d i (fun f => { f with busy := false, svcHandle := 0 })
    match f.queue with
    | [] => tidyFlow d i
    | did :: rest =>
      let d := modFlow d i (fun f => { f with queue := rest })
      match dec? d did with
      | none => tidyFlow d i
      | some x =>
        let d := serveFlow d i x.turn.hseq
        startDecision (modDec d did (fun x => { x with slot := none })) did

/-- A TURN_END, END or REFUSED answer has been written (R112). -/
def flowWritten (d : Device) (c : Compl) : Device :=
  match d.flows.find? (fun p => p.2.busy && p.2.ring = c.ring &&
      (if c.ctype = CT_REFUSED then p.2.svcHseq = c.hseqOf && (p.2.svcHandle = 0 || p.2.svcHandle = c.handle)
       else (c.ctype = CT_TURN_END || c.ctype = CT_END) && p.2.svcHandle = c.handle && c.handle ≠ 0)) with
  | some (i, _) => flowEnd d i
  | none => d

/-- A SUBMIT with a flow joins it: in service at once, waiting, or refused (R111, R113). The flow's entry is kept by the
slice that owns the ring pair; the home record holds FLOW only (log entry 124). -/
def joinFlow (d : Device) (did key : Nat) : Device :=
  match dec? d did with
  | none => d
  | some x =>
    match findFlow d x.ring x.client key with
    | some (i, f) =>
      if 255 ≤ f.queue.length || 65535 ≤ f.live then refuseDecision d did .rejCapacity 0 none
      else
        let d := modDec d did (fun x => { x with flow := some i })
        if f.busy || !f.queue.isEmpty then
          let d := modFlow d i (fun f => { f with queue := f.queue ++ [did] })
          queueDecision d did .flow 0
        else beginTests (serveFlow d i x.turn.hseq) did
    | none =>
      match freeWay d (flowSet x.ring x.client key) with
      | none => refuseDecision d did .rejCapacity 0 none
      | some i =>
        let d := { d with flows := Map.put d.flows i { key := key, ring := x.ring, client := x.client } }
        beginTests (serveFlow (modDec d did (fun x => { x with flow := some i })) i x.turn.hseq) did

/-- A CONTINUE of a sequence that belongs to a flow is an item of it (R113). -/
def contFlow (d : Device) (did i : Nat) : Device :=
  match dec? d did, Map.find d.flows i with
  | some x, some f =>
    let d := modDec d did (fun x => { x with flow := some i })
    if 255 ≤ f.queue.length then refuseDecision d did .rejCapacity 0 none
    else if f.busy || !f.queue.isEmpty then
      queueDecision (modFlow d i (fun f => { f with queue := f.queue ++ [did] })) did .flow 0
    else beginTests (serveFlow d i x.turn.hseq) did
  | _, _ => beginTests d did

end Sys2Proof.Machine
end

