-- ==== Sys2Proof/Machine/Residency.lean ====
section
/-! DEFINITION. How the directory makes a sequence's pages present (R218, R224, R233, R236). -/

namespace Sys2Proof.Machine

/-- The tile of a group with the most free T0 frames, the lower index on ties (R224). -/
def roomiestTile (d : Device) (g : Nat) : Option Nat :=
  minBy (fun t => (2 ^ 20 - freeT0Count d t)) (onlineTiles d g)

/-- A tile of the group that already holds a copy of one of the sequence's pages and has room for the others (R233). -/
def copyTile (d : Device) (q : Seq) : Option Nat :=
  let tileOf (r : PageRef) : Option Nat := match r.home with
    | .t1 i => match dir1? d i with | some e => if e.t0 = .none then none else some e.t0Tile | none => none
    | _ => none
  (q.ctx.pages.filterMap tileOf).find? (fun t =>
    (onlineTiles d q.tcb.group).contains t
      && (q.ctx.pages.filter (fun r => tileOf r ≠ some t)).length ≤ freeT0Count d t)

/-- Gives a sequence without an online AFF_TILE its target tile. -/
def chooseAff (d : Device) (slot : Nat) : Device :=
  match d.seq? slot with
  | none => d
  | some q =>
    let keep := match q.ctx.affTile with | some t => (onlineTiles d q.tcb.group).contains t | none => false
    if keep then d
    else
      let t := match copyTile d q with | some t => some t | none => roomiestTile d q.tcb.group
      modBlk d slot (fun c => { c with affTile := t })

/-- Page k is brought to AFF_TILE: its copy is named or promoted, an own copy is taken of a shared page whose copy
stands elsewhere, or it is filled from T2. A copy elsewhere that no holder uses gives way, a DIRTY one after its
write-back (R218, R221). -/
def bringPage (d : Device) (slot k cause : Nat) : Device :=
  match d.seq? slot with
  | none => d
  | some q =>
    match (pageAt q k).home, q.ctx.affTile with
    | .t1 i, some tile =>
      match dir1? d i with
      | none => d
      | some e =>
        if e.t0 ≠ .none && e.t0Tile ≠ tile then
          if e.t0 = .dirty then writebackPage d slot k cause (!copyUsed d i e.t0Tile)
          else if e.t0 = .clean && !copyUsed d i e.t0Tile && !dirBusy d i then promotePage (dropNamed d i) slot k cause
          else if 1 < e.refs then ownPage d slot k i tile cause
          else d
        else promotePage d slot k cause
    | .t2 _, some _ => fillPage d slot k cause
    | _, _ => d

def bringPages (d : Device) (slot cause : Nat) : Nat → Nat → Device
  | 0, _ => d
  | n + 1, k => bringPages (bringPage d slot k cause) slot cause n (k + 1)

/-- Pages the sequence still lacks on its tile with no move under way for them. -/
def pagesAbsent (d : Device) (slot : Nat) (q : Seq) : Nat :=
  ((indexed 0 q.ctx.pages).filter (fun p => p.2.home ≠ .none && (t0Copy d p.2).isNone && !pageMoving d slot p.1)).length

/-- Asks for room on a tile (R192). -/
def requestRoom (d : Device) (slot tile need : Nat) : Device :=
  match d.seq? slot with
  | none => d
  | some q =>
    if need = 0 then d
    else d.modGroup q.tcb.group (fun g => { g with
      rooms := match g.rooms.find? (fun r => r.slot = slot && r.tile = tile) with
        | some _ => g.rooms.map (fun r => if r.slot = slot then { r with need := need } else r)
        | none => g.rooms.filter (fun r => r.slot ≠ slot) ++ [{ slot := slot, tile := tile, need := need }] })

/-- PROMOTE records of the moves towards the tiles that `d` has posted and `d0` had not: one for each tier that they
leave (R433, log entry 148). -/
def traceBring (d0 d : Device) (slot cause : Nat) : Device :=
  match d.seq? slot with
  | none => d
  | some q =>
    let new := (movesOf d slot).filter (fun m => !(movesOf d0 slot).contains m)
    let t1 := (new.filter (fun m => match m.kind with | .promote | .promoteCopy _ => true | _ => false)).length
    let t2 := (new.filter (fun m => m.kind = .fill)).length
    let tile := q.ctx.affTile.getD 0xFFF
    traceMove (traceMove d q TR_PROMOTE 1 0 t1 cause tile) q TR_PROMOTE 2 0 t2 cause tile

/-- Posts the moves that bring the pages that a sequence lacks on AFF_TILE, with their record. -/
def bringTraced (d : Device) (slot cause : Nat) : Device :=
  match d.seq? slot with
  | none => d
  | some q => traceBring d (bringPages d slot cause q.ctx.pages.length 0) slot cause

/-- Gives a sequence its target tile, posts the moves that make its pages present there, and asks for room where frames
lack (R192, R224, R236). -/
def bringAll (d : Device) (slot cause : Nat) : Device :=
  let d := bringTraced (chooseAff d slot) slot cause
  match d.seq? slot with
  | none => d
  | some q =>
    match q.ctx.affTile with
    | some t => if (freeT0Frame d t slot).isNone then requestRoom d slot t (pagesAbsent d slot q) else d
    | none => d

/-- Sequences that wait for their pages and lack frames, entries or a tile: what has come free is theirs (R222, R224). -/
def bringWaiting (d : Device) : Device :=
  d.seqs.foldl (fun d p =>
    if p.2.tcb.waitMask.getLsbD FL_PAGES_READY && p.2.tcb.state ≠ .paused && !p.2.evictAfter && !p.2.ctx.pages.isEmpty then
      bringAll d p.1 5
    else d) d

/-- Posts the moves that make the pages of a sequence present, asks for room where frames lack, and sets the
PAGES_READY wait (R236, Table 4.6). -/
def makeResident (d : Device) (slot cause : Nat) : Device :=
  match d.seq? slot with
  | none => d
  | some q =>
    if q.ctx.pages.isEmpty then modBlk d slot (fun c => { c with demoteStage := 0 })
    else
      let d := bringAll d slot cause
      match d.seq? slot with
      | none => d
      | some q =>
        if pagesReady d q then modBlk d slot (fun c => { c with demoteStage := 0 })
        else if q.tcb.waitMask = 0 then startWait d slot [FL_PAGES_READY] false
        else d

end Sys2Proof.Machine
end

