-- ==== Sys2Proof/Machine/Home.lean ====
section
/-! DEFINITION. The home slice: hand-overs (R27, R233, R247, R318), commands that name its sequences (R80, R83, Table
4.2). -/

namespace Sys2Proof.Machine

/-! ### Records -/

/-- RNG_CLASS of a partition (R309): PRIV_RNG of its PARTITION_TABLE entry, bit 0. -/
def rngClassOf (d : Device) (part : Nat) : Nat := odGet d Od.PARTITION_TABLE part % 2

/-- DLEN at the admission of a turn (R318). -/
def dlenFor (h dlen : Nat) : Nat :=
  if Hdr.specMode h = 0 then dlen else if dlen = 0 || Hdr.specMax h < dlen then Hdr.specMax h else dlen

/-- The sampling block at a turn's admission (R247). -/
def sampFor (header : Header) (turnBase promptLen cls : Nat) : SampBlk :=
  let gen := turnBase + promptLen
  { header := header, genStart := gen, winStart := max turnBase (gen - Hdr.penPrompt header.toNat), rngClass := cls }

/-- Reads the last prompt tokens of the turn for the window ring (R247). -/
def readTail (d : Device) (slot : Nat) : Device :=
  match d.seq? slot with
  | none => d
  | some q =>
    let n := q.samp.genStart - q.samp.winStart
    if n = 0 then d
    else fabiRead (d.modSeq slot (fun q => { q with tailDue := true })) (.promptTail slot)
      (q.promptAddr + 4 * (q.promptLen - n)) (4 * n)

/-- Row 5 of Table 4.2, and the reserve of class R (Table 4.6). -/
def startHolds (d : Device) (slot : Nat) : Device :=
  match d.seq? slot with
  | none => d
  | some q =>
    let nb := Hdr.notBefore q.samp.header.toNat
    if nb ≠ 0 && d.tick < q.tcb.admitTick + nb then
      startWait (armTimer d slot true TK_NOT_BEFORE (q.tcb.admitTick + nb)) slot [FL_TMR_B] false
    else if q.tcb.cls = .r then startWait d slot [FL_SLOTS_OK] false
    else d

/-- DEADLINE of a turn (rows 4 and 17). -/
def armDeadline (d : Device) (slot : Nat) : Device :=
  match d.seq? slot with
  | none => d
  | some q => if q.deadline = 0 then d else armTimer d slot false TK_DEADLINE (q.tcb.admitTick + q.deadline)

/-! ### Hand-over -/

/-- A new sequence in a slot, its generation the slot's. -/
def newSeq (d : Device) (slot : Nat) (h : HandOver) : Seq :=
  let plan : PlanBlk := { bits := h.plan, epoch := h.epoch.getD 0, fbUsed := h.fbUsed, lists := [0], todo := [0] }
  let now := d.tick
  { tcb :=
      { handle := mkHandle d.ident.index slot (slotGen d slot), state := .admitted, cls := h.cls
        singleTurn := h.singleTurn, stream := h.turn.stream, ring := h.ring, client := h.client
        partition := odGetC d Od.CLIENT_PARTITION h.client, group := h.group, flow := h.flow, admitTick := h.turn.consumeTick
        stateTick := now, hseqOf := h.turn.hseq, userTag := h.userTag, lastStep := (d.group h.group).step }
    ctx := { turns := [{ promptAddr := h.turn.promptAddr, toklogAddr := h.turn.toklogAddr, base := 0,
                         promptLen := h.turn.promptLen, gen := 0 }] }
    samp := sampFor h.header 0 h.turn.promptLen (rngClassOf d (odGetC d Od.CLIENT_PARTITION h.client))
    spec := { dlen := dlenFor h.header.toNat 0 }
    plan := plan, version := h.version, adapter := h.adapter, owner := h.src, promptLen := h.turn.promptLen
    maxTokens := h.turn.maxTokens, deadline := h.turn.deadline, promptAddr := h.turn.promptAddr
    toklogAddr := h.turn.toklogAddr, resultAddr := h.resultAddr, resultLen := h.resultLen, fallbackUsed := h.fellBack
    paramAddr := h.turn.paramAddr, paramLen := h.turn.paramLen, biasTokens := h.turn.biasTokens }

/-- Epoch slot of this slice that holds an epoch of an index (R357). -/
def epochSlotOf (d : Device) (epoch index : Nat) : Option Nat :=
  ((indexed 0 d.epochs).find? (fun p => p.2.state ≠ .free && p.2.epoch = epoch && p.2.index = index)).map Prod.fst

/-- The slice is in its own SLICE_ONLINE. -/
def selfOnline (d : Device) : Bool := bit (odGet d Od.SLICE_ONLINE 0) d.ident.index

/-- The home slice takes a hand-over (R27, R357, R392, R396). -/
def handOverOk (d : Device) (h : HandOver) : Bool :=
  (allocSlot d).isSome && odGet d Od.SLICE_DRAIN 0 = 0 && selfOnline d && d.ctx.asked.isEmpty && groupHome d h.group = d.ident.index
    && !offlineGroup d h.group
    && (match h.epoch with | some e => (epochSlotOf d e (Plan.index h.plan.toNat)).isSome | none => true)
    && h.image.all (imageRoom d)

/-- The acknowledgement, with the tokens found cached; at N ≥ 16 it follows the parity update of the record (R27), which
the end of the command issues. -/
def ackHandOver (d : Device) (slot : Nat) : Device :=
  match d.seq? slot with
  | none => d
  | some q =>
    match q.joining with
    | none => d
    | some (id, src, _) =>
      let d := d.modSeq slot (fun q => { q with joining := none })
      if 16 ≤ d.ident.n then d.modFaults (fun f => { f with
        gatedAcks := f.gatedAcks ++ [(slot, src, id, q.tcb.handle, q.ctx.clen)] })
      else sendXfer d src (.handOverAck id (.accepted q.tcb.handle q.ctx.clen)) 32

/-- Takes prompt page k from the prefix table (R233): the hash that follows, where it is found. -/
def takePrefix (d : Device) (slot k prev : Nat) (toks : List Nat) : Device × Option Nat :=
  match d.seq? slot with
  | none => (d, none)
  | some q =>
    let scope := prefixScope d q.tcb.partition
    let h := chainHash prev toks q.version q.adapter (prefixKey d scope)
    match prefixProbe d h scope q.version q.adapter with
    | none => (d, none)
    | some (idx, p) =>
      match dir1? d p.dir with
      | none => (d, none)
      | some e =>
        let d := prefixAge d idx
        if e.crc64 ≠ pageCrc toks then (bump d Od.CTX_STATS 2, none)
        else if 65535 ≤ e.refs then (d, none)
        else
          let d := modDir1 d p.dir (fun e => { e with refs := e.refs + 1, pstate := .held })
          let d := modBlk d slot (fun c => { c with
            pages := c.pages ++ [{ home := .t1 p.dir }], clen := (k + 1) * pageTokens d q.version, lastHash := h
            hashedPages := k + 1 })
          (writePtab (bump d Od.CTX_STATS 1) slot k, some h)

/-- Pages k and up of the check, at most n, with their tokens. -/
def takePrefixes (d : Device) (slot p : Nat) : Nat → Nat → Nat → List Nat → Device
  | 0, _, _, _ => d
  | n + 1, k, prev, toks =>
    if toks.length < p then d
    else
      let r := takePrefix d slot k prev (toks.take p)
      match r.2 with
      | some h => takePrefixes r.1 slot p n (k + 1) h (toks.drop p)
      | none => r.1

/-- The record stands: pages, holds and the acknowledgement. -/
def finishJoin (d : Device) (slot : Nat) : Device :=
  let d := ackHandOver d slot
  startHolds (makeResident d slot 5) slot

/-- The prompt pages of the prefix check have been read (R233). -/
def prefixRead (d : Device) (slot : Nat) (toks : List Nat) : Device :=
  match d.seq? slot with
  | none => d
  | some q =>
    match q.joining with
    | none => d
    | some (_, _, k) => finishJoin (takePrefixes d slot (pageTokens d q.version) k 0 0 toks) slot

/-- A hand-over of a SUBMIT or of a spawn. -/
def handOverSubmit (d : Device) (h : HandOver) (slot : Nat) : Device :=
  let d := d.putSeq slot { newSeq d slot h with joining := some (h.id, h.src, h.cachedPages) }
  let d := d.modSeq slot (fun q => { q with plan := { q.plan with
    epochSlot := match h.epoch with | some e => (epochSlotOf d e (Plan.index h.plan.toNat)).getD 0 | none => 0 } })
  let d := wantModel (clearRoot d slot) h.group h.version
  let d := readTail (writeTurn (armDeadline d slot) slot) slot
  if h.cachedPages = 0 then finishJoin d slot
  else fabiRead d (.prefixPages slot) h.turn.promptAddr (4 * h.cachedPages * pageTokens d h.version)

/-! ### Images (R394 to R396) -/

/-- Fields of the normalised record that a restored sequence takes over (R395): header, window ring, draft length,
CLEN. Record byte k is bits [8k + 7 : 8k]. -/
def imageRing (record : Nat) : Map Nat :=
  (List.range 64).map (fun p => (p, bytesAt record (0xE0 + 3 * p) 3))

/-- The header as it was admitted, without the fields the sampling block puts in. -/
def imageHeader (record : Nat) : Nat :=
  let h := bytesAt record 0x60 128
  h - fields [(366, 344, bf h 366 344), (343, 321, bf h 343 321), (320, 320, bf h 320 320)]

/-- A hand-over of a RESTORE: row 21 of Table 4.2, with a copy of each page into a T2 frame (R396). -/
def restorePages (d : Device) (slot addr bytes : Nat) : Nat → Nat → Device
  | 0, _ => d
  | n + 1, k =>
    match d.seq? slot, freeT2Frame d, freeDir2 d with
    | some q, some f, some j =>
      let p := pageTokens d q.version
      let e : Dir2 := { frame := f, slot := slot, pageNo := k, fill := min p (q.ctx.clen - k * p)
                        part := q.tcb.partition, model := q.version, adapter := q.adapter, pstate := .filling }
      let d := modBlk (putDir2 d j e) slot (fun c => { c with pages := c.pages ++ [{ home := .t2 j }] })
      let d := postMove d
        { kind := .restoreCopy, slot := slot, page := k, t2 := j, frame := f, srcPage := pageNone, dstPage := t2PageId f
          srcAddr := addr + k * bytes, dstAddr := t2Addr d f, bytes := bytes, partition := q.tcb.partition
          client := q.tcb.client, spill := true, cause := 6 }
      restorePages (writePtab d slot k) slot addr bytes n (k + 1)
    | _, _, _ => d

/-- The restored record (R396, R397). -/
def restoredSeq (q : Seq) (im : ImageRef) : Seq :=
  let r := im.record.toNat
  let h := bytesAt r 0x60 128
  { q with
    tcb := { q.tcb with
      state := .paused, singleTurn := false, stream := bit (bytesAt r 0 64) 460, status := Status.ofCode (bf (bytesAt r 0 64) 373 366)
      tokenEnd := bf (bytesAt r 0 64) 365 343 }
    ctx :=
      { clen := im.clen, turnBase := bf (bytesAt r 0x40 32) 136 114, demoteStage := 2
        turns := [{ promptAddr := im.addr + 0x300, toklogAddr := 0, base := 0, promptLen := im.clen, gen := 0 }] }
    samp := { q.samp with header := BitVec.ofNat 1024 (imageHeader r), winStart := bf h 366 344, genStart := bf h 343 321
                          ring := imageRing r }
    spec :=
      let s := bytesAt r 0x1A0 32
      { dlen := bf s 255 249, zeroRun := bf s 248 241, suspLeft := bf s 240 234, drafted := bf s 168 137, accepted := bf s 136 105
        anew := true }
    promptLen := im.clen, maxTokens := 0, deadline := 0, restoring := true }

/-- Timers of a sequence that becomes PAUSED (R234). -/
def armPaused (d : Device) (slot : Nat) : Device :=
  armTimer (armTimer d slot false TK_TTL (d.tick + odGet d Od.TTL_DEFAULT 0)) slot true TK_IDLE_DEMOTE
    (d.tick + odGet d Od.IDLE_DEMOTE 0)

/-- The pages of a PAUSED sequence (R234): the last one is written back, those beyond CLEN and the scratch are freed. -/
def pausePages (d : Device) (slot : Nat) : Device :=
  match d.seq? slot with
  | none => d
  | some q =>
    let p := pageTokens d q.version
    let n := ceilDiv q.ctx.clen p
    let d := if q.ctx.clen % p ≠ 0 then writebackPage d slot (n - 1) 0 false else d
    let d := trimPages (releaseFrom d slot (q.ctx.pages.length - n) n) slot
    wakePages (affUpdate (modBlk d slot (fun c => { c with scratch := [], demoteStage := 0, deferred := false })) slot)

/-- The turn ends with a reason; a SINGLE_TURN request ends with it. -/
def turnStop (d : Device) (slot reason : Nat) : Device :=
  match d.seq? slot with
  | none => d
  | some q =>
    if q.tcb.singleTurn then finishSeq d slot .ok reason true
    else
      let d := cancelTimer (cancelTimer d slot false) slot true
      let d := modTcb (enterState d slot .paused) slot (fun t => { t with parkPending := false, waitMask := 0 })
      let d := (dropPost d slot).modSeq slot (fun q => { q with spec := { q.spec with dvalid := false, endDefer := false } })
      let d := armPaused (pausePages d slot) slot
      match d.seq? slot with
      | some q => sendCompl d slot (seqCompl d q CT_TURN_END .ok reason q.ctx.clen 0)
      | none => d

/-- RESTORED follows once the copies have returned (R396). -/
def restoredDone (d : Device) (slot : Nat) : Device :=
  match d.seq? slot with
  | none => d
  | some q =>
    if q.restoring && !(movesOf d slot).any (fun m => m.kind = .restoreCopy) then
      let d := d.modSeq slot (fun q => { q with restoring := false })
      sendCompl d slot (seqCompl d q CT_RESTORED .ok q.ctx.clen 0 0)
    else d

def handOverRestore (d : Device) (h : HandOver) (slot : Nat) (im : ImageRef) : Device :=
  -- an image names no parameter block: where its entries stand, and its length, are free values (log entry 6)
  let d := { d with freeCtr := d.freeCtr + 2 }
  let d := d.putSeq slot
    { restoredSeq (newSeq d slot h) im with
      joining := some (h.id, h.src, 0), paramAddr := Config.freeNat (d.freeCtr - 2) % 2 ^ 64
      paramLen := Config.freeNat (d.freeCtr - 1) % 4097 }
  let d := if im.forced then bump d Od.RNG_STATS 5 else d
  let d := writeTurn (armPaused (wantModel (clearRoot d slot) h.group h.version) slot) slot
  let d := restorePages d slot (im.addr + im.pageOff) (pageBytes d h.version) im.npages 0
  let d := match d.seq? slot with
    | some q => traceMove d q TR_PROMOTE Config.imageTier.toNat 2 im.npages 6 0xFFF
    | none => d
  restoredDone (ackHandOver d slot) slot

/-- HAND_OVER. -/
def handOver (d : Device) (h : HandOver) : Device :=
  if handOverOk d h then
    match allocSlot d with
    | some slot =>
      match h.kind, h.image with
      | .restore, some im => handOverRestore d h slot im
      | _, _ => handOverSubmit d h slot
    | none => d
  else sendXfer d h.src (.handOverAck h.id (.refused .rejCapacity)) 32

/-! ### Commands that name a sequence (R80, R83, Table 4.2) -/

/-- The sequence's entry stands in a building step and none of its commands has been issued. -/
def stepUnissued (d : Device) (slot : Nat) (q : Seq) : Bool :=
  q.inStep && !(inflightOf d slot).any (fun p => p.2.istate ≠ .reserved) &&
    (match (d.group q.tcb.group).building with
     | some st => st.entries.any (fun e => e.slot = slot && e.kind ≠ 0)
     | none => false)

/-- Takes the entries of a slot out of a step that has not been issued (R170). -/
def nopBuilding (d : Device) (slot : Nat) : Device :=
  let d := (inflightOf d slot).foldl (fun d p => if p.2.istate = .reserved then nopEntries d p.1 slot else d) d
  (Map.keys d.groups).foldl (fun d g => d.modGroup g (fun gr => { gr with
    building := gr.building.map (fun st => { st with
      entries := st.entries.map (fun e => if e.slot = slot then ({ kind := 0, client := e.client } : WlEntry) else e) }) })) d

/-- A step of which nothing has been issued is given up. The selection of a fan-out stage is not tainted by that and
stays (R289): the lists that were to be issued are issued later. -/
def giveUpStep (d : Device) (slot : Nat) (q : Seq) : Device :=
  let ls := ((inflightOf d slot).map (fun p => listsOf p.2 slot)).flatten
  let d := nopBuilding d slot
  leaveStep (if inFanOut q && !q.plan.delivered then
      d.modSeq slot (fun q => { q with
        work := none, plan := { q.plan with todo := q.plan.lists.filter (fun l => q.plan.todo.contains l || ls.contains l) } })
    else dropStep d slot) slot

/-- PAUSE (rows 14 and 15). -/
def pauseSeq (d : Device) (slot : Nat) (a : OwedAns) : Device :=
  match d.seq? slot with
  | none => d
  | some q =>
    if !q.tcb.state.running then seqAnswer d slot a (.refused .rejFormat)
    else
      let d := d.modSeq slot (fun q => { q with pauseAns := q.pauseAns ++ [a] })
      if !q.inStep then parkNow d slot
      else if stepUnissued d slot q then parkNow (giveUpStep d slot q) slot
      else hostAck (modTcb d slot (fun t => { t with parkPending := true })) a .later

/-- RESUME (row 16, R236). -/
def resumeSeq (d : Device) (slot : Nat) (a : OwedAns) : Device :=
  match d.seq? slot with
  | none => d
  | some q =>
    if q.tcb.state ≠ .parked then seqAnswer d slot a (.refused .rejFormat)
    else
      let d := setFlagBit d slot FL_RESUME_REQ true
      let d := if q.tcb.waitMask = 0 then enterState d slot q.tcb.prior
        else evalWait (enterState d slot .waiting) slot
      -- a deferred end whose COMPACT went with its tile takes effect now (R338)
      if q.spec.endDefer && !q.ctx.pendCompact then turnStop (seqAnswer d slot a (.ack 0)) slot q.spec.endReason
      else seqAnswer (makeResident d slot 4) slot a (.ack 0)

/-- ABORT and ABORT_CLIENT at the home slice (row 22): one that comes too late, also after the sequence's spawn was
answered (R365), is answered STALE_HANDLE (R88). -/
def abortSeq (d : Device) (slot : Nat) (a : OwedAns) : Device :=
  match d.seq? slot with
  | none => d
  | some q =>
    if q.plan.spawned.isNone && (q.tcb.state.running || q.tcb.state = .parked || q.tcb.state = .paused) then
      let d := seqAnswer d slot a (.ack 1)
      finishSeq (setFlagBit d slot FL_ABORT_REQ true) slot .abortedHost 3
    else seqAnswer d slot a (.refused .staleHandle)

/-- Row 18. -/
def endExpired (d : Device) (slot : Nat) : Device := finishSeq d slot .expiredTtl 3

/-- CONTINUE (row 17, R216, R236, R247, R318): the next turn of a PAUSED sequence. -/
def contSeq (d : Device) (slot : Nat) (a : OwedAns) (hseq : Nat) (t : TurnReq) (header : Option Header) : Device :=
  match d.seq? slot with
  | none => d
  | some q =>
    if q.tcb.state ≠ .paused then seqAnswer d slot a (.refused .rejFormat)
    else if q.tcb.expired then endExpired (seqAnswer d slot a (.refused .expiredTtl)) slot
    else if 256 ≤ q.ctx.turns.length then seqAnswer d slot a (.refused .rejCapacity)
    else if odGet d Od.SLICE_DRAIN 0 = 1 || offlineGroup d q.tcb.group then hostAck d a .queueForCapacity
    else
      let h := header.getD q.samp.header
      let d := cancelTimer (cancelTimer d slot false) slot true
      let d := d.modSeq slot (fun q => { q with
        tcb := { q.tcb with stream := t.stream, tokenEnd := 0, admitTick := t.consumeTick, hseqOf := hseq, status := .ok,
                            flags := q.tcb.flags ||| flagBit FL_CONTINUE_REQ }
        ctx := { q.ctx with turnBase := q.ctx.clen, deferred := false, turns := q.ctx.turns ++
          [{ promptAddr := t.promptAddr, toklogAddr := t.toklogAddr, base := q.ctx.clen, promptLen := t.promptLen, gen := 0 }] }
        samp := { sampFor h q.ctx.clen t.promptLen q.samp.rngClass with ring := q.samp.ring }
        spec := { q.spec with dlen := dlenFor h.toNat q.spec.dlen }
        promptLen := t.promptLen, maxTokens := t.maxTokens, deadline := t.deadline, promptAddr := t.promptAddr
        toklogAddr := t.toklogAddr, endReason := 3, checkCount := 0
        paramAddr := if header.isSome then t.paramAddr else q.paramAddr
        paramLen := if header.isSome then t.paramLen else q.paramLen
        biasTokens := if header.isSome then t.biasTokens else q.biasTokens })
      let d := enterState d slot .admitted
      let d := seqAnswer (readTail (writeTurn (armDeadline d slot) slot) slot) slot a (.ack 0)
      let d := wantModel d q.tcb.group q.version
      makeResident (startHolds d slot) slot 4

/-! ### SAVE (R394, R395) -/

def imagePages (d : Device) (q : Seq) : Nat := ceilDiv q.ctx.clen (pageTokens d q.version)
def imagePageOff (q : Seq) : Nat := Plan.ceil4K (0x300 + 4 * q.ctx.clen)
def imageBytes (d : Device) (q : Seq) : Nat := imagePageOff q + imagePages d q * pageBytes d q.version

/-- Copies of the pages, from their homes. -/
def saveCopies (d : Device) (slot addr : Nat) : Nat → Nat → Device
  | 0, _ => d
  | n + 1, k =>
    match d.seq? slot with
    | none => d
    | some q =>
      let src := match (pageAt q k).home with
        | .t1 i => match dir1? d i with | some e => (t1PageId e.home, t1Addr d e.home) | none => (pageNone, 0)
        | .t2 j => match Map.find d.ctx.dir2 j with | some e => (t2PageId e.frame, t2Addr d e.frame) | none => (pageNone, 0)
        | .none => (pageNone, 0)
      saveCopies (postMove d
        { kind := .saveCopy, slot := slot, page := k, srcPage := src.1, dstPage := pageNone, srcAddr := src.2
          dstAddr := addr + k * pageBytes d q.version, bytes := pageBytes d q.version, partition := q.tcb.partition
          client := q.tcb.client, cause := 6 }) slot addr n (k + 1)

/-- The records of the copies from T1 and T2 to the image (R433, log entry 148). -/
def traceImage (d : Device) (q : Seq) (n : Nat) : Device :=
  let count (t1 : Bool) : Nat := ((List.range n).filter (fun k => match (pageAt q k).home with
    | .t1 _ => t1 | .t2 _ => !t1 | .none => false)).length
  let to_ := Config.imageTier.toNat
  traceMove (traceMove d q TR_DEMOTE 1 to_ (count true) 6 0xFFF) q TR_DEMOTE 2 to_ (count false) 6 0xFFF

/-- Reads of the tokens of positions `pos` up to `len` from their sources (R216); their responses are written into the
image. -/
def saveTokens (d : Device) (slot len : Nat) : Nat → Nat → Device
  | 0, _ => d
  | n + 1, pos =>
    match d.seq? slot with
    | none => d
    | some q =>
      if len ≤ pos then d
      else
        let k := tokenRun q.ctx.turns pos (len - pos)
        match tokenSource q.ctx.turns pos with
        | none => d
        | some (addr, log) =>
          let d := d.modSeq slot (fun q => { q with saving := q.saving.map (fun s => { s with writes := s.writes + 1 }) })
          saveTokens (fabiRead d (.saveTokens slot pos log) addr ((if log then 8 else 4) * k)) slot len n (pos + max 1 k)

/-- The moves of the sequence have returned and its dirty copies are written back: the copies start. -/
def saveAdvance (d : Device) (slot : Nat) : Device :=
  match d.seq? slot with
  | none => d
  | some q =>
    match q.saving with
    | none => d
    | some s =>
      if s.phase ≠ 0 || !(movesOf d slot).isEmpty then d
      else
        let d := d.modSeq slot (fun q => { q with saving := some { s with phase := 1 } })
        let d := saveCopies d slot (s.addr + imagePageOff q) (imagePages d q) 0
        let d := traceImage d q (imagePages d q)
        let d := saveTokens d slot q.ctx.clen (q.ctx.turns.length * 2 + 1) 0
        d

def saveSeq (d : Device) (slot : Nat) (a : OwedAns) (addr len : Nat) : Device :=
  match d.seq? slot with
  | none => d
  | some q =>
    if q.tcb.state ≠ .paused then seqAnswer d slot a (.refused .rejFormat)
    else if q.tcb.expired then endExpired (seqAnswer d slot a (.refused .expiredTtl)) slot
    else if len < imageBytes d q then seqAnswer d slot a (.refused .rejFormat)
    else
      let d := hostAck (d.modSeq slot (fun q => { q with saving := some { ans := a, addr := addr, len := len } })) a .later
      let out := (List.range q.ctx.pages.length).foldl (fun d k => writebackPage d slot k 6 false) d
      let n := (movesOf out slot).length - (movesOf d slot).length
      saveAdvance (traceMove out q TR_DEMOTE 0 1 n 6 (q.ctx.affTile.getD 0xFFF)) slot

/-! ### Host commands at the home slice -/

/-- One command on a live sequence of this slice; during a SAVE all but an ABORT wait for it (R80, row 22). -/
def hostCommandOn (d : Device) (slot : Nat) (c : HostCmd) : Device :=
  match d.seq? slot with
  | none => d
  | some q =>
    let a : OwedAns := { id := c.id, src := c.src }
    let late : Bool := match c.op with | .abort | .abortClient => false | _ => q.saving.isSome
    if late then hostAck (d.modSeq slot (fun q => { q with afterSave := q.afterSave ++ [c] })) a .later
    else match c.op with
      | .cont t h => contSeq d slot a t.hseq t h
      | .abort | .abortClient => abortSeq d slot a
      | .pause => pauseSeq d slot a
      | .resume => resumeSeq d slot a
      | .save addr len => saveSeq d slot a addr len

/-- The handle a command names now: the new one, where it was forwarded (R384). -/
def forwarded (d : Device) (h : Nat) : Nat :=
  match d.faults.forwards.find? (fun x => x.2.1 = h) with
  | some x => x.2.2
  | none => h

/-- HOST_COMMAND_TRANSFER: carried out, or refused where the handle names no live sequence (R104). A command that the
sequence's own ring pair and client did not create is refused in the same way (check 5 of Table 3.3). -/
def hostCommand (d : Device) (c : HostCmd) : Device :=
  match liveSlot d (forwarded d c.handle) with
  | none => hostAck d { id := c.id, src := c.src } (.refused .staleHandle)
  | some slot =>
    match d.seq? slot with
    | none => d
    | some q =>
      if q.tcb.ring ≠ c.ring || q.tcb.client ≠ c.client then hostAck d { id := c.id, src := c.src } (.refused .staleHandle)
      else hostCommandOn d slot c

/-- Commands that waited for a SAVE take effect (R80). -/
def runAfterSave (d : Device) (slot : Nat) : Device :=
  match d.seq? slot with
  | none => d
  | some q =>
    q.afterSave.foldl (fun d c => hostCommand d c) (d.modSeq slot (fun q => { q with afterSave := [] }))

/-- The header of Table 14.7, IMG_CRC taken as zero. -/
def imageHead (d : Device) (q : Seq) (fp : Nat) : Nat :=
  fields [(2047, 2016, 0x4659494D), (2015, 2008, 1), (2007, 2007, q.samp.rngClass), (1999, 1992, q.version),
    (1991, 1980, q.adapter), (1979, 1972, pageTokens d q.version), (1971, 1949, q.ctx.clen), (1948, 1930, imagePages d q),
    (1919, 1888, odGet d Od.MODEL_VOCAB q.version), (1887, 1856, pageBytes d q.version), (1855, 1792, fp),
    (1791, 1728, imagePageOff q), (1727, 1664, imageBytes d q)]

end Sys2Proof.Machine
end

