-- ==== Sys2Proof/Machine/Record.lean ====
section
/-! DEFINITION. The 512-byte sequence record (Tables 4.4, 8.6, 9.1 with R247, 12.2, R353) as bits, the normalised record
of an image (R395), and the record that a rebuild reads back (R385). -/

namespace Sys2Proof.Machine

/-- Table 4.4. -/
def Tcb.bits (t : Tcb) : Nat :=
  fields [(511, 480, t.handle), (479, 472, t.state.code), (471, 464, t.prior.code), (463, 462, t.cls.code),
    (461, 461, ofBool t.singleTurn), (460, 460, ofBool t.stream), (459, 459, ofBool t.expired),
    (458, 458, ofBool t.parkPending), (457, 457, ofBool t.waitOr), (456, 456, ofBool t.rerunUsed),
    (455, 440, t.flags.toNat), (439, 424, t.waitMask.toNat), (423, 416, t.ring), (415, 404, t.client),
    (403, 398, t.partition), (397, 390, t.group), (389, 389, ofBool t.flow.isSome), (388, 374, t.flow.getD 0),
    (373, 366, t.status.code), (365, 343, t.tokenEnd), (319, 256, t.admitTick), (255, 192, t.stateTick),
    (191, 160, t.lastStep), (159, 128, t.hseqOf), (127, 64, t.userTag), (63, 32, t.waitTicks)]

/-- Table 8.6. -/
def ctxBits (d : Device) (q : Seq) : Nat :=
  let c := q.ctx
  fields [(255, 160, c.lastHash), (159, 137, c.clen), (136, 114, c.turnBase), (113, 91, c.recomputeFrom),
    (90, 79, c.affTile.getD 0), (78, 78, ofBool c.affTile.isSome), (77, 77, ofBool c.recompute),
    (76, 76, ofBool c.pendCompact), (75, 75, ofBool c.treeBank), (74, 73, c.demoteStage), (72, 64, c.turns.length),
    (63, 45, pagesT0 d q), (44, 26, pagesT1 q), (25, 7, pagesT2 q)]

/-- The sampling block of R247: 320 bytes. -/
def SampBlk.bits (s : SampBlk) : Nat :=
  let h := s.header.toNat ||| fields [(366, 344, s.winStart), (343, 321, s.genStart), (320, 320, s.rngClass)]
  h ||| (s.ring.foldl (fun acc p => acc ||| ((p.2 % 2 ^ 24) <<< (24 * p.1))) 0) <<< 1024

/-- Table 12.2. -/
def SpecBlk.bits (s : SpecBlk) : Nat :=
  fields [(255, 249, s.dlen), (248, 241, s.zeroRun), (240, 234, s.suspLeft), (233, 218, s.dseq), (217, 217, ofBool s.dbank),
    (216, 216, ofBool s.dvalid), (215, 204, s.dslot), (203, 197, s.nodes.length), (196, 174, s.dpos), (173, 169, s.ddepth),
    (168, 137, s.drafted), (136, 105, s.accepted), (104, 100, s.pathLen), (99, 77, s.pathDst), (76, 76, ofBool s.endDefer),
    (75, 74, s.endReason)]

/-- R353. -/
def PlanBlk.blockBits (p : PlanBlk) : Nat :=
  fields [(511, 480, p.epoch), (479, 477, p.epochSlot), (476, 473, p.stage), (472, 470, p.fbUsed),
    (469, 469, ofBool p.retryUsed), (468, 452, p.coverage), (451, 436, p.missing)]

/-- The record of a live sequence: byte k is bits [8k + 7 : 8k]. -/
def recordBits (d : Device) (q : Seq) : Nat :=
  q.tcb.bits ||| (ctxBits d q <<< 512) |||
    (if q.tcb.cls = .g then (q.samp.bits <<< 768) ||| (q.spec.bits <<< 3328) else q.plan.blockBits <<< 3584)

/-- The record with what parity leaves out taken as zero (R378): FLAGS, WAIT_MASK, WAIT_MODE, WAIT_TICKS and
STATE_TICK. -/
def parityBits (d : Device) (q : Seq) : Nat :=
  recordBits d { q with tcb := { q.tcb with flags := 0, waitMask := 0, waitOr := false, waitTicks := 0, stateTick := 0 } }

/-- DUE, KIND and ARMED, which parity covers (R378). -/
def Timer.bits (t : Timer) : Nat := fields [(127, 64, t.due), (29, 26, t.kind), (25, 25, 1)]

/-- The whole entry (R114). -/
def timerEntry (d : Device) (key : Nat) (t : Timer) : Nat :=
  let l := timerLinks d key t
  t.bits ||| fields [(63, 47, l.1), (46, 30, l.2)]

/-- Timer words of a slot; a FREE slot counts as all zeros (R378). -/
def timerWords (d : Device) (slot : Nat) : Nat :=
  if (d.seq? slot).isNone then 0
  else (match timerOf d slot false with | some t => t.bits | none => 0)
    ||| (match timerOf d slot true with | some t => t.bits | none => 0) <<< 128

/-- R395. -/
def normalised (d : Device) (q : Seq) : Nat :=
  let t := { q.tcb with handle := 0, ring := 0, client := 0, partition := 0, group := 0, flow := none, admitTick := 0
                        stateTick := 0, lastStep := 0, hseqOf := 0, userTag := 0, flags := 0, waitMask := 0, waitTicks := 0 }
  let c : CtxBlk := { clen := q.ctx.clen, turnBase := q.ctx.turnBase }
  let s : SpecBlk := { dlen := q.spec.dlen, zeroRun := q.spec.zeroRun, suspLeft := q.spec.suspLeft
                       drafted := q.spec.drafted, accepted := q.spec.accepted }
  t.bits ||| (ctxBits d { q with ctx := c } <<< 512) ||| (q.samp.bits <<< 768) ||| (s.bits <<< 3328)

/-! ### The rest of a SAVE -/

/-- Everything of the image but its header, `draw` standing for the bytes that Fyhus never holds (log entry 6). -/
def imageBody (d : Device) (q : Seq) (s : SaveJob) (draw : Nat) : List Byte :=
  let toks := s.tokens.foldl (fun acc p => acc ||| p.2 <<< (32 * p.1)) 0
  let held := 0x300 + 4 * q.ctx.clen
  leBytes s.record.toNat 512 ++ leBytes toks (4 * q.ctx.clen)
    ++ (List.range (imageBytes d q - held)).map (fun i => Config.imageByte draw (held + i))

/-- The header with IMG_CRC, the CRC-64 of every other byte of the image (Table 14.7). -/
def imageHeadCrc (d : Device) (q : Seq) (s : SaveJob) : Nat :=
  let h := imageHead d q (crcOf crc64 (leBytes (odGet d Od.TABLE_KEY 0) 16))
  h ||| fields [(1663, 1600, crcOf crc64 (leBytes h 256 ++ imageBody d q s d.freeCtr))]

/-- A SAVE ends: SAVED, or the refusal of R395; the sequence is as it was, and what waited for it runs. -/
def saveEnd (d : Device) (slot : Nat) (ok : Bool) : Device :=
  match d.seq? slot with
  | none => d
  | some q =>
    match q.saving with
    | none => d
    | some s =>
      let d := d.modSeq slot (fun q => { q with saving := none })
      let d := if ok then
          setFlag (seqAnswer d slot s.ans (.saved (imageBytes d q))) slot FL_SAVE_DONE
        else seqAnswer d slot s.ans (.refused .faultState)
      runAfterSave d slot

/-- Every copy, read and write of the image has returned: the record and then the header are written (R395). -/
def saveProgress (d : Device) (slot : Nat) : Device :=
  match d.seq? slot with
  | none => d
  | some q =>
    match q.saving with
    | none => d
    | some s =>
      if s.writes ≠ 0 || (movesOf d slot).any (fun m => m.kind = .saveCopy) then d
      else if s.failed then saveEnd d slot false
      else if s.phase = 1 then
        let r := normalised d q
        let d := d.modSeq slot (fun q => { q with saving := some { s with phase := 2, writes := 1, record := BitVec.ofNat 4096 r } })
        fabiWrite d (.imageWrite slot) (s.addr + 0x100) 512 r
      else if s.phase = 2 then
        let h := imageHeadCrc d q s
        let d := { d with freeCtr := d.freeCtr + 1 }.modSeq slot (fun q => { q with saving := some { s with phase := 3, writes := 1 } })
        fabiWrite d (.imageHeader slot) s.addr 256 h
      else d

/-- One write or read of the image has returned. -/
def saveReturned (d : Device) (slot : Nat) (ok : Bool) : Device :=
  match d.seq? slot with
  | none => d
  | some q =>
    match q.saving with
    | none => d
    | some s =>
      let d := d.modSeq slot (fun q => { q with saving := some { s with writes := s.writes - 1, failed := s.failed || !ok } })
      if ok && s.phase = 3 then saveEnd d slot true else saveProgress d slot

/-- Tokens of positions from `pos` on have been read: they are written into the image as 4-byte words (R394, R152). -/
def saveTokensRead (d : Device) (slot pos : Nat) (log : Bool) (data : List Byte) : Device :=
  match d.seq? slot with
  | none => d
  | some q =>
    match q.saving with
    | none => d
    | some s =>
      let n := data.length / (if log then 8 else 4)
      let toks := (List.range n).map (fun i =>
        if log then bf (ofLe ((data.drop (8 * i)).take 8)) 63 40 else ofLe ((data.drop (4 * i)).take 4) % 2 ^ 24)
      let now := s.tokens ++ (indexed pos toks)
      let d := d.modSeq slot (fun q => { q with saving := some { s with tokens := now } })
      fabiWrite d (.imageWrite slot) (s.addr + 0x300 + 4 * pos) (4 * n)
        (toks.reverse.foldl (fun acc t => acc * 2 ^ 32 + t) 0)

end Sys2Proof.Machine
end

