-- ==== Sys2Proof/Machine/Consume.lean ====
section
/-! DEFINITION. Consumption of submission records (R77 to R83) and the opcodes that name requests. -/

namespace Sys2Proof.Machine

/-! ### Consumption (R78, R121) -/

/-- The pair's next record may be consumed. -/
def mayConsume (d : Device) (p : Nat) : Bool :=
  let r := d.ring p
  ringOwned d p && ringEnabled d p && !r.errSq && !r.stalled && !(ringWaiting r).any Compl.isAnswer
    && !d.mgmt.setParams.any (fun x => x.1 = p) && r.sqHead ≠ r.sqTail && Map.has r.held r.sqHead

/-- The pair whose turn it is. -/
def rrPick (d : Device) : Option Nat :=
  minBy (fun p => (p + 256 - d.turn.rrNext) % 256) ((Map.keys d.rings).filter (mayConsume d))

/-- A queue re-test waits for a decision slot (R129). -/
def retestWaits (d : Device) : Bool :=
  !d.turn.decisions.any (fun x => x.retest) &&
    (match d.turn.pass with
     | some l => !l.isEmpty
     | none => d.turn.decisions.any (fun x => x.phase = .queued) &&
         (d.turn.passDue || d.turn.lastPass + odGet d Od.QUEUE_RETEST 0 ≤ d.tick))

/-- Decision slot: 16 SCLK (R121). -/
def decisionSlot (d : Device) : Nat := d.clk.rootcyc / 64

/-- The current decision slot is open to a consumption. -/
def slotForConsume (d : Device) : Bool :=
  d.turn.lastSlot ≠ some (decisionSlot d) && decisionsBusy d < 64 && !(retestWaits d && d.turn.lastWasConsume)

/-- Whether a command name consumes a record: every opcode outside Table 3.5 is consumed by SUBMIT (log entry 21). -/
def opMatches (op found : Nat) : Bool := op = found || (op = 1 && (found = 0 || 0x0A < found))

/-- Handle that a record names. -/
def namedHandle (r : Nat) : Nat :=
  if Sq.opcode r = 0x02 || Sq.opcode r = 0x03 || (0x05 ≤ Sq.opcode r && Sq.opcode r ≤ 0x07) then Sq.handle r else 0

/-- A decision that an ABORT by HSEQ names: a SUBMIT of the client on the pair, ARRIVED or QUEUED. -/
def targetDecision (d : Device) (p client hseq : Nat) : Option Decision :=
  d.turn.decisions.find? (fun x => x.ring = p && x.client = client && x.turn.hseq = hseq && x.op = .submit)

/-- A live sequence that an ABORT by HSEQ names: where a parent and the request it spawned both carry the HSEQ, the one
with the lowest handle (log entry 125). -/
def targetOwned (d : Device) (p client hseq : Nat) : Option Nat :=
  (d.turn.owned.find? (fun x => x.2.ring = p && x.2.client = client && x.2.hseq = hseq)).map Prod.fst

/-- Check 5 of Table 3.3 on a handle: what the pair's owner keeps of the sequence. -/
def ownedBy (d : Device) (p client h : Nat) : Option Owned :=
  match Map.find d.turn.owned (forwarded d h) with
  | some o => if o.ring = p && o.client = client then some o else none
  | none => none

/-- The checks of Table 3.3 in order: the status and ARG0 of a refusal. -/
def formatError (d : Device) (p k r : Nat) : Option (Status × Nat) :=
  let op := Sq.opcode r
  let rights := odGet d Od.RING_RIGHTS p
  if Sq.hseq r ≠ hseqAt d p k then some (.rejFormat, Sq.hseq r)
  else if !Sq.formatOk r then some (.rejFormat, 0)
  else if odGetC d Od.CLIENT_PARTITION (Sq.client r) ≠ odGet d Od.RING_PARTITION p then some (.rejFormat, 0)
  else if (op = 0x0A && !bit rights 0) || (op = 0x09 && !bit rights 1) then some (.rejFormat, 0)
  else if op = 0x03 && Sq.byHseq r then
    if (targetDecision d p (Sq.client r) (Sq.flowKey r)).isSome || (targetOwned d p (Sq.client r) (Sq.flowKey r)).isSome
    then none else some (.staleHandle, 0)
  else if op = 0x02 || op = 0x03 || (0x05 ≤ op && op ≤ 0x07) then
    if (ownedBy d p (Sq.client r) (Sq.handle r)).isSome then none else some (.staleHandle, 0)
  else none

/-- The record at the head leaves the ring: counted, seen by the SQ_READ point, and followed by a new read. -/
def takeHead (d : Device) (p r : Nat) : Device :=
  let k := (d.ring p).sqHead
  let d := cvcPass d PT_SQ_READ p r 128 (Sq.hseq r)
  let d := d.modRing p (fun g => { g with
    sqHead := (k + 1) % 2 ^ 32, held := Map.del g.held k, unanswered := g.unanswered + 1 })
  let slot := decisionSlot d
  sqFetch (d.modTurn (fun t => { t with lastSlot := some slot, lastWasConsume := true, rrNext := (p + 1) % 256 })) p 8

/-- TOKEN_END of a refusal that names a live sequence of the pair and the client (Table 3.8). -/
def namedTokens (d : Device) (p r : Nat) : Nat :=
  match ownedBy d p (Sq.client r) (namedHandle r) with
  | some o => o.tokenEnd
  | none => 0

/-- SLACK of a record that fails a check of Table 3.3: only a SUBMIT or CONTINUE has a deadline. -/
def recordSlack (d : Device) (p r : Nat) : Nat :=
  if (Sq.opcode r = 0x01 || Sq.opcode r = 0x02) && Sq.deadline r ≠ 0 then openSlack d p (Sq.hseq r) else noSlack

/-- Consumes the record at the head of pair `p` where it is the pair's turn and the record's opcode is `op`; a record
that fails a check of Table 3.3 is answered REFUSED. -/
def consume (d : Device) (p op : Nat) (act : Device → Nat → Device) : Device :=
  whenReady d (fun d =>
    match Map.find (d.ring p).held (d.ring p).sqHead with
    | none => d
    | some rv =>
      let r := rv.toNat
      let k := (d.ring p).sqHead
      if rrPick d = some p && slotForConsume d && opMatches op (Sq.opcode r) then
        let d := takeHead d p r
        match formatError d p k r with
        | some (st, arg0) =>
          refuse d p st (hseqAt d p k) (Sq.userTag r) (Sq.client r) (namedHandle r) arg0 (Sq.noIrq r) 0 (recordSlack d p r)
            (namedTokens d p r)
        | none => act d r
      else d)

/-! ### SUBMIT, CONTINUE, RESTORE -/

/-- The turn that a SUBMIT or CONTINUE asks for. -/
def turnOf (d : Device) (r : Nat) : TurnReq :=
  { promptAddr := Sq.addr r, promptLen := Sq.promptLen r, toklogAddr := Sq.toklogAddr r, maxTokens := Sq.maxTokens r
    deadline := Sq.deadline r, consumeTick := d.tick, hseq := Sq.hseq r, stream := Sq.stream r, paramAddr := Sq.paramAddr r
    paramLen := Sq.paramLen r, biasTokens := [] }

/-- A new decision of a consumed record. -/
def newDecision (d : Device) (p r : Nat) (op : DecOp) : Decision :=
  { did := d.turn.order, op := op, ring := p, client := Sq.client r, userTag := Sq.userTag r, noIrq := Sq.noIrq r
    turn := turnOf d r, paramAddr := Sq.paramAddr r, paramLen := Sq.paramLen r, order := d.turn.order
    part := odGetC d Od.CLIENT_PARTITION (Sq.client r) }

def addDecision (d : Device) (x : Decision) : Device :=
  d.modTurn (fun t => { t with decisions := t.decisions ++ [x], order := t.order + 1 })

/-- SUBMIT after the format checks (row 1 of Table 4.2). -/
def actSubmit (p : Nat) (d : Device) (r : Nat) : Device :=
  let x := { newDecision d p r .submit with
    cls := Cls.ofCode (Sq.cls r), singleTurn := bit r 977, model := Sq.model r, adapter := Sq.adapter r
    resultAddr := Sq.resultAddr r, resultLen := Sq.resultLen r }
  let d := addDecision d x
  if Sq.flowKey r = 0 then beginTests d x.did else joinFlow d x.did (Sq.flowKey r)

/-- CONTINUE after the format checks: an item of its sequence's flow (R113), or else at once, but not before an earlier
CONTINUE of the sequence has its answer (R80, log entry 127). -/
def actContinue (p : Nat) (d : Device) (r : Nat) : Device :=
  match ownedBy d p (Sq.client r) (Sq.handle r) with
  | none => d
  | some o =>
    let x := { newDecision d p r (.cont (forwarded d (Sq.handle r))) with
      cls := o.cls, version := o.version, adapter := o.adapter, group := o.group, committed := o.clen }
    let d := addDecision d x
    match o.flow with
    | some i => contFlow d x.did i
    | none => if contHeld d x then modDec d x.did (fun x => { x with phase := .granted }) else beginTests d x.did

/-- RESTORE after the format checks: the image is read (R396). -/
def actRestore (p : Nat) (d : Device) (r : Nat) : Device :=
  let len := Sq.resultLen r
  let x := { newDecision d p r (.restore (Sq.addr r) len (Sq.force r)) with phase := .image }
  let d := addDecision d x
  if len < 0x300 then refuseDecision d x.did .rejFormat 0 none
  else fabiRead d (.image x.did) (Sq.addr r) len

/-- The record of an image: its RSVD fields are zero (Tables 4.4, 8.6 and 12.2, R353), and its header's fields are valid
under R246. -/
def imageRecordOk (record vocab : Nat) : Bool :=
  bf record 342 320 = 0 && bf record 31 0 = 0 && bf (bytesAt record 0x40 32) 6 0 = 0 && bf (bytesAt record 0x1A0 32) 73 0 = 0
    && bf (bytesAt record 0x1C0 64) 435 0 = 0 && headerFieldsOk (imageHeader record) vocab

/-- The checks 1 to 3 of R396 over the image's bytes: what the hand-over carries, or the refusal. -/
def imageCheck (d : Device) (addr len : Nat) (force : Bool) (adapterCls : Nat) (b : List Byte) :
    Except Status (ImageRef × Nat × Nat) :=
  let h := blockBytes b 0 256
  let record := blockBytes b 0x100 512
  let v := bf h 1999 1992
  let a := bf h 1991 1980
  let total := bf h 1727 1664
  let zeroed := (b.take 200) ++ List.replicate 8 0 ++ (b.take total).drop 208
  let rsvd := bf h 2006 2000 = 0 && bf h 1929 1920 = 0 && bf h 1599 0 = 0
  if bf h 2047 2016 ≠ 0x4659494D || bf h 2015 2008 ≠ 1 || !rsvd || len < total || total < 0x300
      || crcOf crc64 zeroed ≠ bf h 1663 1600
      || !imageRecordOk record (bf h 1919 1888) then .error .rejFormat
  else if !modelRegistered d v || !classOk d v .g || odGet d Od.MODEL_VOCAB v ≠ bf h 1919 1888
      || pageTokens d v ≠ bf h 1979 1972 || pageBytes d v ≠ bf h 1887 1856 || !adapterOk d a v v then .error .rejModel
  else
    let fp := crcOf crc64 (leBytes (odGet d Od.TABLE_KEY 0) 16)
    let bad := (bf h 2007 2007 = 0 && bf h 1855 1792 ≠ fp) || bf h 2007 2007 ≠ adapterCls
    if bad && !force then .error .rejRngTable
    else .ok ({ addr := addr, len := len, record := BitVec.ofNat 4096 record, clen := bf h 1971 1949, npages := bf h 1948 1930
                pageOff := bf h 1791 1728, forced := bad }, v, a)

/-- The image has been read: the rest of RESTORE's checks, then tests 3, 4 and 6 (R396). -/
def imageRead (d : Device) (did : Nat) (b : List Byte) : Device :=
  match dec? d did with
  | none => d
  | some x =>
    match x.op with
    | .restore addr len force =>
      match imageCheck d addr len force (rngClassOf d (odGetC d Od.CLIENT_PARTITION x.client)) b with
      | .error st => refuseDecision d did st 0 none
      | .ok (im, v, a) =>
        testsFrom3 (modDec d did (fun x => { x with image := some im, version := v, adapter := a })) did
    | _ => d

/-! ### Commands sent to a home slice -/

/-- The command of a consumed record for the home of the sequence it names. -/
def fwdOf (d : Device) (p r id : Nat) (kind : FwdKind) (handle : Nat) (op : HostOp) : Fwd :=
  { id := id, kind := kind, ring := p, hseq := Sq.hseq r, userTag := Sq.userTag r, client := Sq.client r, handle := handle
    named := Sq.handle r, noIrq := Sq.noIrq r, tick := d.tick
    cmd := { id := id, src := d.ident.index, ring := p, client := Sq.client r, handle := handle, op := op } }

def forwardCmd (d : Device) (p r : Nat) (kind : FwdKind) (handle : Nat) (op : HostOp) : Device :=
  let (d, id) := freshId d
  sendFwd d (fwdOf d p r id kind handle op)

/-- Commands that name one sequence take effect on it in the order of their consumption: a CONTINUE without its answer
holds back those behind it (R80, log entry 127). -/
def heldBack (d : Device) (h : Nat) : Bool :=
  d.turn.decisions.any (fun x => x.op = .cont h) || d.turn.behind.any (fun b => b.2.handle = h)

/-- Sends a command that names a sequence, or puts it behind the CONTINUE that holds it back. -/
def inOrder (d : Device) (p r : Nat) (kind : FwdKind) (op : HostOp) : Device :=
  let h := forwarded d (Sq.handle r)
  if heldBack d h then
    let (d, id) := freshId d
    let f := fwdOf d p r id kind h op
    d.modTurn (fun t => { t with behind := t.behind ++ [(t.order, f)], order := t.order + 1 })
  else forwardCmd d p r kind h op

/-- Takes a request out of the turnstile by an ABORT (row 3): REFUSED with ABORTED_HOST. -/
def abortDecision (d : Device) (did : Nat) : Device := markPass (refuseDecision d did .abortedHost 0 none)

/-- The first command that waits behind a CONTINUE which has its answer goes to the home slice. -/
def startBehind (d : Device) : Device :=
  match d.turn.behind.find? (fun b => !d.turn.decisions.any (fun x => x.op = .cont b.2.handle && x.order < b.1)) with
  | some b => sendFwd (d.modTurn (fun t => { t with behind := removeFirst (fun c => c = b) t.behind })) b.2
  | none => d

/-- What an ABORT of a live sequence finds waiting at the turnstile: its CONTINUEs are answered (R113), the commands behind
them go ahead of the ABORT, and its spawn is withdrawn (R365). A CONTINUE already sent to the home slice is decided
there. -/
def abortWaiting (d : Device) (handle : Nat) : Device :=
  let conts := (d.turn.decisions.filter (fun x => x.op = .cont handle &&
    (match x.phase with | .handOver _ _ => false | _ => true))).map Decision.did
  let spawns := (d.turn.decisions.filter (fun x => match x.op with | .spawn p _ _ => p = handle | _ => false)).map Decision.did
  let d := conts.foldl abortDecision d
  let d := releaseBefore d handle d.turn.order
  spawns.foldl (fun d i => markPass (dropDecision (returnGrant d i) i)) d

/-- The owning slice remembers that an ABORT is on its way to the home slice (R365). -/
def markAborted (d : Device) (handle : Nat) : Device :=
  d.modTurn (fun t => { t with owned := Map.mod t.owned handle (fun o => { o with aborted := true }) })

/-- ABORT after the format checks. -/
def actAbort (p : Nat) (d : Device) (r : Nat) : Device :=
  let live (d : Device) (h : Nat) : Device := forwardCmd (markAborted (abortWaiting d h) h) p r .abort h .abort
  if Sq.byHseq r then
    match targetDecision d p (Sq.client r) (Sq.flowKey r) with
    | some x =>
      answer (abortDecision d x.did) p CT_ACK .ok (Sq.hseq r) (Sq.userTag r) (Sq.client r) 0 1 0 (Sq.noIrq r)
    | none => match targetOwned d p (Sq.client r) (Sq.flowKey r) with
      | some h => live d h
      | none => d
  else live d (forwarded d (Sq.handle r))

/-- ABORT_CLIENT (R80): requests in the turnstile end at once; each live sequence is aborted at its home slice. -/
def actAbortClient (p : Nat) (d : Device) (r : Nat) : Device :=
  let mine := d.turn.decisions.filter (fun x => x.ring = p && x.client = Sq.client r && !x.isCont
    && (match x.op with | .spawn _ _ _ => false | _ => true))
  let n := (mine.filter (fun x => x.op = .submit)).length
  let d := (mine.map Decision.did).foldl abortDecision d
  let live := (d.turn.owned.filter (fun o => o.2.ring = p && o.2.client = Sq.client r)).map Prod.fst
  if live.isEmpty then
    answer d p CT_ACK .ok (Sq.hseq r) (Sq.userTag r) (Sq.client r) 0 n 0 (Sq.noIrq r)
  else
    let (d, gid) := freshId d
    let d := d.modTurn (fun t => { t with clientAborts := Map.put t.clientAborts gid n })
    live.foldl (fun d h => forwardCmd (markAborted (abortWaiting d h) h) p r (.clientAbort gid) h .abortClient) d

def actPause (p : Nat) (d : Device) (r : Nat) : Device := inOrder d p r .pause .pause
def actResume (p : Nat) (d : Device) (r : Nat) : Device := inOrder d p r .resume .resume
def actSave (p : Nat) (d : Device) (r : Nat) : Device := inOrder d p r .save (.save (Sq.addr r) (Sq.resultLen r))

/-- SUBMIT. -/
def execSubmit (p : Nat) (s : State) : Host.Outcome State Fault Refusal := next s (consume s.dev p 0x01 (actSubmit p))
/-- CONTINUE. -/
def execCont (p : Nat) (s : State) : Host.Outcome State Fault Refusal := next s (consume s.dev p 0x02 (actContinue p))
/-- ABORT. -/
def execAbort (p : Nat) (s : State) : Host.Outcome State Fault Refusal := next s (consume s.dev p 0x03 (actAbort p))
/-- ABORT_CLIENT. -/
def execAbortClient (p : Nat) (s : State) : Host.Outcome State Fault Refusal :=
  next s (consume s.dev p 0x04 (actAbortClient p))
/-- PAUSE. -/
def execPause (p : Nat) (s : State) : Host.Outcome State Fault Refusal := next s (consume s.dev p 0x05 (actPause p))
/-- RESUME. -/
def execResume (p : Nat) (s : State) : Host.Outcome State Fault Refusal := next s (consume s.dev p 0x06 (actResume p))
/-- SAVE. -/
def execSave (p : Nat) (s : State) : Host.Outcome State Fault Refusal := next s (consume s.dev p 0x07 (actSave p))
/-- RESTORE. -/
def execRestore (p : Nat) (s : State) : Host.Outcome State Fault Refusal := next s (consume s.dev p 0x08 (actRestore p))

end Sys2Proof.Machine
end

