-- ==== Sys2Proof/Machine/Sample.lean ====
section
/-! DEFINITION. Token sampling arithmetic (chapter 9): the classes and weights of a position's elements, cuts and draw,
digests, and the levels that a held selection takes (R287). Functions of their arguments alone. -/

namespace Sys2Proof.Machine

/-! ### Processing (R250 to R252) -/

/-- What a position is processed with: header, vocabulary, bias values by token, the mask's bits, and the tokens of the
penalty window. -/
structure PosIn where
  hdr : Nat
  vocab : Nat
  bias : List (Nat × Nat)
  mask : Option Nat
  window : List Nat
deriving DecidableEq, Repr

def log2e : Nat := 0x3FB8AA3B

def PosIn.greedy (p : PosIn) : Bool := f32Mag (Hdr.temp p.hdr) = 0

/-- c of R252. -/
def scaleOf (hdr : Nat) : Nat := if f32Mag (Hdr.temp hdr) = 0 then log2e else f32Div log2e (Hdr.temp hdr)

/-- Class of an element. -/
inductive ECls where
  | nan | masked
  | valid (xp z : Nat)
deriving DecidableEq, Repr

/-- The penalties of R251 for a token that stands `n` times in the window. -/
def penalise (hdr v n : Nat) : Nat :=
  if n = 0 then v
  else
    let rp := Hdr.repPen hdr
    let v := if rp = f32One then v else if 0 < f32Key v then f32Div v rp else f32Mul v rp
    f32Sub v (f32Add (f32Mul (Hdr.freqPen hdr) (f32OfNat n)) (Hdr.presPen hdr))

/-- The class of a processed value (R251, R252). -/
def classify (c v : Nat) : ECls :=
  if f32NaN v then .nan
  else if v = f32NegInf then .masked
  else let z := f32Mul v c; if z = f32NegInf then .masked else .valid v z

/-- R251 and R252 for token `i` with logit `x`. -/
def PosIn.process (p : PosIn) (i x : Nat) : ECls :=
  if (match p.mask with | some m => !bit m i | none => false) then .masked
  else if f32NaN x then .nan
  else
    let v := match p.bias.find? (fun b => b.1 = i) with | some b => f32Add x b.2 | none => x
    classify (scaleOf p.hdr) (penalise p.hdr v (p.window.filter (· = i)).length)

/-- A VALID element. -/
structure Elem where
  token : Nat
  xp : Nat
  z : Nat
deriving DecidableEq, Repr

/-! ### Blocks (R255, R262) -/

/-- A logical block: its VALID elements where they are known, and what a digest says of it. -/
structure Blk where
  idx : Nat
  size : Nat
  elems : Option (List Elem)
  m : Nat := f32NegInf
  s : Nat := 0
  valid : Nat := 0
  nan : Nat := 0
  uflow : Nat := 0
  hist : List Nat := []
deriving DecidableEq, Repr

/-- E_b − z in fp32, for finite values. -/
def expArg (e : Int) (z : Nat) : Nat := f32OfUnits (e * (2 ^ 149 : Nat) - f32Val z) false

/-- w of R255. -/
def weight (e : Int) (z : Nat) : Nat := exp2q (expArg e z)

/-- floor of a non-negative fp32 value, at most `cap`. -/
def f32Floor (x cap : Nat) : Nat := if f32Finite x then min cap (f32Units x / 2 ^ 149) else cap

/-- The greatest z of a list; −inf where it is empty. -/
def maxZ (l : List Elem) : Nat :=
  l.foldl (fun m e => if f32Key m < f32Key e.z then e.z else m) f32NegInf

/-- A block from its elements; with an infinite maximum it has no weights. -/
def Blk.ofElems (idx size : Nat) (l : List Elem) (nan : Nat) : Blk :=
  let m := maxZ l
  let fin := f32Finite m
  let e := f32Ceil m
  let ws := if fin then l.map (fun x => weight e x.z) else []
  let js := if fin then l.map (fun x => f32Floor (expArg e x.z) 31) else []
  { idx := idx, size := size, elems := some l, m := m, s := sumBy id ws, valid := l.length, nan := nan
    uflow := (ws.filter (· = 0)).length
    hist := (List.range 32).map (fun j => (js.filter (· = j)).length) }

def elemOf (i : Nat) (c : ECls) : Option Elem := match c with | .valid xp z => some ⟨i, xp, z⟩ | _ => none

/-- A block from classes, in token order. -/
def Blk.ofClasses (idx size : Nat) (l : List (Nat × ECls)) : Blk :=
  Blk.ofElems idx size (l.filterMap (fun p => elemOf p.1 p.2)) (l.filter (fun p => p.2 = .nan)).length

/-- The digest of R262: no processor but the scale. -/
def digestBlk (c idx size : Nat) (xs : List (Nat × Nat)) : Blk :=
  Blk.ofClasses idx size (xs.map (fun p => (p.1, if f32NaN p.2 then .nan else classify c p.2)))

/-- Tables 9.4 and R262: a digest of 16 or 96 bytes as a block with no elements. -/
def Blk.ofDigest (idx size x : Nat) (d2 : Bool) : Blk :=
  let h := if d2 then x >>> 640 else x
  { idx := idx, size := size, elems := none, s := bf h 127 75, m := bf h 74 43, valid := bf h 42 30, nan := bf h 29 17
    uflow := bf h 16 4, hist := if d2 then (List.range 32).map (fun j => bf x (20 * j + 19) (20 * j)) else [] }

/-- Every field of a digest agrees (R266). -/
def Blk.digestEq (a b : Blk) (d2 : Bool) : Bool :=
  a.s = b.s && a.m = b.m && a.valid = b.valid && a.nan = b.nan && a.uflow = b.uflow && (!d2 || a.hist = b.hist)

def Blk.empty (b : Blk) : Bool := b.m = f32NegInf

/-- Some z is +inf. -/
def infUniform (bs : List Blk) : Bool := bs.any (fun b => b.m = f32Inf)

/-- E of R255. -/
def maxE (bs : List Blk) : Int :=
  match (bs.filter (fun b => f32Finite b.m)).map (fun b => f32Ceil b.m) with
  | [] => 0
  | e :: l => l.foldl max e

/-- k_b of R255. -/
def Blk.shift (b : Blk) (e : Int) : Nat := (e - f32Ceil b.m).toNat

def shiftMass (w k : Nat) : Nat := if k ≤ 64 then (w <<< 64) >>> k else 0

/-- GW of an element of a block (R255). -/
def gwOf (uni : Bool) (e : Int) (b : Blk) (x : Elem) : Nat :=
  if uni then ofBool (x.z = f32Inf) else shiftMass (weight (f32Ceil b.m) x.z) (b.shift e)

/-- Σ GW of a block: from its elements, or from its digest. At an INF_UNIFORM position the blocks that are not fetched
hold no +inf (R266), and so no mass. -/
def Blk.mass (uni : Bool) (e : Int) (b : Blk) : Nat :=
  match b.elems with
  | some l => sumBy (gwOf uni e b) l
  | none => if uni || b.empty then 0 else shiftMass b.s (b.shift e)

/-- UNDERFLOW of a block (R255, R265). -/
def Blk.under (uni : Bool) (e : Int) (b : Blk) : Nat :=
  match b.elems with
  | some l => (l.filter (fun x => gwOf uni e b x = 0)).length
  | none => if uni then b.valid else if b.shift e ≤ 64 then b.uflow else b.valid

/-- The greatest GW of a block. -/
def Blk.top (uni : Bool) (e : Int) (b : Blk) : Nat :=
  match b.elems with
  | some l => l.foldl (fun m x => max m (gwOf uni e b x)) 0
  | none => if uni || b.empty then 0 else shiftMass (weight (f32Ceil b.m) b.m) (b.shift e)

/-! ### Cuts (R257) -/

/-- Key order of R257. -/
def keyLe (a b : Elem × Nat) : Bool :=
  f32Key b.1.z < f32Key a.1.z || (f32Key a.1.z = f32Key b.1.z && a.1.token ≤ b.1.token)

/-- The prefix of R257 whose mass first reaches TOP_P of s1. -/
def topPrefix (topP s1 : Nat) : Nat → List (Elem × Nat) → List (Elem × Nat)
  | _, [] => []
  | cum, x :: l => x :: (if topP * s1 ≤ (cum + x.2) * 65536 then [] else topPrefix topP s1 (cum + x.2) l)

/-- Whether any cut is active. -/
def cutActive (hdr : Nat) : Bool := Hdr.topK hdr ≠ 0 || Hdr.topP hdr < 65536 || Hdr.minP hdr ≠ 0

/-- The survivors of R257 in key order, of all VALID elements or, in digest mode, of those known: `s` is the total mass
and `gmax` the greatest GW. -/
def survivorsOf (hdr s gmax : Nat) (inKey : List (Elem × Nat)) : List (Elem × Nat) :=
  let l := if Hdr.topK hdr ≠ 0 then inKey.take (Hdr.topK hdr) else inKey
  let s1 := if Hdr.topK hdr ≠ 0 then sumBy Prod.snd l else s
  let l := if Hdr.topP hdr < 65536 then topPrefix (Hdr.topP hdr) s1 0 l else l
  let l := if Hdr.minP hdr ≠ 0 then l.filter (fun x => Hdr.minP hdr * gmax ≤ x.2 * 65536) else l
  if l.isEmpty then inKey.take 1 else l

/-! ### The draw (R258) -/

/-- The first token whose cumulative mass exceeds the target. -/
def drawWalk (target : Nat) : Nat → List (Nat × Nat) → Option Nat
  | _, [] => none
  | cum, (t, g) :: l => if target < cum + g then some t else drawWalk target (cum + g) l

/-- The block in which the cumulative mass first exceeds the target, with the mass before it (R265). -/
def drawBlock (target : Nat) : Nat → List (Blk × Nat) → Option (Blk × Nat)
  | _, [] => none
  | cum, (b, g) :: l => if target < cum + g then some (b, cum) else drawBlock target (cum + g) l

/-- VALID elements known, with GW, token ascending. -/
def knownElems (uni : Bool) (e : Int) (bs : List Blk) : List (Elem × Nat) :=
  (bs.map (fun b => match b.elems with | some l => l.map (fun x => (x, gwOf uni e b x)) | none => [])).flatten

/-- The token of greatest xp, lowest index on ties (R252). -/
def greedyToken (l : List (Elem × Nat)) : Nat :=
  match l with
  | [] => 0
  | a :: l => (l.foldl (fun m x => if f32Key m.xp < f32Key x.1.xp then x.1 else m) a.1).token

/-- The distribution of a position whose blocks stand in ascending order. `u` is the random word of the draw. `none`
for the drawn token: it lies in a block whose elements are not known. -/
def resolve (p : PosIn) (bs : List Blk) (u : Nat) : Dist × Option Nat :=
  let uni := infUniform bs
  let e := maxE bs
  let known := knownElems uni e bs
  let s := sumBy (Blk.mass uni e) bs
  let valid := sumBy Blk.valid bs
  let nan := sumBy Blk.nan bs
  let masked := sumBy Blk.size bs - valid - nan
  let under := sumBy (Blk.under uni e) bs
  let cut := cutActive p.hdr && !p.greedy
  let inKey := if cut || Hdr.nAlt p.hdr ≠ 0 then sortBy keyLe known else known
  let gmax := (bs.map (Blk.top uni e)).foldl max 0
  let surv := if cut then survivorsOf p.hdr s gmax inKey else known
  let keptSet := if cut then sortBy (fun a b => a.1.token ≤ b.1.token) surv else surv
  let kept := keptSet.map (fun x => (x.1.token, x.2))
  let ssel := if cut then sumBy Prod.snd surv else s
  let target := (u * ssel) >>> 64
  let best := greedyToken known
  let drawn :=
    if p.greedy then some best
    else if cut then drawWalk target 0 kept
    else match drawBlock target 0 (bs.map (fun b => (b, b.mass uni e))) with
      | none => none
      | some (b, cum) =>
        match b.elems with
        | none => none
        | some l => drawWalk target cum (l.map (fun x => (x.token, gwOf uni e b x)))
  ({ kept := kept, ssel := ssel, s := s, nan := nan, masked := masked, underflow := under, infUniform := uni
     greedy := p.greedy, alts := (inKey.take (Hdr.nAlt p.hdr)).map (fun x => (x.1.token, x.2)), best := best
     drawn := drawn.getD 0, valid := valid ≠ 0 }, drawn)

/-- GW of a token in a position; 0 where it is not VALID. -/
def gwOfToken (bs : List Blk) (t : Nat) : Nat :=
  let uni := infUniform bs
  let e := maxE bs
  match (knownElems uni e bs).find? (fun x => x.1.token = t) with
  | some x => x.2
  | none => 0

/-! ### Digest resolution (R265) -/

/-- Orders of the VALID elements of a block: (order, count). -/
def Blk.orders (e : Int) (b : Blk) : List (Nat × Nat) :=
  let k := b.shift e
  if b.empty then []
  else ((indexed 0 b.hist).filter (fun p => p.2 ≠ 0)).map (fun p => (k + p.1, p.2))

/-- The least order at which a running total of `f` over orders reaches what `enough` asks; the greatest order where it
never does. -/
def leastOrder (f : Nat × Nat → Nat × Nat) (enough : List (Nat × Nat) → Bool) : List (Nat × Nat) → List (Nat × Nat) → Nat
  | [], acc => (acc.map Prod.fst).foldl max 0
  | x :: l, acc =>
    let acc := acc ++ [f x]
    if enough acc && (match l with | y :: _ => x.1 < y.1 | [] => true) then x.1 else leastOrder f enough l acc

/-- Σ count(o) × 2^(103 − o) ≥ TOP_P × S / 65,536, exactly. -/
def massEnough (topP s : Nat) (l : List (Nat × Nat)) : Bool :=
  let m := max 103 ((l.map Prod.fst).foldl max 0)
  topP * s * 2 ^ (m - 103) ≤ 65536 * sumBy (fun x => x.2 * 2 ^ (m - x.1)) l

/-- need of R265 before the walk: indices of unfetched blocks. -/
def needBlocks (p : PosIn) (bs : List Blk) : List Nat :=
  let e := maxE bs
  let open_ := bs.filter (fun b => b.elems.isNone && !b.empty)
  let all := sortBy (fun a b => a.1 ≤ b.1) ((bs.map (Blk.orders e)).flatten)
  let upTo (g : Nat) (b : Blk) : Bool := (b.orders e).any (fun o => o.1 ≤ g + 1)
  let best := bs.foldl (fun m b => if f32Key m < f32Key b.m then b.m else m) f32NegInf
  let n1 := if p.greedy then open_.filter (fun b => f32Key b.m = f32Key best) else []
  let k2 := max (Hdr.topK p.hdr) (Hdr.nAlt p.hdr)
  let n2 := if k2 ≠ 0 then
      let g := leastOrder id (fun acc => k2 ≤ sumBy Prod.snd acc) all []
      open_.filter (upTo g)
    else []
  let uni := infUniform bs
  let s := sumBy (Blk.mass uni e) bs
  let n3 := if Hdr.topP p.hdr < 65536 && Hdr.topK p.hdr = 0 then
      let g := leastOrder id (massEnough (Hdr.topP p.hdr) s) all []
      open_.filter (upTo g)
    else []
  let gmax := (bs.map (Blk.top uni e)).foldl max 0
  let n4 := if Hdr.minP p.hdr ≠ 0 then open_.filter (fun b => Hdr.minP p.hdr * gmax ≤ b.top uni e * 65536) else []
  ((open_.filter (fun b => n1.contains b || n2.contains b || n3.contains b || n4.contains b)).map Blk.idx)

/-- The block whose elements the draw still needs, with no cut active. -/
def needDraw (p : PosIn) (bs : List Blk) (u : Nat) : List Nat :=
  if p.greedy || cutActive p.hdr then []
  else
    let e := maxE bs
    let uni := infUniform bs
    let s := sumBy (Blk.mass uni e) bs
    match drawBlock ((u * s) >>> 64) 0 (bs.map (fun b => (b, b.mass uni e))) with
    | some (b, _) => if b.elems.isNone then [b.idx] else []
    | none => []

/-! ### Held selections (R274 to R276, R287) -/

def ord32 (b : Nat) : Nat :=
  let b := if b = 0x80000000 then 0 else b
  if bit b 31 then 0xFFFFFFFF - b else b ||| 0x80000000

def okey (b : Nat) (dir : Bool) : Nat := if dir then ord32 b else 0xFFFFFFFF - ord32 b

/-- K of a logit (R275). -/
def logitKey (x : Elem) : Nat := okey x.z false <<< 24 ||| x.token

/-- Bucket of a logit (R276). -/
def logitBucket (uni : Bool) (e : Int) (x : Elem) : Nat :=
  if uni then (if x.z = f32Inf then 0 else 4095)
  else let a := expArg e x.z; if f32Finite a then min 4095 (f32Units a * 64 / 2 ^ 149) else 4095

/-- The bucket in which the running weight reaches the goal; the last one where it never does. -/
def boundary (goal : Nat) : Nat → List (Nat × Nat) → Nat
  | _, [] => 0
  | _, [(b, _)] => b
  | w, (b, x) :: l => if goal ≤ w + x then b else boundary goal (w + x) l

/-- Refinement levels of R287 over elements (K, weight, bucket) in K order. `sorted`: the goal counts the elements below
the boundary as well. -/
def refineLevels (sorted : Bool) (goal : Nat) : Nat → Nat → Nat → List (Nat × Nat × Nat) → Nat
  | 0, _, _, _ => 0
  | fuel + 1, below, w, l =>
    let b := boundary goal w (l.map (fun x => (x.2.2, x.2.1)))
    let low := l.filter (fun x => x.2.2 < b)
    let at_ := l.filter (fun x => x.2.2 = b)
    let below := below + low.length
    if at_.length + (if sorted then below else 0) ≤ 1024 then 0
    else
      let lo := (at_.map Prod.fst).foldl min (2 ^ 56)
      let hi := (at_.map Prod.fst).foldl max 0
      let s := Nat.log2 (lo ^^^ hi) - 11
      1 + refineLevels sorted goal fuel below (w + sumBy (fun x => x.2.1) low)
        (at_.map (fun x => (x.1, x.2.1, x.1 >>> s - lo >>> s)))

/-- Held selections of a position and the levels they take: top-k, top-p and alternatives (Table 10.1). -/
def heldSelections (p : PosIn) (bs : List Blk) : Nat × Nat :=
  let uni := infUniform bs
  let e := maxE bs
  let l := sortBy keyLe (knownElems uni e bs)
  let tag (w : Nat → Nat) := l.map (fun x => (logitKey x.1, w x.2, logitBucket uni e x.1))
  let k := Hdr.topK p.hdr
  let uses : List Nat :=
    (if k ≠ 0 && !p.greedy then [refineLevels false k 4 0 0 (tag (fun _ => 1))] else []) ++
    (if Hdr.topP p.hdr < 65536 && !p.greedy then
       let s1 := if k ≠ 0 then sumBy Prod.snd (l.take k) else sumBy (Blk.mass uni e) bs
       [refineLevels false (Hdr.topP p.hdr * s1) 4 0 0
         ((if k ≠ 0 then (tag (· * 65536)).take k else tag (· * 65536)))]
     else []) ++
    (if Hdr.nAlt p.hdr ≠ 0 then [refineLevels true (Hdr.nAlt p.hdr) 4 0 0 (tag (fun _ => 1))] else [])
  (uses.length, sumBy id uses)

/-! ### Draft acceptance (R332, R333) -/

/-- prob of R332 over a distribution, by token. -/
def probOf (dd : Dist) (t : Nat) : Nat :=
  if !dd.valid then 0
  else if dd.greedy then (if t = dd.best then 2 ^ 64 - 1 else 0)
  else if dd.ssel = 0 then 0
  else match dd.kept.find? (fun x => x.1 = t) with
    | some x => min (2 ^ 64 - 1) ((x.2 * (2 ^ 192 / dd.ssel)) >>> 128)
    | none => 0

/-- Probabilities of the survivors, token ascending. -/
def probs (dd : Dist) : List (Nat × Nat) :=
  if !dd.valid then []
  else if dd.greedy then [(dd.best, 2 ^ 64 - 1)]
  else if dd.ssel = 0 then []
  else
    let r := 2 ^ 192 / dd.ssel
    dd.kept.map (fun x => (x.1, min (2 ^ 64 - 1) ((x.2 * r) >>> 128)))

/-- Subtracts one distribution from another, both token ascending. -/
def residual : Nat → List (Nat × Nat) → List (Nat × Nat) → List (Nat × Nat)
  | 0, _, _ => []
  | _, [], _ => []
  | _, p, [] => p
  | fuel + 1, (t, p) :: ps, (u, q) :: qs =>
    if t < u then (t, p) :: residual fuel ps ((u, q) :: qs)
    else if u < t then residual fuel ((t, p) :: ps) qs
    else (t, p - q) :: residual fuel ps qs

/-- The residual draw of R333. -/
def residualDraw (p q : Dist) (ur : Nat) : Option Nat :=
  let ps := probs p
  let qs := probs q
  let r := residual (ps.length + qs.length) ps qs
  let sr := sumBy Prod.snd r
  let (r, sr) := if sr = 0 then (ps, sumBy Prod.snd ps) else (r, sr)
  drawWalk ((ur * sr) >>> 64) 0 (r.filter (fun x => x.2 ≠ 0))

end Sys2Proof.Machine
end

