-- ==== Sys2Proof/Machine/Settle.lean ====
section
/-! DEFINITION. What follows every write of a sequence record, a timer or a directory entry: the parity deltas at
N ≥ 16 (R378 to R380) and the directory mirror at N = 32 (R241). A command's meaning ends in `done`, which compares the
slice before and after it. -/

namespace Sys2Proof.Machine

/-! ### Parity deltas -/

/-- The slice that holds the parity of stripe `slot` (R378). -/
def parityHolder (d : Device) (slot : Nat) : Nat := 8 * ((d.ident.index / 8) ^^^ 1) + slot / 8192

/-- The slot's record has parity: at N ≥ 16, while the slice that holds it is not lost (R378, R389). -/
def slotProtected (d : Device) (slot : Nat) : Bool := 16 ≤ d.ident.n && !d.faults.lost.contains (parityHolder d slot)

def recordParity (d : Device) (slot : Nat) : Nat :=
  match d.seq? slot with
  | some q => parityBits d q
  | none => 0

def deltaBuf (d : Device) (slot : Nat) : DeltaBuf := Map.getD d.faults.deltas slot {}
def modDelta (d : Device) (slot : Nat) (f : DeltaBuf → DeltaBuf) : Device :=
  d.modFaults (fun x => { x with deltas := Map.put x.deltas slot (f (Map.getD x.deltas slot {})) })

/-- The buffer is in use (R379). -/
def DeltaBuf.busy (b : DeltaBuf) : Bool := b.sent.isSome || b.record ≠ 0 || b.timers ≠ 0

/-- Delta buffers in use, of 1,024 (Table 14.3). -/
def deltasBusy (d : Device) : Nat := ((Map.vals d.faults.deltas).filter DeltaBuf.busy).length

/-- A write of the slot's record can take a buffer now (R379). -/
def deltaFree (d : Device) (slot : Nat) : Bool :=
  !slotProtected d slot || (deltaBuf d slot).busy || deltasBusy d < 1024

/-- Update number of the delta that covers what has been written so far. -/
def coveringUpdate (b : DeltaBuf) : Nat := (if b.record ≠ 0 || b.timers ≠ 0 then b.updNo + 1 else b.updNo) % 65536

/-- Deltas outstanding; each holds one of the 1,024 buffers until it is acknowledged (R379). -/
def deltasOut (d : Device) : Nat := ((Map.vals d.faults.deltas).filter (fun b => b.sent.isSome)).length

/-- Bytes of a delta transfer: the record, the two timer words, and a header of 32 bytes (R379, log entry 102). -/
abbrev deltaBytes : Nat := 576

/-- Sends the slot's delta where none is outstanding, there is something to send and a buffer is free. -/
def sendDelta (d : Device) (slot : Nat) : Device :=
  let b := deltaBuf d slot
  if b.sent.isSome || (b.record = 0 && b.timers = 0) || 1024 ≤ deltasOut d then d
  else
    let n := (b.updNo + 1) % 65536
    let now := d.tick
    let d := modDelta d slot (fun b => { b with sent := some (n, b.record, b.timers), record := 0, timers := 0, updNo := n, sentTick := now })
    sendXfer d (parityHolder d slot)
      (.parityDelta { src := d.ident.index, member := d.ident.index, slot := slot, updNo := n, record := b.record, timers := b.timers })
      deltaBytes

/-- Completions of a slot whose covering delta is the one with number `n`, in order (R380). -/
def shipGated (d : Device) (slot n : Nat) : Device :=
  let ready := d.faults.gated.filter (fun g => g.1 = slot && g.2.1 = n)
  let freed := d.faults.releases.filter (fun g => g.1 = slot && g.2.1 = n)
  let d := d.modFaults (fun f => { f with
    gated := f.gated.filter (fun g => !(g.1 = slot && g.2.1 = n))
    releases := f.releases.filter (fun g => !(g.1 = slot && g.2.1 = n)) })
  let owner (d : Device) : Outgoing → Nat
    | .compl c => match d.seq? slot with | some q => q.owner | none => c.home
    | .ack a _ _ => a.src
  let d := ready.foldl (fun d g => shipOut d (owner d g.2.2) g.2.2) d
  freed.foldl (fun d g => sendXfer d g.2.2.1 (.release g.2.2.2) 32) d

/-- Gives the completions and releases of a command their update number; what no delta covers goes at once. -/
def numberGated (d : Device) (slot : Nat) : Device :=
  let b := deltaBuf d slot
  let n := coveringUpdate b
  let d := d.modFaults (fun f => { f with
    gated := f.gated.map (fun g => if g.1 = slot && g.2.1 = noUpdate then (slot, n, g.2.2) else g)
    releases := f.releases.map (fun g => if g.1 = slot && g.2.1 = noUpdate then (slot, n, g.2.2) else g) })
  if b.busy then d else shipGated d slot n

/-- The acknowledgement of a hand-over goes once the parity update of the new record has been issued (R27). -/
def shipAcks (d : Device) (slot : Nat) : Device :=
  let b := deltaBuf d slot
  if b.record ≠ 0 || b.timers ≠ 0 then d
  else
    let ready := d.faults.gatedAcks.filter (fun g => g.1 = slot)
    let d := d.modFaults (fun f => { f with gatedAcks := f.gatedAcks.filter (fun g => g.1 ≠ slot) })
    ready.foldl (fun d g => sendXfer d g.2.1 (.handOverAck g.2.2.1 (.accepted g.2.2.2.1 g.2.2.2.2)) 32) d

/-- One slot after a command: what changed joins its buffer, what it caused is numbered, and the delta is sent. -/
def settleSlot (d0 d : Device) (slot : Nat) : Device :=
  let r := recordParity d0 slot ^^^ recordParity d slot
  let t := timerWords d0 slot ^^^ timerWords d slot
  let d := if (r = 0 && t = 0) || !slotProtected d slot then d
    else modDelta d slot (fun b => { b with
      record := b.record ^^^ BitVec.ofNat 4096 r, timers := b.timers ^^^ BitVec.ofNat 256 t })
  shipAcks (sendDelta (numberGated d slot) slot) slot

/-- Slots a command may have written. -/
def touchedSlots (d0 d : Device) : List Nat :=
  (Map.keys d0.seqs ++ Map.keys d.seqs ++ (Map.keys d0.timers ++ Map.keys d.timers).map (· / 2)
    ++ d.faults.gated.map Prod.fst ++ d.faults.releases.map Prod.fst).dedup

def settleParity (d0 d : Device) : Device :=
  if d0.ident.n < 16 then d else (touchedSlots d0 d).foldl (settleSlot d0) d

/-! ### The directory mirror -/

def mirrorPartner (d : Device) : Nat := d.ident.index ^^^ 16

def dirBits (d : Device) (i : Nat) : Nat := match dir1? d i with | some e => e.bits | none => 0

/-- The mirror write of one entry; a released frame stays out of the pool until it is acknowledged. -/
def mirrorEntry (d0 d : Device) (i : Nat) : Device :=
  if dirBits d0 i = dirBits d i then d
  else
    let now := d.tick
    let freed := match dir1? d0 i, dir1? d i with
      | some e, none => [e.home]
      | some e, some e' => if e.home = e'.home then [] else [e.home]
      | none, _ => []
    let d := d.modCtx (fun c => { c with
      mirrorOut := Map.put c.mirrorOut i (Map.getD c.mirrorOut i [] ++ [(now, freed)]) })
    fabiXfer d (.mirror i) 32 (dirBits d i) (mirrorPartner d) (.mirror i (BitVec.ofNat 256 (dirBits d i)))

def settleMirror (d0 d : Device) : Device :=
  if d0.ident.n ≠ 32 || d.ctx.mirrorStopped then d
  else ((Map.keys d0.ctx.dir1 ++ Map.keys d.ctx.dir1).dedup).foldl (mirrorEntry d0) d

/-! ### Borrowed frames (R385, R393) -/

/-- The frames of a slice's pools that this slice holds, as page identifiers. -/
def borrowedFrom (d : Device) (slice : Nat) : List Nat :=
  ((d.ctx.dir1.filter (fun p => isBorrowed p.2.home && lender p.2.home = slice)).map (fun p => t1PageId p.2.home))
    ++ ((d.ctx.dir2.filter (fun p => isBorrowed p.2.frame && lender p.2.frame = slice)).map (fun p => t2PageId p.2.frame))

/-- Slices of whose pools frames are held. -/
def lenders (d : Device) : List Nat :=
  (((d.ctx.dir1.map (fun p => p.2.home) ++ d.ctx.dir2.map (fun p => p.2.frame)).filter isBorrowed).map lender).dedup

/-- Borrowed frames that were released go to no pool. Their slice, where it is back, is told what is still held; while it
is lost, at N = 32, the slice that keeps its mirror is told of the T1 frames released (R385). -/
def settleBorrowed (d0 d : Device) : Device :=
  (lenders d0).foldl (fun d l =>
    let gone := (borrowedFrom d0 l).filter (fun p => !(borrowedFrom d l).contains p)
    if borrowedFrom d0 l = borrowedFrom d l then d
    else if !d.faults.lost.contains l then sendXfer d l (.frameAnswer (borrowedFrom d l)) 512
    else
      let t1 := (gone.filter (fun p => p / 2 ^ 30 = 1)).map (· % 2 ^ 30)
      if d.ident.n = 32 && !t1.isEmpty then sendXfer d (l ^^^ 16) (.frameRelease l t1) 512 else d) d

/-! ### T0 copies without a holder (R213, R218) -/

/-- A CLEAN T0 copy that no holder of its page uses, and no command may read, is dropped. -/
def dropStrays (d : Device) : Device :=
  (d.ctx.dir1.filter (fun p => p.2.t0 = .clean && !copyUsed d p.1 p.2.t0Tile && !dirBusy d p.1)).foldl
    (fun d p => dropNamed d p.1) d

/-! ### The end of a meaning -/

/-! ### Questions for frames (R393) -/

/-- The epochs, pairs and parity that a slice coming online has from this one before its question for frames is
answered have reached it; the slice is online here (R356, R393). -/
def askReady (d : Device) (k : Nat) : Bool :=
  let due (x : Option (Nat × Xfer)) : Bool := match x with | some (j, t) => j = k && t.beforeFrames | none => false
  bit (odGet d Od.SLICE_ONLINE 0) k && !(d.fabi.outstanding ++ d.fabi.waiting).any (fun r => due r.xfer)
    && !d.faults.unacked.any (fun u => due (some u.2)) && !d.faults.refreshing.any (fun s => parityHolder d s = k)

/-- Questions that can be answered are: the answer ends what the asking slice waits for before it takes a hand-over. -/
def answerAsks (d : Device) : Device :=
  (d.ctx.asks.filter (askReady d)).foldl (fun d k =>
    sendXfer (d.modCtx (fun c => { c with asks := c.asks.filter (· ≠ k) })) k (.frameAnswer (borrowedFrom d k)) 512) d

/-- The slice `d` that a command left of `d0`, with the dropped copies, deltas and mirror writes that follow from it. -/
def settle (d0 d : Device) : Device :=
  if d.seqs = d0.seqs && d.timers = d0.timers && d.ctx.dir1 = d0.ctx.dir1
      && d.ctx.dir2 = d0.ctx.dir2 && d.inflight = d0.inflight && d.faults.gated = d0.faults.gated
      && d.faults.releases = d0.faults.releases && d.faults.gatedAcks = d0.faults.gatedAcks then d
  else settleBorrowed d0 (settleMirror d0 (settleParity d0 (wakePages (bringWaiting (dropStrays d)))))

/-- What the meaning of a command that may write records answers. -/
def done (s : State) (d : Device) : Host.Outcome State Fault Refusal := next s (settle s.dev d)

end Sys2Proof.Machine
end

