-- ==== Sys2Proof/Machine/Select.lean ====
section
/-! DEFINITION. Arriving selections (chapter 10): score entries, what a selection returns, retention, claims. -/

namespace Sys2Proof.Machine

/-! ### Keys and sums (R274 to R279) -/

/-- The key that orders entries: K in EXACT mode, (bucket, list, position) in APPROX mode (R275, R278). A bucket is
taken before the least one is subtracted, which changes no order. -/
def SelEntry.key (e : SelEntry) (dir approx : Bool) : Nat :=
  let o := okey e.score.toNat dir
  (if approx then o >>> 20 else o) <<< 22 ||| e.list <<< 12 ||| e.pos

def ScoreSum.add (s : ScoreSum) (x : Nat) : ScoreSum :=
  if f32IsInf x then (if f32Neg x then { s with neg := s.neg + 1 } else { s with pos := s.pos + 1 })
  else { s with fin := s.fin + f32Val x }

def ScoreSum.of (xs : List F32) : ScoreSum := xs.foldl (fun s x => s.add x.toNat) {}

def ScoreSum.sub (a b : ScoreSum) : ScoreSum := { fin := a.fin - b.fin, pos := a.pos - b.pos, neg := a.neg - b.neg }

/-- The fp64 of a sum, rounded once (R279). -/
def ScoreSum.bits (s : ScoreSum) : Nat :=
  if s.pos ≠ 0 && s.neg ≠ 0 then 0x7FF8000000000000
  else if s.pos ≠ 0 then 0x7FF0000000000000
  else if s.neg ≠ 0 then 0xFFF0000000000000
  else f64OfRat (s.fin < 0) s.fin.natAbs (2 ^ 149)

/-! ### The result (R277 to R281) -/

/-- Entries in (item, K) order, each with whether a better entry of its item stands before it. -/
def markDup : Option Nat → List SelEntry → List (SelEntry × Bool)
  | _, [] => []
  | p, e :: l => (e, p = some e.item) :: markDup (some e.item) l

def itemLe (dir : Bool) (a b : SelEntry) : Bool :=
  a.item < b.item || (a.item = b.item && a.key dir false ≤ b.key dir false)

/-- The raw valid input without tombstoned items, each entry with whether a better one of its item stands in it. -/
def selMarks (desc : Nat) (raw : List SelEntry) (tomb : Nat → Bool) : List (SelEntry × Bool) :=
  let kept := if Sel.tomb desc then raw.filter (fun e => !tomb e.item) else raw
  if Sel.dedupe desc then markDup none (sortBy (itemLe (Sel.dir desc)) kept) else kept.map (fun e => (e, false))

/-- The survivors in the order in which they are reported (R277, R278). -/
def selOrder (desc : Nat) (marks : List (SelEntry × Bool)) : List SelEntry :=
  sortBy (fun a b => a.key (Sel.dir desc) (Sel.approx desc) ≤ b.key (Sel.dir desc) (Sel.approx desc))
    ((marks.filter (fun m => !m.2)).map Prod.fst)

/-- An entry does not stand past the last one that a full selection returns. -/
def notPast (desc : Nat) (surv : List SelEntry) (e : SelEntry) : Bool :=
  match surv[Sel.k desc - 1]? with
  | some l => e.key (Sel.dir desc) (Sel.approx desc) ≤ l.key (Sel.dir desc) (Sel.approx desc)
  | none => true

/-- What a selection over the raw valid input returns; `tomb` is the tombstone bitmap of the pinned epoch. -/
def select (desc : Nat) (raw : List SelEntry) (nan : Nat) (tomb : Nat → Bool) : SelResult :=
  let dir := Sel.dir desc
  let ap := Sel.approx desc
  let gone := if Sel.tomb desc then raw.filter (fun e => tomb e.item) else []
  let marks := selMarks desc raw tomb
  let dups := (marks.filter Prod.snd).map Prod.fst
  let surv := selOrder desc marks
  let res := surv.take (Sel.k desc)
  let full := Sel.k desc ≤ surv.length
  let last := match res.getLast? with | some e => e.key dir ap | none => 0
  let within (l : List SelEntry) := (l.filter (notPast desc surv)).length
  let ties (l : List SelEntry) := (l.filter (fun e => e.key dir ap >>> 22 = last >>> 22)).length
  { entries := res.map (fun e => (e.item, e.score)), raw := ScoreSum.of (raw.map (·.score))
    chosen := ScoreSum.of (res.map (·.score)), nan := nan, dup := within dups, tomb := within gone
    tie := if full then ties raw - ties res else 0, fewer := !full }

/-! ### Retention (R288) -/

/-- Kt: the key of the k-th best retained survivor. -/
def Selection.threshold (s : Selection) : Option Nat :=
  (s.store[Sel.k s.desc.toNat - 1]?).map (fun e => e.key (Sel.dir s.desc.toNat) (Sel.approx s.desc.toNat))

/-- Line of the tombstone bitmap that covers an item. -/
def tombLine (item : Nat) : Nat := item / 512

/-- Tombstone lines may be needed for an item: it is covered by the bitmap. -/
def Selection.tombed (s : Selection) (item : Nat) : Option Bool :=
  (Map.find s.lines (tombLine item)).map (fun l => bit l (item % 512))

/-- Refinement levels of a trim or of the final sort (R287, R290); APPROX takes none. -/
def Selection.sortLevels (s : Selection) : Nat :=
  let x := s.desc.toNat
  if Sel.approx x then 0
  else
    let best := match s.store with | e :: _ => okey e.score.toNat (Sel.dir x) >>> 20 | [] => 0
    refineLevels false (Sel.k x) 4 0 0
      (s.store.map (fun e => (e.key (Sel.dir x) false, 1, (okey e.score.toNat (Sel.dir x) >>> 20) - best)))

/-- A trim: the selection keeps its best k. -/
def Selection.trim (s : Selection) : Selection :=
  if s.reserve ≤ s.store.length then
    { s with store := s.store.take (Sel.k s.desc.toNat), trims := s.trims + 1, levels := s.levels + s.sortLevels }
  else s

/-- Enters an entry that is no tombstone: deduplicated by ITEM, the worse of the two removed. -/
def Selection.retain (s : Selection) (e : SelEntry) : Selection :=
  let x := s.desc.toNat
  let dir := Sel.dir x
  let put (st : List SelEntry) := insertBy (fun a b => a.key dir (Sel.approx x) ≤ b.key dir (Sel.approx x)) e st
  match (if Sel.dedupe x then s.store.find? (fun o => o.item = e.item) else none) with
  | some o =>
    if o.key dir false ≤ e.key dir false then s
    else Selection.trim { s with store := put (s.store.filter (fun o => o.item ≠ e.item)) }
  | none => Selection.trim { s with store := put s.store }

/-- One valid entry at the store: past the threshold it is discarded; its tombstone bit is looked at, or waited for. -/
def Selection.admits (tombBits : Nat) (s : Selection) (e : SelEntry) : Selection :=
  let x := s.desc.toNat
  let past : Bool := match s.threshold with | some t => decide (t < e.key (Sel.dir x) (Sel.approx x)) | none => false
  if past then s
  else if !Sel.tomb x || tombBits ≤ e.item then s.retain e
  else match s.tombed e.item with
    | some true => s
    | some false => s.retain e
    | none => { s with held := s.held ++ [e] }

/-- Entries whose tombstone bit the result depends on and which no line read so far tells (R277): one that was discarded
past the threshold may still be selected where DEDUPE removes an entry retained before it. -/
def Selection.unread (s : Selection) (tombBits : Nat) : List SelEntry :=
  let x := s.desc.toNat
  if !Sel.tomb x then []
  else
    let surv := selOrder x (selMarks x s.entries (fun i => i < tombBits && (s.tombed i).getD false))
    s.entries.filter (fun e => e.item < tombBits && (s.tombed e.item).isNone && notPast x surv e)

def itemNone (idw item : Nat) : Bool := if idw = 1 then item = 2 ^ 32 - 1 else if idw = 2 then item = 2 ^ 64 - 1 else false

/-- One input entry (R277). -/
def Selection.fold (tombBits : Nat) (s : Selection) (e : SelEntry) : Selection :=
  if itemNone (Sel.idw s.desc.toNat) e.item then s
  else if f32NaN e.score.toNat then { s with nan := s.nan + 1 }
  else Selection.admits tombBits { s with entries := e :: s.entries } e

/-- Entries of a beat's bytes, held little-endian in `x`: list `l`, first position `j` (R284, R285). -/
def beatEntries (idw l : Nat) : Nat → Nat → Nat → List SelEntry
  | 0, _, _ => []
  | n + 1, j, x =>
    let e : SelEntry :=
      if idw = 0 then { list := l, pos := j, item := 4096 * l + j, score := BitVec.ofNat 32 x }
      else if idw = 1 then { list := l, pos := j, item := bf x 63 32, score := BitVec.ofNat 32 x }
      else { list := l, pos := j, item := bf x 127 64, score := BitVec.ofNat 32 (bf x 63 32) }
    e :: beatEntries idw l n (j + 1) (x >>> (if idw = 0 then 32 else if idw = 1 then 64 else 128))

/-- Bytes of an entry on LGI (Table 10.3). -/
def lgiEntryBytes (idw : Nat) : Nat := if idw = 0 then 4 else if idw = 1 then 8 else 16

/-! ### Selections of the slice -/

def selFor (d : Device) (slot : Nat) : Option Selection := d.sels.find? (fun s => s.slot = slot)

def modSel (d : Device) (slot : Nat) (f : Selection → Selection) : Device :=
  { d with sels := modFirst (fun s => s.slot = slot) f d.sels }

def dropSel (d : Device) (slot : Nat) : Device := { d with sels := d.sels.filter (fun s => s.slot ≠ slot) }

/-- Descriptor of the epoch that a sequence is pinned to (R357). -/
def epochDesc (d : Device) (q : Seq) : Nat := (d.epochs.getD q.plan.epochSlot {}).desc.toNat

def tombBitsOf (desc : Nat) : Nat := bf desc 647 616
def tombAddrOf (desc : Nat) : Nat := bf desc 711 648

/-- Issues the reads of the tombstone lines that held entries wait for. -/
def readLines (d : Device) (slot : Nat) : Device :=
  match selFor d slot, d.seq? slot with
  | some s, some q =>
    let need := ((s.held.map (fun e => tombLine e.item)).dedup).filter (fun l => !s.linesDue.contains l)
    need.foldl (fun d l => fabiRead (modSel d slot (fun s => { s with linesDue := s.linesDue ++ [l] }))
      (.tombLine slot l) (tombAddrOf (epochDesc d q) + 64 * l) 64) d
  | _, _ => d

/-- Folds entries into the selection of a slot. -/
def feedSel (d : Device) (slot : Nat) (es : List SelEntry) : Device :=
  match selFor d slot, d.seq? slot with
  | some s, some q =>
    let t := es.foldl (Selection.fold (tombBitsOf (epochDesc d q))) s
    let d := bumpBy d Od.SEL_STATS 4 (t.trims - s.trims)
    readLines (modSel (bumpBy d Od.SEL_STATS 3 (t.levels - s.levels)) slot (fun _ => t)) slot
  | _, _ => d

/-- A tombstone line has been read: the entries that waited for it go on. -/
def lineRead (d : Device) (slot line bytes : Nat) : Device :=
  match selFor d slot, d.seq? slot with
  | some s, some q =>
    let s0 := { s with lines := Map.put s.lines line bytes, linesDue := s.linesDue.filter (· ≠ line), held := [] }
    let t := s.held.foldl (Selection.admits (tombBitsOf (epochDesc d q))) s0
    let d := bumpBy d Od.SEL_STATS 4 (t.trims - s.trims)
    modSel (bumpBy d Od.SEL_STATS 3 (t.levels - s.levels)) slot (fun _ => t)
  | _, _ => d

/-! ### Claims (R289) -/

/-- SELECTION_CLAIM. -/
def claimSel (d : Device) (slot : Nat) : Device :=
  match selFor d slot with
  | none => d
  | some s =>
    if !s.claimed && claimable d s then
      let d := bump (modSel d slot (fun s => { s with claimed := true })) Od.SEL_STATS 1
      if Sel.approx s.desc.toNat then bump d Od.SEL_STATS 2 else d
    else d

def execSelectionClaim (slot : Nat) (s : State) : Host.Outcome State Fault Refusal :=
  done s (whenReady s.dev (claimSel · slot))

end Sys2Proof.Machine
end

