-- ==== Sys2Proof/Machine/Plans.lean ====
section
/-! DEFINITION. Plans of class R and E (chapter 13): stage entries, boundaries, the deadline monitor (R142, R143), the
result buffer, packing. -/

namespace Sys2Proof.Machine

/-! ### A plan's figures -/

def embedBytes (d : Device) (q : Seq) : Nat := odGet d Od.MODEL_EMBED_BYTES q.version
def planBits (q : Seq) : Nat := q.plan.bits.toNat
def workAddr (q : Seq) : Nat := Plan.workAddr (planBits q)

/-- Entries of the list that a stage reads, with F2 and F3 in force (R347, R361). -/
def stageInput (q : Seq) : Nat :=
  let n := match q.plan.latest with | some r => r.entries.length | none => 0
  if q.plan.stage = 3 && bit q.plan.fbUsed 2 then min n (Plan.fbNprobe (planBits q))
  else if q.plan.stage = 6 && bit q.plan.fbUsed 1 then min n (Plan.fbCand (planBits q))
  else n

/-- First element and number of elements of list `l`'s share (R347). -/
def stageShare (d : Device) (q : Seq) (l : Nat) : Nat × Nat :=
  let n := stageInput q
  let L := Sel.lists (Plan.selOf (planBits q) q.plan.stage)
  if q.plan.stage = 1 then (4096 * l, min 4096 (bf (epochDesc d q) 927 904 - 4096 * l))
  else if q.plan.stage = 3 then (l, (n + L - 1 - l) / L)
  else (l * n / L, (l + 1) * n / L - l * n / L)

/-- Lists of the current stage that have work. -/
def stageLists (d : Device) (q : Seq) : List Nat :=
  if q.plan.stage = 0 then [0]
  else if Plan.isFanOut q.plan.stage then
    (List.range (Sel.lists (Plan.selOf (planBits q) q.plan.stage))).filter (fun l => (stageShare d q l).2 ≠ 0)
  else []

/-- Address of the stage block of list `l` (Table 13.3). -/
def stageBlockAddr (d : Device) (q : Seq) (l : Nat) : Nat :=
  let i := if q.plan.stage = 1 then 0 else if q.plan.stage = 3 then 1 else if q.plan.stage = 5 then 2 else 3
  workAddr q + Plan.stageOff (embedBytes d q) + 65536 * i + 64 * l

/-- Offset of the list that a stage writes (stages 2, 4 and 5). -/
def listOff (d : Device) (q : Seq) (stage : Nat) : Nat :=
  let e := embedBytes d q
  if stage = 1 || stage = 2 then Plan.probeOff e else if stage = 3 || stage = 4 then Plan.aOff (planBits q) e
  else Plan.bOff (planBits q) e

/-- Address of the first element of a share. -/
def shareAddr (d : Device) (q : Seq) (first : Nat) : Nat :=
  let p := planBits q
  let w := workAddr q
  if q.plan.stage = 1 then 0
  else if q.plan.stage = 3 then w + listOff d q 2 + 8 * first
  else if q.plan.stage = 5 then w + listOff d q 4 + Sel.width (Plan.mergeSel p) * first
  else w + listOff d q (if Plan.refineOn p then 5 else 4) + Sel.width (Plan.feedSel p) * first

/-- Replica that a SCAN entry reads (R354); the other one on a retry (Table 13.6). -/
def replicaOf (d : Device) (slot : Nat) (q : Seq) (l : Nat) : Nat :=
  if q.plan.stage = 3 && bf (epochDesc d q) 987 986 = 2 then (l + slot + ofBool q.plan.retryUsed) % 2 else 0

/-- Table 13.4. -/
def stageBlock (d : Device) (slot : Nat) (q : Seq) (l : Nat) : Nat :=
  let p := planBits q
  let x := Plan.selOf p q.plan.stage
  let s := stageShare d q l
  fields [(511, 480, q.tcb.handle), (479, 476, q.plan.stage), (475, 474, Sel.idw x), (473, 473, ofBool (Sel.dir x)),
    (472, 472, replicaOf d slot q l), (471, 461, l), (460, 448, min 4096 (Sel.k x)), (447, 416, q.plan.epoch),
    (415, 400, s.2), (399, 336, (d.epochs.getD q.plan.epochSlot {}).descAddr), (335, 272, shareAddr d q s.1),
    (271, 208, Plan.allowAddr p), (207, 176, Plan.allowBits p)]

/-- The version that the sequence's next entry runs. -/
def entryModel (d : Device) (q : Seq) : Nat :=
  if q.tcb.cls = .g then q.version else stageVersion d q.version (planBits q) q.plan.fbUsed q.plan.stage

/-- The tile of a stage's entries: one on which the sequence has asked for room stays its target (R192). -/
def stageTile (d : Device) (slot : Nat) (q : Seq) : Option Nat :=
  match (d.group q.tcb.group).rooms.find? (fun r => r.slot = slot) with
  | some r => some r.tile
  | none => q.ctx.affTile

/-- The entry of list `l` of the current stage (Tables 6.2 and 13.1). -/
def stageEntry (d : Device) (slot : Nat) (q : Seq) (l : Nat) : WlEntry :=
  let base : WlEntry :=
    { slot := slot, handle := q.tcb.handle, adapter := q.adapter, client := q.tcb.client, partition := q.tcb.partition
      cls := q.tcb.cls, list := l, sel := Plan.selOf (planBits q) q.plan.stage, aff := stageTile d slot q
      rerun := q.rerunMark }
  let cost := stageCost d q.version (planBits q) q.plan.fbUsed (planCand q) q.plan.stage
  let base := { base with cost := cost }
  if q.plan.stage = 0 then
    { base with kind := K_EMBED, ntok := q.promptLen, inAddr := q.promptAddr
                outAddr := if q.tcb.cls = .e then q.resultAddr + 64 else workAddr q }
  else if q.plan.stage = 6 then
    { base with kind := K_RERANK, ntok := q.promptLen, inAddr := q.promptAddr, argAddr := stageBlockAddr d q l }
  else
    { base with kind := (if q.plan.stage = 1 then K_COARSE else if q.plan.stage = 3 then K_SCAN else K_REFINE)
                inAddr := workAddr q, argAddr := stageBlockAddr d q l }

/-- The stage may enter a step: it has work left and a fan-out's selection holds its claim (R346). -/
def stageMayIssue (d : Device) (slot : Nat) (q : Seq) : Bool :=
  !q.plan.todo.isEmpty && !q.plan.delivered &&
    (q.plan.stage = 0 || (Plan.isFanOut q.plan.stage &&
      (match selFor d slot with | some s => s.claimed | none => false)))

/-- Writes the stage blocks of lists `ls` of the stage that `q` stands in (R348). -/
def writeStageBlocks (d : Device) (slot : Nat) (q : Seq) (ls : List Nat) : Device :=
  if Plan.isFanOut q.plan.stage then
    ls.foldl (fun d l =>
      fabiWrite (d.modSeq slot (fun q => { q with plan := { q.plan with writes := q.plan.writes + 1 } })) (.stageBlock slot)
        (stageBlockAddr d q l) 64 (stageBlock d slot q l)) d
  else d

/-- Enters stage `s`: its lists, and its selection's claim. -/
def enterStage (d : Device) (slot s : Nat) : Device :=
  let d := d.modSeq slot (fun q => { q with plan := { q.plan with
    stage := s, missing := 0, missingLists := [], retryUsed := false, stageIssued := false, delivered := false } })
  match d.seq? slot with
  | none => d
  | some q =>
    let ls := stageLists d q
    let d := d.modSeq slot (fun q => { q with plan := { q.plan with lists := ls, todo := ls } })
    if Plan.isFanOut s then requestClaim d slot (Plan.selOf (planBits q) s) else d

/-! ### The deadline monitor (R142, R143, R361) -/

/-- Stages not yet delivered. -/
def stagesLeft (q : Seq) : List Nat :=
  (Plan.stages q.tcb.cls (planBits q)).filter (fun s =>
    if q.plan.delivered then Plan.foldStage q.plan.stage < s else q.plan.stage ≤ s)

/-- P_rem of R142 in TICK. -/
def remaining (d : Device) (q : Seq) : Nat :=
  let b := backlogUs d q.tcb.group
  match q.tcb.cls with
  | .g => predictTicks b (genCost d q.version (promptLeft q) (q.maxTokens - q.tcb.tokenEnd))
  | _ => predictTicks b (stagesCost d q.version (planBits q) q.plan.fbUsed (planCand q) (stagesLeft q))

/-- Slack of a sequence with a deadline. -/
def seqSlack (d : Device) (q : Seq) : Int :=
  (q.tcb.admitTick : Int) + q.deadline - d.tick - remaining d q

/-- Stage `s` has not been issued. -/
def stageAhead (q : Seq) (s : Nat) : Bool :=
  q.plan.stage < s || (q.plan.stage = s && !q.plan.stageIssued && !q.plan.delivered)

/-- The version of a class E request's fallback (R361). -/
def embedFallback (d : Device) (q : Seq) : Option Nat :=
  match resolveModel d (odGet d Od.MODEL_FALLBACK q.version) with
  | some v => if classOk d v .e && modelReady d q.tcb.group v then some v else none
  | none => none

/-- The first unused fallback step that can still be used: 1 to 3 are F1 to F3, 4 the fallback model of class E. -/
def fallbackStep (d : Device) (q : Seq) : Option Nat :=
  let p := planBits q
  match q.tcb.cls with
  | .g => none
  | .e => if !q.fallbackUsed && stageAhead q 0 && (embedFallback d q).isSome then some 4 else none
  | .r =>
    if Plan.fbRerankValid p && !bit q.plan.fbUsed 0 && stageAhead q 6 then some 1
    else if Plan.fbCand p ≠ 0 && !bit q.plan.fbUsed 1 && stageAhead q 6 then some 2
    else if Plan.fbNprobe p ≠ 0 && !bit q.plan.fbUsed 2 && stageAhead q 3 then some 3
    else none

/-- The step changes what the current stage runs: it has not been issued, and its entries are formed anew. -/
def fallbackNow (q : Seq) (code : Nat) : Bool :=
  code = 4 || (q.plan.stage = 6 && code ≤ 2) || (q.plan.stage = 3 && code = 3)

/-- Step 1 of R143; `boundary`: at a stage boundary (R367). -/
def applyFallback (d : Device) (slot : Nat) (q : Seq) (code : Nat) (boundary : Bool) : Device :=
  let d := traceRec d TR_FALLBACK q.tcb.handle q.tcb.client q.tcb.partition
    (fields [(127, 125, code), (124, 121, q.plan.stage), (120, 89, clipI32 (seqSlack d q)), (88, 57, remaining d q)])
  let v := if code = 4 then (embedFallback d q).getD q.version else q.version
  let d := if boundary && code ≠ 4 then bump d Od.RANK_STATS 5 else d
  let d := if fallbackNow q code && q.inStep then giveUpStep d slot q else d
  let d := d.modSeq slot (fun q => { q with
    fallbackUsed := true, version := v
    plan := { q.plan with fbUsed := if code = 4 then q.plan.fbUsed else q.plan.fbUsed ||| 2 ^ (code - 1) } })
  match d.seq? slot with
  | some q =>
    if fallbackNow q code then
      let ls := stageLists d q
      writeStageBlocks (d.modSeq slot (fun q => { q with plan := { q.plan with lists := ls, todo := ls } })) slot q ls
    else d
  | none => d

/-- The policy is ABANDON (Tables 5.5). -/
def abandons (d : Device) (q : Seq) : Bool :=
  let c := odGetC d Od.CLIENT_DEADLINE_POLICY q.tcb.client
  if c = 0 then odGet d Od.DEADLINE_POLICY 0 = 2 else c = 2

/-! ### The result buffer (R291, R292, R362) -/

/-- Little-endian bytes of entries, as one number. -/
def entriesBits (w : Nat) (es : List (Nat × Nat)) : Nat :=
  es.reverse.foldl (fun acc e =>
    acc <<< (8 * w) ||| (if w = 16 then (e.1 % 2 ^ 64) <<< 64 ||| e.2 <<< 32 else (e.1 % 2 ^ 32) <<< 32 ||| e.2)) 0

/-- Body of K entries: the result and the sentinel slots (R281). -/
def bodyEntries (x : Nat) (es : List (Nat × F32)) : List (Nat × Nat) :=
  let es := (es.take (Sel.k x)).map (fun e => (e.1, e.2.toNat))
  es ++ List.replicate (Sel.k x - es.length) (2 ^ 64 - 1, f32NaNBits)

/-- Table 10.6, STATUS left zero. -/
def resultHeader (x : Nat) (cov n : Nat) (r : SelResult) (chosen left : ScoreSum) (tie : Nat) : Nat :=
  let w := Sel.width x
  fields [(503, 500, if w = 16 then 2 else 1), (499, 499, ofBool (Sel.dir x)), (498, 498, ofBool (Sel.approx x)),
    (479, 463, Sel.k x), (462, 446, n), (445, 416, 0), (415, 384, tie), (383, 352, r.nan), (351, 320, r.dup),
    (319, 288, r.tomb), (287, 271, cov), (255, 192, chosen.bits), (191, 128, left.bits), (127, 96, Sel.k x * w)]

/-- Starts the write of a result: the body, then the header (R292). -/
def writeResult (d : Device) (slot x cov n tie : Nat) (r : SelResult) (es : List (Nat × F32)) : Device :=
  match d.seq? slot with
  | none => d
  | some q =>
    let chosen := ScoreSum.of (es.map Prod.snd)
    let h := resultHeader x cov n r chosen (r.raw.sub chosen) tie
    let d := d.modSeq slot (fun q => { q with plan := { q.plan with resultBusy := true, header := BitVec.ofNat 512 h } })
    fabiWrite d (.resultBody slot) (q.resultAddr + 64) (Sel.k x * Sel.width x) (entriesBits (Sel.width x) (bodyEntries x es))

/-- The header is written once the body's writes have their responses; its STATUS is the first of R120. -/
def resultBodyWritten (d : Device) (slot : Nat) : Device :=
  match d.seq? slot with
  | none => d
  | some q => writeHeader d slot (finalStatus d q)

/-- The result stands: the END may follow. -/
def resultWritten (d : Device) (slot : Nat) : Device :=
  tryEnd (d.modSeq slot (fun q => { q with plan := { q.plan with resultBusy := false } })) slot

/-- ABANDON (row 25); a class R request returns its partial result (R362). -/
def abandon (d : Device) (slot : Nat) : Device :=
  match d.seq? slot with
  | none => d
  | some q =>
    let d := if q.tcb.cls = .r then
        let x := Plan.finalSel (planBits q)
        let r := q.plan.latest.getD {}
        let es := r.entries.take (Sel.k x)
        writeResult (modTcb d slot (fun t => { t with status := .deadlineMissed })) slot x q.plan.coverage es.length 0 r es
      else d
    finishSeq d slot .deadlineMissed 3

/-- One evaluation of the deadline monitor; `boundary`: at a stage boundary. A sequence that is PARKED is evaluated at
its timer's expiry as any other, but row 25 of Table 4.2 leaves running states only. -/
def monitor (d : Device) (slot : Nat) (boundary : Bool := false) : Device :=
  match d.seq? slot with
  | none => d
  | some q =>
    if q.deadline = 0 || !(q.tcb.state.running || q.tcb.state = .parked) then d
    else
      let s := seqSlack d q
      if s < odGet d Od.FALLBACK_MARGIN 0 then
        match fallbackStep d q with
        | some c => applyFallback d slot q c boundary
        | none => if s < 0 && abandons d q && q.tcb.state.running then abandon d slot else d
      else d

/-! ### Delivery of a selection (R360) -/

/-- Coverage of the stage (R360). -/
def stageCoverage (q : Seq) : Nat :=
  let L := Sel.lists (Plan.selOf (planBits q) q.plan.stage)
  (L - q.plan.missing) * 65536 / L

/-- Every command of the stage has returned and every input has been folded. -/
def stageOver (d : Device) (slot : Nat) (q : Seq) (s : Selection) : Bool :=
  inFanOut q && !q.plan.delivered && s.claimed && q.plan.todo.isEmpty && !seqInFlight d slot && s.held.isEmpty
    && q.tcb.state.running

/-- The selection's result is delivered; the boundary is evaluated (R346). -/
def deliver (d : Device) (slot : Nat) (q : Seq) (s : Selection) : Device :=
  let x := s.desc.toNat
  let tb := tombBitsOf (epochDesc d q)
  let r := select x s.entries s.nan (fun i => i < tb && (s.tombed i).getD false)
  let d := bumpBy d Od.SEL_STATS 3 s.sortLevels
  let d := if r.fewer then bump d Od.SEL_STATS 7 else d
  let d := dropSel d slot
  let d := d.modSeq slot (fun q => { q with plan := { q.plan with
    latest := some r, delivered := true, coverage := (q.plan.coverage * stageCoverage q) >>> 16
    partialSeen := q.plan.partialSeen || q.plan.missing ≠ 0
    fewer := q.plan.fewer || (r.fewer && Sel.toResult x), retryUsed := false } })
  monitor d slot true

/-- SELECTION_DELIVERED: what the result still depends on is read; a stage with lists missing then follows its policy
(Table 13.6). -/
def selectionDelivered (d : Device) (slot : Nat) : Device :=
  match selFor d slot, d.seq? slot with
  | some s, some q =>
    let more := s.unread (tombBitsOf (epochDesc d q))
    if !stageOver d slot q s then d
    else if !more.isEmpty then readLines (modSel d slot (fun s => { s with held := more })) slot
    else if q.plan.missing = 0 then deliver d slot q s
    else if !Plan.strict (planBits q) then
      if Plan.minCoverage (planBits q) ≤ (q.plan.coverage * stageCoverage q) >>> 16 then deliver d slot q s
      else faultSeq d slot .faultTile
    else if !q.plan.retryUsed && (q.deadline = 0 || 0 ≤ seqSlack d q) then
      let q' : Seq := { q with plan := { q.plan with
        todo := q.plan.missingLists, missingLists := [], missing := 0, retryUsed := true } }
      writeStageBlocks (bump (d.modSeq slot (fun _ => q')) Od.RANK_STATS 3) slot q' q'.plan.todo
    else faultSeq d slot .faultTile
  | _, _ => d

def execSelectionDelivered (slot : Nat) (s : State) : Host.Outcome State Fault Refusal :=
  done s (whenReady s.dev (selectionDelivered · slot))

/-! ### Packing (R363 to R365) -/

def modPlan (d : Device) (slot : Nat) (f : PlanBlk → PlanBlk) : Device := d.modSeq slot (fun q => { q with plan := f q.plan })

def packBase (d : Device) (q : Seq) : Nat := workAddr q + Plan.packOff (planBits q) (embedBytes d q)

/-- Words of the separator. -/
def sepWords (q : Seq) : List Nat :=
  if Plan.sepToken (planBits q) = 0xFFFFFF then [] else [Plan.sepToken (planBits q)]

/-- Words that the query tail needs. -/
def packTail (q : Seq) : Nat := if Plan.packQuery (planBits q) then (sepWords q).length + q.promptLen else 0

/-- 4-byte words, as one little-endian number. -/
def wordsBits (ws : List Nat) : Nat := ws.reverse.foldl (fun acc w => acc <<< 32 ||| w) 0

/-- 4-byte words of read bytes. -/
def wordsOf (x : Nat) : Nat → List Nat
  | 0 => []
  | n + 1 => x % 2 ^ 32 :: wordsOf (x >>> 32) n

/-- The prompt is whole: it is written at W_PACK + 64. -/
def packPrompt (d : Device) (slot : Nat) : Device :=
  match d.seq? slot with
  | none => d
  | some q =>
    fabiWrite (modPlan d slot (fun p => { p with packPhase := .prompt })) (.packWrite slot) (packBase d q + 64)
      (4 * q.plan.packTokens.length) (wordsBits q.plan.packTokens)

/-- Step 3 of R363. -/
def packEnd (d : Device) (slot : Nat) : Device :=
  match d.seq? slot with
  | none => d
  | some q =>
    if Plan.packQuery (planBits q) then
      let d := modPlan d slot (fun p => { p with packPhase := .query, packTokens := p.packTokens ++ sepWords q })
      fabiRead d (.passage slot) q.promptAddr (4 * q.promptLen)
    else packPrompt d slot

/-- Step 2 of R363: the next entry whose passage stands in the table is looked up. -/
def packNext (d : Device) (slot : Nat) : List Nat → Device
  | [] => packEnd (modPlan d slot (fun p => { p with packTodo := [] })) slot
  | i :: l =>
    match d.seq? slot with
    | none => d
    | some q =>
      let e := epochDesc d q
      if bf e 615 552 = 0 || bf e 551 520 ≤ i then
        packNext (bump (modPlan d slot (fun p => { p with skipped := p.skipped + 1 })) Od.RANK_STATS 7) slot l
      else
        fabiRead (modPlan d slot (fun p => { p with packPhase := .entry, packTodo := l })) (.passage slot)
          (bf e 615 552 + 16 * i) 16

/-- The template stands: the passages follow. -/
def packPassages (d : Device) (slot : Nat) : Device :=
  match d.seq? slot with
  | none => d
  | some q => packNext d slot q.plan.packTodo

/-- Stage 8 begins. -/
def packStart (d : Device) (slot : Nat) : Device :=
  match d.seq? slot with
  | none => d
  | some q =>
    let p := planBits q
    let items := ((q.plan.latest.getD {}).entries.take (Plan.packN p)).map Prod.fst
    let d := modPlan d slot (fun b => { b with
      stage := 8, packTodo := items, packTokens := [], packed := 0, skipped := 0, packPhase := .template })
    if Plan.packPfxLen p = 0 then packPassages d slot
    else fabiRead d (.passage slot) (Plan.packPfxAddr p) (4 * Plan.packPfxLen p)

/-- The spawn of R364. -/
def spawnOf (d : Device) (q : Seq) : SpawnReq :=
  let p := planBits q
  { id := 2 ^ 40 + q.tcb.handle, src := d.ident.index, parent := q.tcb.handle, ring := q.tcb.ring, client := q.tcb.client
    userTag := q.tcb.userTag, model := Plan.packModel p, adapter := Plan.packAdapter p, singleTurn := Plan.packSingleTurn p
    turn := { promptAddr := packBase d q + 64, promptLen := q.plan.packTokens.length, toklogAddr := q.toklogAddr
              maxTokens := Plan.packMaxNew p, deadline := Plan.packDeadline p, consumeTick := d.tick
              hseq := q.tcb.hseqOf, stream := q.tcb.stream, paramAddr := Plan.packParamAddr p, paramLen := 1152
              biasTokens := [] }
    paramAddr := Plan.packParamAddr p, paramLen := 1152, flow := q.tcb.flow }

/-- What a read of the pack stage has brought. -/
def packRead (d : Device) (slot : Nat) (data : List Byte) : Device :=
  match d.seq? slot with
  | none => d
  | some q =>
    let x := ofLe data
    let words := wordsOf x (data.length / 4)
    match q.plan.packPhase with
    | .template => packPassages (modPlan d slot (fun p => { p with packTokens := words })) slot
    | .entry =>
      let n := bf x 63 40
      if q.plan.packTokens.length + (sepWords q).length + n + packTail q ≤ Plan.packMaxTokens (planBits q) then
        let d := modPlan d slot (fun p => { p with packTokens := p.packTokens ++ sepWords q, packed := p.packed + 1 })
        if n = 0 then packPassages d slot
        else fabiRead (modPlan d slot (fun p => { p with packPhase := .passage })) (.passage slot) (bf x 127 64) (4 * n)
      else packEnd d slot
    | .passage => packPassages (modPlan d slot (fun p => { p with packTokens := p.packTokens ++ words })) slot
    | .query => packPrompt (modPlan d slot (fun p => { p with packTokens := p.packTokens ++ words })) slot
    | _ => d

/-- The summary of R365, once the spawn's outcome is known. -/
def packSummary (d : Device) (slot : Nat) : Device :=
  match d.seq? slot with
  | none => d
  | some q =>
    match q.plan.spawned with
    | some (h, st) =>
      if q.plan.packPhase ≠ .spawned then d
      else
        fabiWrite (modPlan d slot (fun p => { p with packPhase := .summary })) (.packWrite slot) (packBase d q) 64
          (fields [(511, 489, q.plan.packTokens.length), (488, 473, q.plan.packed), (472, 457, q.plan.skipped),
            (456, 449, st.code), (31, 0, h)])
    | none => d

/-- A write of the pack stage has its response: the spawn is sent after the prompt, and row 8 follows the summary. -/
def packWritten (d : Device) (slot : Nat) : Device :=
  match d.seq? slot with
  | none => d
  | some q =>
    match q.plan.packPhase with
    | .prompt =>
      sendXfer (modPlan d slot (fun p => { p with packPhase := .spawned, spawnSent := true })) q.owner
        (.spawn (spawnOf d q)) 512
    | .summary => finishSeq (modPlan d slot (fun p => { p with packPhase := .idle })) slot .ok 3
    | _ => d

/-! ### The commit of a stage (R184, R348) -/

/-- The stage after `s` (R345). -/
def stageAfter (q : Seq) (s : Nat) : Nat :=
  match (Plan.stages q.tcb.cls (planBits q)).find? (fun t => Plan.foldStage s < t) with
  | some t => t
  | none => 9

/-- The stage blocks of the stage that follows, all of its lists (R348). -/
def nextStageBlocks (d : Device) (slot : Nat) (q : Seq) : Device :=
  let q' : Seq := { q with plan := { q.plan with stage := stageAfter q q.plan.stage, retryUsed := false } }
  writeStageBlocks d slot q' (stageLists d q')

/-- Action 1 for a stage: the list and the stage blocks for the next stage, or the result. -/
def stageWrites (d : Device) (slot : Nat) (q : Seq) : Device :=
  let d := nextStageBlocks d slot q
  match q.plan.latest with
  | none => d
  | some r =>
    let x := Plan.selOf (planBits q) q.plan.stage
    if q.plan.stage = 0 then d
    else if q.plan.stage = 6 then
      writeResult d slot x q.plan.coverage r.entries.length r.tie r r.entries
    else if r.entries.isEmpty then d
    else
      let w := Sel.width x
      fabiWrite (modPlan d slot (fun p => { p with writes := p.writes + 1 })) (.stageList slot)
        (workAddr q + listOff d q q.plan.stage) (w * r.entries.length)
        (entriesBits w (r.entries.map (fun e => (e.1, e.2.toNat))))

/-- The header of a class E result (R293). -/
def writeVectorHeader (d : Device) (slot : Nat) : Device :=
  match d.seq? slot with
  | none => d
  | some q =>
    let h := fields [(503, 500, 3), (287, 271, q.plan.coverage), (127, 96, embedBytes d q)]
    resultBodyWritten (modPlan d slot (fun p => { p with resultBusy := true, header := BitVec.ofNat 512 h })) slot

/-- What follows a committed stage: the next one, packing, or row 8. -/
def afterStage (d : Device) (slot : Nat) : Device :=
  match d.seq? slot with
  | none => d
  | some q =>
    let n := stageAfter q q.plan.stage
    if n = 8 then packStart d slot
    else if n = 9 then finishSeq d slot .ok 3
    else enterStage d slot n

end Sys2Proof.Machine
end

