-- ==== Sys2Proof/Machine/Acks.lean ====
section
/-! DEFINITION. Hand-overs and host commands with their acknowledgements (R27, R80, R364), prefix lookups (R28, R124,
R232), and the re-tests and sweeps of the queue (R129). -/

namespace Sys2Proof.Machine

/-! ### Hand-overs -/

/-- The decision whose hand-over carries `id`. -/
def handOverDec (d : Device) (id : Nat) : Option (Decision × Nat) :=
  d.turn.decisions.findSome? (fun x =>
    match x.phase with
    | .handOver i t => if i = id && !x.isCont then some (x, t) else none
    | _ => none)

/-- The ADMIT record and counts of an admission or of the grant of a CONTINUE (R141, R433). -/
def admitTrace (d : Device) (x : Decision) (handle cached : Nat) : Device :=
  let st : Status := if x.fellBack then .fallbackUsed else .ok
  let d := traceRec d TR_ADMIT handle x.client x.part
    (fields [(127, 96, x.turn.hseq), (95, 88, x.ring), (87, 80, x.chosen), (79, 72, st.code), (71, 49, cached),
      (48, 17, slackBits x.slack)])
  let d := bump d Od.ADMIT_COUNTS 0
  if x.fellBack then bump d Od.ADMIT_COUNTS 2 else d

/-- What the owning slice keeps of the sequence that an admitted decision created. -/
def ownedOf (x : Decision) : Owned :=
  { ring := x.ring, client := x.client, hseq := x.turn.hseq, version := x.version, adapter := x.adapter
    group := x.chosen, cls := x.cls, clen := match x.image with | some im => im.clen | none => 0, flow := x.flow
    noIrq := x.isRestore && x.noIrq }

/-- The flow's service passes to the handle, and one sequence more is live in it (R111, R112, R364). -/
def flowAdmit (d : Device) (x : Decision) (handle : Nat) : Device :=
  match x.flow with
  | some i => modFlow d i (fun f => { f with svcHandle := handle, live := f.live + 1 })
  | none => d

/-- What was refused of the record slot that a handle names is past: the slot has been allocated again. -/
def forgetSlot (l : List Nat) (h : Nat) : List Nat := l.filter (fun x => x / 2 ^ 11 ≠ h / 2 ^ 11)

/-- The hand-over has been acknowledged in time: the request is admitted. -/
def admitted (d : Device) (x : Decision) (handle cached : Nat) : Device :=
  let d := dropDecision d x.did
  let d := flowAdmit (d.modTurn (fun t => { t with
    owned := Map.put t.owned handle (ownedOf x), refused := forgetSlot t.refused handle })) x handle
  let st : Status := if x.fellBack then .fallbackUsed else .ok
  let d := match x.op with
    | .submit =>
      answer (admitTrace d x handle cached) x.ring CT_ADMITTED st x.turn.hseq x.userTag x.client handle
        (fields [(39, 32, x.chosen), (22, 0, cached)]) (x.epoch.getD 0) x.noIrq
    | .spawn parent src hid =>
      let d := answer (admitTrace d x handle cached) x.ring CT_SPAWNED .ok x.turn.hseq x.userTag x.client handle parent 0 false
      sendXfer d src (.handOverAck hid (.accepted handle cached)) 32
    | _ => bump d Od.ADMIT_COUNTS 0
  markPass d

/-- The answer of the owning slice to a spawn reaches the parent's home slice (R364). -/
def spawnAnswered (d : Device) (id : Nat) (out : Nat × Status) : Device :=
  match d.seqs.find? (fun p => p.2.plan.spawnSent && p.2.plan.spawned.isNone && 2 ^ 40 + p.2.tcb.handle = id) with
  | some (slot, _) =>
    let d := if out.1 = 0 then d else bump d Od.RANK_STATS 6
    packSummary (modPlan d slot (fun p => { p with spawned := some out })) slot
  | none => d

/-- A late acknowledgement is refused: the home slice frees the slot, and no completion names its handle. -/
def refuseLate (d : Device) (h : Nat) : Device :=
  sendXfer (markPass (d.modTurn (fun t => { t with refused := forgetSlot t.refused h ++ [h] }))) (handleSlice h) (.release h) 32

/-- HAND_OVER_ACK: a late acknowledgement is refused, and the home slice frees the slot again (R27). -/
def handOverAcked (d : Device) (id : Nat) (r : HandOverResult) : Device :=
  if 2 ^ 40 ≤ id then
    spawnAnswered d id (match r with | .accepted h _ => (h, .ok) | .refused st => (0, st))
  else match r, handOverDec d id with
    | .accepted h cached, some (x, t) =>
      if d.tick ≤ t + 10 then admitted d x h cached else refuseLate d h
    | .accepted h _, none => refuseLate d h
    | .refused _, some (x, _) => markPass (decide7 (strike d x.did) x.did)
    | .refused _, none => markPass d

/-- HAND_OVER_TIMEOUT: no acknowledgement within 10 TICK. -/
def handOverExpired (d : Device) (id : Nat) : Device :=
  match handOverDec d id with
  | some (x, t) =>
    if t + 10 < d.tick then
      let d := suspectOnce d (groupHome d x.chosen)
      decide7 (strike d x.did) x.did
    else d
  | none => d

/-- HAND_OVER. -/
def execHandOver (h : HandOver) (s : State) : Host.Outcome State Fault Refusal :=
  done s (whenReady s.dev (fun d => handOver d h))
/-- HAND_OVER_ACK. -/
def execHandOverAck (id : Nat) (r : HandOverResult) (s : State) : Host.Outcome State Fault Refusal :=
  done s (whenReady s.dev (fun d => handOverAcked d id r))
/-- HAND_OVER_TIMEOUT. -/
def execHandOverTimeout (id : Nat) (s : State) : Host.Outcome State Fault Refusal :=
  done s (whenReady s.dev (fun d => handOverExpired d id))

/-! ### Host commands -/

/-- HOST_COMMAND_TRANSFER. -/
def execHostCommandTransfer (c : HostCmd) (s : State) : Host.Outcome State Fault Refusal :=
  done s (whenReady s.dev (fun d => hostCommand d c))

/-- The answer of a forwarded record. -/
def fwdAnswer (d : Device) (f : Fwd) (ctype : Nat) (arg0 : Nat) (tokenEnd : Nat := 0) : Device :=
  answer d f.ring ctype .ok f.hseq f.userTag f.client f.named arg0 0 f.noIrq tokenEnd

def fwdRefuse (d : Device) (f : Fwd) (st : Status) (tokenEnd : Nat) : Device :=
  refuse d f.ring st f.hseq f.userTag f.client f.named 0 f.noIrq 0 noSlack tokenEnd

/-- The grant of a CONTINUE is acknowledged: ACK, and the turn's figures are kept; its flow serves the sequence. -/
def contGranted (d : Device) (f : Fwd) (x : Decision) : Device :=
  let d := dropDecision d x.did
  let d := match x.flow with | some i => modFlow d i (fun y => { y with svcHandle := f.handle }) | none => d
  let d := d.modTurn (fun t => { t with owned := Map.mod t.owned f.handle (fun o =>
    { o with hseq := x.turn.hseq, turns := o.turns + 1, tokenEnd := 0 }) })
  fwdAnswer (admitTrace d { x with chosen := x.group } f.handle 0) f CT_ACK 0

/-- An ABORT of the sequence has gone to its home slice (R365). -/
def abortSent (d : Device) (h : Nat) : Bool := match Map.find d.turn.owned h with | some o => o.aborted | none => false

/-- What the home slice answered to a CONTINUE (R27, R113). TOKEN_END of an ACK is 0: the turn begins. One that is to wait
for capacity, and whose sequence is being aborted, is answered as a waiting one is. -/
def contAnswered (d : Device) (f : Fwd) (did : Nat) (r : HostResult) (tokenEnd : Nat) : Device :=
  match dec? d did with
  | none => d
  | some x =>
    markPass (match r with
      | .ack _ => contGranted d f x
      | .refused st => refuseDecision d did st 0 none (some tokenEnd)
      | .queueForCapacity =>
        if abortSent d f.handle then refuseDecision d did .abortedHost 0 none (some tokenEnd)
        else queueDecision d did .capacity 6
      | _ => d)

/-- One of an ABORT_CLIENT's commands has its answer; with the last the record is answered (R80). -/
def clientAborted (d : Device) (f : Fwd) (gid : Nat) (n : Nat) : Device :=
  let total := Map.getD d.turn.clientAborts gid 0 + n
  if d.turn.fwds.any (fun g => g.kind = .clientAbort gid) then
    d.modTurn (fun t => { t with clientAborts := Map.put t.clientAborts gid total })
  else
    fwdAnswer (d.modTurn (fun t => { t with clientAborts := Map.del t.clientAborts gid })) { f with named := 0 } CT_ACK total

/-- HOST_COMMAND_ACK: the record is answered by its kind, with the tokens of the sequence's current turn (Table 3.8). -/
def hostAcked (d : Device) (id : Nat) (r : HostResult) (tokenEnd : Nat) : Device :=
  match d.turn.fwds.find? (fun f => f.id = id), r with
  | none, _ => d
  | some _, .later => d.modTurn (fun t => { t with fwds := modFirst (fun f => f.id = id) (fun f => { f with acked := true }) t.fwds })
  | some f, r =>
    let d := d.modTurn (fun t => { t with fwds := removeFirst (fun f => f.id = id) t.fwds })
    match f.kind with
    | .cont did => contAnswered d f did r tokenEnd
    | .clientAbort gid => clientAborted d f gid (match r with | .ack n => n | _ => 0)
    | _ =>
      match r with
      | .ack n => fwdAnswer d f CT_ACK n tokenEnd
      | .saved n => fwdAnswer d f CT_SAVED n tokenEnd
      | .refused st => fwdRefuse d f st tokenEnd
      | _ => d

/-- HOST_COMMAND_ACK. -/
def execHostCommandAck (id : Nat) (r : HostResult) (s : State) (tokenEnd : Nat := 0) :
    Host.Outcome State Fault Refusal :=
  done s (whenReady s.dev (fun d => hostAcked d id r tokenEnd))

/-! ### Lookups -/

/-- Probe i of a lookup message. -/
def lookupProbe (m i : Nat) : Nat := bf m (96 * i + 95) (96 * i)

/-- The answer to another slice's lookup. -/
def lookupServed (d : Device) (m : Nat) : Device × Nat :=
  serveLookup d (bf m 2047 2032) (bf m 2031 2026) (bf m 2025 2018) (bf m 2017 2006) (bf m 2005 1998)
    ((List.range (min 16 (bf m 1997 1993))).map (lookupProbe m))

/-- PREFIX_LOOKUP. -/
def prefixLookup (d : Device) (src : Nat) (m : BitVec 2048) : Device :=
  let r := lookupServed d m.toNat
  sendXfer r.1 src (.answer (BitVec.ofNat 256 r.2)) 32

/-- The decision and lookup that an answer or a timeout names. -/
def lookupOf (d : Device) (id : Nat) : Option (Decision × Lookup) :=
  d.turn.decisions.findSome? (fun x => (x.lookups.find? (fun l => l.id = id)).map (fun l => (x, l)))

/-- Marks a lookup answered, with the pages it reported. -/
def markLookup (d : Device) (did id pages : Nat) : Device :=
  modDec d did (fun x => { x with lookups := x.lookups.map (fun l =>
    if l.id = id then { l with answered := true, cachedPages := pages } else l) })

/-- Every lookup of the decision is over: tests 6 and 7 decide. -/
def lookupsOver (d : Device) (did : Nat) : Device :=
  match dec? d did with
  | some x => if x.phase = .lookups && x.lookups.all (Lookup.over d) then decide7 d did else d
  | none => d

/-- LOOKUP_ANSWER: what it says of the group is kept, also where the decision that asked has ended; one that comes after
2 TICK counts no cached pages (R124). -/
def lookupAnswered (d : Device) (m g v : Nat) : Device :=
  let id := bf m 255 240
  let d := noteAnswer (d.modTurn (fun t => { t with asked := Map.del t.asked id })) g v m
  match lookupOf d id with
  | none => d
  | some (x, l) =>
    if l.answered then d
    else lookupsOver (markLookup d x.did l.id (if l.tick + 2 < d.tick then 0 else bf m 127 104)) x.did

/-- LOOKUP_TIMEOUT. -/
def lookupExpired (d : Device) (id : Nat) : Device :=
  match lookupOf d id with
  | none => d
  | some (x, l) => if l.answered || d.tick < l.tick + 2 then d else lookupsOver (markLookup d x.did id 0) x.did

/-- PREFIX_LOOKUP. -/
def execPrefixLookup (src : Nat) (msg : BitVec 2048) (s : State) : Host.Outcome State Fault Refusal :=
  done s (whenReady s.dev (fun d => prefixLookup d src msg))
/-- LOOKUP_ANSWER. -/
def execLookupAnswer (src : Nat) (msg : BitVec 256) (s : State) : Host.Outcome State Fault Refusal :=
  done s (whenReady s.dev (fun d =>
    match Map.find d.turn.asked (bf msg.toNat 255 240) with
    | some (g, v) => if groupHome d g = src then lookupAnswered d msg.toNat g v else d
    | none => d))
/-- LOOKUP_TIMEOUT. -/
def execLookupTimeout (id : Nat) (s : State) : Host.Outcome State Fault Refusal :=
  done s (whenReady s.dev (fun d => lookupExpired d id))

/-! ### Re-tests (R129) -/

/-- The current decision slot is open to a re-test, and fewer than 64 decisions are in progress (R121). -/
def slotForRetest (d : Device) : Bool :=
  d.turn.lastSlot ≠ some (decisionSlot d) && decisionsBusy d < 64 && ((rrPick d).isNone || d.turn.lastWasConsume)

/-- The pass in progress, or a new one over the first 8 entries in share order. -/
def currentPass (d : Device) : Device :=
  match d.turn.pass with
  | some _ => d
  | none =>
    let now := d.tick
    let l := ((shareOrder d).map Decision.did).take 8
    d.modTurn (fun t => { t with pass := some l, passDue := false, lastPass := now })

/-- Takes entries that have left the queue off the front of the pass. -/
def trimPass (d : Device) : Device :=
  let queued (i : Nat) : Bool := d.turn.decisions.any (fun x => x.did = i && x.phase = .queued)
  d.modTurn (fun t => { t with pass := match t.pass with
    | some l => if (l.dropWhile (fun i => !queued i)).isEmpty then none else some (l.dropWhile (fun i => !queued i))
    | none => none })

/-- QUEUE_RETEST: the next re-test of a pass takes a decision slot. -/
def queueRetest (d : Device) : Device :=
  if !retestWaits d || !slotForRetest d then d
  else
    let d := trimPass (currentPass d)
    match d.turn.pass with
    | some (did :: _) =>
      let slot := decisionSlot d
      retestDecision (d.modTurn (fun t => { t with lastSlot := some slot, lastWasConsume := false })) did
    | _ => d

/-- QUEUE_RETEST. -/
def execQueueRetest (s : State) : Host.Outcome State Fault Refusal := done s (whenReady s.dev queueRetest)

/-! ### The sweep (R129) -/

/-- Test 7 alone on one candidate: feasible on the request's plan or on its fallback. -/
def sweepFeasible (d : Device) (x : Decision) (backlog uncached : Nat) : Bool :=
  match testSeven d x backlog uncached with
  | .admits _ _ => true
  | .tryFallback v =>
    (match slackOf d x (predictTicks backlog (requestCost d x v 0 x.turn.promptLen)) with
     | some s => decide (0 ≤ s)
     | none => true)
  | .infeasible => false

/-- The entry is still feasible on some candidate last reported for it; with none reported, with no backlog. -/
def stillFeasible (d : Device) (x : Decision) : Bool :=
  let ls := x.lookups.filter (fun l => Map.has d.turn.know l.group)
  if ls.isEmpty then sweepFeasible d x 0 x.turn.promptLen
  else ls.any (fun l => sweepFeasible d x (candBacklog d l.group x.version) (uncachedOf d x l.cachedPages))

/-- Slack that the REJECT record of the sweep carries: on the first candidate, or with no backlog. -/
def sweepSlack (d : Device) (x : Decision) : Option Int :=
  match x.lookups with
  | l :: _ => candSlack d x l
  | [] => slackOf d x (predictTicks 0 (requestCost d x x.version x.fbUsed x.turn.promptLen))

/-- An entry that waits for its flow has not met test 1 yet: the sweep judges it on the active version of its MODEL. None
where there is none, or where the plan that its cost needs has not been read (log entry 67). -/
def sweepView (d : Device) (x : Decision) : Option Decision :=
  if x.phase ≠ .flowWait || x.isCont then some x
  else if x.cls = .r then none
  else (resolveModel d x.model).map (fun v => { x with version := v })

def sweepOne (d : Device) (did : Nat) : Device :=
  match (dec? d did).bind (sweepView d) with
  | some x => if stillFeasible d x then d else refuseDecision d did .rejInfeasible 8 (sweepSlack d x)
  | none => d

/-- QUEUE_SWEEP: once in each 100 TICK. -/
def queueSweep (d : Device) : Device :=
  let n := d.tick / 100
  if n = d.turn.lastSweep then d
  else
    let d := d.modTurn (fun t => { t with lastSweep := n })
    ((queueEntries d).map Decision.did).foldl sweepOne d

/-- QUEUE_SWEEP. -/
def execQueueSweep (s : State) : Host.Outcome State Fault Refusal := done s (whenReady s.dev queueSweep)

end Sys2Proof.Machine
end

