-- ==== Sys2Proof/Machine/BringUp.lean ====
section
/-! DEFINITION. Resets, isolation, rails and start-up (chapter 15). -/

namespace Sys2Proof.Machine

/-! ### Resets (R408 to R410, Table 15.4) -/

/-- Lane groups with every spare in place: one spare a group at N = 8, two otherwise (R19). -/
def freshLanes (n : Nat) : List LaneGroup := List.replicate 4 { spares := if n = 8 then 1 else 2 }

/-- A slice held in reset. Kept: its place, the levels of its inputs, its repair map and rows where the map stands, and
with `keepLog` the fault log with FLOG_HEAD and FLOG_READ. Ports forget what was outstanding (R67, R69); the model's
own log, request numbers and free-value counter run on. -/
def heldDevice (d : Device) (clk : Clk) (keepLog : Bool) : Device :=
  let base : Device :=
    { ident := d.ident, clk := clk, lanes := freshLanes d.ident.n, out := d.out,
      fabi := { nextId := d.fabi.nextId }, freeCtr := d.freeCtr }
  if keepLog then
    { base with
      faults := { flog := d.faults.flog, flogHead := d.faults.flogHead }
      od := Map.set [] (odKey Od.FLOG_READ 0) (Map.find d.od (odKey Od.FLOG_READ 0)) }
  else base

/-- The clock unit while a reset is held: rows retired are kept with the map; BIST_RESULT takes its default (Table
15.4). -/
def heldClk (c : Clk) (mapLost : Bool) : Clk :=
  { porstN := c.porstN, wrstN := c.wrstN, srstN := c.srstN, rootLock := c.rootLock, isoN := c.isoN, mapLost := mapLost, phase := .held,
    staggered := c.staggered, spareRows := if mapLost then 10752 else c.spareRows }

/-- All reset inputs are released: the slice starts its sequence (R409, R411). -/
def startWaiting (d : Device) (staggered : Bool) : Device :=
  d.modClk (fun c =>
    if c.porstN && c.wrstN && c.srstN && c.rootLock then
      { c with phase := .waiting, bist := c.mapLost, staggered := staggered, phaseCyc := 0, rootcyc := 0, tickOffset := 0 }
    else { c with staggered := staggered })

def porstAssert (d : Device) : Device := heldDevice d (heldClk { d.clk with porstN := false } true) false
def porstRelease (d : Device) : Device :=
  if d.clk.porstN then d else startWaiting (d.modClk (fun c => { c with porstN := true })) true
def wrstAssert (d : Device) : Device := heldDevice d (heldClk { d.clk with wrstN := false } d.clk.mapLost) true
def wrstRelease (d : Device) : Device :=
  if d.clk.wrstN then d else startWaiting (d.modClk (fun c => { c with wrstN := true })) true
def srstAssert (d : Device) : Device := heldDevice d (heldClk { d.clk with srstN := false } d.clk.mapLost) true
def srstRelease (d : Device) : Device :=
  if d.clk.srstN then d else startWaiting (d.modClk (fun c => { c with srstN := true })) false
/-- FY_ROOT_LOCK low acts as FY_SRST_N (R408). -/
def lockLost (d : Device) : Device := heldDevice d (heldClk { d.clk with rootLock := false } d.clk.mapLost) true
def lockGained (d : Device) : Device :=
  if d.clk.rootLock then d else startWaiting (d.modClk (fun c => { c with rootLock := true })) false

/-- PORST_N falls. -/
def execPorstNAssert (s : State) : Host.Outcome State Fault Refusal := next s (porstAssert s.dev)
/-- PORST_N rises: self-test and a staggered start. -/
def execPorstNRelease (s : State) : Host.Outcome State Fault Refusal := next s (porstRelease s.dev)
/-- WRST_N falls. -/
def execWrstNAssert (s : State) : Host.Outcome State Fault Refusal := next s (wrstAssert s.dev)
/-- WRST_N rises: a staggered start, with self-test only where the map is lost (R409). -/
def execWrstNRelease (s : State) : Host.Outcome State Fault Refusal := next s (wrstRelease s.dev)
/-- FY_SRST_N or FY_ROOT_LOCK falls. -/
def execFySrstNAssert (s : State) (rootLock : Bool := false) : Host.Outcome State Fault Refusal :=
  next s (if rootLock then lockLost s.dev else srstAssert s.dev)
/-- FY_SRST_N or FY_ROOT_LOCK rises: the slice starts at once. -/
def execFySrstNRelease (s : State) (rootLock : Bool := false) : Host.Outcome State Fault Refusal :=
  next s (if rootLock then lockGained s.dev else srstRelease s.dev)
/-- FY_ISO_N falls: outputs are clamped, no internal state changes (R410). -/
def execFyIsoNAssert (s : State) : Host.Outcome State Fault Refusal :=
  next s (s.dev.modClk (fun c => { c with isoN := false }))
/-- Accesses that isolation held back go out, as many as the port takes (R38, R66). -/
def fabiPumpAll : Nat → Device → Device
  | 0, d => d
  | n + 1, d => fabiPumpAll n (fabiPump d)

/-- FY_ISO_N rises. -/
def execFyIsoNRelease (s : State) : Host.Outcome State Fault Refusal :=
  next s (fabiPumpAll 512 (s.dev.modClk (fun c => { c with isoN := true })))

/-- A rail is gated: everything the slice holds is lost, the repair map with it (R407, R409). -/
def railsGated (d : Device) : Device := heldDevice d (heldClk d.clk true) false

/-- Gating of VDD_FY (true) or VDD_FYM (false); either ends the repair map (R409). -/
def execRailGating (_vddFy : Bool) (s : State) : Host.Outcome State Fault Refusal := next s (railsGated s.dev)

/-! ### Start-up (R411, Table 15.5) -/

/-- ROOT cycles from the start of a phase to its end. -/
def phaseCycles (c : Clk) : Nat :=
  match c.phase with
  | .dict => 21600
  | .grotto => if c.bist then 7128000 else 262144
  | .lanes => 37800
  | .cipher => 5400
  | .table => 131072
  | .final => 5400
  | _ => 0

/-- The phase runs and its fixed duration has passed. -/
def phaseOver (d : Device) (p : Phase) : Bool :=
  d.clk.phase = p && d.clk.phaseCyc + phaseCycles d.clk ≤ d.clk.rootcyc

/-- The next phase starts where this one ended. -/
def toPhase (d : Device) (p : Phase) : Device :=
  d.modClk (fun c => { c with phase := p, phaseCyc := c.phaseCyc + phaseCycles c })

/-- Start-up fails (R414): FY_READY stays 0. FAIL codes: 1 spare rows, 2 lane groups, 3 cipher. -/
def failStart (d : Device) (code : Nat) : Device :=
  alertLog (d.modClk (fun c => { c with phase := .failed, failCode := code }))
    (if code = 3 then ALERT_RNG_SELFTEST else ALERT_ECC_UE) 0 0 0 0

/-- Cycle at which slice k starts (R411). -/
def startCycle (d : Device) : Nat := if d.clk.staggered then d.ident.index * 216000 else 0

/-- The slice's wait is over. -/
def sliceStart (d : Device) : Device :=
  if d.clk.phase = .waiting && startCycle d ≤ d.clk.rootcyc then
    d.modClk (fun c => { c with phase := .dict, phaseCyc := startCycle d })
  else d

/-- Rows that self-test finds failing take spare rows; a clear pass finds none (R409, R414). -/
def repairRows (d : Device) (failing : Nat) : Option Device :=
  let n := if d.clk.bist then failing else 0
  if d.clk.spareRows < n then none
  else some (d.modClk (fun c => { c with spareRows := c.spareRows - n, rowsRepaired := c.rowsRepaired + n }))

/-- FY_PRESENT rises when the dictionary region stands; it never rises where the region cannot be repaired. -/
def dictDone (d : Device) (failing : Nat) : Device :=
  if phaseOver d .dict then
    match repairRows d failing with
    | none => failStart d 1
    | some d => (toPhase d .grotto).modClk (fun c => { c with present := true })
  else d

def grottoDone (d : Device) (failing : Nat) : Device :=
  if phaseOver d .grotto then
    match repairRows d failing with
    | none => failStart d 1
    | some d => (toPhase d .lanes).modClk (fun c => { c with mapLost := false })
  else d

/-- A lane of a group is retired at once, and counted (R375, R399). -/
def takeLane (d : Device) (g lane : Nat) : Device :=
  bump { d with lanes := modAt d.lanes g (fun l => { l with active := l.active - 1, retired := l.retired ++ [lane] }) }
    Od.FAULT_STATS 3

/-- A retired lane's place goes to a spare of its group, where one is left (R376). -/
def replaceLane (d : Device) (g : Nat) : Device :=
  match d.lanes[g]? with
  | none => d
  | some l =>
    match l.retired with
    | [] => d
    | lane :: rest =>
      let spare : Bool := decide (0 < l.spares)
      let l' : LaneGroup :=
        { l with retired := rest, spares := l.spares - 1, active := if spare then l.active + 1 else l.active }
      alertLog { d with lanes := setAt d.lanes g l' } (if spare then ALERT_LANE_SPARE_USED else ALERT_LANE_DEGRADED)
        (g * 64 + lane) 0 0 0

/-- A lane that the start-up test finds failing (R414). -/
def retireLane (d : Device) (g lane : Nat) : Device := replaceLane (takeLane d g lane) g

def lanesDone (d : Device) (failing : List (Nat × Nat)) : Device :=
  if phaseOver d .lanes then
    let d := failing.foldl (fun d p => retireLane d p.1 p.2) d
    let d := d.modClk (fun c => { c with lanesRetired := c.lanesRetired + failing.length })
    if d.lanes.all (fun l => l.active = 0) then failStart d 2 else toPhase d .cipher
  else d

/-- Every core returns the ciphertext of FIPS 197 C.1 (R307). -/
def cipherDone (d : Device) (cts : List (BitVec 128)) : Device :=
  if phaseOver d .cipher then
    if cts.length = 8 && cts.all (fun c => c = 0x5AC5B47080B7CDD830047B6AD8E0C469#128) then toPhase d .table
    else failStart d 3
  else d

/-- The key of a write that waited for the class-T phase, and the answer to that write (R413). -/
def applyHeldKey (d : Device) : Device :=
  match d.clk.heldKey with
  | none => d
  | some h =>
    respondWrite (odSet (d.modClk (fun c => { c with heldKey := none })) Od.TABLE_KEY 0 h.key.toNat) h.path
      Od.TABLE_KEY 0 .ok 0

/-- A scrub period in ROOT cycles: 2^24 × 64 SCLK of four. -/
def scrubPeriod : Nat := 2 ^ 32

/-- A word is retired with its 512-byte row; where no spare row remains, the row stays in place (R373). -/
def retireWord (d : Device) (addr : Nat) : Device :=
  if d.clk.spareRows = 0 then d.modFaults (fun f => { f with stayed := (f.stayed ++ [addr / 512]).dedup })
  else
    let d := bump (d.modClk (fun c => { c with spareRows := c.spareRows - 1 })) Od.FAULT_STATS 2
    d.modFaults (fun f => { f with eccSeen := f.eccSeen.filter (fun p => p.1 / 512 ≠ addr / 512) })

/-- A read finds a word in error: it is retired where it erred a scrub period ago already (R373). -/
def noteBadWord (d : Device) (addr : Nat) : Device :=
  let now := d.clk.rootcyc
  match Map.find d.faults.eccSeen addr with
  | none => d.modFaults (fun f => { f with eccSeen := Map.put f.eccSeen addr now })
  | some t => if t + scrubPeriod ≤ now then retireWord d addr else d

/-- An uncorrectable table word: RNG_TABLE_ERR, and the table is generated again (R304); a repeat of the error at the
address retires the word. -/
def tableAgain (d : Device) (addr : Nat) : Device :=
  let d := noteBadWord (alertLog (bump d Od.RNG_STATS 4) ALERT_RNG_TABLE_ERR addr 0 0 0) addr
  d.modClk (fun c => { c with tableBusy := some (c.rootcyc + 131072) })

/-- An uncorrectable word is counted and raises ECC_UE (R374, R399). -/
def eccUe (d : Device) (addr handle status : Nat) : Device :=
  alertLog (bump d Od.FAULT_STATS 1) ALERT_ECC_UE addr handle status 0

/-- A read of the class-T table meets an uncorrectable word. -/
def tableError (d : Device) (addr : Nat) : Device := tableAgain (eccUe d addr 0 0) addr

/-- A generation of the class-T table ends: in start-up, or a regeneration of R302 or R304, whose write it then
answers. -/
def tableDone (d : Device) (uncorrectable : Option Nat) : Device :=
  if phaseOver d .table then
    let d := bump (toPhase (applyHeldKey d) .final) Od.RNG_STATS 3
    match uncorrectable with | some a => tableError d a | none => d
  else match d.clk.tableBusy with
    | none => d
    | some t =>
      if d.clk.rootcyc < t then d
      else
        let d := bump d Od.RNG_STATS 3
        match uncorrectable with
        | some a => tableError d a
        | none =>
          let p := d.clk.tablePath
          let d := d.modClk (fun c => { c with tableBusy := none, tablePath := none })
          match p with
          | some path => respondWrite d path Od.TABLE_KEY 0 .ok 0
          | none => d

/-- Beats of the LGI pool (R49). -/
def lgiPool : Nat := 12288

/-- FY_READY rises, and the full LGI pool is advertised afresh (R69, R411); under isolation no credit goes out (R66). -/
def finalDone (d : Device) : Device :=
  if phaseOver d .final then
    let d := (toPhase d .ready).modClk (fun c => { c with ready := true })
    if d.clk.isoN then emit d (.lgiCredit lgiPool) else d
  else d

/-- The slice's wait by index ends (R411). -/
def execSliceStart (s : State) : Host.Outcome State Fault Refusal := next s (sliceStart s.dev)
/-- The dictionary region has been tested or cleared. -/
def execDictionaryRegionDone (failing : Nat) (s : State) : Host.Outcome State Fault Refusal :=
  next s (dictDone s.dev failing)
/-- The rest of the grotto has been tested or cleared. -/
def execGrottoTestDone (failing : Nat) (s : State) : Host.Outcome State Fault Refusal :=
  next s (grottoDone s.dev failing)
/-- The four lane groups have run the patrol test. -/
def execLaneGroupsDone (failing : List (Nat × Nat)) (s : State) : Host.Outcome State Fault Refusal :=
  next s (lanesDone s.dev failing)
/-- The eight cores have encrypted the published example. -/
def execCipherSelfTest (cts : List (BitVec 128)) (s : State) : Host.Outcome State Fault Refusal :=
  next s (cipherDone s.dev cts)
/-- Final checks: results published, FY_READY. -/
def execFinalChecks (s : State) : Host.Outcome State Fault Refusal := next s (finalDone s.dev)

/-! ### Values this chapter reports -/

/-- BRINGUP_STATE of Table 15.9; final checks still read TABLE (log entry 13). -/
def bringupState (c : Clk) : Nat :=
  match c.phase with
  | .held | .waiting => 0
  | .dict => 2 | .grotto => 3 | .lanes => 4 | .cipher => 5 | .table => 6 | .final => 6 | .ready => 7 | .failed => 8

/-- BIST_RESULT of Table 15.9. -/
def bistResult (c : Clk) : Nat :=
  fields [(63, 48, c.rowsRepaired), (47, 40, c.lanesRetired), (7, 0, c.failCode)]

/-- Linear interpolation between the rows of Table 15.3, upwards to a multiple of `unit`. -/
def interpolate (mhz unit : Nat) : List (Nat × Nat) → Nat
  | (f0, v0) :: (f1, v1) :: l =>
    if mhz ≤ f1 ∨ l = [] then ceilDiv (v0 * (f1 - f0) + (v1 - v0) * (mhz - f0)) ((f1 - f0) * unit) * unit
    else interpolate mhz unit ((f1, v1) :: l)
  | _ => 0

/-- VDD_FY_MIN_MV (R405). -/
def vddMin (mhz : Nat) : Nat := interpolate mhz 5 [(3600, 550), (4200, 620), (4800, 700), (5400, 770)]

/-- POWER_MAX_MW (R405). -/
def powerMax (mhz : Nat) : Nat := interpolate mhz 1 [(3600, 3470), (4200, 4430), (4800, 5740), (5400, 7200)]

end Sys2Proof.Machine
end

