-- ==== Sys2Proof/Machine/Tiers.lean ====
section
/-! DEFINITION. What moves pages between the tiers of the context store: dropped T0 copies, the stages of an idle
sequence (R235), reclamation (R222), lost pages and re-prefill (R239, R240), hashing (R229, R231), the returns of
descriptors (R54, R225) and the directory mirror (R241). -/

namespace Sys2Proof.Machine

/-! ### Dropping T0 copies (R235) -/

/-- Another holder uses the T0 copy of entry `i`: its page table names it. -/
def copyShared (d : Device) (slot i : Nat) : Bool :=
  d.seqs.any (fun p => p.1 ≠ slot && p.2.ctx.affTile.isSome && p.2.ctx.pages.any (fun r => r.home = .t1 i && r.t0))

/-- The sequence's page-table entry for page k names no T0 copy any more. -/
def unnamePage (d : Device) (slot k : Nat) : Device := affUpdate (unname d slot k) slot

/-- Drops the T0 copy of page k that the sequence counts: at once, or after its write-back, for which `payer` pays. -/
def dropT0 (d : Device) (slot cause k : Nat) (payer : Option Nat := none) : Device :=
  match d.seq? slot with
  | none => d
  | some q =>
    match t0Copy d (pageAt q k), (pageAt q k).home with
    | some (tile, _), .t1 i =>
      match dir1? d i with
      | none => d
      | some e =>
        if copyShared d slot i then unnamePage d slot k
        else if e.t0 = .dirty then writebackPage d slot k cause true payer
        else if e.t0 = .clean then grantRoom (unnamePage (dropCopy d i) slot k) tile slot
        else d
    | _, _ => d

/-- Every T0 copy of the sequence leaves its tile. -/
def dropAllT0 (d : Device) (slot cause : Nat) (payer : Option Nat := none) : Device :=
  match d.seq? slot with
  | none => d
  | some q =>
    let d := traceMove d q TR_DEMOTE 0 1 (pagesT0 d q) cause (q.ctx.affTile.getD 0xFFF)
    (List.range q.ctx.pages.length).foldl (fun d k => dropT0 d slot cause k payer) d

/-! ### A tile that is taken offline in order (R390) -/

/-- The copies that a sequence counts on a tile leave it. -/
def dropFromTile (d : Device) (slot tile : Nat) : Device :=
  match d.seq? slot with
  | none => d
  | some q =>
    let ks := (List.range q.ctx.pages.length).filter (fun k =>
      match (pageAt q k).home with
      | .t1 i => match dir1? d i with
        | some e => (pageAt q k).t0 && e.t0Tile = tile && (e.t0 = .clean || e.t0 = .dirty)
        | none => false
      | _ => false)
    ks.foldl (fun d k => dropT0 d slot 7 k) (traceMove d q TR_DEMOTE 0 1 ks.length 7 tile)

/-- What no step holds leaves the tile: copies, DIRTY ones after their write-back, and the choice of it as AFF_TILE. -/
def clearTile (d : Device) (tile : Nat) : Device :=
  let idle (d : Device) (slot : Nat) : Bool := match d.seq? slot with | some q => !q.inStep && !q.ctx.pendCompact | none => false
  let d := (Map.keys d.seqs).foldl (fun d s => if idle d s then dropFromTile d s tile else d) d
  let named (d : Device) (i : Nat) : Bool := d.seqs.any (fun p => p.2.ctx.pages.any (fun r => r.home = .t1 i && r.t0))
  let d := (d.ctx.dir1.filter (fun p => p.2.t0 = .clean && p.2.t0Tile = tile)).foldl
    (fun d p => if named d p.1 then d else dropCopy d p.1) d
  (d.seqs.filter (fun p => p.2.ctx.affTile = some tile)).foldl (fun d p => if idle d p.1 then affUpdate d p.1 else d) d

/-- Spills every T1 home that has no move outstanding; a page whose write-back is still out follows when it returns. -/
def spillAll (d : Device) (slot cause : Nat) : Device :=
  match d.seq? slot with
  | none => d
  | some q =>
    let before := (movesOf d slot).length
    let d := (List.range q.ctx.pages.length).foldl (fun d k =>
      if pageMoving d slot k then d else spillPage d slot k cause) d
    let d := traceMove d q TR_DEMOTE 1 2 ((movesOf d slot).length - before) cause 0xFFF
    setIfHolds (modBlk d slot (fun c => { c with demoteStage := 2 })) slot FL_SPILL_DONE

/-- The stage that a PAUSED sequence has come to (R235). -/
def demoteStage (d : Device) (slot : Nat) : Device :=
  match d.seq? slot with
  | none => d
  | some q =>
    if q.ctx.demoteStage = 0 then
      let d := modBlk (dropAllT0 d slot 0) slot (fun c => { c with demoteStage := 1 })
      armTimer d slot true TK_IDLE_DEMOTE (d.tick + odGet d Od.IDLE_SPILL 0)
    else if q.ctx.demoteStage = 1 then spillAll d slot 1
    else d

/-- IDLE_DEMOTE_EXPIRY: a stage with a move outstanding is deferred. -/
def idleDemote (d : Device) (slot : Nat) : Device :=
  match timerDue d slot true TK_IDLE_DEMOTE, d.seq? slot with
  | some t, some q =>
    let d := setFlag (expireTimer d slot true t) slot FL_TMR_B
    if q.tcb.state ≠ .paused then d
    else if moveOut d slot q then modBlk d slot (fun c => { c with deferred := true })
    else demoteStage d slot
  | _, _ => d

/-- DEMOTION_STAGE_DEFERRED: the last outstanding move has returned. -/
def deferredStage (d : Device) (slot : Nat) : Device :=
  match d.seq? slot with
  | none => d
  | some q =>
    if q.ctx.deferred && q.tcb.state = .paused && !moveOut d slot q then
      demoteStage (modBlk d slot (fun c => { c with deferred := false })) slot
    else d

/-! ### Reclamation (R222) -/

/-- T1 frames and entries that spills in progress will give back. -/
def spillsDue (d : Device) : Nat := (d.ctx.dir1.filter (fun p => p.2.pstate = .spilling)).length

def t1Below (d : Device) (n : Nat) : Bool := freeT1Count d < n || freeDir1Count d < n

/-- Both counts, with what spills in progress give back, reach the upper mark. -/
def reclaimed (d : Device) : Bool :=
  let n := odGet d Od.CTX_T1_LOW 0 + odGet d Od.CTX_T1_HYST 0
  n ≤ freeT1Count d + spillsDue d && n ≤ freeDir1Count d + spillsDue d

/-- CACHED pages, earliest KEEP_DUE first; `past`: only those whose KEEP_DUE has passed. -/
def cachedVictim (d : Device) (past : Bool) : Option Nat :=
  let now := d.tick % 2 ^ 32
  (minBy (fun p => subMod 32 p.2.keepDue (now + 2 ^ 31))
    (d.ctx.dir1.filter (fun p => p.2.pstate = .cached && (!past || seqAfter now p.2.keepDue)))).map Prod.fst

/-- The PAUSED sequence that is spilled next. -/
def spillVictim (d : Device) : Option Nat :=
  (minBy (fun p => p.2.tcb.stateTick) (d.seqs.filter (fun p =>
    p.2.tcb.state = .paused && !p.2.tcb.expired && p.2.ctx.demoteStage < 2 && !moveOut d p.1 p.2))).map Prod.fst

/-- Reclaims one CACHED page: its prefix entry and its frame. -/
def reclaimCached (d : Device) (i : Nat) : Device :=
  match dir1? d i with
  | some e => delDir1 (prefixEvict d e.prefixIdx) i
  | none => d

def reclaimLoop (d : Device) : Nat → Device
  | 0 => d
  | n + 1 =>
    if reclaimed d then d
    else match cachedVictim d true, spillVictim d, cachedVictim d false with
      | some i, _, _ => reclaimLoop (reclaimCached d i) n
      | none, some s, _ => reclaimLoop (spillAll (dropAllT0 d s 2) s 2) n
      | none, none, some i => reclaimLoop (reclaimCached d i) n
      | none, none, none => d

/-- CTX_RECLAIM. -/
def ctxReclaim (d : Device) : Device :=
  if t1Below d (odGet d Od.CTX_T1_LOW 0) then
    wakePages (leafRetry (reclaimLoop d (d.ctx.dir1.length + d.seqs.length)))
  else d

/-! ### Lost pages (R239) -/

/-- Page k of a sequence is lost; `gone`: the entry that no holder keeps. -/
def losePage (d : Device) (slot k : Nat) (gone : Option Nat) : Device :=
  match d.seq? slot with
  | none => d
  | some q =>
    let at_ := k * pageTokens d q.version
    let d := if q.ctx.clen ≤ at_ then d else modBlk d slot (fun c => { c with
      recompute := true, recomputeFrom := if c.recompute then min c.recomputeFrom at_ else at_ })
    affUpdate ((List.range q.ctx.pages.length).foldl (fun d j =>
      if j < k then d
      else match d.seq? slot with
        | none => d
        | some q =>
          let keep : Option Nat := match (pageAt q j).home with
            | .t1 i => match dir1? d i with
              | some e => if e.refs = 1 && !e.hashed && gone ≠ some i then some i else none
              | none => none
            | _ => none
          match keep with
          | some i => modDir1 d i (fun e => { e with fill := 0, t0 := if e.t0 = .dirty then .clean else e.t0 })
          | none => if (pageAt q j).home = .none then d else writePtab (releasePage d slot j) slot j) d) slot

/-- The content of entry `i` is lost: a CACHED page is freed; every holder of any other recomputes. -/
def loseEntry (d : Device) (i : Nat) : Device :=
  match dir1? d i with
  | none => d
  | some e =>
    if e.pstate = .cached then prefixRemove d e.prefixIdx
    else
      let gone := if e.refs = 1 && !e.hashed then none else some i
      let d := if e.hashed then prefixRemove d e.prefixIdx else d
      d.seqs.foldl (fun d p =>
        match (indexed 0 p.2.ctx.pages).find? (fun kr => kr.2.home = .t1 i) with
        | some (k, _) => losePage d p.1 k gone
        | none => d) d

/-- The T0 copy of entry `i` is gone with its tile (R239): a DIRTY one takes committed entries with it. -/
def loseCopy (d : Device) (i : Nat) : Device :=
  match dir1? d i with
  | none => d
  | some e =>
    let dirty := e.t0 = .dirty
    let d := dropCopy d i
    let d := d.seqs.foldl (fun d p =>
      (indexed 0 p.2.ctx.pages).foldl (fun d kr =>
        if kr.2.home = .t1 i && kr.2.t0 then unnamePage d p.1 kr.1 else d) d) d
    if dirty then loseEntry d i else d

/-- Every T0 copy that stands on a tile is gone; scratches there go with them. -/
def loseTile (d : Device) (tile : Nat) : Device :=
  let d := (d.ctx.dir1.filter (fun p => p.2.t0Tile = tile && (p.2.t0 = .clean || p.2.t0 = .dirty))).foldl
    (fun d p => loseCopy d p.1) d
  (d.seqs.filter (fun p => p.2.ctx.affTile = some tile)).foldl
    (fun d p => modBlk d p.1 (fun c => { c with affTile := none, scratch := [] })) d

/-! ### Hashing (R229, R231) -/

/-- The page that is hashed next is full and its write-back has returned (or it stands in T2). A page that a re-prefill
rewrites is not hashed a second time, since the chain has passed it. -/
def hashReady (d : Device) (q : Seq) : Bool :=
  let k := q.ctx.hashedPages
  let p := pageTokens d q.version
  !q.ctx.hashStopped && !q.ctx.recompute && !q.ctx.hashing && !q.ctx.pendCompact && (k + 1) * p ≤ q.ctx.clen &&
    (match (pageAt q k).home with
     | .t1 i => match dir1? d i with
       | some e => e.fill = p && (e.t0 = .clean || e.t0 = .none)
       | none => false
     | .t2 j => match Map.find d.ctx.dir2 j with | some e => e.pstate = .held | none => false
     | .none => false)

/-- Reads tokens of the page being hashed, from the sources of R216. -/
def hashFetch (d : Device) (slot : Nat) : Device :=
  match d.seq? slot with
  | none => d
  | some q =>
    let p := pageTokens d q.version
    let pos := q.ctx.hashedPages * p + q.ctx.hashTokens.length
    match tokenSource q.ctx.turns pos with
    | none => d
    | some (addr, log) =>
      let n := tokenRun q.ctx.turns pos (p - q.ctx.hashTokens.length)
      fabiRead d (.chainTokens slot q.ctx.hashedPages log) addr ((if log then 8 else 4) * n)

/-- Starts the hash of the next page where it is ready. -/
def hashStart (d : Device) (slot : Nat) : Device :=
  match d.seq? slot with
  | none => d
  | some q =>
    if hashReady d q then hashFetch (modBlk d slot (fun c => { c with hashing := true, hashTokens := [] })) slot else d

/-- Tokens of the words of a prompt or of the entries of a token log. -/
def tokensOf (log : Bool) (data : List Byte) : List Nat :=
  let n := data.length / (if log then 8 else 4)
  (List.range n).map (fun i =>
    if log then bf (ofLe ((data.drop (8 * i)).take 8)) 63 40 else ofLe ((data.drop (4 * i)).take 4) % 2 ^ 24)

/-- Tokens of a page have been read: with all of them the page is hashed, and inserted where it stands in T1. -/
def hashTokensRead (d : Device) (slot page : Nat) (toks : List Nat) : Device :=
  match d.seq? slot with
  | none => d
  | some q =>
    if !q.ctx.hashing || page ≠ q.ctx.hashedPages then d
    else
      let p := pageTokens d q.version
      let all := q.ctx.hashTokens ++ toks
      if all.length < p && !toks.isEmpty then hashFetch (modBlk d slot (fun c => { c with hashTokens := all })) slot
      else
        let h := chainHash q.ctx.lastHash (all.take p) q.version q.adapter (prefixKey d (prefixScope d q.tcb.partition))
        let d := modBlk d slot (fun c => { c with
          lastHash := h, hashedPages := c.hashedPages + 1, hashing := false, hashTokens := [] })
        let d := match (pageAt q page).home with
          | .t1 i => match dir1? d i with
            | some e => if e.hashed || e.fill < p || (e.t0 = .dirty) then d
              else prefixInsert d i h (pageCrc (all.take p)) (page + 1)
            | none => d
          | _ => d
        hashStart d slot

/-! ### After a move (R194, R218, R234 to R237) -/

/-- A victim of an eviction has left its tile, or will not: its requesters' services are over (R192). -/
def clearVictim (d : Device) (slot : Nat) : Device :=
  match d.seq? slot with
  | some q => if demoting d slot || q.evictAfter then d else
      { d with groups := d.groups.map (fun p => (p.1, { p.2 with
          rooms := p.2.rooms.map (fun r => { r with victims := r.victims.filter (· ≠ slot) }) })) }
  | none => d

/-- Client of the requester that a victim leaves its tile for: its sequence causes the moves (R136). -/
def evictorOf (d : Device) (victim : Nat) : Option Nat :=
  (((d.groups.map (fun p => p.2.rooms)).flatten.find? (fun r => r.victims.contains victim)).bind (fun r => d.seq? r.slot)).map
    (fun q => q.tcb.client)

/-- A victim that had to wait for its commit, its kills or its moves leaves its tile (R194). -/
def evictNow (d : Device) (slot : Nat) : Device :=
  match d.seq? slot with
  | none => d
  | some q =>
    if q.evictAfter && !q.inStep && !seqInFlight d slot && !seqMoving d slot q then
      clearVictim (dropAllT0 (d.modSeq slot (fun q => { q with evictAfter := false })) slot 3 (evictorOf d slot)) slot
    else d

/-- Requesters of a tile bring the pages that they lack (R194). -/
def serveFrames (d : Device) (tile : Nat) : Device :=
  (((d.groups.map (fun p => p.2.rooms)).flatten).filter (fun r => r.tile = tile)).foldl (fun d r =>
    match d.seq? r.slot with
    | some q => if q.tcb.state = .paused || q.tcb.state = .finishing then d else bringTraced d r.slot 5
    | none => d) d

/-- What the return of a move lets a sequence do. -/
def afterMove (d : Device) (slot : Nat) : Device :=
  let d := evictNow (clearVictim d slot) slot
  match d.seq? slot with
  | none => d
  | some q =>
    if q.tcb.state = .finishing then tryEnd d slot
    else if q.tcb.expired then restoredDone (releaseAll d slot) slot
    else
      let d := setIfHolds (pagesArrived d slot) slot FL_SPILL_DONE
      hashStart (restoredDone (saveProgress (saveAdvance d slot) slot) slot) slot

/-! ### PGM_STATUS (R54, R220, R225) -/

/-- The sequence names page k under entry `i`. -/
def namesPage (q : Seq) (k : Nat) (h : Home) : Bool := (pageAt q k).home = h

/-- The first page of each waiting descriptor is posted where a DESC_ID is free (R55). -/
def postWaiting (d : Device) : Device :=
  match d.ctx.moveQueue with
  | m :: ms =>
    if d.ctx.moves.length < 1024 then postMove (d.modCtx (fun c => { c with moveQueue := ms })) m else d
  | [] => d

/-- Bytes moved in the interval of R190. -/
def countMoved (d : Device) (m : Move) : Device :=
  d.modCtx (fun c => { c with moved :=
    if m.isDemotion then (c.moved.1 + m.bytes, c.moved.2) else if m.isPromotion then (c.moved.1, c.moved.2.1 + m.bytes, c.moved.2.2)
    else if m.isWeights then (c.moved.1, c.moved.2.1, c.moved.2.2 + m.bytes) else c.moved })

/-- The other descriptor of a FILL and its FILL_T0 is outstanding. -/
def siblingOut (d : Device) (i : Nat) : Bool :=
  (allMoves d).any (fun m => (m.kind = .fill || m.kind = .fillT0) && m.dir = i)

/-- A write-back has returned (R221, R235). -/
def writtenBack (d : Device) (m : Move) : Device :=
  let d := modDir1 d m.dir (fun e => { e with t0 := .clean })
  if m.dropAfter then
    let d := grantRoom (unnamePage (dropCopy d m.dir) m.slot m.page) m.tile m.slot
    match d.seq? m.slot with
    | some q =>
      if q.ctx.demoteStage = 2 && q.tcb.state = .paused then
        let before := (movesOf d m.slot).length
        let d := spillPage d m.slot m.page m.cause
        traceMove d q TR_DEMOTE 1 2 ((movesOf d m.slot).length - before) m.cause 0xFFF
      else d
    | none => d
  else d

/-- A spill has returned (R235): the page's home is its T2 frame. -/
def spilled (d : Device) (m : Move) : Device :=
  let d := modDir2 d m.t2 (fun e => { e with pstate := .held })
  match d.seq? m.slot with
  | some q =>
    if namesPage q m.page (.t1 m.dir) then
      let d := modDir1 d m.dir (fun e => { e with pstate := .held })
      writePtab (setPage (unref d m.dir) m.slot m.page (fun _ => { home := .t2 m.t2 })) m.slot m.page
    else delDir2 d m.t2
  | none => delDir2 d m.t2

/-- A descriptor of the fill found no good destination: its T1 entry is no page's home (`giveUpFill`). -/
def fillGivenUp (d : Device) (i : Nat) : Bool := match dir1? d i with | some e => e.refs = 0 | none => true

/-- The fill is over without a home in T1: the page stays in T2, and is brought anew (log entry 128). -/
def fillAgain (d : Device) (m : Move) : Device :=
  bringPage (modDir2 (delDir1 d m.dir) m.t2 (fun e => { e with pstate := .held })) m.slot m.page m.cause

/-- A descriptor of a fill found no good destination. -/
def giveUpFill (d : Device) (m : Move) : Device :=
  if siblingOut d m.dir then modDir1 d m.dir (fun e => { e with refs := 0 }) else fillAgain d m

/-- Both descriptors of a fill have returned (R220). -/
def filled (d : Device) (m : Move) : Device :=
  if siblingOut d m.dir then d
  else match d.seq? m.slot with
    | some q =>
      if namesPage q m.page (.t2 m.t2) then
        if fillGivenUp d m.dir then fillAgain d m
        else
        -- a sequence whose AFF_TILE has changed keeps the T1 home alone (R218)
        let here : Bool := q.ctx.affTile = some m.tile
        let d := modDir1 d m.dir (fun e => if here then { e with pstate := .held, t0 := .clean }
          else { e with pstate := .held, t0 := .none, t0Tile := 0, t0Frame := 0 })
        writePtab (setPage (delDir2 d m.t2) m.slot m.page (fun _ => { home := .t1 m.dir, t0 := here })) m.slot m.page
      else delDir1 d m.dir
    | none => delDir1 d m.dir

/-- A page whose own copy is given up is the shared one again. -/
def unshare (d : Device) (m : Move) (shared : Nat) : Device :=
  delDir1 (setPage d m.slot m.page (fun r => { r with home := .t1 shared, t0 := false })) m.dir

/-- An own copy that does not stand on AFF_TILE is given up, and the page brought anew (R218). -/
def sharedAgain (d : Device) (m : Move) (shared : Nat) : Device := bringPage (unshare d m shared) m.slot m.page m.cause

/-- DONE for each kind of move. -/
def moveDone (d : Device) (m : Move) : Device :=
  match m.kind with
  | .promote =>
    let d := modDir1 d m.dir (fun e => { e with t0 := .clean })
    (match d.seq? m.slot with
     | some q =>
       if !namesPage q m.page (.t1 m.dir) then d
       else if q.ctx.affTile ≠ some m.tile && !copyUsed d m.dir m.tile then dropCopy d m.dir
       else writePtab (setPage d m.slot m.page (fun r => { r with t0 := q.ctx.affTile = some m.tile })) m.slot m.page
     | none => d)
  | .writeback => writtenBack d m
  | .spill => spilled d m
  | .fill | .fillT0 => filled d m
  | .promoteCopy shared =>
    (match d.seq? m.slot with
     | some q =>
       if namesPage q m.page (.t1 m.dir) && q.ctx.affTile ≠ some m.tile then sharedAgain d m shared
       else
         let d := modDir1 d m.dir (fun e => { e with t0 := .dirty })
         unref (writePtab (setPage d m.slot m.page (fun r => { r with t0 := true })) m.slot m.page) shared
     | none => d)
  | .weights g s num =>
    (match loadOf d g s num with
     | none => d
     | some l =>
       if l.left ≤ 1 then loadWritten d g s l.version
       else d.modGroup g (fun gr => { gr with loads := gr.loads.map (fun x =>
         if x.slot = s then { x with left := x.left - 1, bytesLeft := x.bytesLeft - m.bytes } else x) }))
  | .saveCopy => d
  | .restoreCopy => modDir2 d m.t2 (fun e => { e with pstate := .held })

/-- A destination frame has returned DST_ERR: the second time it leaves its pool (R225). -/
def dstError (d : Device) (m : Move) : Device :=
  if m.dstPage = pageNone then d
  else if d.ctx.dstErrs.contains m.dstPage then
    match bf m.dstPage 31 30 with
    | 0 => d.modTile m.tile (fun t => { t with bad := t.bad ++ [bf m.dstPage 17 0] })
    | 1 => d.modCtx (fun c => { c with badT1 := c.badT1 ++ [bf m.dstPage 29 0] })
    | _ => d.modCtx (fun c => { c with badT2 := c.badT2 ++ [bf m.dstPage 29 0] })
  else d.modCtx (fun c => { c with dstErrs := c.dstErrs ++ [m.dstPage] })

/-- A new destination frame for a move whose status was DST_ERR; none where the pool has no other. -/
def newDestination (d : Device) (m : Move) : Option (Device × Move) :=
  match m.kind with
  | .promote | .promoteCopy _ | .fillT0 =>
    (freeT0Frame d m.tile m.slot).map (fun f =>
      (modDir1 d m.dir (fun e => { e with t0Frame := f }), { m with frame := f, dstPage := t0PageId m.tile f, dstAddr := t0Addr d m.tile f }))
  | .writeback | .fill =>
    (freeT1Frame d).map (fun f =>
      (modDir1 d m.dir (fun e => { e with home := f }), { m with dstPage := t1PageId f, dstAddr := t1Addr d f }))
  | .spill | .restoreCopy =>
    (freeT2Frame d).map (fun f =>
      (modDir2 d m.t2 (fun e => { e with frame := f }), { m with frame := f, dstPage := t2PageId f, dstAddr := t2Addr d f }))
  | .weights _ _ _ | .saveCopy => some (d, m)

/-- The new destination is the page's home: its page-table entry follows (R215). -/
def homeMoved (d : Device) (m : Move) : Device :=
  match m.kind with
  | .writeback | .restoreCopy => writePtab d m.slot m.page
  | _ => d

/-- A move is given up on its second failure; `lost`: SRC_ERR or DESC_ERR, which loses the source page (R225). Where it
failed for want of a good destination, the page's move is begun anew (log entry 128). -/
def moveFailed (d : Device) (m : Move) (lost : Bool) : Device :=
  match m.kind with
  | .promote =>
    let d := dropCopy d m.dir
    if lost then loseEntry d m.dir else bringPage d m.slot m.page m.cause
  | .writeback =>
    let d := modDir1 d m.dir (fun e => { e with t0 := .dirty })
    if lost then loseEntry d m.dir else writebackPage d m.slot m.page m.cause m.dropAfter (some m.client)
  | .spill => modDir1 (delDir2 d m.t2) m.dir (fun e => { e with pstate := .held })
  | .fill | .fillT0 =>
    let named := match d.seq? m.slot with | some q => namesPage q m.page (.t2 m.t2) | none => false
    if named && !lost then giveUpFill d m
    else
      let d := if named then losePage d m.slot m.page none else d
      if siblingOut d m.dir then d else delDir1 d m.dir
  | .promoteCopy shared =>
    if lost then loseEntry (unshare d m shared) shared else sharedAgain d m shared
  | .weights g s num =>
    (match loadOf d g s num with
     | some l => loadFailed d g s l.version
     | none => d)
  | .saveCopy => d.modSeq m.slot (fun q => { q with saving := q.saving.map (fun s => { s with failed := true }) })
  | .restoreCopy =>
    (match lost, newDestination d m with
     | false, some (d, m) => postMove (homeMoved d m) { m with again := false }
     | _, _ => losePage d m.slot m.page none)

/-- A status other than DONE: the descriptor is posted once more (R225, R198). -/
def moveError (d : Device) (m : Move) (st : Nat) : Device :=
  let d := portErr d PERR_PGM
  let d := if st = 2 then dstError d m else d
  if m.again then moveFailed d m (st ≠ 2)
  else if st = 2 then
    match newDestination d m with
    | some (d, m) => postMove (homeMoved (bump d Od.CTX_STATS 8) m) { m with again := true }
    | none => moveFailed d m false
  else postMove (bump d Od.CTX_STATS 8) { m with again := true }

/-- PGM_STATUS. -/
def pgmStatus (d : Device) (r : Nat) : Device :=
  let id := bf r 127 112
  let st := bf r 111 104
  if !chkOk r 16 then d
  else match Map.find d.ctx.moves id with
    | none => if st = 0 then d else portErr d PERR_PGM
    | some m =>
      let d := d.modCtx (fun c => { c with moves := Map.del c.moves id })
      let d := if st = 0 then moveDone (countMoved d m) m else moveError d m st
      let d := postWaiting d
      let d := if (d.tile m.tile).drainTick.isSome && !m.isWeights then clearTile d m.tile else d
      if m.isWeights then d else afterMove (serveFrames d m.tile) m.slot

/-- PGM_STATUS. -/
def execPgmStatus (rec_ : BitVec 128) (s : State) : Host.Outcome State Fault Refusal :=
  done s (whenReady s.dev (pgmStatus · rec_.toNat))
/-- CTX_RECLAIM. -/
def execCtxReclaim (s : State) : Host.Outcome State Fault Refusal := done s (whenReady s.dev ctxReclaim)
/-- DEMOTION_STAGE_DEFERRED. -/
def execDemotionStageDeferred (slot : Nat) (s : State) : Host.Outcome State Fault Refusal :=
  done s (whenReady s.dev (deferredStage · slot))
/-- IDLE_DEMOTE_EXPIRY. -/
def execIdleDemoteExpiry (slot : Nat) (s : State) : Host.Outcome State Fault Refusal :=
  done s (whenReady s.dev (idleDemote · slot))

/-! ### The replay area (R239, R240) -/

/-- REPLAY_TIMEOUT. -/
def replayTimeout (d : Device) (slot : Nat) : Device :=
  match d.seq? slot with
  | some q =>
    (match q.replaySince with
     | some t => if t + 10000 ≤ d.tick && q.replay.isNone then faultSeq d slot .faultPageLost else d
     | none => d)
  | none => d

/-- REPLAY_TIMEOUT. -/
def execReplayTimeout (slot : Nat) (s : State) : Host.Outcome State Fault Refusal :=
  done s (whenReady s.dev (replayTimeout · slot))

/-! ### The directory mirror (R241) -/

/-- MIRROR_WRITE: an all-zero entry records a release. -/
def mirrorWrite (d : Device) (src idx : Nat) (e : BitVec 256) : Device :=
  if d.ident.n = 32 && src = mirrorPartner d then
    sendXfer (d.modCtx (fun c => { c with mirror := if e = 0 then Map.del c.mirror idx else Map.put c.mirror idx e })) src
      (.mirrorAck idx) 32
  else d

/-- The acknowledgement of the oldest mirror write of an entry, which is its FAB_I response. -/
def mirrorAcked (d : Device) (idx : Nat) : Device :=
  d.modCtx (fun c => { c with mirrorOut := match Map.getD c.mirrorOut idx [] with
    | _ :: w :: l => Map.put c.mirrorOut idx (w :: l)
    | _ => Map.del c.mirrorOut idx })

/-- MIRROR_TIMEOUT: the mirror stops, and what waited for it goes back to the pools. -/
def mirrorTimeout (d : Device) : Device :=
  if !d.ctx.mirrorStopped && d.ctx.mirrorOut.any (fun p => p.2.any (fun w => w.1 + 10 ≤ d.tick)) then
    suspectOnce (alertLog (d.modCtx (fun c => { c with mirrorStopped := true, mirrorOut := [] })) ALERT_MIRROR_LOST
      (mirrorPartner d) 0 0 0) (mirrorPartner d)
  else d

/-- MIRROR_WRITE. -/
def execMirrorWrite (src idx : Nat) (entry : BitVec 256) (s : State) : Host.Outcome State Fault Refusal :=
  next s (whenReady s.dev (fun d => mirrorWrite d src idx entry))
/-- MIRROR_TIMEOUT. -/
def execMirrorTimeout (s : State) : Host.Outcome State Fault Refusal := next s (whenReady s.dev mirrorTimeout)

end Sys2Proof.Machine
end

