-- ==== Sys2Proof/Machine/Compose.lean ====
section
/-! DEFINITION. The ringmaster's choice of a step (chapter 6): candidates, filling, prediction, digest conversion, power
sizing and segments. What a building step writes and reserves stands in Machine/Build.lean. -/

namespace Sys2Proof.Machine

/-! ### Candidates (R147, R148, R156, R325) -/

/-- The sequence's ring pair is STALLED. Of another slice's pair, what the latest STEP_BUILD brought counts. -/
def seqStalled (d : Device) (q : Seq) : Bool :=
  if q.owner = d.ident.index then (d.ring q.tcb.ring).stalled else d.stalledAway.contains q.tcb.ring

/-- The client's token grant keeps decode-type candidates out (R134). -/
def grantSpent (d : Device) (q : Seq) : Bool :=
  odGetC d Od.CLIENT_MAX_TPS q.tcb.client ≠ 0 && (d.client q.tcb.client).tokGrant = 0

/-- A re-prefill is due (R239). -/
def refilling (q : Seq) : Bool := q.ctx.recompute && q.ctx.recomputeFrom < q.ctx.clen

/-- The sequence speculates (R315, R316). -/
def speculates (d : Device) (q : Seq) : Bool :=
  Hdr.specMode q.samp.header.toNat ≠ 0 && odGet d Od.SPEC_MB_BASE 0 ≠ 0

/-- A draft stands ready to be verified (R325); while SPEC_MB_BASE is 0 none does (R316). -/
def draftReady (d : Device) (q : Seq) : Bool := speculates d q && q.spec.dvalid && q.spec.dpos = q.ctx.clen

inductive Want where
  | decode | prefill | compact | stage | nothing
deriving DecidableEq, Repr

/-- What entry a ready sequence asks for. -/
def wants (d : Device) (slot : Nat) (q : Seq) : Want :=
  match q.tcb.cls with
  | .g =>
    if q.inStep then .nothing
    else if q.spec.endDefer then (if q.ctx.pendCompact then .compact else .nothing)
    else if refilling q then .prefill
    else if q.tcb.state = .decode then (if grantSpent d q then (if q.ctx.pendCompact then .compact else .nothing) else .decode)
    else if promptLeft q ≠ 0 then .prefill
    else .nothing
  | _ => if stageMayIssue d slot q then .stage else .nothing

/-- R147, but for the presence of pages. -/
def mayCompose (d : Device) (g slot : Nat) (q : Seq) : Bool :=
  seqReady q && q.joining.isNone && q.tcb.group = g && !seqStalled d q && wants d slot q ≠ .nothing

/-- The candidates of a group. -/
def candidates (d : Device) (g : Nat) : List (Nat × Seq) :=
  d.seqs.filter (fun p => mayCompose d g p.1 p.2 && (p.2.tcb.cls ≠ .g || pagesReady d p.2))

/-- Ready sequences of a group whose pages are missing: the directory brings them (R147, Table 4.6). -/
def bringMissing (d : Device) (g : Nat) : Device :=
  (d.seqs.filter (fun p => mayCompose d g p.1 p.2 && p.2.tcb.cls = .g && !pagesReady d p.2)).foldl
    (fun d p => makeResident d p.1 5) d

/-- Decode order (R156). -/
def decodeOrder (step : Nat) (l : List (Nat × Seq)) : List (Nat × Seq) :=
  sortBy (fun a b =>
    let x := seqDiff step a.2.tcb.lastStep
    let y := seqDiff step b.2.tcb.lastStep
    y < x || (x = y && a.1 ≤ b.1)) l

/-- Prefill order (R157). -/
def prefillOrder (d : Device) (l : List (Nat × Seq)) : List (Nat × Seq) :=
  sortBy (fun a b =>
    let x := viewVtime d a.2.tcb.client
    let y := viewVtime d b.2.tcb.client
    x < y || (x = y && (a.2.tcb.admitTick < b.2.tcb.admitTick || (a.2.tcb.admitTick = b.2.tcb.admitTick && a.1 ≤ b.1)))) l

/-- R200: the model of the step. -/
def stepModel (d : Device) (g : Nat) (cs : List (Nat × Seq)) : Option Nat :=
  let ready (p : Nat × Seq) : Bool := modelReady d g (entryModel d p.2)
  let of (w : Want) := cs.filter (fun p => wants d p.1 p.2 = w && ready p)
  let dec := decodeOrder (d.group g).step (cs.filter (fun p =>
    (wants d p.1 p.2 = .decode || wants d p.1 p.2 = .compact) && ready p))
  match dec, of .stage, prefillOrder d (of .prefill) with
  | p :: _, _, _ => some (entryModel d p.2)
  | [], p :: _, _ => some (entryModel d p.2)
  | [], [], p :: _ => some (entryModel d p.2)
  | [], [], [] => none

/-- Candidates whose model is in no slot start its load (R199). -/
def wantModels (d : Device) (g : Nat) : Device :=
  (candidates d g).foldl (fun d p => wantModel d g (entryModel d p.2)) d

/-! ### Entries -/

def seqEntry (d : Device) (slot : Nat) (q : Seq) : WlEntry :=
  { slot := slot, handle := q.tcb.handle, adapter := q.adapter, client := q.tcb.client, partition := q.tcb.partition
    cls := q.tcb.cls, aff := q.ctx.affTile, rerun := q.rerunMark, pageTokens := pageTokens d q.version
    ptab := ptabRoot d slot }

/-- The token that stands at CLEN. -/
def rootToken (q : Seq) : Nat := Map.getD q.samp.ring (q.ctx.clen % 64) 0

/-- Some node of the staged draft is not its predecessor's child (R325). -/
def treeDraft (q : Seq) : Bool := (indexed 1 q.spec.nodes).any (fun p => p.2.parent ≠ p.1 - 1)

/-- Address of a slot's draft mailbox (R317). -/
def mailboxAddr (d : Device) (slot : Nat) : Nat := odGet d Od.SPEC_MB_BASE 0 + 4096 * slot

/-! ### Draft requests (R319, R342) -/

def modSpec (d : Device) (slot : Nat) (f : SpecBlk → SpecBlk) : Device := d.modSeq slot (fun q => { q with spec := f q.spec })

/-- DEPTH_MAX of Table 12.3. -/
def depthMax (q : Seq) : Nat := min 16 (q.maxTokens - q.tcb.tokenEnd - 1)

/-- Writes a draft request (Table 12.3); a post of an older one that is still being read fails. -/
def writeRequest (d : Device) (slot : Nat) (suspended : Bool) : Device :=
  let d := modSpec (dropPost d slot) slot (fun s => { s with dseq := (s.dseq + 1) % 2 ^ 16, dbank := !s.dbank, anew := false })
  match d.seq? slot with
  | none => d
  | some q =>
    let d := modSpec d slot (fun s => { s with reqPos := q.ctx.clen, rootToken := rootToken q, depthMax := depthMax q })
    fabiWrite d (.draftRequest slot) (mailboxAddr d slot + 0x800) 64
      (fields [(511, 480, q.tcb.handle), (479, 464, q.spec.dseq), (463, 457, q.spec.dlen), (456, 452, depthMax q),
        (451, 451, ofBool (Hdr.specMode q.samp.header.toNat = 2)), (450, 450, ofBool q.spec.dbank),
        (449, 449, ofBool suspended), (447, 425, q.ctx.clen), (424, 401, rootToken q)])

/-- Before the next entry of a sequence that was restored or rebuilt, its new home writes a request (Table 12.8). -/
def renewRequest (d : Device) (slot : Nat) (q : Seq) : Device :=
  if q.spec.anew && speculates d q && depthMax q ≠ 0 then writeRequest d slot (q.spec.suspLeft ≠ 0) else d

/-- Predicted cost of an entry under R126: the fixed cost, its own work, and, where it has run before, the group's
backlog (R130). A VERIFY's work is one COST_DECODE_NS, and a COMPACT has none (log entry 130). -/
def entryPrice (d : Device) (q : Seq) (e : WlEntry) : Nat :=
  odGet d Od.COST_FIXED_NS (entryModel d q) + (if e.rerun then backlogUs d q.tcb.group * 1000 else 0) + e.cost

/-- DECODE or VERIFY (R151, R325). -/
def decodeEntry (d : Device) (slot : Nat) (q : Seq) : WlEntry :=
  let e := { seqEntry d slot q with pos := q.ctx.clen, logitMode := 1, cost := odGet d Od.COST_DECODE_NS q.version }
  if draftReady d q then
    { e with
      kind := K_VERIFY, tree := treeDraft q, nodes := q.spec.nodes.length, ntok := q.spec.nodes.length + 1
      chain := Hdr.specMode q.samp.header.toNat = 1
      argAddr := mailboxAddr d slot + (if q.spec.bank then 0x400 else 0) }
  else { e with kind := K_DECODE, ntok := 1, tokenIn := rootToken q }

/-- COMPACT (R337). -/
def compactEntry (d : Device) (slot : Nat) (q : Seq) : WlEntry :=
  { seqEntry d slot q with kind := K_COMPACT, argAddr := mailboxAddr d slot + 0x840 }

/-- Where a prefill candidate stands: its next position and the tokens left. -/
def prefillPos (q : Seq) : Nat := if refilling q then q.ctx.recomputeFrom else q.ctx.clen
def prefillRem (q : Seq) : Nat := if refilling q then q.ctx.clen - q.ctx.recomputeFrom else promptLeft q

/-- PREFILL_CHUNK of `n` tokens (R152, R157, R239). -/
def prefillEntry (d : Device) (slot : Nat) (q : Seq) (n : Nat) : WlEntry :=
  let last := !refilling q && n = prefillRem q
  let pos := prefillPos q
  { seqEntry d slot q with
    kind := K_PREFILL, pos := pos, ntok := n, lastChunk := last, logitMode := ofBool last
    inAddr := q.promptAddr + 4 * (pos - q.ctx.turnBase), cost := ceilDiv (n * odGet d Od.COST_PREFILL_PS q.version) 1000 }

/-- R157. -/
def chunkOf (d : Device) (g pt pos rem have_ left : Nat) : Nat :=
  let n := min (d.group g).entries.chunkTokens (min rem (have_ + left))
  if n < rem then
    let end_ := (pos + n) / pt * pt
    let n := if pos < end_ then end_ - pos else 0
    if n < (d.group g).entries.chunkMin then 0 else n
  else n

/-! ### Filling (R155 to R158) -/

/-- A step being filled. -/
structure Fill where
  entries : List WlEntry := []
  /-- decode-type candidates not yet taken, in decode order -/
  dec : List (Nat × Seq) := []
  pre : List (Nat × Seq) := []
  /-- slots of the prefill entries in their order of addition (R163) -/
  added : List Nat := []
  /-- a decode-type entry has been taken -/
  anyDec : Bool := false
deriving DecidableEq, Repr

def stepMax : Nat := 8192

/-- Adds an entry; a sequence's entry stands right behind its COMPACT (R149). -/
def Fill.add (f : Fill) (e : WlEntry) : Fill :=
  let rec ins : List WlEntry → Option (List WlEntry)
    | [] => none
    | x :: l => if x.kind = K_COMPACT && x.slot = e.slot then some (x :: e :: l) else (ins l).map (x :: ·)
  if stepMax ≤ f.entries.length then f
  else { f with
    entries := match ins f.entries with | some l => l | none => f.entries ++ [e]
    added := if e.kind = K_PREFILL then f.added ++ [e.slot] else f.added }

/-- take_decode(limit): the fill and the cost taken. -/
def takeDecode (d : Device) (budget : Nat) : List (Nat × Seq) → Nat → Nat → Fill → Fill × Nat
  | [], _, used, f => (f, used)
  | p :: l, limit, used, f =>
    let e := decodeEntry d p.1 p.2
    let c := e.tokens
    if stepMax ≤ f.entries.length then ({ f with dec := f.dec ++ (p :: l) }, used)
    else if !f.anyDec && budget < c && f.dec.isEmpty then
      -- the first candidate's cost exceeds the budget: it is taken alone
      ({ (f.add e) with anyDec := true, dec := [] }, used + c)
    else if used + c ≤ limit then takeDecode d budget l limit (used + c) { (f.add e) with anyDec := true }
    else takeDecode d budget l limit used { f with dec := f.dec ++ [p] }

/-- The chunk that the step already gives a sequence. -/
def Fill.have_ (f : Fill) (slot : Nat) : Nat :=
  match f.entries.find? (fun e => e.slot = slot && e.kind = K_PREFILL) with
  | some e => e.ntok
  | none => 0

/-- take_prefill(limit): the fill and the tokens added. A full step takes no new candidate, and its chunks still grow. -/
def takePrefill (d : Device) (g : Nat) : List (Nat × Seq) → Nat → Nat → Fill → Fill × Nat
  | [], _, used, f => (f, used)
  | p :: l, limit, used, f =>
    let h := f.have_ p.1
    let n := chunkOf d g (pageTokens d p.2.version) (prefillPos p.2) (prefillRem p.2) h (limit - used)
    if n ≤ h then takePrefill d g l limit used f
    else
      let e := prefillEntry d p.1 p.2 n
      if h ≠ 0 then
        takePrefill d g l limit (used + (n - h))
          { f with entries := f.entries.map (fun x => if x.slot = p.1 && x.kind = K_PREFILL then e else x) }
      else if stepMax ≤ f.entries.length then takePrefill d g l limit used f
      else takePrefill d g l limit (used + n) (f.add e)

/-- A call of take_prefill: chunks already given are extended before new candidates are added (R157). -/
def runPrefill (d : Device) (g limit : Nat) (f : Fill) : Fill × Nat :=
  takePrefill d g (f.pre.filter (fun p => f.have_ p.1 ≠ 0) ++ f.pre.filter (fun p => f.have_ p.1 = 0)) limit 0 f

def runDecode (d : Device) (budget limit : Nat) (f : Fill) : Fill × Nat :=
  takeDecode d budget f.dec limit 0 { f with dec := [] }

/-- R158. -/
def balance (d : Device) (g : Nat) (f : Fill) : Fill :=
  let b := (d.group g).entries.tokenBudget
  if (d.group g).entries.balanceMode = 0 then
    let r := runDecode d b b f
    (runPrefill d g (b - r.2) r.1).1
  else
    let bp := b * (d.group g).ratio / 256
    let r1 := runDecode d b (b - bp) f
    let r2 := runPrefill d g bp r1.1
    let r3 := runDecode d b (b - r1.2 - r2.2) r2.1
    (runPrefill d g (b - (r1.2 + r3.2) - r2.2) r3.1).1

/-- Entries of the stages that may issue, in slot and list order (R155, R345). -/
def stageEntries (d : Device) (cs : List (Nat × Seq)) : List WlEntry :=
  (cs.map (fun p => p.2.plan.todo.map (stageEntry d p.1 p.2))).flatten

/-- Selection of a step of model `m` (R155). -/
def fillStep (d : Device) (g m : Nat) (cs : List (Nat × Seq)) : Fill :=
  let mine := cs.filter (fun p => entryModel d p.2 = m)
  let of (w : Want) := mine.filter (fun p => wants d p.1 p.2 = w)
  let compacts := (mine.filter (fun p => p.2.ctx.pendCompact && p.2.tcb.cls = .g)).map
    (fun p => compactEntry d p.1 p.2)
  let f : Fill :=
    { entries := ((stageEntries d (of .stage)) ++ compacts).take stepMax
      dec := decodeOrder (d.group g).step (of .decode), pre := prefillOrder d (of .prefill) }
  balance d g f

/-! ### Prediction (R160) -/

def logitBytes (d : Device) (m : Nat) : Nat :=
  let f := odGet d Od.MODEL_LOGIT_FORMAT m
  if f = 0 then 4 else if f ≤ 2 then 2 else 1

def vocabOf (d : Device) (m : Nat) : Nat := odGet d Od.MODEL_VOCAB m
def blocksOf (v : Nat) : Nat := ceilDiv v 4096
/-- Tokens of block `b` of a vocabulary. -/
def blockTokens (v b : Nat) : Nat := min 4096 (v - 4096 * b)

def fullBlockBeats (d : Device) (m : Nat) : Nat := ceilDiv (blockTokens (vocabOf d m) 0 * logitBytes d m) 2048

/-- Logit-producing positions of an entry. -/
def WlEntry.positions (e : WlEntry) : Nat :=
  if e.kind = K_PREFILL then ofBool e.lastChunk else if e.kind = K_DECODE then 1 else if e.kind = K_VERIFY then e.nodes + 1 else 0

/-- Table 6.3. -/
def beatsPer (d : Device) (m mode : Nat) : Nat :=
  let v := vocabOf d m
  let nb := blocksOf v
  if mode = 2 then ceilDiv nb 128 + fullBlockBeats d m
  else if mode = 3 then ceilDiv nb 21 + odGet d Od.D2_FETCH_EST 0 * fullBlockBeats d m
  else sumBy (fun b => ceilDiv (blockTokens v b * logitBytes d m) 2048) (List.range nb)

def entryBeats (d : Device) (m : Nat) (e : WlEntry) : Nat :=
  if e.positions = 0 then 0 else e.positions * beatsPer d m e.logitMode

/-- Elements that the lanes pass over once; of a stage entry, its list's or share's entries. -/
def entryElements (d : Device) (m : Nat) (e : WlEntry) : Nat :=
  if e.isStage then
    match d.seq? e.slot with
    | some q =>
      if e.kind = K_EMBED then 0
      else if e.kind = K_COARSE then (stageShare d q e.list).2
      else min 4096 (Sel.k (Plan.selOf (planBits q) q.plan.stage))
    | none => 0
  else
    e.positions * (if e.logitMode = 2 then blockTokens (vocabOf d m) 0
      else if e.logitMode = 3 then odGet d Od.D2_FETCH_EST 0 * blockTokens (vocabOf d m) 0 else vocabOf d m)

structure Pred where
  tile : Nat
  lgi : Nat
  lane : Nat
  /-- E with K, and with K = 256, in µJ -/
  energy : Nat
  raw : Nat
deriving DecidableEq, Repr

def Pred.time (p : Pred) : Nat := max p.tile (max p.lgi p.lane)

def stageNs (d : Device) (e : WlEntry) : Nat := if e.isStage then e.cost else 0

def predict (d : Device) (g m : Nat) (es : List WlEntry) : Pred :=
  let tp := sumBy (fun e => if e.kind = K_PREFILL then e.ntok else 0) es
  let td := sumBy (fun e => if e.isDecode then e.tokens else 0) es
  let c := sumBy (fun e => if e.kind = K_PREFILL || e.isDecode then ceilDiv (e.pos + e.ntok) 1024 else 0) es
  let st := sumBy (stageNs d) es
  let tiles := max 1 (groupCount d g)
  let nj := tp * odGet d Od.ENERGY_PREFILL_NJ m + td * odGet d Od.ENERGY_DECODE_NJ m + c * odGet d Od.ENERGY_CTX_NJ m
  let base := odGet d Od.ENERGY_BASE_UJ m + ceilDiv nj 1000 + ceilDiv (st * odGet d Od.STAGE_POWER_MW m) (tiles * 10 ^ 6)
  { tile := odGet d Od.STEP_BASE_NS m
      + ceilDiv (tp * odGet d Od.STEP_PREFILL_PS m + td * odGet d Od.STEP_DECODE_PS m + c * odGet d Od.STEP_CTX_PS m) 1000
      + ceilDiv st tiles
    lgi := ceilDiv (sumBy (entryBeats d m) es * 4000) d.mhz
    lane := ceilDiv (ceilDiv (ceilDiv (sumBy (entryElements d m) es) (16 * max 1 (sumBy LaneGroup.active d.lanes)) * 4000) d.mhz * 256)
      (max 1 d.clk.duty)
    energy := ceilDiv ((d.group g).k * base) 256
    raw := base }

/-! ### Digest conversion (R161, R261) -/

/-- Tokens of the penalty window of position `p` (R250). -/
def windowTokens (q : Seq) (p : Nat) : List Nat :=
  ((List.range (min 64 p)).filterMap (fun i =>
    let x := p - min 64 p + i
    if q.samp.winStart ≤ x then Map.find q.samp.ring (x % 64) else none))

def penalised (h : Nat) : Bool :=
  Hdr.repPen h ≠ 0x3F800000 || f32Mag (Hdr.presPen h) ≠ 0 || f32Mag (Hdr.freqPen h) ≠ 0

/-- Position at which the token of an entry's only logits will stand. -/
def WlEntry.newPos (e : WlEntry) : Nat := e.pos + (if e.kind = K_PREFILL then e.ntok else 1)

/-- Blocks of the corrected tokens. -/
def correctedBlocks (q : Seq) (p : Nat) : List Nat :=
  let h := q.samp.header.toNat
  ((q.biasTokens ++ (if penalised h then windowTokens q p else [])).map (· / 4096)).dedup

/-- The digest mode that an entry may take; 0 none. None where the tokens that are corrected cannot be told yet: the
window ring is still being loaded, or a bias token is unknown (log entry 149). -/
def digestMode (d : Device) (m : Nat) (e : WlEntry) : Nat :=
  match d.seq? e.slot with
  | none => 0
  | some q =>
    let h := q.samp.header.toNat
    if odGet d Od.MODEL_DIGEST m = 1 && (e.kind = K_DECODE || (e.kind = K_PREFILL && e.lastChunk)) && Hdr.maskKind h = 0
        && (correctedBlocks q e.newPos).length ≤ odGet d Od.DIGEST_CORR_MAX 0 && odGet d Od.SAMPLE_MB_BASE 0 ≠ 0
        && Hdr.numBias h = q.biasTokens.length && !(q.tailDue && penalised h) then
      (if Hdr.topK h = 0 && Hdr.topP h = 65536 && Hdr.nAlt h = 0 then 2 else 3)
    else 0

def convertOne (es : List WlEntry) (slot mode : Nat) : List WlEntry :=
  es.map (fun e => if e.slot = slot && e.positions ≠ 0 then { e with logitMode := mode } else e)

/-- AUTO: entries in order of beats saved while the ingress bounds the step. -/
def convertAuto (d : Device) (g m : Nat) : List (Nat × Nat) → List WlEntry → List WlEntry
  | [], es => es
  | (slot, mode) :: l, es =>
    let p := predict d g m es
    if max p.tile p.lane < p.lgi then convertAuto d g m l (convertOne es slot mode) else es

def convertStep (d : Device) (g m : Nat) (es : List WlEntry) : List WlEntry :=
  let pol := (d.group g).entries.digestPolicy
  if pol = 0 then es
  else
    let elig := (es.filterMap (fun e => let x := digestMode d m e; if x = 0 then none else some (e.slot, x)))
    if pol = 2 then elig.foldl (fun es p => convertOne es p.1 p.2) es
    else
      let saved (p : Nat × Nat) : Int := (beatsPer d m 1 : Int) - beatsPer d m p.2
      convertAuto d g m (sortBy (fun a b => saved b < saved a || (saved a = saved b && a.1 ≤ b.1)) elig) es

/-! ### Power sizing (R163, R164) -/

/-- Tiles of all groups homed on the slice. -/
def homedTiles (d : Device) : Nat := sumBy (groupCount d) (homedGroups d)

/-- allowance_mw, with the budget latched at the opening. -/
def allowance (d : Device) (g : Nat) (o : OpenStep) : Nat :=
  let die : Int := if o.stale then odGet d Od.PWR_FALLBACK_MW 0 else (o.budget.map (fun b => (b.dieMw : Int))).getD 0
  let fy : Int := (o.budget.map (fun b => (b.fyMw : Int))).getD 7200
  let head : Int := if o.stale then 0 else (o.budget.map Budget.headroom).getD 0
  let die := (die - fy - odGet d Od.DIE_OTHER_MW 0).toNat
  let a := die * groupCount d g / max 1 (homedTiles d)
  let lo := toSigned 32 (odGet d Od.HEADROOM_MIN 0)
  let hi := toSigned 32 (odGet d Od.HEADROOM_LOW 0)
  let fl := odGet d Od.HF_FLOOR 0
  let hf : Nat := if head ≤ lo then fl
    else if head < hi then fl + (256 - fl) * (head - lo).toNat / (hi - lo).toNat
    else 256
  let a := a * hf / 256
  if (d.group g).limited then a * (256 - odGet d Od.POWER_HYST 0) / 256 else a

def fits (a : Nat) (p : Pred) : Bool := p.energy * 10 ^ 6 ≤ a * p.time

/-- One cut of a prefill entry: to its page boundary, or one page less; 0 where nothing is left. -/
def cutOnce (e : WlEntry) : Nat :=
  let end_ := e.pos + e.ntok
  let end_ := if end_ % e.pageTokens ≠ 0 then end_ - end_ % e.pageTokens else end_ - e.pageTokens
  end_ - e.pos

/-- Fewest tokens of a step's last remaining entry. -/
def leastChunk (d : Device) (g : Nat) (e : WlEntry) : Nat :=
  let least := (d.group g).entries.chunkMin
  let end_ := ceilDiv (e.pos + least) e.pageTokens * e.pageTokens
  match d.seq? e.slot with
  | some q => min (end_ - e.pos) (prefillRem q)
  | none => end_ - e.pos

/-- Withdraws a slot's prefill entry from the step; its COMPACT stays. -/
def dropEntry (es : List WlEntry) (slot : Nat) : List WlEntry := es.filter (fun e => e.slot ≠ slot || e.kind ≠ K_PREFILL)

/-- Cuts the entries of `slots`, latest added first, until the step fits; `fuel` bounds the cuts. -/
def trimLoop (d : Device) (g m a : Nat) : Nat → List Nat → List WlEntry → List WlEntry
  | 0, _, es => es
  | _, [], es => es
  | fuel + 1, s :: ss, es =>
    if fits a (predict d g m es) then es
    else match es.find? (fun e => e.slot = s && e.kind = K_PREFILL) with
      | none => trimLoop d g m a fuel ss es
      | some e =>
        let n := cutOnce e
        let alone := es.length = 1
        if alone && n < leastChunk d g e then es
        else if n < (d.group g).entries.chunkMin || n = 0 then trimLoop d g m a fuel ss (dropEntry es s)
        else
          let e' := { e with ntok := n, lastChunk := false, logitMode := 0
                             cost := ceilDiv (n * odGet d Od.COST_PREFILL_PS m) 1000 }
          trimLoop d g m a fuel (s :: ss) (es.map (fun x => if x.slot = s && x.kind = K_PREFILL then e' else x))

/-- Response 1 of R163; `added`: the slots of the prefill entries in their order of addition. -/
def trimStep (d : Device) (g m a : Nat) (added : List Nat) (es : List WlEntry) : List WlEntry :=
  let pre := es.filter (fun e => e.kind = K_PREFILL)
  trimLoop d g m a (sumBy (fun e => e.ntok / e.pageTokens + 3) pre) added.reverse es

/-- T_len of a step that does not fit. -/
def stretch (d : Device) (a : Nat) (p : Pred) : Nat :=
  let cap := p.time + odGet d Od.STRETCH_MAX_US 0 * 1000
  if a = 0 then cap else min cap (ceilDiv (p.energy * 10 ^ 6) a)

/-! ### Segments (R166) -/

/-- A segment before its placement: affinity tile and entries. -/
structure Segment where
  aff : Option Nat
  stage : Bool
  entries : List WlEntry
deriving DecidableEq, Repr

/-- COMPACT entries joined with the entry behind them. -/
def units : List WlEntry → List (List WlEntry)
  | [] => []
  | e :: l =>
    if e.kind = K_COMPACT then
      match l with
      | f :: r => if f.slot = e.slot then [e, f] :: units r else [e] :: units (f :: r)
      | [] => [[e]]
    else [e] :: units l

/-- Cuts units into runs within SEG_ENTRIES and SEG_TOKENS; a unit above SEG_TOKENS stands alone. A run
holds one partition and one class (R203). A COMPACT and the entry behind it stay together with SEG_ENTRIES 1 too (log
entry 146). -/
def cutUnits (me mt : Nat) : List WlEntry → List (List WlEntry) → List (List WlEntry)
  | cur, [] => if cur.isEmpty then [] else [cur]
  | cur, u :: l =>
    if cur.isEmpty then cutUnits me mt u l
    else if (match cur, u with | x :: _, y :: _ => x.partition ≠ y.partition || x.cls ≠ y.cls | _, _ => false) then
      cur :: cutUnits me mt u l
    else if cur.length + u.length ≤ me && sumBy WlEntry.tokens cur + sumBy WlEntry.tokens u ≤ mt then
      cutUnits me mt (cur ++ u) l
    else cur :: cutUnits me mt u l

/-- The segments of one kind class. -/
def classSegments (d : Device) (g : Nat) (stage : Bool) (es : List WlEntry) : List Segment :=
  let tiles := sortBy (· ≤ ·) ((es.filterMap WlEntry.aff).dedup)
  let keys : List (Option Nat) := tiles.map some ++ [none]
  (keys.map (fun k => (cutUnits (d.group g).entries.segEntries (d.group g).entries.segTokens [] (units (es.filter (fun e => e.aff = k)))).map
    (fun l => { aff := k, stage := stage, entries := l }))).flatten

def segments (d : Device) (g : Nat) (es : List WlEntry) : List Segment :=
  classSegments d g true (es.filter WlEntry.isStage) ++ classSegments d g false (es.filter (fun e => !e.isStage))

/-- The segment has a decode-type entry. -/
def Segment.decode (s : Segment) : Bool := s.entries.any WlEntry.isDecode

/-- The segment may take any free slot (R167). -/
def Segment.anySlot (s : Segment) : Bool := s.decode || s.entries.any (fun e => e.kind = K_COMPACT)

/-- Withdraws `n` segments in the order of R167: the latest formed without a decode-type entry, else the latest. -/
def withdrawSegs : Nat → List Segment → List Segment
  | 0, l => l
  | n + 1, l =>
    match l.reverse.find? (fun x => !x.decode) with
    | some x => withdrawSegs n (removeFirst (· = x) l.reverse).reverse
    | none => withdrawSegs n l.dropLast

/-- R167: the segments that keep a slot, with `free` slots left; in order of formation. -/
def keepSlots (reserve : Nat) : Nat → List Segment → List Segment → List Segment
  | _, kept, [] => kept
  | free, kept, s :: l =>
    if s.anySlot then
      if 0 < free then keepSlots reserve (free - 1) (kept ++ [s]) l
      else keepSlots reserve free (withdrawSegs 1 (kept ++ [s])) l
    else if reserve < free then keepSlots reserve (free - 1) (kept ++ [s]) l
    else keepSlots reserve free kept l

end Sys2Proof.Machine
end

