-- ==== Sys2Proof/Machine/Build.lean ====
section
/-! DEFINITION. A step's opening, building and dispatch (R145 to R147, R163 to R170, R178), room on tiles (R192 to R195),
warm-ups, energy correction and switching rates (R165, R190). -/

namespace Sys2Proof.Machine

/-! ### Room on a tile (R192 to R195) -/

/-- Due of the timers that a WAITING sequence waits for. -/
def waitDue (d : Device) (slot : Nat) (q : Seq) : Nat :=
  let due (i : Nat) (b : Bool) : List Nat :=
    if q.tcb.waitMask.getLsbD i then (match timerOf d slot b with | some t => [t.due] | none => []) else []
  match due FL_TMR_A false ++ due FL_TMR_B true with
  | [] => 2 ^ 64 - 1
  | x :: l => if q.tcb.waitOr then l.foldl min x else l.foldl max x

/-- tier of R193; 255: not a victim. -/
def victimTier (d : Device) (slot : Nat) (q : Seq) (r : Nat) (rq : Seq) : Nat :=
  if slot = r || seqMoving d slot q || q.tcb.state = .finishing then 255
  else if q.tcb.state = .parked then 0
  else if q.tcb.state = .paused then 1
  else if q.tcb.state = .waiting then (if seqInFlight d slot then 255 else 2)
  else if q.guardLeft ≠ 0 then 255
  else if q.tcb.cls.code < rq.tcb.cls.code then 3
  else if viewVtime d rq.tcb.client + odGet d Od.PREEMPT_VTIME_GAP 0 ≤ viewVtime d q.tcb.client then 4
  else 255

/-- The sort key behind the tier. -/
def victimKey (d : Device) (slot : Nat) (q : Seq) (tier : Nat) : Nat :=
  if tier ≤ 1 then q.tcb.stateTick
  else if tier = 2 then 2 ^ 64 - 1 - waitDue d slot q
  else 2 ^ 128 - 1 - viewVtime d q.tcb.client

/-- Victims in order, with tier and pages. -/
def victimsOf (d : Device) (tile r : Nat) (rq : Seq) : List (Nat × Nat × Nat) :=
  let l := d.seqs.filterMap (fun p =>
    let t := victimTier d p.1 p.2 r rq
    if p.2.ctx.affTile = some tile && pagesT0 d p.2 ≠ 0 && t ≠ 255 && !p.2.evictAfter then
      some (p.1, t, pagesT0 d p.2, victimKey d p.1 p.2 t)
    else none)
  (sortBy (fun a b => a.2.1 < b.2.1 || (a.2.1 = b.2.1 && (a.2.2.2 < b.2.2.2 || (a.2.2.2 = b.2.2.2 && a.1 ≤ b.1)))) l).map
    (fun x => (x.1, x.2.1, x.2.2.1))

/-- Victims taken until their pages reach the need. -/
def takeVictims (need : Nat) : Nat → List (Nat × Nat × Nat) → List (Nat × Nat × Nat)
  | _, [] => []
  | freed, v :: l => v :: (if need ≤ freed + v.2.2 then [] else takeVictims need (freed + v.2.2) l)

/-- evict(s) of R194. -/
def evict (d : Device) (tile rh : Nat) (chosen : List Nat) (v : Nat × Nat × Nat) : Device :=
  match d.seq? v.1 with
  | none => d
  | some q =>
    let cmds := inflightOf d v.1
    let victim (s : Nat) : Bool := chosen.contains s || (match d.seq? s with | some x => x.evictAfter | none => false)
    let onlyVictims := cmds.filter (fun p => p.2.istate = .issued && (commandSlots p.2).all victim)
    let kill := 3 ≤ v.2.1 && !cmds.isEmpty && onlyVictims.length = cmds.length
    let d := traceRec (bump d Od.DISPATCH_STATS 5) TR_PREEMPT q.tcb.handle q.tcb.client q.tcb.partition
      (fields [(127, 96, rh), (95, 84, tile), (83, 81, v.2.1), (80, 62, v.2.2), (61, 61, ofBool kill)])
    let d := d.modSeq v.1 (fun q => { q with
      evictAfter := true, guardLeft := if 3 ≤ v.2.1 then odGet d Od.PREEMPT_GUARD_STEPS 0 else q.guardLeft })
    let d := if kill then onlyVictims.foldl (fun d p => killCommand d p.1 4 65536) d else d
    evictNow d v.1

/-- Serves one requester (R193, R195), as its request stands after the services before it. -/
def serveRoom (d : Device) (g slot : Nat) : Device :=
  match (d.group g).rooms.find? (fun r => r.slot = slot), d.seq? slot with
  | none, _ => d
  | _, none => d
  | some r, some rq =>
    if !r.victims.isEmpty || r.need ≤ r.held then d
    else
      let vs := takeVictims (r.need - r.held) 0 (victimsOf d r.tile r.slot rq)
      if vs.isEmpty then bump (raiseVector d 5) Od.DISPATCH_STATS 6
      else
        let d := d.modGroup g (fun gr => { gr with
          rooms := gr.rooms.map (fun x => if x.slot = r.slot then { x with victims := vs.map (·.1) } else x) })
        let d := vs.foldl (fun d v => evict d r.tile rq.tcb.handle (vs.map (·.1)) v) d
        vs.foldl (fun d v => clearVictim d v.1) (serveFrames d r.tile)

/-- Requesters at an opening: R before E before G, then by ADMIT_TICK. -/
def serveRooms (d : Device) (g : Nat) : Device :=
  let key (r : RoomReq) : Nat × Nat := match d.seq? r.slot with
    | some q => (2 - q.tcb.cls.code, q.tcb.admitTick)
    | none => (3, 0)
  (sortBy (fun a b => (key a).1 < (key b).1 || ((key a).1 = (key b).1 && (key a).2 ≤ (key b).2)) (d.group g).rooms).foldl
    (fun d r => serveRoom d g r.slot) d

/-! ### Opening (R57, R146, R147) -/

/-- ROOT cycles of a scan pass: 4,096 SCLK. -/
def passCycles : Nat := 16384

/-- End of the pass that runs now. -/
def passNow (d : Device) : Option Nat :=
  if d.clk.rootcyc < d.passEnd then some d.passEnd
  else if d.clk.rootcyc < d.passEnd + passCycles
      && d.groups.any (fun p => match p.2.opened with | some o => o.scanAt = d.passEnd + passCycles | none => false) then
    some (d.passEnd + passCycles)
  else none

/-- The group entries of Table 6.4 as they stand (R170). -/
def groupEntries (d : Device) (g : Nat) : GroupEntries :=
  { balanceMode := odGet d Od.BALANCE_MODE g, tokenBudget := odGet d Od.TOKEN_BUDGET g
    chunkTokens := odGet d Od.CHUNK_TOKENS g, chunkMin := odGet d Od.CHUNK_MIN g
    segEntries := odGet d Od.SEG_ENTRIES g, segTokens := odGet d Od.SEG_TOKENS g
    digestPolicy := odGet d Od.DIGEST_POLICY g, sealTimeoutUs := odGet d Od.SEAL_TIMEOUT_US g }

/-- A step of the group opens: the budget and the group entries are latched, and its scan waits for a pass. A draining slice opens none
(R392). -/
def openStep (d : Device) (g : Nat) : Device :=
  if odGet d Od.SLICE_DRAIN 0 = 1 then d
  else
  let now := d.clk.rootcyc
  let (d, at_) := match passNow d with
    | some e => ({ d with passEnd := e }, e + passCycles)
    | none => ({ d with passEnd := now + passCycles }, now + passCycles)
  let d := d.modGroup g (fun gr => { gr with
    entries := groupEntries d g
    opened := some { budget := d.power.budget, stale := d.power.stale || d.power.budget.isNone, scanAt := at_ } })
  serveRooms (wantModels (bringMissing d g) g) g

/-! ### Building -/

/-- The previous step, which is the latest dispatched, lets the next one build (R146, R163): it is retired, or nothing of
it is left, or its time is over. -/
def previousOver (d : Device) (g : Nat) : Bool :=
  let gr := d.group g
  gr.dispatched.length < 2 && gr.stretchEnd ≤ nowNs d &&
    (match gr.dispatched.find? (fun st => st.num = gr.step) with
     | none => true
     | some st => st.left.isEmpty ||
         nsOf d st.dispatchCyc + (if st.lengthened then st.tLen else st.tPred) + (d.group g).entries.sealTimeoutUs * 1000 ≤ nowNs d)

/-- R146, R465. -/
def mayBuild (d : Device) (g : Nat) : Option (OpenStep × Nat) :=
  match (d.group g).opened with
  | none => none
  | some o =>
    if (d.group g).building.isNone && o.scanAt ≤ d.clk.rootcyc && !o.blocked && previousOver d g then
      (stepModel d g (candidates d g)).map (fun m => (o, m))
    else none

/-- RATIO_NOW at the start of building (R159). -/
def ratioUpdate (d : Device) (g : Nat) (cs : List (Nat × Seq)) : Device :=
  if (d.group g).entries.balanceMode ≠ 1 then d
  else
    let b := (d.group g).entries.tokenBudget
    let gr := d.group g
    let sp := gr.sp + min b (sumBy (fun p => if wants d p.1 p.2 = .prefill then prefillRem p.2 else 0) cs)
    let sd := gr.sd + min b (sumBy (fun p => if wants d p.1 p.2 = .decode then (decodeEntry d p.1 p.2).tokens else 0) cs)
    if gr.starts + 1 < odGet d Od.RATIO_INTERVAL 0 then
      d.modGroup g (fun gr => { gr with sp := sp, sd := sd, starts := gr.starts + 1 })
    else
      let lo := min (odGet d Od.RATIO_MIN 0) (odGet d Od.RATIO_MAX 0)
      let t := max lo (min (odGet d Od.RATIO_MAX 0) (sp * 256 / (sp + sd)))
      let dd : Int := (t : Int) - gr.ratio
      let st : Int := odGet d Od.RATIO_STEP 0
      let r : Nat := if sp + sd ≠ 0 && (odGet d Od.RATIO_DEADBAND 0 ≤ dd.natAbs) then
          ((gr.ratio : Int) + max (-st) (min st dd)).toNat
        else gr.ratio
      d.modGroup g (fun gr => { gr with sp := 0, sd := 0, starts := 0, ratio := r })

/-- Runs of blocks reserved in the export window: first block and count (R168). -/
def usedBlocks (d : Device) : List (Nat × Nat) :=
  (d.groups.map (fun p => (match p.2.building with | some s => s.blocks | none => []) ++ (p.2.dispatched.map Step.blocks).flatten)).flatten

/-- The lowest run of `k` free blocks. -/
def blockRun (used : List (Nat × Nat)) (k : Nat) : Nat → Nat → Option Nat
  | 0, _ => none
  | fuel + 1, b =>
    if 1024 < b + k then none
    else match used.find? (fun u => u.1 < b + k && b < u.1 + u.2) with
      | none => some b
      | some u => blockRun used k fuel (u.1 + u.2)

/-- A segment with its blocks. -/
structure Formed where
  seg : Segment
  block : Nat
  tile : Nat := 0
  affine : Bool := false
deriving DecidableEq, Repr

/-- Reserves blocks in order of formation (R168): those formed, and the number that found none. -/
def reserveBlocks (k : Nat) : List (Nat × Nat) → List Segment → List Formed × Nat
  | _, [] => ([], 0)
  | used, s :: l =>
    match blockRun used k (used.length + 1) 0 with
    | some b => let r := reserveBlocks k (used ++ [(b, k)]) l; ({ seg := s, block := b } :: r.1, r.2)
    | none => let r := reserveBlocks k used l; (r.1, r.2 + 1)

/-- The tile can take a segment (R178). -/
def tileFree (d : Device) (t : Nat) : Bool :=
  tileOnline d t && !(d.tile t).suspect && (d.tile t).used < odGet d Od.DSP_TILE_CREDITS 0

def spendCredit (d : Device) (t : Nat) : Device := d.modTile t (fun x => { x with used := x.used + 1 })

/-- Places segments on tiles, those with an affinity tile first; what finds none is left out. -/
def placeTiles (d : Device) (g : Nat) (affine : Bool) : List Formed → Device × List Formed
  | [] => (d, [])
  | f :: l =>
    match f.seg.aff with
    | some t =>
      if affine then
        if tileFree d t then
          let r := placeTiles (spendCredit d t) g affine l
          (r.1, { f with tile := t, affine := true } :: r.2)
        else placeTiles d g affine l
      else let r := placeTiles d g affine l; (r.1, f :: r.2)
    | none =>
      if affine then let r := placeTiles d g affine l; (r.1, f :: r.2)
      else match (groupTiles d g).find? (tileFree d) with
        | some t =>
          let r := placeTiles (spendCredit d t) g affine l
          (r.1, { f with tile := t } :: r.2)
        | none => placeTiles d g affine l

/-! ### Writing an entry (R169, R224, R226, R227, R239, R263) -/

def nopOf (e : WlEntry) : WlEntry := { client := e.client, partition := e.partition, cls := e.cls }

/-- Frames of one bank of a tree scratch. -/
def scratchBank (d : Device) (q : Seq) : Nat := ceilDiv 65 (pageTokens d q.version)

/-- Page identifier of the scratch bank that an entry names. -/
def scratchPage (d : Device) (q : Seq) (bank : Bool) : Nat :=
  match q.ctx.affTile, q.ctx.scratch[if bank then scratchBank d q else 0]? with
  | some t, some f => t0PageId t f
  | _, _ => pageNone

/-- Takes the tree scratch where the sequence has none. -/
def takeScratch (d : Device) (slot tile : Nat) : Device :=
  match d.seq? slot with
  | none => d
  | some q =>
    let n := 2 * scratchBank d q
    if !q.ctx.scratch.isEmpty || freeT0Count d tile < n + heldFor d tile slot then d
    else match contiguousT0 (usedT0 d tile) n (odGet d Od.CTX_T0_FRAMES 0) (odGet d Od.CTX_T0_FRAMES 0 + 1) 0 with
      | some b => (List.range n).foldl (fun d _ => useRoom d tile slot)
          (modBlk d slot (fun c => { c with scratch := (List.range n).map (b + ·) }))
      | none => d

/-- The pages and the scratch of an entry stand on the tile; `false`: the entry becomes NOP. Where T0 frames lack, room is
asked for all that the entry needs and has not (R224); where T1 frames, entries or leaves lack, the sequence waits on
PAGES_READY (R215, R222). -/
def entryPages (d : Device) (tile : Nat) (e : WlEntry) : Device × Bool :=
  match d.seq? e.slot with
  | none => (d, false)
  | some q =>
    let d := if q.ctx.affTile.isNone then modBlk d e.slot (fun c => { c with affTile := some tile }) else d
    let n := ((pageSpan d q e.pos e.ntok).filter (fun k => (pageAt q k).home = .none)).length
    let m := n + ((pageSpan d q e.pos e.ntok).filter (frameless d q)).length
    let sc := if e.tree && q.ctx.scratch.isEmpty then 2 * scratchBank d q else 0
    let room := freeT0Count d tile - heldFor d tile e.slot
    let leaves := (((pageSpan d q e.pos e.ntok).map (· / 512)).dedup.filter (fun i => !Map.has q.ctx.leaves i)).length
    let lack (l : Nat × Nat) (d : Device) : Device := modBlk d e.slot (fun c => { c with lacks := l })
    if freeT1Count d < n || freeDir1Count d < n || freeLeafCount d < leaves then
      (startWait (lack (n, leaves) d) e.slot [FL_PAGES_READY] false, false)
    else if room < m + sc then (requestRoom d e.slot tile (m + sc), false)
    else
      let d := ensurePages (lack (0, 0) d) e.slot tile (pageSpan d q e.pos e.ntok).length (e.pos / pageTokens d q.version)
      let d := if e.tree then takeScratch d e.slot tile else d
      match d.seq? e.slot with
      | some q => if e.tree && q.ctx.scratch.isEmpty then (requestRoom d e.slot tile sc, false) else (d, true)
      | none => (d, false)

/-- TENT_PAGE and TENT_OFF. -/
def tentOf (d : Device) (q : Seq) (e : WlEntry) : Nat × Nat :=
  if e.tree then (scratchPage d q q.ctx.treeBank, 0)
  else if e.kind = K_COMPACT then (scratchPage d q (!q.ctx.treeBank), 0)
  else match t0Copy d (pageAt q (e.pos / e.pageTokens)) with
    | some (t, f) => (t0PageId t f, e.pos % e.pageTokens)
    | none => (pageNone, e.pos % e.pageTokens)

/-- Address of a replay block. -/
def replayAddr (d : Device) (b : Nat) : Nat := odGet d Od.CTX_REPLAY_BASE 0 + 262144 * b

/-- Reads of the tokens of positions `pos` up to `stop` for a re-prefill chunk. -/
def replayReads (d : Device) (slot stop : Nat) : Nat → Nat → Device
  | 0, _ => d
  | n + 1, pos =>
    match d.seq? slot with
    | none => d
    | some q =>
      if stop ≤ pos then d
      else
        let k := tokenRun q.ctx.turns pos (stop - pos)
        match tokenSource q.ctx.turns pos with
        | none => d
        | some (addr, log) =>
          replayReads (fabiRead d (.replayRead slot pos log) addr ((if log then 8 else 4) * k)) slot stop n (pos + max 1 k)

/-- Replay blocks in use: those that sequences hold, and those that commands in flight may still read. -/
def usedReplay (d : Device) : List Nat :=
  d.seqs.filterMap (fun p => p.2.replay) ++ (d.inflight.map (fun p => p.2.entries.filterMap (fun e =>
    if e.kind = K_PREFILL && replayAddr d 0 ≤ e.inAddr && e.inAddr < replayAddr d (odGet d Od.CTX_REPLAY_BLOCKS 0) then
      some ((e.inAddr - replayAddr d 0) / 262144) else none))).flatten

/-- A re-prefill chunk takes a replay block; with none free it waits for one (R239, R240). The first chunk of a
re-prefill counts as its start (R243). -/
def takeReplay (d : Device) (e : WlEntry) : Device × Option Nat :=
  match leastFree (usedReplay d) (odGet d Od.CTX_REPLAY_BLOCKS 0) with
  | none =>
    let now := d.tick
    (d.modSeq e.slot (fun q => { q with replaySince := some (q.replaySince.getD now) }), none)
  | some b =>
    let d := fabiDrop d (fun k => match k with | .replayRead s _ _ => s = e.slot | .replayWrite s _ => s = e.slot | _ => false)
    let begun : Bool := match d.seq? e.slot with | some q => q.ctx.refillBegun | none => true
    let d := if begun then d else bump (modBlk d e.slot (fun c => { c with refillBegun := true })) Od.CTX_STATS 7
    let d := d.modSeq e.slot (fun q => { q with replay := some b, replaySince := none })
    (replayReads d e.slot (e.pos + e.ntok) (e.ntok + 1) e.pos, some (replayAddr d b))

/-- The sampling mailbox of a digest entry (R263). -/
def sampleBoxAddr (d : Device) (slot : Nat) : Nat := odGet d Od.SAMPLE_MB_BASE 0 + 128 * slot

def writeSampleBox (d : Device) (slot islot tag : Nat) (e : WlEntry) (q : Seq) : Device :=
  let c := fields [(511, 480, e.handle), (479, 448, tag), (447, 416, scaleOf q.samp.header.toNat), (415, 414, e.logitMode)]
  let f := fields [(511, 480, tag)]
  fabiWrite (fabiWrite d (.sampleBox slot islot) (sampleBoxAddr d slot) 64 c) (.sampleBox slot islot)
    (sampleBoxAddr d slot + 64) 64 f

/-- The pages that an entry's command may read or write (R219): those of positions up to its last one, and the tree
scratch. -/
def entryUses (d : Device) (q : Seq) (e : WlEntry) : WlEntry :=
  let last := if e.kind = K_COMPACT then q.ctx.pages.length else ceilDiv (e.pos + e.ntok) (pageTokens d q.version)
  let ps := q.ctx.pages.take last
  { e with
    dirs := ps.filterMap (fun r => match r.home with | .t1 i => some i | _ => none)
    frames := (ps.filterMap (t0Copy d)).map (fun x => t0PageId x.1 x.2)
      ++ (match q.ctx.affTile with | some t => q.ctx.scratch.map (t0PageId t) | none => []) }

/-- Takes the scratch frames of a class R stage's entry, whose count its stage block states (R192, log entry 133): the
slice, and the frames, or none where the tile has not enough and room is asked for. `taken`: frames of the entries
before it in the segment. -/
def stageFrames (d : Device) (tile : Nat) (taken : List Nat) (q : Seq) (e : WlEntry) : Device × Option (List Nat) :=
  let n := if Plan.isFanOut q.plan.stage then Config.stageScratch (stageBlock d e.slot q e.list) else 0
  let free := (List.range (odGet d Od.CTX_T0_FRAMES 0)).filter (fun f => !(usedT0 d tile ++ framesOn tile taken).contains f)
  if n = 0 then (d, some [])
  else if free.length < n + heldFor d tile e.slot then (requestRoom d e.slot tile n, none)
  else ((List.range n).foldl (fun d _ => useRoom d tile e.slot) d, some ((free.take n).map (t0PageId tile)))

/-- Makes an entry ready for writing: the slice, and the entry or a NOP in its place. -/
def finishEntry (d : Device) (tile islot tag idx step : Nat) (taken : List Nat) (e : WlEntry) : Device × WlEntry :=
  let work (e : WlEntry) : Work := { tag := tag, islot := islot, idx := idx, step := step, entry := e }
  match d.seq? e.slot with
  | none => (d, nopOf e)
  | some q =>
    let e := { e with price := entryPrice d q e }
    if e.kind = K_COMPACT then
      let t := tentOf d q e
      let e := entryUses d q { e with tentPage := t.1, tentOff := t.2 }
      (d.modSeq e.slot (fun q => { q with inStep := true, work := some (q.work.getD (work e)) }), e)
    else if e.isStage then
      match stageFrames d tile taken q e with
      | (d, none) => (d, nopOf e)
      | (d, some fs) =>
        let e := { e with frames := fs }
        (d.modSeq e.slot (fun q => { q with
          inStep := true, rerunMark := false, work := some (work e)
          plan := { q.plan with todo := q.plan.todo.filter (· ≠ e.list) } }), e)
    else
      let r := entryPages (renewRequest d e.slot q) tile e
      if !r.2 then (r.1, nopOf e)
      else
        let refill := refilling q && e.kind = K_PREFILL
        let t := if refill then takeReplay r.1 e else (r.1, some e.inAddr)
        match t.2, t.1.seq? e.slot with
        | some a, some q =>
          let d := t.1
          let tp := tentOf d q e
          let e := entryUses d q { e with inAddr := a, tentPage := tp.1, tentOff := tp.2 }
          let d := if 2 ≤ e.logitMode then writeSampleBox d e.slot islot tag e q else d
          (d.modSeq e.slot (fun q => { q with inStep := true, rerunMark := false, work := some (work e) }), e)
        | _, _ => (t.1, nopOf e)

/-- The entries of a segment, from index `i` on; `taken`: scratch frames of those before. -/
def finishEntries (d : Device) (g tile islot tag step block : Nat) : Nat → List Nat → List WlEntry → Device × List WlEntry
  | _, _, [] => (d, [])
  | i, taken, e :: l =>
    let r := finishEntry d tile islot tag i step taken e
    let d := writeEntry r.1 g (block * 4096 + 64 * i) r.2
    let t := finishEntries d g tile islot tag step block (i + 1) (taken ++ r.2.frames) l
    (t.1, r.2 :: t.2)

/-- Writes a segment: its in-flight entry is RESERVED. -/
def writeSegment (d : Device) (g m step : Nat) (f : Formed) : Device × Option (Nat × List WlEntry × Nat) :=
  match Map.leastFree d.inflight 4096 0 with
  | none => (d, none)
  | some i =>
    let gen := islotGen d i
    let tag := mkTag d.ident.index i gen
    let r := finishEntries d g f.tile i tag step f.block 0 [] f.seg.entries
    let e0 := f.seg.entries.headD {}
    let n := ceilDiv f.seg.entries.length 64
    let c : InFlight :=
      { gen := gen, tile := f.tile, group := g, partition := e0.partition, model := m, prio := e0.cls
        wlAddr := windowBase d + f.block * 4096, step := step, entries := r.2, block := f.block, blocks := n
        affine := f.affine }
    ({ r.1 with inflight := Map.put r.1.inflight i c }, some (i, r.2, n))

def writeSegments (d : Device) (g m step : Nat) : List Formed → Device × List (Nat × List WlEntry × (Nat × Nat))
  | [] => (d, [])
  | f :: l =>
    let r := writeSegment d g m step f
    let t := writeSegments r.1 g m step l
    (t.1, match r.2 with | some x => (x.1, x.2.1, (f.block, x.2.2)) :: t.2 | none => t.2)

/-- Power state after sizing: the group's (R164), and what the slice reports of its last composed step (Table 5.3). -/
def noteSizing (d : Device) (g : Nat) (hit : Bool) : Device :=
  (d.modPower (fun p => { p with limited := hit })).modGroup g (fun gr =>
    if hit then { gr with limited := true, exitCount := 0 }
    else if gr.limited then
      (if odGet d Od.POWER_EXIT_STEPS 0 ≤ gr.exitCount + 1 then { gr with limited := false, exitCount := 0 }
       else { gr with exitCount := gr.exitCount + 1 })
    else gr)

/-- A step is built: selected, sized, cut into segments, placed and written. One whose selection takes no entry stays
open, with its ratio accumulators advanced, and the prediction of one that loses segments stays that of its sizing (log
entry 144). -/
def buildStep (d : Device) (g : Nat) (o : OpenStep) (m : Nat) : Device :=
  let cs := candidates d g
  let d := ratioUpdate d g cs
  let f := fillStep d g m cs
  let es := convertStep d g m f.entries
  let a := allowance d g o
  let es' := if fits a (predict d g m es) then es else trimStep d g m a f.added es
  let p := predict d g m es'
  let long := !fits a p
  let trimmed := es' ≠ es
  if es'.isEmpty then d
  else
    let segs := segments d g es'
    let size := ceilDiv (d.group g).entries.segEntries 64
    -- blocks are reserved as segments form, so those that find none go first (R168)
    let short := (reserveBlocks size (usedBlocks d) segs).2
    let blocked := withdrawSegs short segs
    let kept := keepSlots (odGet d Od.DECODE_SLOT_RESERVE 0) (4096 - d.inflight.length) [] blocked
    let rb := reserveBlocks size (usedBlocks d) kept
    let p1 := placeTiles d g true rb.1
    let p2 := placeTiles p1.1 g false p1.2
    let d := bumpBy p2.1 Od.COMPOSE_STATS 6 (blocked.length - kept.length + (rb.1.length - p2.2.length))
    let d := bumpBy d Od.COMPOSE_STATS 5 short
    if p2.2.isEmpty then d.modGroup g (fun gr => { gr with opened := some { o with blocked := true } })
    else
      let num := ((d.group g).step + 1) % 2 ^ 32
      let cyc := d.clk.rootcyc
      let w := writeSegments d g m num p2.2
      -- the unused tails are released (R168), for which other groups' steps may wait
      let d := if w.2.any (fun x => x.2.2.2 < size) then unblock w.1 else w.1
      let all := (w.2.map (fun x => x.2.1)).flatten
      let bound := max p.tile p.lane < p.lgi || (p.tile < p.lgi && p.lane = p.lgi)
      let st : Step :=
        { num := num, model := m, entries := all, segs := w.2.map (·.1), toIssue := w.2.map (·.1)
          blocks := w.2.map (fun x => x.2.2), buildCyc := cyc, tPred := p.time, tLen := if long then stretch d a p else p.time
          energy := p.energy, eRaw := p.raw, tokens := sumBy WlEntry.tokens all
          digests := (all.filter (fun e => 2 ≤ e.logitMode)).length, trimmed := trimmed, lengthened := long, ingress := bound
          left := ((all.filter (fun e => e.kind ≠ 0)).map WlEntry.slot).dedup }
      let d := noteSizing d g (trimmed || long)
      let d := if trimmed then bump d Od.COMPOSE_STATS 1 else d
      let d := if long then bump d Od.COMPOSE_STATS 2 else d
      let d := bumpBy d Od.COMPOSE_STATS 4 st.digests
      let d := if bound then raiseVector (bump d Od.COMPOSE_STATS 3) 6 else d
      let d := d.modPower (fun x => { x with
        stepEstUj := x.stepEstUj + p.energy, ingressBound := x.ingressBound || bound, throttled := x.throttled || long })
      d.modGroup g (fun gr => { gr with opened := none, building := some st })

/-! ### CMD_ISSUE (R145, R169) -/

/-- Accesses that the CMD of a sequence's entry waits for. -/
def cmdWaits (slot : Nat) (k : FabiKind) : Bool :=
  match k with
  | .pageTable s | .pathBlock s | .stageBlock s | .stageList s => s = slot
  | .sampleBox s _ | .replayWrite s _ => s = slot
  | .replayRead s _ _ => s = slot
  | _ => false

def cmdReady (d : Device) (c : InFlight) : Bool :=
  (commandSlots c).all (fun s => fabiCount d (cmdWaits s) = 0)

/-- Depth of node j of the staged draft. -/
def nodeDepth (nodes : List DraftNode) : Nat → Nat → Nat
  | 0, _ => 0
  | fuel + 1, j => if j = 0 then 0 else
    match nodes[j - 1]? with
    | some n => 1 + nodeDepth nodes fuel n.parent
    | none => 0

/-- Inputs of R248: code 0 bias, 1 stop entries, 2 + n the mask of node n. Bytes of the block at and beyond PARAM_LEN are
not read (R244). -/
def inputReads (d : Device) (q : Seq) (e : WlEntry) : List (Nat × Nat × Nat) :=
  let h := q.samp.header.toNat
  let mlen := ceilDiv (vocabOf d q.version) 512 * 64
  let at_ (j : Nat) : Nat := e.newPos + nodeDepth q.spec.nodes 65 j - q.samp.genStart
  let part (code off n : Nat) : List (Nat × Nat × Nat) :=
    let n := min n (q.paramLen - off)
    if n = 0 then [] else [(code, q.paramAddr + off, n)]
  part 0 0x80 (8 * Hdr.numBias h) ++ part 1 0x280 (64 * Hdr.numStop h) ++
  (if Hdr.maskKind h = 1 then [(2, Hdr.maskAddr h, mlen)]
   else if Hdr.maskKind h = 2 then
     (List.range (if e.kind = K_VERIFY then e.nodes + 1 else 1)).map (fun j => (2 + j, Hdr.maskAddr h + at_ j * mlen, mlen))
   else [])

/-- Issues the reads of an entry's inputs. -/
def readInputs (d : Device) (e : WlEntry) : Device :=
  match d.seq? e.slot with
  | none => d
  | some q =>
    if e.positions = 0 then d
    else
      let rs := inputReads d q e
      rs.foldl (fun d r => fabiRead d (.inputs e.slot r.1) r.2.1 r.2.2)
        ((dropInputs d e.slot).modSeq e.slot (fun q => { q with inputs := [], inputsDue := rs.length }))

/-- The step's last CMD has been issued (R145): it is dispatched, and the next one opens. -/
def dispatchStep (d : Device) (g : Nat) (st : Step) : Device :=
  let build := (d.clk.rootcyc - st.buildCyc) / 4
  let d := traceRec d TR_COMPOSE 0 0 0
    (fields [(127, 120, g), (119, 88, st.num), (87, 74, st.entries.length), (73, 53, st.tokens), (52, 39, st.blocks.length),
      (38, 25, st.digests), (24, 24, ofBool st.trimmed), (23, 23, ofBool st.lengthened), (22, 22, ofBool st.ingress),
      (21, 14, st.model), (13, 0, min 0x3FFF build)])
  let d := bumpMax (bump d Od.COMPOSE_STATS 0) Od.COMPOSE_STATS 7 build
  let cyc := d.clk.rootcyc
  let now := nowNs d
  let d := d.modGroup g (fun gr => { gr with
    step := st.num, building := none, dispatched := gr.dispatched ++ [{ st with dispatchCyc := cyc, toIssue := [] }]
    stretchEnd := if st.lengthened then now + st.tLen else 0
    lastTaken := Map.put gr.lastTaken st.model ((Map.vals gr.lastTaken).foldl max 0 + 1) })
  openStep (retireSteps d g) g

/-- The commands of a building step that were not issued have been withdrawn one by one: with one issued, the last CMD
was issued before, and the step is dispatched; with none, the step takes no number and its group opens another (R145). -/
def closeBuilding (d : Device) (g : Nat) : Device :=
  match (d.group g).building with
  | none => d
  | some st =>
    if !st.toIssue.isEmpty then d
    else if st.issued then dispatchStep d g st
    else openStep (d.modGroup g (fun gr => { gr with building := none })) g

/-- Every group whose building step waits for no command any more goes on (R145, log entry 147). -/
def closeSteps (d : Device) : Device := (Map.keys d.groups).foldl closeBuilding d

/-- STEP_BUILD. -/
def stepBuild (d : Device) (g : Nat) : Device :=
  if groupHome d g ≠ d.ident.index then d
  else
    let d := closeBuilding d g
    let d := match (d.group g).opened with
      | some o => if o.scanAt ≤ d.clk.rootcyc then wantModels (bringMissing d g) g else d
      | none => d
    match mayBuild d g with
    | some (o, m) => buildStep d g o m
    | none => d

/-- What STEP_BUILD brings of other slices' ring pairs: those that are STALLED. -/
def tellStalled (d : Device) (away : List Nat) : Device := { d with stalledAway := away }

/-- STEP_BUILD. -/
def execStepBuild (g : Nat) (away : List Nat) (s : State) : Host.Outcome State Fault Refusal :=
  done s (whenReady s.dev (fun d => stepBuild (tellStalled d away) g))

/-- The fan-out of a plan stage is issued: the sequence waits for its commands (Table 4.6). -/
def waitFanOut (d : Device) (slot : Nat) : Device :=
  match d.seq? slot with
  | none => d
  | some q =>
    if inFanOut q && q.plan.todo.isEmpty && q.tcb.waitMask = 0 && (inflightOf d slot).all (fun p => p.2.istate ≠ .reserved) then
      startWait d slot [FL_STAGE_DONE] false
    else d

/-- The CMD goes to its tile. -/
def issueCmd (d : Device) (i : Nat) (c : InFlight) (st : Step) : Device :=
  let tag := tagOf d i c
  let d := emit d (.cmd (BitVec.ofNat 512
    (cmdMessage tag c.wlAddr c.entries.length c.tile c.group c.partition c.model c.prio.code st.num)))
  let d := traceRec (bump d Od.DISPATCH_STATS 0) TR_DISPATCH 0 0 0
    (fields [(127, 96, tag), (95, 64, st.num), (63, 52, c.tile), (51, 38, c.entries.length), (37, 30, c.group),
      (29, 28, c.prio.code), (27, 27, ofBool c.affine)])
  let now := d.tick
  let d := d.modInflight i (fun c => { c with
    istate := .issued, issueTick := now, dueTick := now + odGet d Od.CMD_TIMEOUT_US 0 })
  -- row 6 of Table 4.2
  let d := (commandSlots c).foldl (fun d s =>
    match d.seq? s with
    | some q => if q.tcb.state = .admitted then enterState d s .prefill else d
    | none => d) d
  let es := c.entries.filter (fun e => e.kind ≠ 0)
  let d := es.foldl (fun d e => if e.isStage then d.modSeq e.slot (fun q => { q with plan := { q.plan with stageIssued := true } }) else d) d
  let d := (commandSlots c).foldl waitFanOut (es.foldl readInputs d)
  let st' := { st with toIssue := st.toIssue.filter (· ≠ i), issued := true }
  let d := d.modGroup c.group (fun gr => { gr with building := some st' })
  if st'.toIssue.isEmpty then dispatchStep d c.group st' else d

/-- CMD_ISSUE. -/
def cmdIssue (d : Device) (i : Nat) : Device :=
  match Map.find d.inflight i with
  | none => d
  | some c =>
    match (d.group c.group).building with
    | none => d
    | some st =>
      if c.istate = .reserved && st.toIssue.contains i && cmdReady d c && (hotSlotOf d c.group c.model).isSome then issueCmd d i c st
      else d

/-- CMD_ISSUE. -/
def execCmdIssue (islot : Nat) (s : State) : Host.Outcome State Fault Refusal := done s (whenReady s.dev (cmdIssue · islot))

/-! ### Warm-up, energy correction, switching rates -/

/-- MODEL_WARMUP_DONE (R198). -/
def warmupDone (d : Device) (g s : Nat) : Device :=
  match loadInto d g s with
  | some l =>
    (match l.doneCyc with
     | some t => if warmAt d l.version t ≤ d.clk.rootcyc then
         d.modGroup g (fun gr => { gr with loads := gr.loads.filter (fun x => x.slot ≠ s) })
       else d
     | none => d)
  | none => d

/-- ENERGY_CORR_UPDATE (R165): at each TICK that is a multiple of 100; sums too small for an update are cleared with it
(log entry 145). -/
def energyCorr (d : Device) : Device :=
  if d.tick % 100 ≠ 0 then d
  else { d with groups := d.groups.map (fun p =>
    let gr := p.2
    let km := max 128 (min 512 (256 * gr.eMeas / max 1 gr.eRaw))
    (p.1, { gr with k := if 1000 ≤ gr.eRaw then (3 * gr.k + km) / 4 else gr.k, eMeas := 0, eRaw := 0 })) }

def rateSample (d : Device) (entry bytes : Nat) (busy : Bool) : Device :=
  if busy then odSet d entry 0 ((7 * odGet d entry 0 + bytes / 100) / 8) else d

/-- SWITCH_RATE_SAMPLE (R190): bytes of 100 TICK over 100 µs, in MB/s. -/
def switchSample (d : Device) : Device :=
  if d.tick % 100 ≠ 0 then d
  else
    let m := d.ctx.moved
    let b := d.ctx.busyAll
    let d := rateSample d Od.SWITCH_B_DEMOTE_MBPS m.1 b.1
    let d := rateSample d Od.SWITCH_B_PROMOTE_MBPS m.2.1 b.2.1
    let d := rateSample d Od.SWITCH_B_WEIGHTS_MBPS m.2.2 b.2.2
    d.modCtx (fun c => { c with moved := (0, 0, 0), busyAll := (false, false, false) })

/-- MODEL_WARMUP_DONE. -/
def execModelWarmupDone (g sl : Nat) (s : State) : Host.Outcome State Fault Refusal :=
  done s (whenReady s.dev (fun d => warmupDone d g sl))
/-- ENERGY_CORR_UPDATE. -/
def execEnergyCorrUpdate (s : State) : Host.Outcome State Fault Refusal := next s (whenReady s.dev energyCorr)
/-- SWITCH_RATE_SAMPLE. -/
def execSwitchRateSample (s : State) : Host.Outcome State Fault Refusal := next s (whenReady s.dev switchSample)

end Sys2Proof.Machine
end

