-- ==== Sys2Proof/Machine/Turns.lean ====
section
/-! DEFINITION. The end of a turn (rows 10 and 11 of Table 4.2, R234, R464) and a sequence's move to another group
(R391). -/

namespace Sys2Proof.Machine

/-- The group that a sequence of an offline group moves to. -/
def moveTarget (d : Device) (q : Seq) : Option Nat :=
  (homedGroups d).find? (fun g => g ≠ q.tcb.group && groupOnline d g && ((hotSlotOf d g q.version).isSome || canLoad d g q.version))

/-- The owner of the ring pair hears of the sequence's group, the one candidate of its CONTINUEs (R123, R391, log entry
136). -/
def tellGroup (d : Device) (slot g : Nat) : Device :=
  match d.seq? slot with
  | none => d
  | some q =>
    if d.faults.lost.contains q.owner then d
    else sendXfer d q.owner (.forward d.ident.index q.tcb.handle q.tcb.handle (.group g)) 32

/-- The sequence changes its group: its T0 copies leave their tile, which it waits for (Table 4.6), and LAST_STEP is the
new group's step (R156). -/
def moveGroup (d : Device) (slot g : Nat) : Device :=
  let d := tellGroup (dropAllT0 d slot 7) slot g
  let step := (d.group g).step
  let d := { d with groups := d.groups.map (fun (p : Nat × Group) => (p.1, { p.2 with rooms := p.2.rooms.filter (fun r => r.slot ≠ slot) })) }
  let d := modTcb d slot (fun t => { t with group := g, lastStep := step })
  match d.seq? slot with
  | some q =>
    if demoting d slot && q.tcb.waitMask = 0 && (q.tcb.state.running || q.tcb.state = .parked) then
      startWait d slot [FL_SPILL_DONE] false
    else d
  | none => d

/-- A sequence of an offline group moves where it can (R391); one whose COMPACT is pending keeps its scratch, and moves
after it (R227). -/
def moveIfDue (d : Device) (slot : Nat) : Device :=
  match d.seq? slot with
  | none => d
  | some q =>
    if q.inStep || q.ctx.pendCompact || groupOnline d q.tcb.group || q.endSent || q.tcb.state = .finishing then d
    else match moveTarget d q with
      | some g => moveGroup d slot g
      | none => d

/-- A COMPACT is over (R221, R227, R338): what waited for it goes on. -/
def compactOver (d : Device) (tag slot : Nat) : Device :=
  match d.seq? slot with
  | none => d
  | some q =>
    if !q.ctx.pendCompact then d
    else
      let d := modBlk d slot (fun c => { c with pendCompact := false })
      let alone := match q.work with | some w => w.tag = tag && w.entry.kind = K_COMPACT | none => false
      let d := if alone then leaveStep (d.modSeq slot (fun q => { q with work := none })) slot else d
      let d := hashStart (writebackFull d slot q.ctx.pages.length 0) slot
      if q.tcb.state = .finishing then d
      else if q.spec.endDefer then (if q.tcb.state = .parked then d else turnStop d slot q.spec.endReason)
      else if alone then
        let d := moveIfDue d slot
        if q.tcb.parkPending then parkNow d slot else d
      else d

/-- The command that held a COMPACT is complete. -/
def compactDone (d : Device) (tag slot : Nat) : Device :=
  match d.seq? slot with
  | some q => if q.ctx.pendCompact then compactOver (bump d Od.SPEC_STATS 7) tag slot else d
  | none => d

end Sys2Proof.Machine
end

