-- ==== Sys2Proof/Machine/Returns.lean ====
section
/-! DEFINITION. What tiles return (chapter 7, R42 to R45): completions, acknowledged kills, and their timeouts. -/

namespace Sys2Proof.Machine

/-! ### Charges of a completion (R130) -/

/-- Index of the entry of greatest predicted cost, the lowest among equals. -/
def topEntry (es : List WlEntry) : Nat :=
  let m := (es.map WlEntry.price).foldl max 0
  ((indexed 0 es).find? (fun p => p.2.price = m)).elim 0 Prod.fst

/-- Shares of `t` in proportion to the entries' costs; the remainder goes to the greatest. -/
def sharesOf (t : Nat) (es : List WlEntry) : List Nat :=
  let sum := sumBy WlEntry.price es
  let l := es.map (fun e => t * e.price / sum)
  modAt l (topEntry es) (· + (t - sumBy id l))

/-- One entry's share is charged to its client and noted for its request's END. -/
def chargeEntry (d : Device) (e : WlEntry) (ns uj : Nat) : Device :=
  let d := chargeUj (chargeNs d e.client ns) e.client uj
  match d.seq? e.slot with
  | some q => if e.kind ≠ 0 && q.tcb.handle = e.handle then
      d.modSeq e.slot (fun q => { q with engineNs := q.engineNs + ns, energyUj := q.energyUj + uj }) else d
  | none => d

def chargeCommand (d : Device) (c : InFlight) (ns uj : Nat) : Device :=
  ((c.entries.zip (sharesOf ns c.entries)).zip (sharesOf uj c.entries)).foldl (fun d x => chargeEntry d x.1.1 x.1.2 x.2) d

/-! ### The end of a command -/

/-- An entry of a command that is complete (R181). -/
def entryDone (tag : Nat) (d : Device) (e : WlEntry) : Device :=
  if e.kind = K_NOP then d
  else if e.kind = K_COMPACT then compactDone d tag e.slot
  else d.modSeq e.slot (fun q => { q with work := q.work.map (fun w => if w.tag = tag then { w with complete := true } else w) })

/-- What follows the return of commands for the sequences they held. -/
def returned (d : Device) (slots : List Nat) : Device := slots.foldl evictNow (afterReturn d slots)

/-- The COMPLETION was OK and every beat is in. -/
def commandDone (d : Device) (i : Nat) : Device :=
  match Map.find d.inflight i with
  | none => d
  | some c => returned (c.entries.foldl (entryDone (tagOf d i c)) (freeEntry d i)) (commandSlots c)

/-- The command ends with a cause that counts sequences as failed. -/
def commandFailed (d : Device) (i cause : Nat) (failed : Nat → Bool) : Device :=
  match Map.find d.inflight i with
  | none => d
  | some c => returned (failCommand d i cause failed) (commandSlots c)

/-! ### COMPLETION -/

/-- Sequences that FAIL_ENTRY counts as failed (Table 7.6). -/
def failedBy (c : InFlight) (entry slot : Nat) : Bool :=
  if entry = 0xFFFF then true
  else match c.entries[entry]? with
    | some e => e.slot = slot && e.kind ≠ 0
    | none => true

/-- Measured energy of a step (R165). -/
def stepEnergy (d : Device) (c : InFlight) (uj : Nat) : Device :=
  modSteps d c.group (fun st => if st.num = c.step then { st with eMeas := st.eMeas + uj } else st)

/-- An accepted COMPLETION of an issued command. -/
def acceptCompletion (d : Device) (i : Nat) (c : InFlight) (r : Nat) : Device :=
  let st := bf r 211 208
  let st := if 5 ≤ st then 2 else st
  let fail := if 5 ≤ bf r 211 208 then 0xFFFF else bf r 79 64
  let d := chargeCommand (bumpBy d Od.DISPATCH_STATS 8 (bf r 151 112)) c (bf r 207 176) (bf r 175 152)
  let d := returnCredit (stepEnergy d c (bf r 175 152)) c.tile
  let d := d.modInflight i (fun c => { c with cstatus := st, failEntry := fail, lgiExpect := bf r 111 80 })
  if st = 0 then
    if c.lgiSeen = bf r 111 80 then commandDone d i
    else if bf r 111 80 < c.lgiSeen then
      commandFailed (d.modInflight i (fun c => { c with istate := .draining })) i 2 (fun _ => true)
    else d.modInflight i (fun c => { c with istate := .draining })
  else
    let d := commandFailed (bump d Od.DISPATCH_STATS 1) i 1 (failedBy c fail)
    if st = 3 then loseTile d c.tile else d

/-- COMPLETION (R44, R45, R181). -/
def completion (d : Device) (r : Nat) : Device :=
  match byTag d (bf r 255 224) with
  | none => portErr d PERR_DSP_FORMAT
  | some (i, c) =>
    if !chkOk r 32 then
      let d := portErr d PERR_DSP_FORMAT
      if c.revoked then returnCredit d c.tile
      else if c.istate = .issued then
        let d := returnCredit (bump d Od.DISPATCH_STATS 1) c.tile
        commandFailed (d.modInflight i (fun c => { c with failEntry := 0xFFFF })) i 1 (fun _ => true)
      else d
    else if c.revoked then returnCredit (portErr d PERR_DSP_STALE) c.tile
    else if c.istate = .issued then acceptCompletion d i c r
    else d

/-- COMPLETION. -/
def execCompletion (rec_ : BitVec 256) (s : State) : Host.Outcome State Fault Refusal :=
  done s (whenReady s.dev (completion · rec_.toNat))

/-! ### KILL_ACK and timeouts (R44, R187) -/

/-- KILL_ACK: the entry is free; ABANDONED returns the credit, and a late one clears SUSPECT. -/
def killAck (d : Device) (r : Nat) : Device :=
  match byTag d (bf r 127 96) with
  | none => portErr d PERR_DSP_FORMAT
  | some (i, c) =>
    if !chkOk r 16 then portErr d PERR_DSP_FORMAT
    else if !c.revoked then d
    else
      let d := if bf r 83 80 = 0 then returnCredit d c.tile else d
      let d := if c.istate = .orphan then d.modTile c.tile (fun t => { t with suspect := false }) else d
      returned (freeEntry d i) (commandSlots c)

/-- KILL_ACK. -/
def execKillAck (rec_ : BitVec 128) (s : State) : Host.Outcome State Fault Refusal :=
  done s (whenReady s.dev (killAck · rec_.toNat))

/-- CMD_TIMEOUT. -/
def cmdTimeout (d : Device) (i : Nat) : Device :=
  match Map.find d.inflight i with
  | none => d
  | some c =>
    if (c.istate = .issued || c.istate = .draining) && c.dueTick ≤ d.tick then
      commandFailed (bump d Od.DISPATCH_STATS 3) i 3 (fun _ => true)
    else d

/-- CMD_TIMEOUT. -/
def execCmdTimeout (islot : Nat) (s : State) : Host.Outcome State Fault Refusal :=
  done s (whenReady s.dev (cmdTimeout · islot))

/-- KILL_ACK_TIMEOUT: ORPHAN, SUSPECT and TILE_HUNG. -/
def killAckTimeout (d : Device) (i : Nat) : Device :=
  match Map.find d.inflight i with
  | none => d
  | some c =>
    if c.istate = .killing && c.dueTick ≤ d.tick then
      let d := d.modInflight i (fun c => { c with istate := .orphan })
      let d := bump (d.modTile c.tile (fun t => { t with suspect := true })) Od.DISPATCH_STATS 4
      alertLog d ALERT_TILE_HUNG c.tile 0 0 (tagOf d i c)
    else d

/-- KILL_ACK_TIMEOUT. -/
def execKillAckTimeout (islot : Nat) (s : State) : Host.Outcome State Fault Refusal :=
  done s (whenReady s.dev (killAckTimeout · islot))

end Sys2Proof.Machine
end

