-- ==== Sys2Proof/Machine/Lanes.lean ====
section
/-! DEFINITION. Lane groups (R18 to R20, R375, R376, R407): which one serves a piece of work, lane errors, spares and
gating. -/

namespace Sys2Proof.Machine

/-- The group takes new work: open, not gated, no substitution in progress. -/
def LaneGroup.usable (l : LaneGroup) : Bool := l.active ≠ 0 && l.gate = .on && l.retired.isEmpty

def usableGroups (d : Device) : List Nat := ((indexed 0 d.lanes).filter (fun p => p.2.usable)).map Prod.fst

/-- The lane group that serves a piece of work; R20 leaves the assignment open (log entry 23). -/
def laneFor (d : Device) (tag entry unit : Nat) : Option Nat :=
  match usableGroups d with
  | [] => none
  | gs => gs[Config.laneGroup tag entry unit % gs.length]?

def laneIssue (d : Device) (g : Nat) : Device :=
  let now := d.clk.rootcyc
  { d with lanes := modAt d.lanes g (fun l => { l with lastIssue := now }) }

/-! ### Lane errors (R375, R286) -/

/-- A sequence whose work a failing lane may have touched is withdrawn; a tainted selection takes its stage's commands
with it. -/
def withdrawLane (d : Device) (slot : Nat) : Device :=
  match d.seq? slot with
  | none => d
  | some q =>
    let d := if inFanOut q && !q.plan.delivered then
        (inflightOf d slot).foldl (fun d p => killCommand d p.1 5 slot) (bump d Od.SEL_STATS 5)
      else d
    withdrawSeq d slot

/-- Sequences with a digest position on the group, or a selection that it has fed. -/
def laneUsers (d : Device) (g : Nat) : List Nat :=
  (d.seqs.filter (fun p => match p.2.digest with | some x => x.lane = g | none => false)).map Prod.fst
    ++ (d.sels.filter (fun s => s.fedBy.contains g)).map Selection.slot

/-- A lane fails a check; `more`: sequences whose position it was processing. -/
def laneFault (d : Device) (g lane : Nat) (more : List Nat) : Device :=
  ((more ++ laneUsers d g).dedup).foldl withdrawLane (takeLane d g lane)

/-- LANE_PATROL. -/
def execLanePatrol (failing : List (Nat × Nat)) (s : State) : Host.Outcome State Fault Refusal :=
  done s (whenReady s.dev (fun d => failing.foldl (fun d p => laneFault d p.1 p.2 []) d))

/-! ### Spares and gating (R376, R407) -/

/-- LANE_SUBSTITUTION: a slice whose groups are all closed lowers FY_READY. -/
def laneSubstitution (d : Device) (g : Nat) : Device :=
  let d := replaceLane d g
  if d.lanes.all (fun l => l.active = 0) then d.modClk (fun c => { c with ready := false }) else d

/-- LANE_SUBSTITUTION. -/
def execLaneSubstitution (group : Nat) (s : State) : Host.Outcome State Fault Refusal :=
  next s (whenReady s.dev (laneSubstitution · group))

/-- LANE_GROUP_GATE: nothing issued for 4,096 ACLK, which are 8,192 ROOT cycles. -/
def laneGate (d : Device) (g : Nat) : Device :=
  { d with lanes := modAt d.lanes g (fun l =>
      if l.gate = .on && l.lastIssue + 8192 ≤ d.clk.rootcyc then { l with gate := .gated } else l) }

def LaneGroup.ungating (l : LaneGroup) : Bool := match l.gate with | .ungating _ => true | _ => false

/-- The lowest-indexed group that waits starts to ungate, where none does. -/
def ungateNext (d : Device) : Device :=
  if d.lanes.any LaneGroup.ungating then d
  else match (indexed 0 d.lanes).find? (fun p => p.2.gate = .waiting) with
    | some (g, _) =>
      let now := d.clk.rootcyc
      { d with lanes := modAt d.lanes g (fun l => { l with gate := .ungating now }) }
    | none => d

/-- LANE_GROUP_UNGATE: an open group that is gated waits for its turn to ungate. -/
def laneUngate (d : Device) (g : Nat) : Device :=
  ungateNext { d with lanes := modAt d.lanes g (fun l =>
    if l.gate = .gated && l.active ≠ 0 then { l with gate := .waiting } else l) }

/-- Ungating takes 64 ACLK, which are 128 ROOT cycles; the next group follows (R407). -/
def ungateDone (d : Device) : Device :=
  let now := d.clk.rootcyc
  ungateNext { d with lanes := d.lanes.map (fun l => match l.gate with
    | .ungating t => if t + 128 ≤ now then { l with gate := .on, lastIssue := now } else l
    | _ => l) }

/-- LANE_GROUP_GATE. -/
def execLaneGroupGate (group : Nat) (s : State) : Host.Outcome State Fault Refusal :=
  next s (whenReady s.dev (laneGate · group))
/-- LANE_GROUP_UNGATE. -/
def execLaneGroupUngate (group : Nat) (s : State) : Host.Outcome State Fault Refusal :=
  next s (whenReady s.dev (laneUngate · group))

/-! ### Reports -/

/-- LANE_MAP and LANE_ACTIVE (Table 14.8). -/
def laneMap (d : Device) : Nat :=
  (indexed 0 d.lanes).foldl (fun a p => a ||| fields [(16 * p.1 + 5, 16 * p.1, p.2.active), (16 * p.1 + 9, 16 * p.1 + 8, p.2.spares)]) 0

end Sys2Proof.Machine
end

