-- ==== Sys2Proof/Machine/Ingress.lean ====
section
/-! DEFINITION. LGI: the beats that tiles stream to the slice (R46 to R49, R267, R284 to R286, R327). -/

namespace Sys2Proof.Machine

/-! ### The sideband header (Table 2.5) -/

namespace Lgi
def tag (h : Nat) : Nat := bf h 255 224
def entry (h : Nat) : Nat := bf h 223 208
def node (h : Nat) : Nat := bf h 207 200
def unit (h : Nat) : Nat := bf h 199 184
def kind (h : Nat) : Nat := bf h 183 180
def format (h : Nat) : Nat := bf h 179 176
def offset (h : Nat) : Nat := bf h 175 160
def count (h : Nat) : Nat := bf h 159 148
def last (h : Nat) : Bool := bit h 147
def part (h : Nat) : Nat := bf h 146 141
end Lgi

abbrev LK_LOGITS : Nat := 1
abbrev LK_D1 : Nat := 2
abbrev LK_D2 : Nat := 3
abbrev LK_DRAFT : Nat := 4
abbrev LK_CENTROID : Nat := 7

/-- CHK of R32 for LGI: the sideband bits [255:32] followed by the data bytes as carried. -/
def lgiChkOk (h data : Nat) : Bool := h % 2 ^ 32 = crcOf crc32c (leBytes (h >>> 32) 28 ++ leBytes data 2048)

/-- KIND and FORMAT of Table 2.6. -/
def kindFormatOk (k f : Nat) : Bool :=
  if k = LK_LOGITS || k = LK_DRAFT then f ≤ 4 else 2 ≤ k && k ≤ 7 && f = 0

/-! ### Units -/

def LgiUnit.is (u : LgiUnit) (tag entry node unit kind : Nat) : Bool :=
  u.tag = tag && u.entry = entry && u.node = node && u.unit = unit && u.kind = kind

def unitOf (d : Device) (h : Nat) : Option LgiUnit :=
  d.units.find? (fun u => u.is (Lgi.tag h) (Lgi.entry h) (Lgi.node h) (Lgi.unit h) (Lgi.kind h))

/-- Bytes of one digest. -/
def digestSize (k : Nat) : Nat := if k = LK_D2 then 96 else 16

/-- The bytes of a unit fit its kind: a block of the vocabulary, whole digests of consecutive blocks, or whole score
entries, at most 4,096 of them (R46, R285). -/
def unitBytesOk (v idw k f unit total : Nat) (last : Bool) : Bool :=
  if k = LK_LOGITS || k = LK_DRAFT then
    let n := blockTokens v unit * formatBytes f
    if last then total = n else total < n
  else if k = LK_D1 || k = LK_D2 then
    last && total % digestSize k = 0 && unit + total / digestSize k ≤ blocksOf v
  else total % lgiEntryBytes idw = 0 && total ≤ 4096 * lgiEntryBytes idw

/-- Score kind of an IDW (Table 10.3). -/
def scoreKind (idw : Nat) : Nat := if idw = 0 then LK_CENTROID else if idw = 1 then 5 else 6

/-- The KIND and indices are permitted for an entry whose model's vocabulary has `v` tokens (R267, R285, R327): a matter
of the entry alone, whatever has become of its sequence. -/
def unitAllowed (v : Nat) (e : WlEntry) (h : Nat) : Bool :=
  let k := Lgi.kind h
  let n := Lgi.node h
  let u := Lgi.unit h
  if e.isStage then
    e.kind ≠ K_EMBED && n = 0 && u = e.list && u < Sel.lists e.sel && k = scoreKind (Sel.idw e.sel)
  else if e.positions = 0 then false
  else if e.kind = K_VERIFY then u < blocksOf v && n ≤ e.nodes && (k = LK_LOGITS || (k = LK_DRAFT && e.chain && n ≠ 0))
  else if e.logitMode = 1 then k = LK_LOGITS && n = 0 && u < blocksOf v
  else
    -- after FDONE, and after the blocks of FALL, nothing more is taken (R264, R267)
    n = 0 && !e.fdone && (k = e.logitMode || (k = LK_LOGITS && e.asked.contains u))

/-- The sequence still works on the command: its unit is staged. -/
def stages (q : Seq) (tag : Nat) : Bool :=
  q.tcb.state.running && (match q.work with | some w => w.tag = tag | none => false)

/-- A stage entry's beats are folded while the selection stands. -/
def folds (q : Seq) (e : WlEntry) : Bool := q.tcb.state.running && e.isStage && !q.plan.delivered

/-- The checks of R48, of the command's entry and of the unit. A COUNT of 0 or above 2,048, and a beat that is not full
without LAST, are of wrong form as well (log entry 49). -/
def beatOk (d : Device) (c : InFlight) (h data : Nat) : Bool :=
  lgiChkOk h data && kindFormatOk (Lgi.kind h) (Lgi.format h) && Lgi.part h = c.partition
    && 1 ≤ Lgi.count h && Lgi.count h ≤ 2048 && (Lgi.last h || Lgi.count h = 2048)
    && (match unitOf d h with
        | some u => !u.complete && Lgi.offset h = u.nextOff && u.format = Lgi.format h
        | none => Lgi.offset h = 0)
    && (match c.entries[Lgi.entry h]? with
        | none => false
        | some e =>
          e.kind ≠ 0 && unitAllowed (vocabOf d c.model) e h
            && unitBytesOk (vocabOf d c.model) (Sel.idw e.sel) (Lgi.kind h) (Lgi.format h) (Lgi.unit h)
                 (2048 * Lgi.offset h + Lgi.count h) (Lgi.last h))

/-! ### Staging and folding -/

/-- The beat joins its unit; `keep`: its bytes are held for the lanes. A unit whose bytes are not held keeps its place
in the order of beats (R48). -/
def stageBeat (d : Device) (slot h data : Nat) (keep : Bool) : Device :=
  let n := Lgi.count h
  let bits := (data % 2 ^ (8 * n)) <<< (8 * 2048 * Lgi.offset h)
  let add (u : LgiUnit) : LgiUnit :=
    { u with
      nextOff := u.nextOff + 1, bytes := u.bytes + n, beats := if keep then u.beats + 1 else 0
      data := if keep then u.data ||| bits else 0, complete := Lgi.last h, gone := !keep }
  match unitOf d h with
  | some _ =>
    { d with units := modFirst (fun u => u.is (Lgi.tag h) (Lgi.entry h) (Lgi.node h) (Lgi.unit h) (Lgi.kind h)) add d.units }
  | none =>
    { d with units := d.units ++ [add
        { tag := Lgi.tag h, slot := slot, entry := Lgi.entry h, node := Lgi.node h, unit := Lgi.unit h
          kind := Lgi.kind h, format := Lgi.format h }] }

/-- A beat of a score list is folded into the stage's selection; its credit returns. -/
def foldBeat (d : Device) (i slot h data : Nat) : Device :=
  match selFor d slot with
  | none => emit d (.lgiCredit 1)
  | some s =>
    let idw := Sel.idw s.desc.toNat
    let n := Lgi.count h / lgiEntryBytes idw
    let j := 2048 * Lgi.offset h / lgiEntryBytes idw
    let d := d.modInflight i (fun c => { c with fed := if c.fed.contains slot then c.fed else c.fed ++ [slot] })
    let d := match laneFor d (Lgi.tag h) (Lgi.entry h) (Lgi.unit h) with
      | some g => laneIssue (modSel d slot (fun s => { s with fedBy := if s.fedBy.contains g then s.fedBy else s.fedBy ++ [g] })) g
      | none => d
    let d := match d.seq? slot with | some q => chargeLanes d q.tcb.client n | none => d
    emit (feedSel (stageBeat d slot h data false) slot (beatEntries idw (Lgi.unit h) n j data)) (.lgiCredit 1)

/-- An accepted beat. -/
def acceptBeat (d : Device) (i : Nat) (c : InFlight) (h data : Nat) : Device :=
  let d := d.modInflight i (fun c => { c with lgiSeen := c.lgiSeen + 1 })
  let e := c.entries.getD (Lgi.entry h) {}
  let d := chargeBytes d e.client (Lgi.count h)
  let d := match d.seq? e.slot with
    | some q =>
      if stages q (Lgi.tag h) && !e.isStage then stageBeat d e.slot h data true
      else if folds q e then foldBeat d i e.slot h data
      else emit (stageBeat d e.slot h data false) (.lgiCredit 1)
    | none => emit (stageBeat d e.slot h data false) (.lgiCredit 1)
  match Map.find d.inflight i with
  | some c => if c.istate = .draining && c.lgiSeen = c.lgiExpect then commandDone d i else d
  | none => d

/-- LGI_BEAT (R48). -/
def lgiBeat (d : Device) (h data : Nat) : Device :=
  match byTag d (Lgi.tag h) with
  | none => emit (portErr d PERR_LGI_STALE) (.lgiCredit 1)
  | some (i, c) =>
    if c.revoked then emit (portErr d PERR_LGI_STALE) (.lgiCredit 1)
    else if beatOk d c h data then acceptBeat d i c h data
    else commandFailed (emit (portErr d PERR_LGI_FORMAT) (.lgiCredit 1)) i 2 (fun _ => true)

/-- LGI_BEAT. -/
def execLgiBeat (hdr : BitVec 256) (data : BitVec 16384) (s : State) : Host.Outcome State Fault Refusal :=
  done s (whenReady s.dev (fun d => lgiBeat d hdr.toNat data.toNat))

end Sys2Proof.Machine
end

