-- ==== Sys2Proof/Machine/Positions.lean ====
section
/-! DEFINITION. Positions on the lanes: what a position is processed with (R248, R250, R328), its distribution, the draft
verification of chapter 12, and what a step emits for a sequence (R259, R260, R269, R335). -/

namespace Sys2Proof.Machine

/-! ### What a position is processed with -/

/-- Nodes of the path from the root to node j, the root left out. -/
def nodePath (nodes : List DraftNode) : Nat → Nat → List Nat
  | 0, _ => []
  | fuel + 1, j => if j = 0 then [] else
    match nodes[j - 1]? with
    | some n => nodePath nodes fuel n.parent ++ [j]
    | none => []

def nodeToken (nodes : List DraftNode) (j : Nat) : Nat := (nodes[j - 1]?).elim 0 DraftNode.token

/-- Position of the token that node `n` of an entry yields. -/
def yieldPos (q : Seq) (e : WlEntry) (n : Nat) : Nat := e.newPos + (nodePath q.spec.nodes 65 n).length

/-- The window ring with the tokens of a node's path (R328). -/
def pathRing (q : Seq) (e : WlEntry) (n : Nat) : Map Nat :=
  (indexed e.newPos (nodePath q.spec.nodes 65 n)).foldl (fun m p => Map.put m (p.1 % 64) (nodeToken q.spec.nodes p.2))
    q.samp.ring

def biasList (x n : Nat) : List (Nat × Nat) :=
  (List.range n).map (fun i => let b := bytesAt x (8 * i) 8; (bf b 63 40, bf b 31 0))

/-- Code of the mask that a node reads (R248). -/
def maskCode (h n : Nat) : Nat := if Hdr.maskKind h = 2 then 2 + n else 2

def posIn (d : Device) (q : Seq) (e : WlEntry) (n : Nat) : PosIn :=
  let h := q.samp.header.toNat
  { hdr := h, vocab := vocabOf d q.version, bias := biasList (Map.getD q.inputs 0 0) (Hdr.numBias h)
    mask := if Hdr.maskKind h = 0 then none else some (Map.getD q.inputs (maskCode h n) 0)
    window := windowTokens { q with samp := { q.samp with ring := pathRing q e n } } (yieldPos q e n) }

/-- The sequence's word of a domain and position (R299, R329). -/
def wordOf (d : Device) (q : Seq) (dom pos : Nat) : Nat :=
  randWord (odGet d Od.TABLE_KEY 0) q.samp.rngClass (Hdr.seed q.samp.header.toNat) dom pos 0 0

/-! ### Units of a position -/

def unitFor (d : Device) (w : Work) (node kind unit : Nat) : Option LgiUnit :=
  d.units.find? (fun u => u.is w.tag w.idx node unit kind)

/-- Every block of a node has arrived. -/
def blocksIn (d : Device) (w : Work) (v node kind : Nat) : Bool :=
  (List.range (blocksOf v)).all (fun b => match unitFor d w node kind b with | some u => u.complete | none => false)

/-- The logits of a block, with their tokens. -/
def blockLogits (v : Nat) (u : LgiUnit) : List (Nat × Nat) :=
  (List.range (blockTokens v u.unit)).map (fun j =>
    (4096 * u.unit + j, logitF32 u.format (bytesAt u.data (j * formatBytes u.format) (formatBytes u.format))))

/-- The block as the processors make it (R251). -/
def exactBlk (p : PosIn) (u : LgiUnit) : Blk :=
  Blk.ofClasses u.unit (blockTokens p.vocab u.unit) ((blockLogits p.vocab u).map (fun x => (x.1, p.process x.1 x.2)))

def exactBlks (d : Device) (w : Work) (p : PosIn) (node kind : Nat) : List Blk :=
  (List.range (blocksOf p.vocab)).filterMap (fun b => (unitFor d w node kind b).map (exactBlk p))

/-- The lanes release the beats of a node; that the units came is remembered (R48). -/
def releaseNode (d : Device) (w : Work) (node : Nat) : Device :=
  let mine (u : LgiUnit) : Bool := u.tag = w.tag && u.entry = w.idx && u.node = node && !u.score
  let n := sumBy LgiUnit.beats (d.units.filter mine)
  let d := { d with units := d.units.map (fun u => if mine u then { u with beats := 0, data := 0 } else u) }
  if n = 0 then d else emit d (.lgiCredit n)

/-! ### Verification (R330 to R334) -/

/-- What a step's draws give before the ending rules: tokens with the distributions they come from, the nodes of the
path, and how the run ended. -/
structure Run where
  toks : List (Nat × Dist) := []
  path : List Nat := [0]
  accepted : Nat := 0
  full : Bool := false
  noValid : Bool := false
  /-- words drawn for it -/
  words : Nat := 0
deriving DecidableEq, Repr

def childOf (nodes : List DraftNode) (cur tok : Nat) : Option Nat :=
  ((indexed 1 nodes).find? (fun p => p.2.parent = cur && p.2.token = tok)).map Prod.fst

def isLeaf (nodes : List DraftNode) (cur : Nat) : Bool := !nodes.any (fun n => n.parent = cur)

/-- R330. -/
def treeRun (nodes : List DraftNode) (dists : Map Dist) : Nat → Nat → Run → Run
  | 0, _, r => r
  | fuel + 1, cur, r =>
    let dd := Map.getD dists cur {}
    if !dd.valid then { r with noValid := true, full := isLeaf nodes cur }
    else
      let r := { r with toks := r.toks ++ [(dd.drawn, dd)] }
      match childOf nodes cur dd.drawn with
      | none => { r with full := isLeaf nodes cur }
      | some c => treeRun nodes dists fuel c { r with path := r.path ++ [c], accepted := r.accepted + 1 }

/-- Key of node j's draft distribution. -/
def draftKey (j : Nat) : Nat := 128 + j

/-- R333 from draft node j on. -/
def chainRun (d : Device) (q : Seq) (pos n : Nat) : Nat → Nat → Run → Run
  | 0, _, r => r
  | fuel + 1, j, r =>
    let pd := Map.getD q.dists (j - 1) {}
    if !pd.valid then { r with noValid := true, full := n < j }
    else if n < j then
      { r with toks := r.toks ++ [(pd.drawn, pd)], full := true, words := r.words + ofBool (!pd.greedy) }
    else
      let qd := Map.getD q.dists (draftKey j) {}
      let t := nodeToken q.spec.nodes j
      let p := probOf pd t
      let qq := probOf qd t
      if qq ≠ 0 && wordOf d q 2 (pos + j) * qq < p <<< 64 then
        chainRun d q pos n fuel (j + 1)
          { r with toks := r.toks ++ [(t, pd)], path := r.path ++ [j], accepted := r.accepted + 1, words := r.words + 1 }
      else
        { r with toks := r.toks ++ [((residualDraw pd qd (wordOf d q 3 (pos + j))).getD 0, pd)], words := r.words + 2 }

/-! ### Ending rules (R269, R335) -/

/-- Tokens emitted in the turn that stand below the new position, at most 16. -/
def emittedBefore (q : Seq) (pos : Nat) : List Nat :=
  (List.range 16).filterMap (fun i =>
    if q.samp.genStart + 16 ≤ pos + i && i + pos < pos + 16 && 16 ≤ pos + i then Map.find q.samp.ring ((pos + i - 16) % 64) else none)

def stopWords (x j n : Nat) : List Nat := (List.range n).map (fun i => bytesAt x (64 * j + 4 * i) 4)

/-- The reason for which the token at the end of `hist` ends the turn; `t`: its position in the turn. -/
def endReasonOf (q : Seq) (hist : List Nat) (t : Nat) : Option Nat :=
  let h := q.samp.header.toNat
  let tok := hist.getLastD 0
  let stops := Map.getD q.inputs 1 0
  if (List.range (Hdr.numEnd h)).any (fun j => Hdr.endTok h j = tok) then some 1
  else if (List.range (Hdr.numStop h)).any (fun j =>
      let n := Hdr.stopLen h j
      n ≤ hist.length && hist.drop (hist.length - n) = stopWords stops j n) then some 0
  else if t + 1 = q.maxTokens then some 2
  else none

/-- Tokens up to the first that ends the turn, and its reason. -/
def cutRun (q : Seq) : List Nat → Nat → List (Nat × Dist) → List (Nat × Dist) × Option Nat
  | _, _, [] => ([], none)
  | hist, t, x :: l =>
    let hist := hist ++ [x.1]
    match endReasonOf q hist t with
    | some r => ([x], some r)
    | none => let c := cutRun q hist (t + 1) l; (x :: c.1, c.2)

/-! ### What is reported of a token (R259, R260) -/

def gwIn (dd : Dist) (t : Nat) : Nat := ((dd.kept.find? (fun x => x.1 = t)).map Prod.snd).getD 0

/-- Table 9.3. -/
def reportBits (dd : Dist) (tok lp lmode fetched : Nat) (mismatch : Bool) : Nat :=
  fields [(511, 376, dd.ssel), (375, 240, dd.s - dd.ssel), (239, 215, dd.nan), (214, 190, dd.masked),
    (189, 165, dd.underflow), (164, 141, tok), (140, 140, ofBool mismatch), (139, 139, ofBool dd.infUniform),
    (138, 138, ofBool dd.greedy), (137, 136, lmode), (135, 123, fetched), (63, 32, lp)]

/-- A token written, with its alternatives padded to N_ALT. -/
def emitOf (h lmode fetched : Nat) (mismatch : Bool) (x : Nat × Dist) : Emit :=
  let lp := lnRatio (gwIn x.2 x.1) x.2.s
  let alts := x.2.alts.map (fun a => (a.1, BitVec.ofNat 32 (lnRatio a.2 x.2.s)))
  { token := x.1, lp := BitVec.ofNat 32 lp
    alts := alts ++ List.replicate (Hdr.nAlt h - alts.length) (0xFFFFFF, BitVec.ofNat 32 f32NaNBits)
    report := BitVec.ofNat 512 (reportBits x.2 x.1 lp lmode fetched mismatch) }

/-- The lanes' outcome for the sequence's step (R183). -/
def setOutcome (d : Device) (slot : Nat) (e : WlEntry) (r : Run) (fetched : Nat) (mismatch : Bool) : Device :=
  match d.seq? slot with
  | none => d
  | some q =>
    let h := q.samp.header.toNat
    let c := cutRun q (emittedBefore q e.newPos) q.tcb.tokenEnd r.toks
    let noValid : Bool := r.noValid && c.2.isNone
    (bumpBy d Od.RNG_STATS 2 r.words).modSeq slot (fun q => { q with outcome :=
      { emits := c.1.map (emitOf h e.logitMode fetched mismatch), ends := c.2, noValid := noValid, accepted := r.accepted
        full := r.full, path := r.path.take c.1.length, ready := true } })

/-! ### SAMPLE_POSITION (R258, R328) -/

/-- CHAIN_REJECT is in force for the entry. -/
def chainMode (q : Seq) (e : WlEntry) : Bool := e.kind = K_VERIFY && Hdr.specMode q.samp.header.toNat = 1

/-- The position needs random words. -/
def drawsWords (q : Seq) (e : WlEntry) : Bool := f32Mag (Hdr.temp q.samp.header.toNat) ≠ 0 || chainMode q e

/-- The position needs a class-T word. -/
def needsTable (q : Seq) (e : WlEntry) : Bool := q.samp.rngClass = 0 && drawsWords q e

/-- A position's work: held while the table is generated where it draws words, since generation holds both pipes, and
given up with the table's regeneration where a class-T word that it reads is uncorrectable (R304, R311). -/
def tableRead (d : Device) (q : Seq) (e : WlEntry) (hz : Hazard) (f : Device → Device) : Device :=
  if drawsWords q e && d.clk.tableBusy.isSome then d
  else match needsTable q e, hz.table with
    | true, some a => tableError d a
    | _, _ => f d

/-- Logits, draft logits and inputs of the position are present, and it has not been processed. -/
def positionReady (d : Device) (q : Seq) (w : Work) (node : Nat) : Bool :=
  let e := w.entry
  let v := vocabOf d q.version
  e.logitMode = 1 && node < e.positions && q.tcb.state.running && !q.outcome.ready && !Map.has q.dists node
    && q.inputsDue = 0 && !q.tailDue && blocksIn d w v node LK_LOGITS && (!chainMode q e || node = 0 || blocksIn d w v node LK_DRAFT)

/-- Counts of a processed distribution: its held selections and its lane energy. -/
def countDist (d : Device) (q : Seq) (p : PosIn) (bs : List Blk) (elems : Nat) : Device :=
  let s := heldSelections p bs
  chargeLanes (bumpBy (bumpBy d Od.SEL_STATS 0 s.1) Od.SEL_STATS 3 s.2) q.tcb.client elems

/-- Counts of a processed position: those of its distribution, and its statistics (R272). A draft distribution is no
position (log entry 90). -/
def countPosition (d : Device) (q : Seq) (p : PosIn) (bs : List Blk) (dd : Dist) (elems : Nat) : Device :=
  countDist (bumpBy (bump d Od.SAMPLE_STATS 0) Od.SAMPLE_STATS 1 dd.nan) q p bs elems

/-- Every node of the entry has its distribution. -/
def nodesDone (q : Seq) (e : WlEntry) : Bool :=
  (List.range e.positions).all (fun n => Map.has q.dists n && (!chainMode q e || n = 0 || Map.has q.dists (draftKey n)))

def runOf (d : Device) (q : Seq) (e : WlEntry) : Run :=
  if chainMode q e then chainRun d q e.pos e.nodes (e.nodes + 2) 1 {}
  else treeRun (if e.kind = K_VERIFY then q.spec.nodes else []) q.dists (e.nodes + 2) 0 {}

/-- Processes a node on lane group `g`. -/
def sampleNode (d : Device) (slot : Nat) (q : Seq) (w : Work) (node g : Nat) : Device :=
  let e := w.entry
  let p := posIn d q e node
  let bs := exactBlks d w p node LK_LOGITS
  let r := resolve p bs (wordOf d q 1 (yieldPos q e node))
  let d := laneIssue (countPosition d q p bs r.1 p.vocab) g
  let drawn : Bool := r.1.valid && !r.1.greedy && !chainMode q e
  let d := bumpBy d Od.RNG_STATS 2 (ofBool drawn)
  let d := d.modSeq slot (fun q => { q with dists := Map.put q.dists node r.1 })
  let d := if chainMode q e && node ≠ 0 then
      let p := posIn d q e (node - 1)
      let bs := exactBlks d w p node LK_DRAFT
      let rd := resolve p bs 0
      (countDist d q p bs p.vocab).modSeq slot (fun q => { q with
        dists := Map.put q.dists (draftKey node) rd.1 })
    else d
  let d := releaseNode d w node
  match d.seq? slot with
  | some q => if nodesDone q e then setOutcome d slot e (runOf d q e) 0 false else d
  | none => d

/-- SAMPLE_POSITION. -/
def samplePosition (d : Device) (slot node : Nat) (hz : Hazard) : Device :=
  match d.seq? slot with
  | none => d
  | some q =>
    match q.work with
    | none => d
    | some w =>
      if !positionReady d q w node then d
      else match hz.lane, laneFor d w.tag w.idx node with
        | some (g, l), _ => laneFault d g l [slot]
        | none, none => d
        | none, some g => tableRead d q w.entry hz (fun d => sampleNode d slot q w node g)

/-- SAMPLE_POSITION. -/
def execSamplePosition (slot node : Nat) (hz : Hazard) (s : State) : Host.Outcome State Fault Refusal :=
  done s (whenReady s.dev (fun d => samplePosition d slot node hz))

/-! ### DIGEST_ROUND (R263 to R268) -/

/-- The digest of block b, where its unit is complete. -/
def digestOf (d : Device) (w : Work) (v kind b : Nat) : Option Blk :=
  (d.units.find? (fun u => u.tag = w.tag && u.entry = w.idx && u.kind = kind && u.complete && u.unit ≤ b
      && b < u.unit + u.bytes / digestSize kind)).map (fun u =>
    Blk.ofDigest b (blockTokens v b) (bytesAt u.data (digestSize kind * (b - u.unit)) (digestSize kind)) (kind = LK_D2))

/-- The fetch record of the position's slot (Table 9.6). -/
def writeFetch (d : Device) (slot : Nat) (w : Work) (round : Nat) (blocks : List Nat) (fall fdone : Bool) : Device :=
  let list := (indexed 0 blocks).map (fun p => (16 * p.1 + 15, 16 * p.1, p.2))
  fabiWrite d (.sampleBox slot w.islot) (sampleBoxAddr d slot + 64) 64
    (fields ([(511, 480, w.tag), (479, 472, round), (471, 467, blocks.length), (466, 466, ofBool fall),
      (465, 465, ofBool fdone)] ++ list))

def setDigest (d : Device) (slot : Nat) (x : Option DigestPos) : Device := d.modSeq slot (fun q => { q with digest := x })

/-- What the fetch records have asked the tile for, for the checks of its units (R267). -/
def noteAsked (d : Device) (w : Work) (blocks : List Nat) (fdone : Bool) : Device :=
  d.modInflight w.islot (fun c => { c with
    entries := modAt c.entries w.idx (fun e => { e with asked := e.asked ++ blocks, fdone := fdone }) })

/-- Requests the next round of blocks. -/
def requestRound (d : Device) (slot : Nat) (w : Work) (x : DigestPos) (blocks : List Nat) : Device :=
  let d := bumpBy (bump d Od.SAMPLE_STATS 4) Od.SAMPLE_STATS 6 blocks.length
  setDigest (noteAsked (writeFetch d slot w (x.round + 1) blocks false false) w blocks false) slot
    (some { x with round := x.round + 1, requested := blocks })

/-- Requests every block not yet sent. -/
def requestFall (d : Device) (slot nb : Nat) (w : Work) (x : DigestPos) : Device :=
  let rest := (List.range nb).filter (fun b => !x.fetched.contains b)
  let d := bumpBy (bump d Od.SAMPLE_STATS 5) Od.SAMPLE_STATS 6 rest.length
  setDigest (noteAsked (writeFetch d slot w (x.round + 1) [] true false) w rest false) slot
    (some { x with round := x.round + 1, requested := rest, fall := true })

/-- The position is resolved: its token is drawn. -/
def digestFinish (d : Device) (slot : Nat) (q : Seq) (w : Work) (x : DigestPos) (p : PosIn) (bs : List Blk) (u : Nat) : Device :=
  let r := resolve p bs u
  let elems := sumBy (fun b => if b.elems.isSome then b.size else 0) bs
  let d := countPosition d q p bs r.1 elems
  let drawn : Bool := r.1.valid && !r.1.greedy
  let d := bumpBy d Od.RNG_STATS 2 (ofBool drawn)
  let d := noteAsked (if x.fall then d else writeFetch d slot w (x.round + 1) [] false true) w [] true
  let d := d.modSeq slot (fun q => { q with digest := none, dists := Map.put q.dists 0 r.1 })
  let run : Run := if r.1.valid then { toks := [(r.1.drawn, r.1)] } else { noValid := true }
  laneIssue (setOutcome (releaseNode d w 0) slot w.entry run x.fetched.length x.mismatch) x.lane

/-- One pass of the loop of R265 with every requested block in. -/
def digestStep (d : Device) (slot : Nat) (q : Seq) (w : Work) (x : DigestPos) : Device :=
  let p := posIn d q w.entry 0
  let nb := blocksOf p.vocab
  let kind := w.entry.logitMode
  let d2 : Bool := kind = LK_D2
  let digests := (List.range nb).filterMap (digestOf d w p.vocab kind)
  let exact (b : Nat) : Option Blk := (unitFor d w 0 LK_LOGITS b).map (exactBlk p)
  let bad : Bool := !x.mismatch && x.requested.any (fun b =>
    match unitFor d w 0 LK_LOGITS b, digests[b]? with
    | some u, some g => !(digestBlk (scaleOf p.hdr) b (blockTokens p.vocab b) (blockLogits p.vocab u)).digestEq g d2
    | _, _ => false)
  let x := { x with fetched := x.fetched ++ x.requested, requested := [], mismatch := x.mismatch || bad }
  let d := if bad then bump d Od.SAMPLE_STATS 3 else d
  let bs := (indexed 0 digests).map (fun g => if x.fetched.contains g.1 then (exact g.1).getD g.2 else g.2)
  let u := wordOf d q 1 w.entry.newPos
  if x.fall then digestFinish d slot q w x p bs u
  else if x.mismatch || bs.any (fun b => b.elems.isNone && b.m = f32Inf) then requestFall d slot nb w x
  else
    let need := needBlocks p bs
    let need := if need.isEmpty then needDraw p bs u else need
    if need.isEmpty then digestFinish d slot q w x p bs u
    else if 28 < need.length || x.round = odGet d Od.DIGEST_ROUNDS_MAX 0 then requestFall d slot nb w x
    else requestRound d slot w x need

/-- Every digest and input of the position is present, and it has not been resolved. -/
def digestReady (d : Device) (q : Seq) (w : Work) : Bool :=
  let v := vocabOf d q.version
  2 ≤ w.entry.logitMode && q.tcb.state.running && !q.outcome.ready && q.inputsDue = 0 && !q.tailDue
    && (List.range (blocksOf v)).all (fun b => (digestOf d w v w.entry.logitMode b).isSome)

/-- The rounds of a position whose digests are in; the blocks of corrected tokens are requested first. -/
def digestRounds (d : Device) (slot : Nat) (q : Seq) (w : Work) : Device :=
  match q.digest with
  | some x =>
    if x.requested.all (fun b => match unitFor d w 0 LK_LOGITS b with | some u => u.complete | none => false) then
      digestStep d slot q w x
    else d
  | none =>
    match laneFor d w.tag w.idx 0 with
    | none => d
    | some g =>
      let x : DigestPos := { islot := w.islot, lane := g }
      match correctedBlocks q w.entry.newPos with
      | [] => digestStep d slot q w x
      | bs => requestRound d slot w x (sortBy (· ≤ ·) bs)

/-- DIGEST_ROUND. -/
def digestRound (d : Device) (slot : Nat) (hz : Hazard) : Device :=
  match d.seq? slot with
  | none => d
  | some q =>
    match q.work with
    | none => d
    | some w =>
      if !digestReady d q w then d
      else match hz.lane with
        | some (g, l) => laneFault d g l [slot]
        | none => tableRead d q w.entry hz (fun d => digestRounds d slot q w)

/-- DIGEST_ROUND. -/
def execDigestRound (slot : Nat) (s : State) (hz : Hazard := ⟨none, none⟩) : Host.Outcome State Fault Refusal :=
  done s (whenReady s.dev (fun d => digestRound d slot hz))

end Sys2Proof.Machine
end

