-- ==== Sys2Proof/Machine/Commit.lean ====
section
/-! DEFINITION. The commit of a sequence (R183, R184, R226, R335, R336), the drafts it asks for (R319, R324, R340, R341)
and those that are posted (R322, R323). -/

namespace Sys2Proof.Machine

/-! ### Drafts -/

/-- The staged draft is freed (R323). -/
def freeDraft (d : Device) (slot : Nat) : Device := modSpec d slot (fun s => { s with dvalid := false })

/-- The draft request of a commit, with its wait; a sequence whose turn end is deferred stays in DECODE (R338). -/
def requestDraft (d : Device) (slot : Nat) : Device :=
  match d.seq? slot with
  | none => d
  | some q =>
    if !speculates d q || q.tcb.state ≠ .decode || q.spec.suspLeft ≠ 0 || depthMax q = 0 then d
    else
      let d := writeRequest d slot false
      let w := odGet d Od.SPEC_DRAFT_WAIT 0
      if w = 0 || q.spec.endDefer then d
      else startWait (armTimer d slot true TK_BACKOFF (d.tick + w)) slot [FL_DRAFT_READY, FL_TMR_B] true

/-- DLEN and ZERO_RUN after a VERIFY (R340). -/
def draftLength (h dlen accepted : Nat) (full : Bool) (zero : Nat) : Nat × Nat :=
  if accepted = 0 then (max 1 (dlen / 2), min 255 (zero + 1))
  else if full then (min (Hdr.specMax h) (2 * dlen), 0)
  else (dlen, 0)

/-- What a commit does to the speculation block before its request: the draft that was used is freed, R340, the start
of a suspension, and a suspension that runs (R341). -/
def commitDraft (d : Device) (slot : Nat) (w : Work) (o : Outcome) : Device :=
  match d.seq? slot with
  | none => d
  | some q =>
    let h := q.samp.header.toNat
    if w.entry.kind = K_VERIFY then
      let r := draftLength h q.spec.dlen o.accepted o.full q.spec.zeroRun
      let d := bumpBy (bumpBy (bump d Od.SPEC_STATS 2) Od.SPEC_STATS 3 w.entry.nodes) Od.SPEC_STATS 4 o.accepted
      let d := if o.accepted = 0 then bump d Od.SPEC_STATS 5 else d
      let d := modSpec d slot (fun s => { s with
        dvalid := false, dlen := r.1, zeroRun := r.2
        drafted := satAdd (2 ^ 32 - 1) s.drafted w.entry.nodes, accepted := satAdd (2 ^ 32 - 1) s.accepted o.accepted })
      if odGet d Od.SPEC_FAIL_LIMIT 0 ≤ r.2 && speculates d q then
        let n := odGet d Od.SPEC_SUSPEND_STEPS 0
        writeRequest (bump (modSpec d slot (fun s => { s with suspLeft := n, zeroRun := 0 })) Od.SPEC_STATS 6) slot true
      else d
    else
      let d := if q.spec.dvalid && q.spec.dpos ≠ q.ctx.clen then freeDraft d slot else d
      if speculates d q then modSpec d slot (fun s => { s with suspLeft := s.suspLeft - 1 }) else d

/-! ### The commit of class G -/

/-- The conditions of R183. -/
def commitReady (q : Seq) : Bool :=
  q.tcb.state.running &&
    (match q.tcb.cls with
     | .g => match q.work with
       | some w => w.complete && w.entry.kind ≠ K_COMPACT && (w.entry.positions = 0 || q.outcome.ready)
       | none => false
     | _ =>
       if q.plan.stage = 0 then (match q.work with | some w => w.complete | none => false)
       else inFanOut q && q.plan.delivered)

/-- Table 3.7. -/
def logEntry (tok : Nat) (lp : F32) : Nat := fields [(63, 40, tok), (39, 39, 1), (31, 0, lp.toNat)]

def logEntries (es : List (Nat × F32)) : Nat := es.reverse.foldl (fun acc e => acc <<< 64 ||| logEntry e.1 e.2) 0

/-- A token-log or report write of a commit, counted for R39. -/
def logWrite (d : Device) (slot : Nat) (kind : FabiKind) (addr len data : Nat) : Device :=
  fabiWrite (d.modSeq slot (fun q => { q with logWrites := q.logWrites + 1 })) kind addr len data

/-- Action 1 of R184: tokens, alternatives and reports (R84, R260). -/
def writeTokens (d : Device) (slot : Nat) (q : Seq) (es : List Emit) : Device :=
  let h := q.samp.header.toNat
  let t := q.tcb.tokenEnd
  let n := Hdr.nAlt h
  if es.isEmpty then d
  else
    let d := logWrite d slot (.tokenLog slot) (q.toklogAddr + 8 * t) (8 * es.length) (logEntries (es.map (fun e => (e.token, e.lp))))
    let d := if n = 0 then d
      else logWrite d slot (.tokenLog slot) (q.toklogAddr + 8 * q.maxTokens + 8 * n * t) (8 * n * es.length)
        (logEntries ((es.map (fun e => e.alts.take n)).flatten))
    if Hdr.reportAddr h = 0 then d
    else logWrite d slot (.report slot) (Hdr.reportAddr h + 64 * t) (64 * es.length)
      (es.reverse.foldl (fun acc e => acc <<< 512 ||| e.report.toNat) 0)

/-- Pages of an entry whose T0 copy went while the command ran: what was written there is lost (R239). -/
def loseGone (d : Device) (slot : Nat) : List Nat → Device
  | [] => d
  | k :: l =>
    match d.seq? slot with
    | none => d
    | some q => if (t0Copy d (pageAt q k)).isNone then losePage d slot k none else loseGone d slot l

/-- The re-prefill chunk of an entry `pos` to `stop` (R226, R239). -/
def commitRefill (d : Device) (slot pos stop : Nat) : Device :=
  let d := modBlk d slot (fun c => if c.recomputeFrom = pos then
    { c with recomputeFrom := stop, recompute := decide (stop < c.clen), refillBegun := decide (stop < c.clen) } else c)
  match d.seq? slot with
  | none => d
  | some q =>
    let p := pageTokens d q.version
    let len := if q.ctx.recompute then min stop q.ctx.recomputeFrom else stop
    fillBelow (d.modSeq slot (fun q => { q with replay := none, replaySince := none })) slot p len q.ctx.pages.length 0

/-- CLEN advances (R226, R335). -/
def commitLength (d : Device) (slot clen : Nat) : Device :=
  let d := modBlk d slot (fun c => { c with clen := clen })
  match d.seq? slot with
  | none => d
  | some q =>
    let p := pageTokens d q.version
    fillBelow d slot p (if q.ctx.recompute then min clen q.ctx.recomputeFrom else clen) q.ctx.pages.length 0

/-- Action 2 of R184. -/
def commitPages (d : Device) (slot : Nat) (e : WlEntry) (m : Nat) : Device :=
  match d.seq? slot with
  | none => d
  | some q =>
    let refill : Bool := e.kind = K_PREFILL && e.pos + e.ntok ≤ q.ctx.clen
    let d := if refill then commitRefill d slot e.pos (e.pos + e.ntok) else commitLength d slot (e.newPos + (m - 1))
    let stop := if refill then e.pos + e.ntok else e.newPos + (m - 1)
    let d := loseGone d slot (pageSpan d q e.pos (stop - e.pos))
    if e.tree then d
    else
      let d := writebackFull d slot q.ctx.pages.length 0
      hashStart d slot

/-- The path block of a tree commit (R336). -/
def commitPath (d : Device) (slot : Nat) (q : Seq) (e : WlEntry) (path : List Nat) : Device :=
  if !e.tree then d
  else
    let d := modSpec (modBlk d slot (fun c => { c with pendCompact := true, treeBank := !c.treeBank })) slot
      (fun s => { s with pathLen := path.length, pathDst := e.pos, path := path })
    fabiWrite d (.pathBlock slot) (mailboxAddr d slot + 0x840) 64
      (fields ([(511, 480, q.tcb.handle), (479, 475, path.length), (474, 452, e.pos)]
        ++ (indexed 0 path).map (fun p => (8 * p.1 + 7, 8 * p.1, p.2))))

/-- Action 3 of R184 for the tokens written: TOKEN_END, the window ring, GEN of the turn (R216, R247). -/
def commitTokens (d : Device) (slot : Nat) (e : WlEntry) (es : List Emit) : Device :=
  let d := d.modSeq slot (fun q => { q with
    tcb := { q.tcb with tokenEnd := q.tcb.tokenEnd + es.length }
    samp := { q.samp with ring := (indexed e.newPos es).foldl (fun m p => Map.put m (p.1 % 64) p.2.token) q.samp.ring } })
  match d.seq? slot with
  | none => d
  | some q =>
    if es.isEmpty then d
    else
      let n := q.ctx.turns.length - 1
      let d := writeTurn (modBlk d slot (fun c => { c with turns := modAt c.turns n (fun t => { t with gen := q.tcb.tokenEnd }) })) slot
      chargeTokens d q.tcb.client es.length

/-- LAST_STEP, RERUN_USED, COMMITTED and IN_STEP (R184). -/
def commitRecord (d : Device) (slot step : Nat) : Device :=
  let d := modTcb d slot (fun t => { t with lastStep := step, rerunUsed := false })
  let d := d.modSeq slot (fun q => { q with guardLeft := q.guardLeft - 1 })
  dropOutcome (leaveStep (setFlagBit d slot FL_COMMITTED true) slot) slot

/-- Row 7: the last prompt chunk, where the state stands or where a wait returns to. -/
def endPrefill (d : Device) (slot : Nat) : Device :=
  match d.seq? slot with
  | none => d
  | some q =>
    if q.tcb.state = .waiting then modTcb d slot (fun t => { t with prior := .decode }) else enterState d slot .decode

/-- SAMPLE records (Table 17.2). -/
def traceSamples (d : Device) (q : Seq) (e : WlEntry) (es : List Emit) : Device :=
  (indexed e.newPos es).foldl (fun d p =>
    let r := p.2.report.toNat
    traceRec d TR_SAMPLE q.tcb.handle q.tcb.client q.tcb.partition
      (fields [(127, 105, p.1), (104, 81, p.2.token), (80, 49, p.2.lp.toNat), (48, 47, e.logitMode), (46, 34, bf r 135 123),
        (33, 33, bf r 140 140), (32, 32, bf r 139 139), (31, 31, bf r 138 138), (30, 30, ofBool (e.kind = K_VERIFY))])) d

/-- COMMIT (Table 17.2), with the state after the commit. -/
def traceCommit (d : Device) (slot tag step n : Nat) : Device :=
  match d.seq? slot with
  | none => d
  | some q =>
    traceRec d TR_COMMIT q.tcb.handle q.tcb.client q.tcb.partition
      (fields [(127, 96, tag), (95, 64, step), (63, 41, q.tcb.tokenEnd), (40, 36, n), (35, 28, q.tcb.state.code)])

/-- The deadline monitor's points of class G (R142). -/
def commitMonitor (d : Device) (slot : Nat) (last : Bool) : Device :=
  let n := odGet d Od.DEADLINE_CHECK_STEPS 0
  match d.seq? slot with
  | none => d
  | some q =>
    if n ≤ q.checkCount + 1 then monitor (d.modSeq slot (fun q => { q with checkCount := 0 })) slot
    else
      let d := d.modSeq slot (fun q => { q with checkCount := q.checkCount + 1 })
      if last then monitor d slot else d

/-- A sequence that stays after its commit: PARK_PENDING, the monitor, its group, its tile, the next draft. -/
def afterCommit (d : Device) (slot : Nat) (last : Bool) : Device :=
  match d.seq? slot with
  | none => d
  | some q =>
    let d := if q.tcb.parkPending then parkNow d slot else d
    let d := commitMonitor (requestDraft d slot) slot last
    evictNow (moveIfDue d slot) slot

/-- A position with no VALID element ends the request (row 25 of Table 4.2). -/
def endNoValid (d : Device) (slot : Nat) : Device := finishSeq (bump d Od.SAMPLE_STATS 2) slot .noValidToken 3

/-- Rows 9, 10, 11 and 25 after a commit of class G. -/
def commitEnds (d : Device) (slot : Nat) (w : Work) (o : Outcome) : Device :=
  match d.seq? slot with
  | none => d
  | some q =>
    match o.ends with
    | some r =>
      if q.ctx.pendCompact then
        afterCommit (modSpec d slot (fun s => { s with endDefer := true, endReason := r })) slot w.entry.lastChunk
      else evictNow (turnStop d slot r) slot
    | none =>
      let d := if q.tcb.stream && !o.emits.isEmpty then
        sendCompl d slot (seqCompl d q CT_TOKENS .ok q.ctx.clen 0 0) else d
      if o.noValid then endNoValid d slot
      else afterCommit d slot w.entry.lastChunk

/-- The commit of a class G sequence. -/
def commitGen (d : Device) (slot : Nat) (q : Seq) (w : Work) : Device :=
  let o := q.outcome
  let e := w.entry
  if o.noValid && o.emits.isEmpty then endNoValid d slot
  else
    let d := writeTokens d slot q o.emits
    let d := commitPages d slot e o.emits.length
    let d := commitPath d slot q e o.path
    let d := commitTokens d slot e o.emits
    let d := traceSamples (commitDraft d slot w o) q e o.emits
    let d := commitRecord d slot w.step
    let d := if e.lastChunk then endPrefill d slot else d
    let d := commitEnds d slot w o
    let d := evalWait d slot
    traceCommit d slot w.tag w.step o.emits.length

/-! ### The commit of a plan stage -/

/-- What follows a committed stage that leaves the sequence in its state. -/
def afterPlanStage (d : Device) (slot : Nat) : Device :=
  match d.seq? slot with
  | none => d
  | some q =>
    if !q.tcb.state.running then d
    else
      let d := afterStage d slot
      match d.seq? slot with
      | none => d
      | some q =>
        let d := if q.tcb.parkPending then parkNow d slot else d
        moveIfDue d slot

/-- The commit of a class R or E stage: what it writes, the boundary of stage 0 (R142), and what follows. -/
def commitStage (d : Device) (slot : Nat) (q : Seq) : Device :=
  let step := match q.work with | some w => w.step | none => q.tcb.lastStep
  let tag := match q.work with | some w => w.tag | none => 0
  let d := modPlan d slot (fun p => { p with delivered := true })
  let d := if q.tcb.cls = .e then writeVectorHeader d slot else stageWrites d slot q
  let d := commitRecord d slot step
  let d := if q.plan.stage = 0 then monitor d slot true else d
  let d := afterPlanStage d slot
  traceCommit (evalWait d slot) slot tag step 0

/-- SEQUENCE_COMMIT. -/
def sequenceCommit (d : Device) (slot : Nat) : Device :=
  match d.seq? slot with
  | none => d
  | some q =>
    if !commitReady q then d
    else match q.tcb.cls, q.work with
      | .g, some w => commitGen d slot q w
      | .g, none => d
      | _, _ => commitStage d slot q

/-- SEQUENCE_COMMIT. -/
def execSequenceCommit (slot : Nat) (s : State) : Host.Outcome State Fault Refusal :=
  done s (whenReady s.dev (fun d => if deltaFree d slot then sequenceCommit d slot else d))

/-! ### DRAFT_POST (R322, R323) -/

/-- A post that fails a check of Table 12.5. -/
def discardDraft (d : Device) : Device := bump d Od.SPEC_STATS 1

/-- Staging slots in use: drafts staged, and posts being read. -/
def usedStaging (d : Device) : List Nat :=
  d.seqs.filterMap (fun p =>
    if p.2.spec.reading then some p.2.spec.readSlot else if p.2.spec.dvalid then some p.2.spec.dslot else none)

/-- Check 1. -/
def mayPost (d : Device) (q : Seq) : Bool :=
  speculates d q && q.tcb.cls = .g && q.spec.suspLeft = 0
    && (q.tcb.state = .decode || (q.tcb.state = .waiting && q.tcb.prior = .decode))

def bankAddr (d : Device) (slot : Nat) (bank : Bool) : Nat := mailboxAddr d slot + (if bank then 0x400 else 0)

/-- Checks 1 to 3; then the header is read. -/
def draftPost (d : Device) (v : Nat) : Device :=
  let d := bump d Od.SPEC_STATS 0
  match liveSlot d (bf v 63 32) with
  | none => discardDraft d
  | some slot =>
    match d.seq? slot, leastFree (usedStaging d) 4096 with
    | some q, some n =>
      if mayPost d q && bf v 31 16 = q.spec.dseq && bit v 15 = q.spec.dbank && !q.spec.dvalid && !q.spec.reading then
        fabiRead (modSpec d slot (fun s => { s with reading := true, readSlot := n })) (.draftBank slot)
          (bankAddr d slot q.spec.dbank) 64
      else discardDraft d
    | _, _ => discardDraft d

/-- DRAFT_POST: a directly mapped entry, which is served before FY_READY too (R37). -/
def execDraftPost (v : Nat) (s : State) : Host.Outcome State Fault Refusal :=
  done s (whenPresent s.dev (fun d => draftPost d v))

/-- The post being read is discarded. -/
def endPost (d : Device) (slot : Nat) : Device := discardDraft (modSpec d slot (fun s => { s with reading := false }))

/-- Checks 5, 6 and 9 on the header (Table 12.4). -/
def draftHeaderOk (q : Seq) (x : Nat) : Bool :=
  bf x 511 480 = q.tcb.handle && bf x 479 464 = q.spec.dseq && bf x 383 361 = q.spec.reqPos && q.spec.reqPos = q.ctx.clen
    && bf x 360 337 = q.spec.rootToken
    && 1 ≤ bf x 463 457 && bf x 463 457 ≤ 64 && bf x 456 448 = 0 && bf x 336 0 = 0
    && (Hdr.specMode q.samp.header.toNat ≠ 1 || bf x 447 384 ≠ 0)

/-- Checks 6 to 9 on the node words. -/
def draftNodesOk (h vocab : Nat) (ws : List Nat) : Bool :=
  (indexed 1 ws).all (fun p =>
    bit p.2 7 = false && bf p.2 6 0 < p.1 && bf p.2 31 8 < vocab && (Hdr.specMode h ≠ 1 || bf p.2 6 0 = p.1 - 1)
    && !(ws.take (p.1 - 1)).any (fun y => bf y 6 0 = bf p.2 6 0 && bf y 31 8 = bf p.2 31 8))

/-- Nodes kept by the truncation of R323: up to `limit`, and before the first that lies too deep. -/
def truncateDraft (nodes : List DraftNode) (limit deepest : Nat) : List DraftNode :=
  let n := ((List.range (min limit nodes.length)).takeWhile (fun i => nodeDepth nodes 65 (i + 1) ≤ deepest)).length
  nodes.take n

/-- The nodes have been read: the draft is staged, or discarded; a commit that moved CLEN meanwhile came first
(Table 12.8). -/
def stageDraft (d : Device) (slot : Nat) (q : Seq) (data : List Byte) : Device :=
  let ws := wordsOf (ofLe data) (data.length / 4)
  let nodes := ws.map (fun w => ({ token := bf w 31 8, parent := bf w 6 0 } : DraftNode))
  let kept := truncateDraft nodes q.spec.dlen q.spec.depthMax
  if draftNodesOk q.samp.header.toNat (vocabOf d q.version) ws && !kept.isEmpty && q.spec.readPos = q.ctx.clen then
    let deep := ((List.range kept.length).map (fun i => nodeDepth kept 65 (i + 1))).foldl max 0
    let d := modSpec d slot (fun s => { s with
      reading := false, dvalid := true, dslot := s.readSlot, dpos := s.readPos, ddepth := deep, nodes := kept, bank := s.dbank })
    setIfHolds d slot FL_DRAFT_READY
  else endPost d slot

/-- Data of a draft bank: its header, or its nodes. -/
def draftRead (d : Device) (slot addr : Nat) (data : List Byte) : Device :=
  match d.seq? slot with
  | none => discardDraft d
  | some q =>
    if !q.spec.reading then discardDraft d
    else if addr = bankAddr d slot q.spec.dbank then
      if draftHeaderOk q (ofLe data) then
        fabiRead (modSpec d slot (fun s => { s with readPos := bf (ofLe data) 383 361 })) (.draftBank slot) (addr + 0x40)
          (4 * bf (ofLe data) 463 457)
      else endPost d slot
    else if addr = bankAddr d slot q.spec.dbank + 0x40 then stageDraft d slot q data
    else endPost d slot

end Sys2Proof.Machine
end

