-- ==== Sys2Proof/Machine/Epochs.lean ====
section
/-! DEFINITION. Index epochs (R354 to R358): publication, installation, activation, and the end of a retired epoch. -/

namespace Sys2Proof.Machine

/-! ### Slots -/

def EState.code : EState → Nat
  | .free => 0 | .installed => 1 | .current => 2 | .retired => 3

/-- PINS of slot e (R355): live sequences pinned to it, and hand-overs in progress that name it. -/
def epochPins (d : Device) (e : Nat) : Nat :=
  let s := d.epochs.getD e {}
  if s.state = .free then 0
  else (d.seqs.filter (fun p => p.2.tcb.cls = .r && p.2.plan.epochSlot = e)).length
    + (d.turn.decisions.filter (fun x => x.epoch = some s.epoch && Plan.index x.plan.toNat = s.index
        && (match x.phase with | .handOver _ _ => true | _ => false))).length

/-- OD 0x8000.e. -/
def epochEntry (d : Device) (e : Nat) : Nat :=
  let s := d.epochs.getD e {}
  fields [(255, 224, s.epoch), (223, 220, s.index), (219, 218, s.state.code), (199, 176, epochPins d e),
    (175, 112, s.descAddr), (111, 48, s.retireTick)]

/-- The older of two epoch numbers. -/
def olderEpoch (a b : Nat) : Nat := if seqAfter a b then b else a

/-- OD 0x8001.i (R358). -/
def oldestPinned (d : Device) (i : Nat) : Nat :=
  match (d.epochs.filter (fun s => s.state ≠ .free && s.index = i)).map EpochSlot.epoch with
  | [] => 0
  | x :: l => l.foldl olderEpoch x

/-- An epoch slot changes its state: the EPOCH record of Table 17.2, and EPOCH_DRAINED where the oldest epoch held
advances. -/
def setEpoch (d : Device) (e : Nat) (s : EpochSlot) : Device :=
  let old := d.epochs.getD e {}
  let named := if s.state = .free then old else s
  let before := oldestPinned d named.index
  let d := { d with epochs := setAt d.epochs e s }
  let d := traceRec d TR_EPOCH 0 0 0
    (fields [(127, 96, named.epoch), (95, 92, named.index), (91, 89, e), (88, 87, s.state.code), (86, 63, epochPins d e)])
  let after := oldestPinned d named.index
  let held : Bool := d.epochs.any (fun x => x.state ≠ .free && x.index = named.index)
  if old.state ≠ .free && held && seqAfter after before then raiseVector d 3 else d

/-- The slot that holds an epoch of an index in a state. -/
def epochIn (d : Device) (st : EState) (p : EpochSlot → Bool) : Option (Nat × EpochSlot) :=
  (indexed 0 d.epochs).find? (fun x => x.2.state = st && p x.2)

/-! ### A slice's part (R356) -/

/-- INSTALL: the descriptor goes into the lowest FREE slot. -/
def install (d : Device) (src pub descAddr : Nat) (desc : BitVec 1024) : Device :=
  let x := desc.toNat
  match epochIn d .free (fun _ => true), epochIn d .installed (fun s => s.index = bf x 991 988) with
  | some (e, _), none =>
    let d := setEpoch d e { state := .installed, epoch := bf x 1023 992, index := bf x 991 988, desc := desc, descAddr := descAddr }
    sendXfer d src (.epochAck pub true) 32
  | _, _ => sendXfer d src (.epochAck pub false) 32

/-- The installed epoch becomes CURRENT and the one before it RETIRED. -/
def activateEpoch (d : Device) (epoch index : Nat) : Device :=
  match epochIn d .installed (fun s => s.epoch = epoch && s.index = index) with
  | none => d
  | some (e, s) =>
    let now := d.tick
    let d := match epochIn d .current (fun s => s.index = index) with
      | some (o, t) => setEpoch d o { t with state := .retired, retireTick := now }
      | none => d
    setEpoch d e { s with state := .current }

def activate (d : Device) (src pub epoch index : Nat) : Device :=
  sendXfer (activateEpoch d epoch index) src (.epochAck pub true) 32

/-- CANCEL frees the INSTALLED slot. -/
def cancelEpoch (d : Device) (epoch index : Nat) : Device :=
  match epochIn d .installed (fun s => s.epoch = epoch && s.index = index) with
  | some (e, _) => setEpoch d e {}
  | none => d

/-- EPOCH_GRACE_EXPIRY (R358). -/
def epochGrace (d : Device) (e : Nat) : Device :=
  let s := d.epochs.getD e {}
  if s.state = .retired && epochPins d e = 0 && s.retireTick + odGet d Od.EPOCH_GRACE 0 ≤ d.tick then setEpoch d e {} else d

/-! ### The owning slice's part (R356) -/

/-- EPOCH_PUBLISH after the format checks: the descriptor is read. -/
def actPublish (p : Nat) (d : Device) (r : Nat) : Device :=
  if Sq.resultLen r < 128 then
    refuse d p .rejFormat (Sq.hseq r) (Sq.userTag r) (Sq.client r) 0 0 (Sq.noIrq r) 0 noSlack
  else
    let i := freshId d
    let x : Publication := { pub := i.2, ring := p, client := Sq.client r, hseq := Sq.hseq r, userTag := Sq.userTag r,
                             noIrq := Sq.noIrq r, descAddr := Sq.addr r }
    fabiRead { i.1 with pubs := i.1.pubs ++ [x] } (.epochDesc i.2) (Sq.addr r) 128

def pub? (d : Device) (pub : Nat) : Option Publication := d.pubs.find? (fun x => x.pub = pub)
def modPub (d : Device) (pub : Nat) (f : Publication → Publication) : Device :=
  { d with pubs := modFirst (fun x => x.pub = pub) f d.pubs }
def dropPub (d : Device) (pub : Nat) : Device := { d with pubs := d.pubs.filter (fun x => x.pub ≠ pub) }

/-- The publication is answered REFUSED. -/
def refusePub (d : Device) (x : Publication) (st : Status) : Device :=
  refuse (dropPub d x.pub) x.ring st x.hseq x.userTag x.client 0 0 x.noIrq 0 noSlack

/-- Table 13.5. -/
def descriptorOk (x : Nat) : Bool :=
  (bf x 987 986 = 1 || bf x 987 986 = 2) && bf x 985 960 = 0 && 1 ≤ bf x 927 904 && bf x 927 904 ≤ 4194304 && bf x 519 0 = 0
    && bf x 903 840 % 64 = 0 && bf x 839 776 % 64 = 0 && bf x 775 712 % 64 = 0 && bf x 711 648 % 64 = 0 && bf x 615 552 % 64 = 0

/-- The descriptor has been read: INSTALL goes to every online slice. -/
def descriptorRead (d : Device) (pub desc : Nat) : Device :=
  match pub? d pub with
  | none => d
  | some x =>
    let newer : Bool := match currentEpoch d (bf desc 991 988) with
      | some s => seqAfter (bf desc 1023 992) s.epoch
      | none => true
    if !descriptorOk desc || !newer then refusePub d x .rejFormat
    else
      let now := d.tick
      let ks := onlineSlices d
      let d := modPub d pub (fun x => { x with desc := BitVec.ofNat 1024 desc, phase := .installing, awaiting := ks, tick := now })
      ks.foldl (fun d k => sendXfer d k (.install pub x.descAddr (BitVec.ofNat 1024 desc)) 192) d

/-- Step 2 has failed: CANCEL goes to every slice, and the publication is refused. -/
def cancelPub (d : Device) (x : Publication) : Device :=
  let e := bf x.desc.toNat 1023 992
  let i := bf x.desc.toNat 991 988
  let d := (x.awaiting ++ x.installed).foldl (fun d k => sendXfer d k (.cancel x.pub e i) 32) d
  refusePub d x .rejCapacity

/-- Every INSTALL is acknowledged: ACTIVATE goes out. Every ACTIVATE is acknowledged: ACK. -/
def advancePub (d : Device) (x : Publication) : Device :=
  let e := bf x.desc.toNat 1023 992
  let i := bf x.desc.toNat 991 988
  if !x.awaiting.isEmpty then d
  else if x.phase = .installing then
    let now := d.tick
    let d := modPub d x.pub (fun x => { x with phase := .activating, awaiting := x.installed, tick := now })
    x.installed.foldl (fun d k => sendXfer d k (.activate x.pub e i) 32) d
  else if x.phase = .activating then
    answer (dropPub d x.pub) x.ring CT_ACK .ok x.hseq x.userTag x.client 0 e 0 x.noIrq
  else d

/-- EPOCH_TRANSFER_ACK: an INSTALL refused, or acknowledged past 10 TICK, ends the publication. -/
def epochAcked (d : Device) (a : EpochAck) : Device :=
  match pub? d a.pub with
  | none => d
  | some x =>
    if !x.awaiting.contains a.src then d
    else if x.phase = .installing && (!a.accepted || x.tick + 10 < d.tick) then cancelPub d x
    else if !a.accepted then d
    else
      let d := modPub d a.pub (fun x => { x with
        awaiting := x.awaiting.filter (· ≠ a.src)
        installed := if x.phase = .installing then x.installed ++ [a.src] else x.installed })
      match pub? d a.pub with
      | some x => advancePub d x
      | none => d

/-- INSTALL_TIMEOUT: an acknowledgement is missing after 10 TICK. -/
def installTimeout (d : Device) (pub : Nat) : Device :=
  match pub? d pub with
  | some x => if x.phase = .installing && !x.awaiting.isEmpty && x.tick + 10 < d.tick then cancelPub d x else d
  | none => d

/-- EPOCH_PUBLISH. -/
def execEpochPublish (p : Nat) (s : State) : Host.Outcome State Fault Refusal := next s (consume s.dev p 0x09 (actPublish p))
/-- INSTALL. -/
def execInstall (src pub descAddr : Nat) (desc : BitVec 1024) (s : State) : Host.Outcome State Fault Refusal :=
  next s (whenReady s.dev (fun d => install d src pub descAddr desc))
/-- INSTALL_TIMEOUT. -/
def execInstallTimeout (pub : Nat) (s : State) : Host.Outcome State Fault Refusal :=
  next s (whenReady s.dev (installTimeout · pub))
/-- ACTIVATE. -/
def execActivate (src pub epoch index : Nat) (s : State) : Host.Outcome State Fault Refusal :=
  next s (whenReady s.dev (fun d => activate d src pub epoch index))
/-- CANCEL. -/
def execCancel (_src _pub epoch index : Nat) (s : State) : Host.Outcome State Fault Refusal :=
  next s (whenReady s.dev (fun d => cancelEpoch d epoch index))
/-- EPOCH_TRANSFER_ACK. -/
def execEpochTransferAck (a : EpochAck) (s : State) : Host.Outcome State Fault Refusal :=
  next s (whenReady s.dev (epochAcked · a))
/-- EPOCH_GRACE_EXPIRY. -/
def execEpochGraceExpiry (e : Nat) (s : State) : Host.Outcome State Fault Refusal :=
  next s (whenReady s.dev (epochGrace · e))

end Sys2Proof.Machine
end

