-- ==== Sys2Proof/Machine/Access.lean ====
section
/-! DEFINITION. A dictionary write on any path: acceptance, the checks of Table 18.5, Table 18.9, and its answer
(chapter 18). What an entry does with an accepted value stands with the entry's chapter. -/

namespace Sys2Proof.Machine

/-- What an entry does with a value that passed checks 1 to 5: the slice after it, and the status of the answer, or
none where the answer comes later (TABLE_KEY, SEAL). -/
abbrev Effect := Device → Nat → Device × Option Status

/-- The entry refuses the value with a status. -/
def refusedBy (d : Device) (st : Status) : Device × Option Status := (d, some st)

/-- Bits of an entry's value that are not RSVD; the others are ignored (R8, R440). -/
def keptBits (d : Device) (idx : Nat) : Nat :=
  if idx = Od.RING_RIGHTS then 0x3
  else if idx = Od.RING_CTRL then 0xF
  else if idx = Od.PARTITION_TABLE then 0xFFFFFFFFFFFF0001
  else if idx = Od.MODEL_CLASSES then 0x7
  else if idx = Od.GROUP_CFG then 0x1FFFFF
  else if idx = Od.ALERT_MASK then 0x3FFFF
  else if idx = Od.SLICE_ONLINE then 2 ^ d.ident.n - 1
  else if idx = Od.CVC_CFG then 0xFFFFFF8000000000
  else if idx = Od.LEGACY_CFG then 0xFFFF0000
  else if idx = Od.LEGACY_CTRL then 0x1
  else if idx = Od.TRACE_KIND_MASK then 0xFFFE
  else 2 ^ 256 - 1

/-- Order of an I32 value. -/
def i32Order (v : Nat) : Nat := (v + 2 ^ 31) % 2 ^ 32

/-- The ranges of Table 18.10's home tables that are no interval, and those that rest on another entry. -/
def rangeOk (d : Device) (idx v : Nat) : Bool :=
  if idx = Od.CQ_VECTOR then v = 0 || 16 ≤ v
  else if idx = Od.PAGE_TOKENS then v = 16 || v = 32 || v = 64
  else if idx = Od.MODEL_ACTIVE || idx = Od.MODEL_FALLBACK then v < 256 || v = 0xFFFF
  else if Od.ADAPTER_MODEL ≤ idx && idx < Od.ADAPTER_MODEL + 16 then v < 256 || v = 0xFFFE || v = 0xFFFF
  else if idx = Od.HEADROOM_LOW then i32Order (odGet d Od.HEADROOM_MIN 0) < i32Order v
  else if idx = Od.DIAG_ADDR then v % 8 = 0 && v < 128 * 2 ^ 20
  else true

/-- R440. -/
def valueOk (d : Device) (r : OdRow) (idx v : Nat) : Bool := r.mn ≤ v && v ≤ r.mx && v % r.al = 0 && rangeOk d idx v

/-- Entries of Table 3.1. -/
def isRingEntry (idx : Nat) : Bool := Od.RING_OWNER ≤ idx && idx ≤ Od.RING_STATE

/-- Check 4 of Table 18.5, by Table 18.9. -/
def pathRefusal (d : Device) (path : Path) (r : OdRow) (idx : Nat) : Option Status :=
  let guarded : Bool := r.acc = 4 || idx = Od.SEAL || idx = Od.TICK_LOAD
  match path with
  | .mailbox _ => if r.acc = 4 && odGet d Od.SEALED 0 = 1 then some .rejSealedWrite else none
  | .mctp _ _ _ => if guarded || !bit (odGet d Od.MCTP_WRITE_MASK 0) (idx / 256) then some .rejSealedWrite else none
  | .setParam _ =>
    if guarded then some .rejSealedWrite
    else if r.ty = 10 || r.ty = 11 || 8 < r.size || isRingEntry idx then some .rejFormat
    else none
  | .direct => none

/-- Checks 2 to 6 of Table 18.5 for a WRITE, but for the entry's own rules. -/
def writeCheck (d : Device) (path : Path) (idx sub len v : Nat) : Option Status :=
  match odRow idx sub with
  | none => some .rejFormat
  | some r =>
    if r.acc ≠ 2 && r.acc ≠ 3 && r.acc ≠ 4 then some .rejFormat
    else match pathRefusal d path r idx with
      | some st => some st
      | none => if len = r.size && valueOk d r idx (v &&& keptBits d idx) then none else some .rejFormat

/-- An MCTP write or commit that the mask refuses is counted (R455). -/
def countMasked (d : Device) (path : Path) (idx sub : Nat) (permitted : Bool) : Device :=
  match path with
  | .mctp _ _ _ =>
    if permitted && (odRow idx sub).isSome && !bit (odGet d Od.MCTP_WRITE_MASK 0) (idx / 256) then bump d Od.MCTP_STATS 1 else d
  | _ => d

/-- The body of an MCTP request (Table 18.8). -/
def mctpRequest (op reqId idx sub : Nat) (data : List Byte) : List Byte :=
  [0x7E] ++ vendorBytes ++ [0x01, BitVec.ofNat 8 op] ++ leBytes reqId 2 ++ leBytes idx 2
    ++ [BitVec.ofNat 8 sub, 0, BitVec.ofNat 8 data.length] ++ data

/-- The value bytes of a SET_PARAM (R82): the low bytes of VALUE, or all eight where a higher one is not zero. -/
def setParamData (idx sub v : Nat) : List Byte :=
  match odRow idx sub with
  | some r => if v < 2 ^ (8 * r.size) then leBytes v r.size else leBytes v 8
  | none => leBytes v 8

/-- The entries of Table 18.7 that take a store. -/
def directlyWritten (idx : Nat) : Bool :=
  (Od.GROUP_HOT_MAP ≤ idx && idx < Od.GROUP_HOT_MAP + 8) || idx = Od.DRAFT_POST || idx = Od.TRACE_TAIL

/-- A dictionary request of the source waits (R449). -/
def sourceWaits (m : Mgmt) : UnitSource → Bool
  | .mailbox => m.mbWaits
  | .mctp => m.queue.any (fun x => !x.control)
  | .setParam => !m.setParams.isEmpty

/-- The sources in the order in which they have their turn after one of them. -/
def turnsAfter : UnitSource → List UnitSource
  | .mailbox => [.mctp, .setParam, .mailbox]
  | .mctp => [.setParam, .mailbox, .mctp]
  | .setParam => [.mailbox, .mctp, .setParam]

/-- The unit is free, and serves a request of the source next (R449). -/
def unitTurn (d : Device) (x : UnitSource) : Bool :=
  d.mgmt.job.isNone && (turnsAfter d.mgmt.lastSource).find? (sourceWaits d.mgmt) = some x

/-- The source of the request that the unit serves, for the turns of R449. -/
def tookTurn (d : Device) (path : Path) : Device :=
  match path with
  | .mctp _ _ _ => d.modMgmt (fun m => { m with lastSource := .mctp })
  | .mailbox _ => d.modMgmt (fun m => { m with lastSource := .mailbox, mbWaits := false })
  | .setParam _ => d.modMgmt (fun m => { m with lastSource := .setParam })
  | .direct => d

/-- The management unit takes a write (R448, R449) when it is free and the source has its turn: one of the mailbox, which
takes it when it is not busy or holds it already, or an MCTP request or a SET_PARAM that is the oldest of its source. -/
def acceptWrite (d : Device) (path : Path) (idx sub : Nat) (data : List Byte) : Device × Bool :=
  match path with
  | .mailbox reqId =>
    if d.mgmt.busy && !(mbHolds d OP_WRITE reqId idx sub && mbValue d.mgmt = data) then
      (d.modMgmt (fun m => { m with overrun := true }), false)
    else
      let d := if d.mgmt.busy then d else mbAccept d OP_WRITE reqId idx sub data
      (d, unitTurn d .mailbox)
  | .mctp src tag reqId =>
    (d, unitTurn d .mctp && match d.mgmt.queue with
      | m :: _ => m.src = src && m.tag = tag && m.body = mctpRequest OP_WRITE reqId idx sub data
      | [] => false)
  | .setParam p =>
    (d, unitTurn d .setParam && match d.mgmt.setParams with
      | (q, r) :: _ => q = p && Sq.odIndex r.toNat = idx && Sq.odSub r.toNat = sub
          && setParamData idx sub (Sq.resultAddr r.toNat) = data
      | [] => false)
  | .direct => (d, directlyWritten idx)

/-! ### Values that an RW entry reads in place of what was written -/

/-- In-flight entries of a tile. -/
def commandsOn (d : Device) (tile : Nat) : List (Nat × InFlight) := d.inflight.filter (fun p => p.2.tile = tile)

/-- The tile holds a command or a page. -/
def tileBusy (d : Device) (tile : Nat) : Bool :=
  !(commandsOn d tile).isEmpty || d.ctx.dir1.any (fun p => p.2.t0 ≠ .none && p.2.t0Tile = tile)
    || d.seqs.any (fun p => p.2.ctx.affTile = some tile && !p.2.ctx.scratch.isEmpty)

/-- Tile of bit i of sub-index x. -/
def tileAt (d : Device) (x i : Nat) : Nat := 128 * d.ident.index + 64 * x + i

/-- What TILE_ONLINE reads: a bit that was cleared reads 0 once the tile holds no command and no page. -/
def tileOnlineRead (d : Device) (x : Nat) : Nat :=
  fields ((List.range 64).map (fun i =>
    (i, i, ofBool (bit (odGet d Od.TILE_ONLINE x) i || ((d.tile (tileAt d x i)).drainTick.isSome && tileBusy d (tileAt d x i))))))

/-- LEGACY_CTRL: HOLD and LEGACY_SKIPPED (R430). -/
def legacyCtrlRead (d : Device) : Nat := fields [(31, 8, d.cvc.legacySkipped), (0, 0, odGet d Od.LEGACY_CTRL 0)]

/-- What an entry that can be written reads. -/
def rwRead (d : Device) (idx sub : Nat) : Nat :=
  if idx = Od.TILE_ONLINE then tileOnlineRead d sub
  else if idx = Od.TRACE_TAIL then d.trace.tail
  else if idx = Od.LEGACY_VALUE then d.cvc.legacyRaw
  else if idx = Od.LEGACY_CTRL then legacyCtrlRead d
  else if idx = Od.PREFIX_KEY then prefixKey d sub
  else odGet d idx sub

/-- What ARG0 of a SET_PARAM's ACK reads back: 0 for a WO entry (R82). -/
def readBack (d : Device) (idx sub : Nat) : Nat :=
  match odRow idx sub with
  | some r => if r.acc = 3 then 0 else rwRead d idx sub
  | none => 0

/-! ### Writing -/

/-- A write that has been accepted: its checks, its effect and its answer. -/
def performWrite (d : Device) (path : Path) (idx sub : Nat) (data : List Byte) (eff : Effect) : Device :=
  let writable := match odRow idx sub with | some r => r.acc = 2 || r.acc = 3 || r.acc = 4 | none => false
  let d := countMasked d path idx sub writable
  match writeCheck d path idx sub data.length (ofLe data) with
  | some st => respondWrite d path idx sub st 0
  | none =>
    let r := eff d (ofLe data &&& keptBits d idx)
    match r.2 with
    | some .ok => respondWrite r.1 path idx sub .ok (readBack r.1 idx sub)
    | some st => respondWrite r.1 path idx sub st 0
    | none => r.1

/-- A dictionary write on a path (R447, R457); served while the slice is present. -/
def pathWrite (d : Device) (path : Path) (idx sub : Nat) (data : List Byte) (eff : Effect) : Device :=
  whenPresent d (fun d =>
    let r := acceptWrite d path idx sub data
    if r.2 then performWrite (tookTurn r.1 path) path idx sub data eff else r.1)

/-- The entry takes the value, where `ok` holds. -/
def storeIf (ok : Bool) (idx sub : Nat) (d : Device) (v : Nat) : Device × Option Status :=
  if ok then (odSet d idx sub v, some .ok) else (d, some .rejFormat)

end Sys2Proof.Machine
end

