-- ==== Sys2Proof/Machine/Rounds.lean ====
section
/-! DEFINITION. The package's accounting rounds (R132 to R140): opening, deltas, closing, grants, resets. -/

namespace Sys2Proof.Machine

/-! ### The aggregator (R137, R139) -/

/-- This slice may be the aggregator: ready, and not draining. -/
def maySum (d : Device) : Bool := fyReady d && odGet d Od.SLICE_DRAIN 0 = 0

/-- The aggregator as this slice sees it. What another slice is, ready or draining, each opening of a round brings. -/
def aggregator (d : Device) : Option Nat :=
  (onlineSlices d).find? (fun k =>
    !d.agg.excluded.contains k && (if k = d.ident.index then maySum d else bit d.agg.fit k))

def isAggregator (d : Device) : Bool := aggregator d = some d.ident.index

def roundOf (d : Device) : Nat := d.tick / 100 % 2 ^ 32

/-! ### Opening a round (R137) -/

namespace Delta
def client (e : Nat) : Nat := bf e 255 244
def ns (e : Nat) : Nat := bf e 243 204
def bytes (e : Nat) : Nat := bf e 203 164
def uj (e : Nat) : Nat := bf e 163 136
def live (e : Nat) : Nat := bf e 135 119
def demand (e : Nat) : Nat := bf e 118 103
def tok (e : Nat) : Nat := bf e 102 79
def kind (e : Nat) : Nat := bf e 78 78
def round (e : Nat) : Nat := bf e 31 0
end Delta

def deltaBits (c ns bytes uj live demand tok kind round : Nat) : Nat :=
  fields [(255, 244, c), (243, 204, ns), (203, 164, bytes), (163, 136, uj), (135, 119, live), (118, 103, demand),
    (102, 79, tok), (78, 78, kind), (31, 0, round)]

/-- Clients this slice holds anything of. -/
def knownClients (d : Device) : List Nat :=
  sortBy (fun a b => a ≤ b)
    (Map.keys d.acct ++ d.seqs.map (fun p => p.2.tcb.client) ++ (queueEntries d).map (fun x => x.client)).dedup

/-- Something of the client has changed since its last delta, or this is the first delta to a new aggregator. -/
def deltaDue (d : Device) (agg c : Nat) : Bool :=
  let a := d.client c
  let fresh : Bool := d.agg.sentTo ≠ some agg
  a.dNs ≠ 0 || a.dBytes ≠ 0 || a.dUj ≠ 0 || a.tokUsed ≠ 0
    || (if fresh then liveOf d c ≠ 0 || demandOf d c ≠ 0 else liveOf d c ≠ a.sentLive || demandOf d c ≠ a.sentDemand)

/-- Reads and clears a client's D fields and TOK_USED, and sends them. The write to another slice holds the values
until its response. -/
def sendDeltaEntry (round agg : Nat) (d : Device) (c : Nat) : Device :=
  let a := d.client c
  let live := liveOf d c
  let demand := demandOf d c
  let e := deltaBits c a.dNs a.dBytes a.dUj live demand a.tokUsed 0 round
  let d := d.modClient c (fun a => { a with dNs := 0, dBytes := 0, dUj := 0, tokUsed := 0, sentLive := live, sentDemand := demand })
  let x : Xfer := .delta (BitVec.ofNat 256 e)
  if agg = d.ident.index then emit d (.xfer agg x) else fabiXfer d (.acctDelta c) 32 e agg x

/-- The round last opened ends as the next one opens: applied, over without an entry for this slice, which has then
applied all there was (log entry 42), or missed. -/
def roundPassed (a : Aggregation) : Aggregation :=
  if a.applied = a.opened then { a with missed := 0 }
  else if a.owed then { a with missed := a.missed + 1 }
  else { a with applied := a.opened, missed := 0, incoming := [] }

/-- The client's delta will change its aggregate, so that an entry comes back. -/
def chargeDue (d : Device) (c : Nat) : Bool :=
  let a := d.client c
  !a.saturated && (a.dNs ≠ 0 || a.dBytes ≠ 0 || a.dUj ≠ 0)

/-- Clients of which an entry holds a number other than 0; client c stands at entry base + (c >> 8). -/
def cappedBy (d : Device) (base : Nat) : List Nat :=
  ((List.range 16).map (fun i => (odStored d (base + i)).map (fun p => i * 256 + p.1))).flatten

/-- AGG_ROUND_OPEN: round r opens at TICK 100 × r. -/
def aggRoundOpen (d : Device) (fit : Nat) : Device :=
  if d.tick % 100 ≠ 0 then d
  else
    let r := roundOf d
    let d := d.modAgg (fun a => if a.opened = r then { a with fit := fit } else { roundPassed a with opened := r, owed := false, fit := fit })
    match aggregator d with
    | none => d
    | some agg =>
      let cs := (knownClients d).filter (deltaDue d agg)
      let owed := cs.any (chargeDue d) || !(cappedBy d Od.CLIENT_MAX_SEQ).isEmpty || !(cappedBy d Od.CLIENT_MAX_TPS).isEmpty
      (cs.foldl (sendDeltaEntry r agg) d).modAgg (fun a => { a with sentTo := some agg, owed := a.owed || owed })

/-- A delta write failed: its values are added back (R137). -/
def addBack (d : Device) (e : Nat) : Device :=
  d.modClient (Delta.client e) (fun a => { a with
    dNs := (addD 40 a.dNs (Delta.ns e)).1, dBytes := (addD 40 a.dBytes (Delta.bytes e)).1
    dUj := (addD 28 a.dUj (Delta.uj e)).1, tokUsed := (addD 24 a.tokUsed (Delta.tok e)).1
    dSat := a.dSat || (addD 40 a.dNs (Delta.ns e)).2 || (addD 40 a.dBytes (Delta.bytes e)).2
      || (addD 28 a.dUj (Delta.uj e)).2 || (addD 24 a.tokUsed (Delta.tok e)).2 })

/-! ### Folding (R137, R140) -/

/-- A client's aggregate counter would pass all-ones. -/
def aggPasses (a : Acct) (e : Nat) : Bool :=
  2 ^ 64 ≤ a.aggNs + Delta.ns e || 2 ^ 64 ≤ a.aggBytes + Delta.bytes e || 2 ^ 64 ≤ a.aggUj + Delta.uj e

/-- DELTA_ENTRY: folded as it is accepted. A counter that would pass all-ones sticks and raises ACCT_SAT. -/
def deltaEntry (d : Device) (src e : Nat) : Device :=
  if Delta.kind e ≠ 0 then d
  else
    let c := Delta.client e
    let sat := aggPasses (d.client c) e && !(d.client c).saturated
    let d := d.modClient c (fun a => { a with
      aggNs := min (2 ^ 64 - 1) (a.aggNs + Delta.ns e), aggBytes := min (2 ^ 64 - 1) (a.aggBytes + Delta.bytes e)
      aggUj := min (2 ^ 64 - 1) (a.aggUj + Delta.uj e), saturated := a.saturated || aggPasses a e })
    let d := d.modAgg (fun g => { g with
      folded := g.folded ++ [{ client := c, src := src, ns := Delta.ns e, tok := Delta.tok e }]
      reports := Map.put g.reports c (Map.put (Map.getD g.reports c []) src (Delta.live e, Delta.demand e)) })
    if sat then raiseVector (alertLog d ALERT_ACCT_SAT 0 0 0 c) 4 else d

/-! ### Closing a round (R134, R138) -/

/-- Reports of a client by the slices set in SLICE_ONLINE. -/
def reportsOf (d : Device) (c : Nat) : List (Nat × Nat × Nat) :=
  (Map.getD d.agg.reports c []).filter (fun p => (onlineSlices d).contains p.1)

/-- The online slices in ascending order from a start, wrapping after N − 1. -/
def slicesFrom (d : Device) (start : Nat) : List Nat :=
  (onlineSlices d).filter (fun k => start ≤ k) ++ (onlineSlices d).filter (fun k => k < start)

/-- Gives what remains one at a time, in order, to those below their bound. -/
def giveOne (bound : Nat → Nat) : Nat → List Nat → Nat → Map Nat → Map Nat
  | 0, _, _, got => got
  | _, [], _, got => got
  | fuel + 1, k :: ks, left, got =>
    if left = 0 then got
    else
      let n := Map.getD got k 0
      if n < bound k then giveOne bound fuel (ks ++ [k]) (left - 1) (Map.put got k (n + 1))
      else giveOne bound fuel ks left got

/-- The sequence grants of a client that this slice, as aggregator, issued in the round before `r` (R134). -/
def issuedBefore (d : Device) (c r : Nat) : Nat :=
  if d.agg.closed.map (fun k => (k + 1) % 2 ^ 32) = some r then Map.getD d.agg.prevGrants c 0 else 0

/-- Sequence grants of a capped client, by slice. A slice at its bound leaves the round of giving. -/
def seqGrants (d : Device) (c r : Nat) : Map Nat :=
  let reps := reportsOf d c
  let used := sumBy (fun p => p.2.1) reps + issuedBefore d c r
  let spare := odGetC d Od.CLIENT_MAX_SEQ c - used
  let total := sumBy (fun p => p.2.2) reps
  let demandAt (k : Nat) : Nat := match Map.find (Map.getD d.agg.reports c []) k with | some p => p.2 | none => 0
  let first : Map Nat := (reps.filter (fun p => p.2.2 ≠ 0)).foldl (fun m p =>
    Map.put m p.1 (min p.2.2 (spare * p.2.2 / total))) []
  let ks := slicesFrom d (r % d.ident.n)
  let bound (k : Nat) : Nat := demandAt k + odGet d Od.CAP_FLOAT 0
  giveOne bound (sumBy (fun k => bound k + 1) ks) ks (spare - sumBy Prod.snd first) first

/-- Token grants of a client with a rate cap, by slice. -/
def tokGrants (d : Device) (c r : Nat) : Map Nat :=
  let t := max 1 (odGetC d Od.CLIENT_MAX_TPS c / 10000)
  let ks := onlineSlices d
  let u (k : Nat) : Nat := sumBy Folded.tok (d.agg.folded.filter (fun x => x.client = c && x.src = k))
  let sum := sumBy u ks
  let part (k : Nat) : Nat := if sum = 0 then 0 else t * u k / sum
  let rest := t - sumBy part ks
  let m := ks.length
  let extra := (slicesFrom d (r % d.ident.n)).take (rest % m)
  ks.map (fun k => (k, part k + rest / m + ofBool (extra.contains k)))

/-- VTIME and VREM of a client after the round's engine time. -/
def foldTime (d : Device) (c ns : Nat) : Device :=
  d.modClient c (fun a =>
    let x := ns * 65536 + a.vrem
    { a with vtime := (a.vtime + x / wEff d c) % 2 ^ 64, vrem := x % wEff d c })

/-- Clients that a close looks at: those with records or reports, and those with a cap. -/
def roundClients (d : Device) : List Nat :=
  sortBy (fun a b => a ≤ b)
    (Map.keys d.acct ++ Map.keys d.agg.reports ++ cappedBy d Od.CLIENT_MAX_SEQ ++ cappedBy d Od.CLIENT_MAX_TPS).dedup

/-- An aggregate entry with the grants of one slice. -/
def aggregateBits (a : Acct) (c seqGrant tokGrant round : Nat) : Nat :=
  fields [(511, 448, a.aggNs), (447, 384, a.aggBytes), (383, 320, a.aggUj), (319, 256, a.vtime), (255, 244, c),
    (243, 227, seqGrant), (226, 203, tokGrant), (202, 202, ofBool a.saturated), (201, 201, ofBool a.active), (31, 0, round)]

/-- Applies one aggregate entry (R138). -/
def applyEntry (d : Device) (e : Nat) : Device :=
  d.modClient (bf e 255 244) (fun a => { a with
    aggNs := bf e 511 448, aggBytes := bf e 447 384, aggUj := bf e 383 320, vtime := bf e 319 256
    seqGrant := bf e 243 227, tokGrant := bf e 226 203, saturated := bit e 202, active := bit e 201 })

/-- A round has been applied: an event of R129. -/
def roundApplied (d : Device) (r : Nat) : Device :=
  markPass (d.modAgg (fun a => { a with applied := r, missed := 0, owed := false, incoming := [] }))

/-- Sends one client's entry to every slice, this one included, which takes it at once. A capped client's grant is new in
every round. -/
def sendAggregate (r : Nat) (d : Device) (c : Nat) : Device :=
  let sg := if odGetC d Od.CLIENT_MAX_SEQ c = 0 then [] else seqGrants d c r
  let tg := if odGetC d Od.CLIENT_MAX_TPS c = 0 then [] else tokGrants d c r
  let plain := aggregateBits (d.client c) c 0 0 0
  let d := d.modAgg (fun g => { g with
    prevGrants := Map.put g.prevGrants c (sumBy Prod.snd sg), lastSent := Map.put g.lastSent c plain })
  (List.range d.ident.n).foldl (fun d k =>
    let e := aggregateBits (d.client c) c (Map.getD sg k 0) (Map.getD tg k 0) r
    if k = d.ident.index then applyEntry d e else sendXfer d k (.aggregate (BitVec.ofNat 512 e)) 64) d

/-- A client's aggregate or grant has changed since the entries last sent. -/
def aggregateDue (d : Device) (c : Nat) : Bool :=
  odGetC d Od.CLIENT_MAX_SEQ c ≠ 0 || odGetC d Od.CLIENT_MAX_TPS c ≠ 0
    || Map.find d.agg.lastSent c ≠ some (aggregateBits (d.client c) c 0 0 0)

/-- AGG_ROUND_CLOSE: 40 TICK after the opening. ACTIVE is that of the reports of the round that closes, and the minimum
of VTIME is taken over it (log entry 121). -/
def aggRoundClose (d : Device) : Device :=
  let r := roundOf d
  if d.tick % 100 ≠ 40 || !isAggregator d || d.agg.closed = some r then d
  else
    let cs := roundClients d
    let d := cs.foldl (fun d c =>
      let ns := sumBy Folded.ns (d.agg.folded.filter (fun x => x.client = c))
      if ns = 0 then d else foldTime d c ns) d
    let d := cs.foldl (fun d c => d.modClient c (fun a => { a with
      active := (reportsOf d c).any (fun p => p.2.1 ≠ 0 || p.2.2 ≠ 0) })) d
    let vmin := ((cs.filter (fun c => (d.client c).active)).map (fun c => (d.client c).vtime)).min?.getD 0
    let d := cs.foldl (fun d c => d.modClient c (fun a => { a with vtime := min (2 ^ 48) (a.vtime - vmin) })) d
    let d := (cs.filter (aggregateDue d)).foldl (sendAggregate r) d
    (roundApplied d r).modAgg (fun g => { g with
      folded := [], closed := some r, prevGrants := g.prevGrants.filter (fun p => odGetC d Od.CLIENT_MAX_SEQ p.1 ≠ 0) })

/-- AGGREGATE_ENTRY: a round's entries are applied when the last is accepted. -/
def aggregateEntry (d : Device) (e : BitVec 512) (last : Bool) : Device :=
  let d := d.modAgg (fun a => { a with incoming := a.incoming ++ [e] })
  if !last then d
  else
    let r := bf e.toNat 31 0
    let mine := d.agg.incoming.filter (fun x => bf x.toNat 31 0 = r)
    roundApplied (mine.foldl (fun d x => applyEntry d x.toNat) d) r

/-- Charges that have not been sent are lost: GAP for every client (R139, R385). -/
def gapAll (d : Device) : Device := { d with acct := (List.range 4096).map (fun c => (c, { d.client c with gap := true })) }

/-- ACCT_AGG_LOST: three rounds in a row have not been applied (R139). -/
def aggLost (d : Device) : Device :=
  match aggregator d with
  | none => d
  | some agg =>
    if d.agg.missed < 3 || agg = d.ident.index then d
    else
      let d := alertLog d ALERT_ACCT_AGG_LOST agg 0 0 0
      gapAll (d.modAgg (fun a => { a with excluded := a.excluded ++ [agg], missed := 0 }))

/-! ### Resets (R140) -/

/-- A read of ACCT_ENGINE_NS latches the three counters of the client. -/
def acctSnapshot (d : Device) (c : Nat) : Device :=
  let a := d.client c
  d.modAgg (fun g => { g with snaps := Map.put g.snaps c (a.aggNs, a.aggBytes, a.aggUj) })

/-- Sends a reset entry with the client's snapshot to the aggregator, and clears D_SAT and GAP. -/
def sendReset (d : Device) (c : Nat) : Device :=
  match Map.find d.agg.snaps c with
  | none => d
  | some (ns, by_, uj) =>
    let e := fields [(511, 448, ns), (447, 384, by_), (383, 320, uj), (255, 0, deltaBits c 0 0 0 0 0 0 1 (roundOf d))]
    let d := d.modAgg (fun g => { g with snaps := Map.del g.snaps c })
    let d := d.modClient c (fun a => { a with dSat := false, gap := false })
    match aggregator d with
    | some agg => sendXfer d agg (.reset (BitVec.ofNat 512 e)) 64
    | none => d

/-- What a commit write to ACCT_RESET does. -/
def effAcctReset : Effect := fun d v =>
  if v = 0xFFFF then ((Map.keys d.agg.snaps).foldl sendReset d, some .ok)
  else if 4095 < v then refusedBy d .rejFormat
  else (sendReset d v, some .ok)

/-- RESET_ENTRY: the aggregator subtracts the snapshot; a saturated client's counters start at 0. -/
def resetEntry (d : Device) (e : Nat) : Device :=
  if Delta.kind e ≠ 1 then d
  else d.modClient (Delta.client e) (fun a =>
    let left (now snap : Nat) : Nat := if now = 2 ^ 64 - 1 then 0 else now - snap
    { a with aggNs := left a.aggNs (bf e 511 448), aggBytes := left a.aggBytes (bf e 447 384)
             aggUj := left a.aggUj (bf e 383 320), saturated := false })

/-! ### The commands -/

/-- AGG_ROUND_OPEN. -/
def execAggRoundOpen (s : State) (fit : BitVec 32 := BitVec.allOnes 32) : Host.Outcome State Fault Refusal :=
  next s (whenReady s.dev (fun d => aggRoundOpen d fit.toNat))
/-- DELTA_ENTRY. -/
def execDeltaEntry (src : Nat) (e : BitVec 256) (s : State) : Host.Outcome State Fault Refusal :=
  next s (whenReady s.dev (fun d => deltaEntry d src e.toNat))
/-- AGG_ROUND_CLOSE. -/
def execAggRoundClose (s : State) : Host.Outcome State Fault Refusal := next s (whenReady s.dev aggRoundClose)
/-- AGGREGATE_ENTRY. -/
def execAggregateEntry (e : BitVec 512) (last : Bool) (s : State) : Host.Outcome State Fault Refusal :=
  next s (whenReady s.dev (fun d => aggregateEntry d e last))
/-- ACCT_AGG_LOST. -/
def execAcctAggLost (s : State) : Host.Outcome State Fault Refusal := next s (whenReady s.dev aggLost)
/-- ACCT_RESET. -/
def execAcctReset (path : Path) (v : Nat) (s : State) : Host.Outcome State Fault Refusal :=
  next s (pathWrite s.dev path Od.ACCT_RESET 0 (leBytes v 2) effAcctReset)
/-- RESET_ENTRY. -/
def execResetEntry (_src : Nat) (e : BitVec 512) (s : State) : Host.Outcome State Fault Refusal :=
  next s (whenReady s.dev (fun d => resetEntry d e.toNat))

end Sys2Proof.Machine
end

