-- ==== Sys2Proof/Machine/Parity.lean ====
section
/-! DEFINITION. Parity deltas and their acknowledgements, suspects, the loss and the return of slices, and the announcement
of ring pairs and forwarded handles (chapter 14). -/

namespace Sys2Proof.Machine

/-! ### Deltas (R378, R379) -/

/-- This slice holds the parity of the member's stripe. -/
def holdsParity (d : Device) (member slot : Nat) : Bool :=
  16 ≤ d.ident.n && (member / 8) ^^^ 1 = d.ident.index / 8 && slot / 8192 = d.ident.index % 8

/-- PARITY_DELTA: applied whole, unless its update number has been applied already, and acknowledged. -/
def parityDelta (d : Device) (p : ParityDelta) : Device :=
  if !holdsParity d p.member p.slot then d
  else
    let key := p.slot % 8192
    let s := Map.getD d.faults.parity key {}
    let s' : ParitySlot :=
      { record := s.record ^^^ p.record, timers := s.timers ^^^ p.timers, applied := Map.put s.applied p.member p.updNo }
    let d := if Map.find s.applied p.member = some p.updNo then d
      else d.modFaults (fun f => { f with parity := Map.put f.parity key s' })
    sendXfer d p.src (.parityAck p.member p.slot p.updNo) 32

/-- Deltas that wait for a buffer go, as far as buffers are free. -/
def sendWaiting (d : Device) : Device :=
  (Map.keys d.faults.deltas).foldl (fun d slot => shipAcks (sendDelta d slot) slot) d

/-- PARITY_ACK: the buffer is free, what waited for it goes, and writes that have gathered meanwhile are sent. -/
def parityAck (d : Device) (member slot n : Nat) : Device :=
  if member = d.ident.index then
    match (deltaBuf d slot).sent with
    | some (m, _, _) =>
      if m = n then
        let d := d.modFaults (fun f => { f with refreshing := f.refreshing.filter (· ≠ slot) })
        answerAsks
          (sendWaiting (shipAcks (sendDelta (shipGated (modDelta d slot (fun b => { b with sent := none })) slot n) slot) slot))
      else d
    | none => d
  else d.modFaults (fun f => { f with
    removals := f.removals.filter (fun r => !(r.2.member = member && r.2.slot = slot && r.2.updNo = n)) })

/-- PARITY_DELTA. -/
def execParityDelta (p : ParityDelta) (s : State) : Host.Outcome State Fault Refusal :=
  next s (whenReady s.dev (parityDelta · p))
/-- PARITY_ACK. -/
def execParityAck (member slot updNo : Nat) (s : State) : Host.Outcome State Fault Refusal :=
  next s (whenReady s.dev (fun d => parityAck d member slot updNo))

/-! ### Suspects (R381) -/

/-- Slots whose delta a slice has not acknowledged within 10 TICK. -/
def lateDeltas (d : Device) (k : Nat) : List Nat :=
  (d.faults.deltas.filter (fun p => p.2.sent.isSome && parityHolder d p.1 = k && p.2.sentTick + 10 ≤ d.tick)).map Prod.fst

/-- The late removals of lost members, by the slice that holds their stripe's parity. -/
def lateRemovals (d : Device) (k : Nat) : List ParityDelta :=
  (d.faults.removals.filter (fun r => 8 * ((r.2.member / 8) ^^^ 1) + r.2.slot / 8192 = k && r.1 + 10 ≤ d.tick)).map Prod.snd

/-- Host commands that a home slice has not acknowledged (R27). -/
def lateCmds (d : Device) (k : Nat) : List Fwd :=
  d.turn.fwds.filter (fun f => !f.acked && handleSlice f.handle = k && f.tick + 10 ≤ d.tick)

/-- Sends the delta that is outstanding once more. -/
def resendDelta (d : Device) (slot : Nat) : Device :=
  match (deltaBuf d slot).sent with
  | none => d
  | some (n, r, t) =>
    let now := d.tick
    sendXfer (modDelta d slot (fun b => { b with sentTick := now })) (parityHolder d slot)
      (.parityDelta { src := d.ident.index, member := d.ident.index, slot := slot, updNo := n, record := r, timers := t })
      deltaBytes

/-- Transfers to a slice on the port without a response, of those that no other transfer answers. -/
def lateSends (d : Device) (k : Nat) : List FabiReq :=
  d.fabi.outstanding.filter (fun r => r.tick + 10 ≤ d.tick &&
    (match r.xfer with | some (j, x) => j = k && !x.answered | none => false))

/-- Transfers to a slice whose write was answered with an error. -/
def lateErrors (d : Device) (k : Nat) : List (Nat × Nat × Xfer) :=
  d.faults.unacked.filter (fun u => u.2.1 = k && u.1 + 10 ≤ d.tick)

/-- Publications that a slice has not acknowledged (R356). -/
def latePubs (d : Device) (k : Nat) : List Publication :=
  d.pubs.filter (fun x => x.awaiting.contains k && x.tick + 10 ≤ d.tick)

/-- A hand-over or a mirror write to the slice is late: it is not sent again (R27, R241). -/
def lateOnce (d : Device) (k : Nat) : Bool :=
  d.turn.decisions.any (fun x => match x.phase with
    | .handOver _ t => groupHome d x.chosen = k && t + 10 ≤ d.tick
    | _ => false)
  || (d.ident.n = 32 && mirrorPartner d = k && d.ctx.mirrorOut.any (fun p => p.2.any (fun w => w.1 + 10 ≤ d.tick)))

/-- The transfers of `lateSends` and `lateErrors` once more, and the ACTIVATEs that are late: each is a write of its own on
the port (R38); the response of the first, if it comes, serves nothing more. -/
def sendAgain (d : Device) (k : Nat) : Device :=
  let sends := lateSends d k
  let errs := lateErrors d k
  let acts := (latePubs d k).filter (fun x => x.phase = .activating)
  let d := { d with fabi := { d.fabi with
    outstanding := d.fabi.outstanding.map (fun r => if sends.contains r then { r with xfer := none } else r) } }
  let d := sends.foldl (fun d r => match r.xfer with | some (j, x) => sendXfer d j x r.len | none => d) d
  let d := errs.foldl (fun d u => sendXfer d k u.2.2 32)
    (d.modFaults (fun f => { f with unacked := f.unacked.filter (fun u => !errs.contains u) }))
  let now := d.tick
  acts.foldl (fun d x => sendXfer (modPub d x.pub (fun x => { x with tick := now })) k
    (.activate x.pub (bf x.desc.toNat 1023 992) (bf x.desc.toNat 991 988)) 32) d

/-- SLICE_SUSPECT: the cause, the log, and every transfer that is late once more. -/
def sliceSuspect (d : Device) (k : Nat) : Device :=
  let ds := lateDeltas d k
  let rs := lateRemovals d k
  let cs := lateCmds d k
  if !bit (odGet d Od.SLICE_ONLINE 0) k || k = d.ident.index
      || (ds.isEmpty && rs.isEmpty && cs.isEmpty && (lateSends d k).isEmpty && (lateErrors d k).isEmpty && (latePubs d k).isEmpty
        && !lateOnce d k) then d
  else
    let now := d.tick
    let d := sendAgain (suspectSlice d k) k
    let d := ds.foldl resendDelta d
    let d := d.modFaults (fun f => { f with removals := f.removals.map (fun r => if rs.contains r.2 then (now, r.2) else r) })
    let d := rs.foldl (fun d r => sendXfer d k (.parityDelta r) deltaBytes) d
    let d := d.modTurn (fun t => { t with fwds := t.fwds.map (fun f => if cs.contains f then { f with tick := now } else f) })
    cs.foldl (fun d f => sendXfer d k (.hostCmd f.cmd) 512) d

/-- SLICE_SUSPECT. -/
def execSliceSuspect (slice : Nat) (s : State) : Host.Outcome State Fault Refusal :=
  next s (whenReady s.dev (sliceSuspect · slice))

/-! ### A slice is declared lost (R381 to R389) -/

/-- Deltas for a lost parity slice are given up; what waited for them goes (R379: the data is complete). -/
def abandonDeltas (d : Device) (k : Nat) : Device :=
  sendWaiting <| (d.faults.deltas.filter (fun p => p.2.busy && parityHolder d p.1 = k)).foldl (fun d p =>
    let d := modDelta d p.1 (fun b => { b with sent := none, record := 0, timers := 0 })
    let ns := ((d.faults.gated.filter (fun g => g.1 = p.1)).map (fun g => g.2.1)
      ++ (d.faults.releases.filter (fun g => g.1 = p.1)).map (fun g => g.2.1)).dedup
    shipAcks (ns.foldl (fun d n => shipGated d p.1 n) d) p.1) d

/-- Requests of the ring pairs that the lost slice owned (R387). -/
def endLostRings (d : Device) (k : Nat) : Device :=
  (d.seqs.filter (fun p => p.2.owner = k)).foldl (fun d p =>
    if p.2.endSent then
      if !p.2.behind.isEmpty || d.faults.gated.any (fun g => g.1 = p.1) then d
      else shipCompl d k (seqCompl d p.2 CT_END p.2.tcb.status (endArg0 p.2) p.2.engineNs p.2.energyUj)
    else if p.2.tcb.state = .finishing then d
    else faultSeq (bump d Od.FAULT_STATS 7) p.1 .faultSliceLost) d

/-- Members of a parity group that are online. -/
def groupMembers (d : Device) (g : Nat) : List Nat := (onlineSlices d).filter (fun s => s / 8 = g)

/-- The stripe's parity stands on a slice that is lost too (R389). -/
def unprotectedStripe (d : Device) (k j : Nat) : Bool := d.faults.lost.contains (8 * ((k / 8) ^^^ 1) + j / 8192)

/-- Stripes of the lost slice that this survivor adopts: those whose number is its place modulo the survivors (R383),
where their parity stands. -/
def adopts (d : Device) (k : Nat) : List (Nat × Nat) :=
  let ms := groupMembers d (k / 8)
  match (indexed 0 ms).find? (fun p => p.2 = d.ident.index) with
  | some (i, _) =>
    ((List.range 65536).filter (fun j => j % ms.length = i && !unprotectedStripe d k j)).map (fun j => (k, j))
  | none => []

/-- A request whose record is lost for good leaves the books of the slice that owns its ring pair; where it was the item
in service of its flow, the next one is granted (R369, R382). -/
def forgetOwned (d : Device) (h : Nat) : Device :=
  let o := Map.find d.turn.owned h
  let d := d.modTurn (fun t => { t with owned := Map.del t.owned h })
  match o.bind Owned.flow with
  | none => d
  | some i =>
    let d := modFlow d i (fun f => { f with live := f.live - 1 })
    match Map.find d.flows i with
    | some f => if f.svcHandle = h then flowEnd d i else tidyFlow d i
    | none => d

/-- Sequences of a lost slice whose records are lost with it, by slot: host commands for them are refused, and what this
slice keeps of those it owns goes (R382). -/
def stripesLost (d : Device) (l : Nat) (gone : Nat → Bool) : Device :=
  let mine (h : Nat) : Bool := handleSlice h = l && gone (handleSlot h)
  let d := (d.turn.fwds.filter (fun f => mine f.handle)).foldl (fun d f =>
    sendXfer d d.ident.index (.hostCmdAck f.id (.refused .staleHandle) (ownedTokens d f.handle)) 32) d
  let d := ((Map.keys d.turn.owned).filter mine).foldl forgetOwned d
  d.modFaults (fun f => { f with
    toAdopt := f.toAdopt.filter (fun x => !(x.1 = l && gone x.2)), heldCmds := f.heldCmds.filter (fun c => !mine c.handle) })

/-- Host commands on their way to a slice that is lost wait for its sequences' new handles (R384). -/
def lostCmds (d : Device) (k : Nat) (gone : Nat → Bool) : Device :=
  let fs := d.turn.fwds.filter (fun f => handleSlice f.handle = k && !gone (handleSlot f.handle))
  d.modFaults (fun f => { f with
    heldCmds := f.heldCmds ++ (fs.map Fwd.cmd).filter (fun c => !f.heldCmds.contains c) })

/-- At N = 32 the slice that keeps the lost one's mirror is custodian of its T1 pool; the lost slice's CACHED pages are
freed (R385). -/
def takeCustody (d : Device) (k : Nat) : Device :=
  if d.ident.n ≠ 32 || k ≠ mirrorPartner d then d
  else
    let cached (e : BitVec 256) : Bool := match Dir1.ofBits e.toNat with | some x => x.pstate = .cached | none => false
    let freed := (Map.vals d.ctx.mirror).filterMap (fun e => if cached e then (Dir1.ofBits e.toNat).map Dir1.home else none)
    d.modCtx (fun c => { c with mirror := c.mirror.filter (fun p => !cached p.2), custody := Map.put c.custody k freed })

/-- Stripes of a slice have lost two members: here and on every other slice (R382, R383). -/
def twiceLost (d : Device) (l : Nat) (js : List Nat) : Device :=
  if js.isEmpty then d else tellPair (stripesLost d l js.contains) l 0 0 (.lostStripes js)

/-- A second member of the group of `l` is lost before its stripes `js` are rebuilt: REBUILD_FAULT, and the stripes are
lost for each lost member (R383). -/
def rebuildFault (d : Device) (l : Nat) (js : List Nat) : Device :=
  if js.isEmpty then d
  else (d.faults.lost.filter (fun k => k / 8 = l / 8)).foldl (fun d k => twiceLost d k js) (alertLog d ALERT_REBUILD_FAULT l 0 0 0)

/-- A stripe that is found to have lost two members. -/
def stripeTwice (d : Device) (l j : Nat) : Device := rebuildFault d l [j]

/-- Everything a survivor does when another slice's bit falls. -/
def sliceLost (d : Device) (k : Nat) : Device :=
  let d := flogWrite (bump d Od.FAULT_STATS 5) ALERT_SLICE_SUSPECT k 0 Status.faultSliceLost.code 0
  -- stripes of its group that this slice has still to adopt: they have lost two members now
  let twice := ((d.faults.toAdopt.filter (fun x => x.1 / 8 = k / 8)).map Prod.snd).dedup
  -- and those whose parity it held, which nothing can rebuild any more
  let bare := d.faults.toAdopt.filter (fun x => x.1 / 8 = (k / 8) ^^^ 1 && x.2 / 8192 = k % 8)
  let d := d.modFaults (fun f => { f with
    lost := f.lost ++ [k], suspects := f.suspects.filter (· ≠ k), unacked := f.unacked.filter (fun u => u.2.1 ≠ k)
    heldCompls := f.heldCompls.filter (fun h => h.1 ≠ k) })
  let d := d.modCtx (fun c => { c with asked := c.asked.filter (· ≠ k), asks := c.asks.filter (· ≠ k) })
  -- at N = 8, and where a stripe's parity is lost too, there is no copy of the record (R382, R389)
  let gone (j : Nat) : Bool := d.ident.n < 16 || unprotectedStripe d k j
  let d := endLostRings (lostCmds (stripesLost d k gone) k gone) k
  let d := d.faults.lost.foldl (fun d l => twiceLost d l ((bare.filter (·.1 = l)).map Prod.snd)) d
  let d := takeCustody (if d.ident.n < 16 then d else abandonDeltas d k) k
  if d.ident.n < 16 then d
  else
    let d := gapAll d
    let d := if (k / 8) ^^^ 1 = d.ident.index / 8 then
        alertLog (d.modFaults (fun f => { f with unprotected := f.unprotected + 8192 })) ALERT_PARITY_DEGRADED k 0 0 0
      else d
    if k / 8 ≠ d.ident.index / 8 then d
    else
      let mine := adopts d k
      rebuildFault (d.modFaults (fun f => { f with toAdopt := f.toAdopt ++ mine })) k twice

/-! ### A slice comes back (R389, R393) -/

/-- The records of the slots whose parity the slice holds go to it again, so that its parity slots stand. -/
def refreshParity (d : Device) (k : Nat) : Device :=
  let ps := d.seqs.filter (fun p => parityHolder d p.1 = k)
  ps.foldl (fun d p =>
    sendDelta (modDelta d p.1 (fun b => { b with
      record := BitVec.ofNat 4096 (recordParity d p.1), timers := BitVec.ofNat 256 (timerWords d p.1) })) p.1)
    (d.modFaults (fun f => { f with refreshing := f.refreshing ++ ps.map Prod.fst }))

/-- Mirroring resumes with a full copy (R241, R393). -/
def refreshMirror (d : Device) : Device :=
  let d := d.modCtx (fun c => { c with mirrorStopped := false, mirrorOut := [] })
  settleMirror { d with ctx := { d.ctx with dir1 := [] } } d

/-- The pairs made here that name the returned slice are told to it, so that it keeps the slots (R393). -/
def tellForwards (d : Device) (k : Nat) : Device :=
  (d.faults.forwards.filter (fun x => x.1 = k && handleSlice x.2.2 = d.ident.index)).foldl
    (fun d x => sendXfer d k (.forward x.1 x.2.1 x.2.2 .none) 32) d

/-- Every epoch that is RETIRED or CURRENT goes to a slice that comes online, of each index in the order in which they
became CURRENT, from the lowest-numbered slice that was online before (R356, R393, log entry 131). -/
def sendEpochs (d : Device) (old k : Nat) : Device :=
  if ((List.range d.ident.n).find? (fun j => j ≠ k && bit old j)) ≠ some d.ident.index then d
  else
    let es := d.epochs.filter (fun e => e.state = .retired || e.state = .current)
    (sortBy (fun a b => b.state = .current || (a.state ≠ .current && a.retireTick ≤ b.retireTick)) es).foldl (fun d e =>
      sendXfer (sendXfer d k (.install 0 e.descAddr e.desc) 192) k (.activate 0 e.epoch e.index) 32) d

/-- `old`: SLICE_ONLINE before the write. -/
def sliceBack (old : Nat) (d : Device) (k : Nat) : Device :=
  let d := sendEpochs (d.modFaults (fun f => { f with lost := f.lost.filter (· ≠ k) })) old k
  let d := d.modCtx (fun c => { c with custody := Map.del c.custody k })
  if d.ident.n < 16 then d
  else
    let d := tellForwards d k
    let d := if (k / 8) ^^^ 1 = d.ident.index / 8 then
        refreshParity (d.modFaults (fun f => { f with unprotected := f.unprotected - 8192 })) k
      else d
    if d.ident.n = 32 && k = d.ident.index ^^^ 16 then refreshMirror d else d

/-- A slice that holds no sequence yet asks the others for the frames of its pools that they hold; it takes no hand-over
before they have answered (R393), which they do when what it has from them first has reached it (`askReady`). -/
def askFrames (d : Device) : Device :=
  if bit (odGet d Od.SLICE_ONLINE 0) d.ident.index && d.seqs.isEmpty && 16 ≤ d.ident.n then
    let ks := (onlineSlices d).filter (· ≠ d.ident.index)
    ks.foldl (fun d k => sendXfer d k .frameAsk 32) (d.modCtx (fun c => { c with asked := ks }))
  else d

/-- What a write of SLICE_ONLINE does. -/
def effSliceOnline : Effect := fun d v =>
  let old := odGet d Od.SLICE_ONLINE 0
  let others := (List.range d.ident.n).filter (· ≠ d.ident.index)
  let d := (odSet d Od.SLICE_ONLINE 0 v).modAgg (fun a => { a with excluded := [], lastSent := [] })
  let d := (others.filter (fun k => bit old k && !bit v k)).foldl sliceLost d
  let d := (others.filter (fun k => !bit old k && bit v k)).foldl (sliceBack old) d
  (answerAsks (askFrames d), some .ok)

/-- SLICE_ONLINE. -/
def execSliceOnline (path : Path) (v : Nat) (s : State) : Host.Outcome State Fault Refusal :=
  done s (pathWrite s.dev path Od.SLICE_ONLINE 0 (leBytes v 4) effSliceOnline)

/-! ### Forwarded handles (R384) -/

/-- Commands held for an old handle go to the new one. -/
def sendHeld (d : Device) (old new : Nat) : Device :=
  let cs := d.faults.heldCmds.filter (fun c => c.handle = old)
  let now := d.tick
  let d := d.modFaults (fun f => { f with heldCmds := f.heldCmds.filter (fun c => c.handle ≠ old) })
  let d := d.modTurn (fun t => { t with fwds := t.fwds.map (fun f =>
    if f.handle = old then { f with handle := new, cmd := { f.cmd with handle := new }, tick := now } else f) })
  cs.foldl (fun d c => sendHost d { c with handle := new }) d

/-- Commands held for a handle that will never be adopted are refused (R382, R384). -/
def refuseHeld (d : Device) (old : Nat) : Device :=
  let cs := d.faults.heldCmds.filter (fun c => c.handle = old)
  let d := d.modFaults (fun f => { f with heldCmds := f.heldCmds.filter (fun c => c.handle ≠ old) })
  cs.foldl (fun d c => sendXfer d d.ident.index (.hostCmdAck c.id (.refused .staleHandle) (ownedTokens d c.handle)) 32) d

/-- The owning slice learns the group that a sequence runs in (R123): its CONTINUEs are for that group. -/
def noteGroup (d : Device) (h g : Nat) : Device :=
  d.modTurn (fun t => { t with
    owned := Map.mod t.owned h (fun o => { o with group := g })
    decisions := t.decisions.map (fun x => if x.op = .cont h then { x with group := g } else x) })

/-- A pair of handles: it is kept while the region has room, and what the owning slice keeps moves to the new handle. -/
def keepPair (d : Device) (lost old new : Nat) : Device :=
  let room : Bool := d.faults.forwards.length < 262144
  let d := if room then d.modFaults (fun f => { f with forwards := f.forwards.filter (fun x => x.2.1 ≠ old) ++ [(lost, old, new)] }) else d
  let d := match Map.find d.turn.owned old with
    | some o => d.modTurn (fun t => { t with owned := Map.put (Map.del t.owned old) new o })
    | none => d
  let d := { d with flows := d.flows.map (fun (p : Nat × Flow) =>
    (p.1, if p.2.svcHandle = old then { p.2 with svcHandle := new } else p.2)) }
  let d := d.modTurn (fun t => { t with
    decisions := t.decisions.map (fun x =>
      match x.op with | .cont h => if h = old then { x with op := .cont new } else x | _ => x)
    behind := t.behind.map (fun b =>
      if b.2.handle = old then (b.1, { b.2 with handle := new, cmd := { b.2.cmd with handle := new } }) else b) })
  if room then sendHeld d old new else refuseHeld d old

/-- A pair of an adopter (R384), or its end where `new` is 0; two handles that are one are no pair. -/
def takePair (d : Device) (lost old new : Nat) : Device :=
  if new = 0 then refuseHeld (d.modFaults (fun f => { f with forwards := f.forwards.filter (fun x => x.2.1 ≠ old) })) old
  else if old = new then d
  else keepPair d lost old new

/-- The flow entry of a live sequence is lost at its owner: FLOW_VALID 0 (Table 14.4). -/
def leaveFlow (d : Device) (h : Nat) : Device :=
  match liveSlot d h with
  | some slot => modTcb d slot (fun t => { t with flow := none })
  | none => d

/-- FORWARD_PAIR: the pair, with what its note tells (log entry 136). -/
def forwardPair (d : Device) (lost old new : Nat) : PairNote → Device
  | .none => takePair d lost old new
  | .group g => noteGroup (takePair d lost old new) new g
  | .noFlow => leaveFlow d new
  | .lostStripes js => stripesLost d lost js.contains

/-- FORWARD_PAIR. -/
def execForwardPair (lost old new : Nat) (s : State) (note : PairNote := .none) : Host.Outcome State Fault Refusal :=
  done s (whenReady s.dev (fun d => forwardPair d lost old new note))

/-! ### Ring pairs and borrowed frames (R387, R393) -/

/-- OWNERSHIP_ANNOUNCEMENT: the ENDs that waited for an owner of the pair are sent to it. -/
def ownership (d : Device) (p k : Nat) : Device :=
  let d := d.modRing p (fun r => { r with owner := some k })
  let d := { d with seqs := d.seqs.map (fun (x : Nat × Seq) =>
    (x.1, if x.2.tcb.ring = p && d.faults.lost.contains x.2.owner then { x.2 with owner := k } else x.2)) }
  let cs := d.faults.orphanEnds.filter (fun c => c.ring = p)
  let d := d.modFaults (fun f => { f with orphanEnds := f.orphanEnds.filter (fun c => c.ring ≠ p) })
  cs.foldl (fun d c => shipCompl d k c) d

/-- OWNERSHIP_ANNOUNCEMENT. -/
def execOwnershipAnnouncement (ring slice : Nat) (s : State) : Host.Outcome State Fault Refusal :=
  done s (whenReady s.dev (fun d => ownership d ring slice))

/-- The owner of a ring pair that has just been enabled tells every slice. -/
def announce (d : Device) (p : Nat) : Device :=
  (onlineSlices d).foldl (fun d k => sendXfer d k (.announce p d.ident.index) 32) d

/-- FRAME_REQUEST: what is asked for is answered when it can be; an answer replaces what its slice held before. The custodian of a lost
slice's T1 pool records the frames that are released. -/
def frameRequest (d : Device) : FrameMsg → Device
  | .ask k => answerAsks (d.modCtx (fun c => { c with asks := c.asks.filter (· ≠ k) ++ [k] }))
  | .answer k frames => d.modCtx (fun c => { c with
      asked := c.asked.filter (· ≠ k)
      lent := if frames.isEmpty then Map.del c.lent k else Map.put c.lent k frames })
  | .released l frames =>
    if d.ident.n = 32 && l = mirrorPartner d && d.faults.lost.contains l then
      d.modCtx (fun c => { c with custody := Map.put c.custody l ((Map.getD c.custody l [] ++ frames).dedup) })
    else d

/-- FRAME_REQUEST. -/
def execFrameRequest (m : FrameMsg) (s : State) : Host.Outcome State Fault Refusal :=
  done s (whenReady s.dev (frameRequest · m))

/-! ### PARITY_STATE (Table 14.8) -/

/-- MEMBERS has one bit per member of the slice's group that is online. -/
def parityState (d : Device) : Nat :=
  let g := d.ident.index / 8
  fields [(63, 61, g), (60, 58, g ^^^ 1),
    (57, 50, (groupMembers d g).foldl (fun m s => m ||| 2 ^ (s % 8)) 0), (31, 0, d.faults.unprotected)]

end Sys2Proof.Machine
end

