-- ==== Sys2Proof/Machine/Rebuild.lean ====
section
/-! DEFINITION. The rebuild of a lost slice's stripe on its adopter (R383 to R386). -/

namespace Sys2Proof.Machine

/-! ### The record read back (Tables 4.4, 8.5, 8.6, 12.2, R247, R353) -/

def Tcb.ofBits (x : Nat) : Tcb :=
  { handle := bf x 511 480, state := SeqState.ofCode (bf x 479 472), prior := SeqState.ofCode (bf x 471 464)
    cls := Cls.ofCode (bf x 463 462), singleTurn := bit x 461, stream := bit x 460, expired := bit x 459
    parkPending := bit x 458, waitOr := bit x 457, rerunUsed := bit x 456, flags := BitVec.ofNat 16 (bf x 455 440)
    waitMask := BitVec.ofNat 16 (bf x 439 424), ring := bf x 423 416, client := bf x 415 404, partition := bf x 403 398
    group := bf x 397 390, flow := if bit x 389 then some (bf x 388 374) else none, status := Status.ofCode (bf x 373 366)
    tokenEnd := bf x 365 343, admitTick := bf x 319 256, stateTick := bf x 255 192, lastStep := bf x 191 160
    hseqOf := bf x 159 128, userTag := bf x 127 64, waitTicks := bf x 63 32 }

def Turn.ofBits (x : Nat) : Turn :=
  { promptAddr := bf x 255 192, toklogAddr := bf x 191 128, base := bf x 127 105, promptLen := bf x 104 82, gen := bf x 81 59 }

/-- The context block but for its pages, with `p` tokens a page. LAST_HASH stands after the last full page, 0 before the
first (log entry 129). -/
def CtxBlk.ofBits (p x : Nat) (turns : List Turn) : CtxBlk :=
  { lastHash := bf x 255 160, clen := bf x 159 137, turnBase := bf x 136 114, recomputeFrom := bf x 113 91
    recompute := bit x 77, treeBank := bit x 75, demoteStage := bf x 74 73, turns := turns
    hashedPages := if bf x 255 160 = 0 then 0 else bf x 159 137 / p }

def sampOfRecord (record : Nat) : SampBlk :=
  let h := bytesAt record 0x60 128
  { header := BitVec.ofNat 1024 (imageHeader record), winStart := bf h 366 344, genStart := bf h 343 321
    rngClass := bf h 320 320, ring := imageRing record }

/-- The speculation block; a staged draft and a scratch were not in the record. -/
def SpecBlk.ofBits (x : Nat) : SpecBlk :=
  { dlen := bf x 255 249, zeroRun := bf x 248 241, suspLeft := bf x 240 234, dseq := bf x 233 218, dbank := bit x 217
    drafted := bf x 168 137, accepted := bf x 136 105, endDefer := bit x 76, endReason := bf x 75 74 }

def planOfBits (x : Nat) (bits : PlanBits) (list : List (Nat × F32)) : PlanBlk :=
  { bits := bits, epoch := bf x 511 480, epochSlot := bf x 479 477, stage := bf x 476 473, fbUsed := bf x 472 470
    retryUsed := bit x 469, coverage := bf x 468 452, missing := bf x 451 436, latest := some { entries := list } }

def Timer.ofBits (x : Nat) : Option Timer := if bit x 25 then some { due := bf x 127 64, kind := bf x 29 26 } else none

/-! ### What an adopter finds -/

def xorAll {w : Nat} (l : List (BitVec w)) : BitVec w := l.foldl (· ^^^ ·) 0

/-- The lost slice's record and timer words (step 1 of R383). -/
def rebuiltRecord (d : Device) (r : StripeRead) : BitVec 4096 :=
  xorAll r.members ^^^ r.parity ^^^ BitVec.ofNat 4096 (recordParity d r.stripe)
def rebuiltTimers (d : Device) (r : StripeRead) : BitVec 256 :=
  xorAll r.memberTimers ^^^ r.parityTimers ^^^ BitVec.ofNat 256 (timerWords d r.stripe)

/-- The lowest online group homed here that holds or can load a version. -/
def adoptGroup (d : Device) (v : Nat) : Option Nat :=
  (homedGroups d).find? (fun g => groupOnline d g && ((hotSlotOf d g v).isSome || canLoad d g v))

/-- The request ended: FINISHING or later. -/
def SeqState.ended : SeqState → Bool
  | .finishing | .done | .faulted | .aborted => true
  | _ => false

/-- The record with the changes of R385, in a slot and a group of its adopter. -/
def adoptSeq (d : Device) (record slot g : Nat) (x : SeqExtra) : Seq :=
  let t := Tcb.ofBits (bytesAt record 0 64)
  let turns := x.turns.map (fun e => Turn.ofBits e.toNat)
  let last := turns.getLastD { promptAddr := 0, toklogAddr := 0, base := 0, promptLen := 0, gen := 0 }
  let now := d.tick
  let st := if t.state = .waiting then t.prior else if t.state.ended then .finishing else t.state
  { tcb := { t with
      handle := mkHandle d.ident.index slot (slotGen d slot), state := st, flags := 0, waitMask := 0, waitOr := false
      waitTicks := 0, stateTick := now, rerunUsed := false, group := g, lastStep := (d.group g).step }
    ctx := CtxBlk.ofBits (pageTokens d x.version) (bytesAt record 0x40 32) turns
    samp := if t.cls = .g then sampOfRecord record else {}
    spec := if t.cls = .g then { SpecBlk.ofBits (bytesAt record 0x1A0 32) with anew := true } else {}
    plan :=
      if t.cls = .g then {}
      else
        let p := planOfBits (bytesAt record 0x1C0 64) x.plan x.list
        { p with epochSlot := (epochSlotOf d p.epoch (Plan.index x.plan.toNat)).getD 0, lists := [0], todo := [0]
                 partialSeen := t.status = .partialRes, fewer := t.status = .fewer }
    version := x.version, adapter := x.adapter, owner := x.owner, promptLen := last.promptLen, maxTokens := x.maxTokens
    deadline := if t.state.ended && t.state ≠ .finishing then 0 else x.deadline
    promptAddr := last.promptAddr, toklogAddr := last.toklogAddr, paramAddr := x.paramAddr, paramLen := x.paramLen
    biasTokens := x.biasTokens
    resultAddr := x.resultAddr, resultLen := x.resultLen, fallbackUsed := t.status = .fallbackUsed, ttlExpired := now }

/-! ### Pages (R385, R393) -/

/-- A borrowed T1 frame that a sequence rebuilt here earlier took already: directory entry, slot and page of that
sequence, and its old slot. -/
def sharedFrame (d : Device) (lost frame : Nat) : Option (Nat × Nat × Nat × Nat) :=
  match d.ctx.dir1.find? (fun p => p.2.home = frame) with
  | none => none
  | some (i, _) =>
    match d.seqs.find? (fun p => p.2.ctx.pages.any (fun x => x.home = .t1 i)) with
    | none => none
    | some (s, q) =>
      match d.faults.forwards.find? (fun x => x.1 = lost && x.2.2 = q.tcb.handle) with
      | some x => some (i, s, q.ctx.pages.findIdx (fun x => x.home = .t1 i), handleSlot x.2.1)
      | none => none

/-- A page that several rebuilt sequences held stays with the one whose old slot is lowest; every other recomputes from
it (R385). `none`: the page is another's. -/
def takeShared (d : Device) (lost frame stripe : Nat) : Option Device :=
  match sharedFrame d lost frame with
  | none => some d
  | some (i, s, k, old) => if stripe < old then some (losePage d s k (some i)) else none

/-- Page k takes its home again: a T1 frame of the lost slice's pool, empty where its content stood in the T0 copy
alone, or a T2 frame. -/
def adoptPage (r : StripeRead) (slot : Nat) (d : Device) (k : Nat) : Device :=
  match d.seq? slot with
  | none => d
  | some q =>
    let p := pageTokens d q.version
    let push (d : Device) (x : PageRef) : Device := modBlk d slot (fun c => { c with pages := c.pages ++ [x] })
    let t1 := match r.mirror.find? (fun m => m.1 = k) with | some (_, e) => Dir1.ofBits e.toNat | none => none
    let t2 := (r.spilled.find? (fun m => m.1 = k)).map Prod.snd
    match t1, freeDir1 d, t2, freeDir2 d with
    | some e, some i, _, _ =>
      let good : Bool := (e.t0 = .none || e.t0 = .clean) && e.pstate ≠ .filling
      (match takeShared d r.lost (borrowedFrame r.lost e.home) r.stripe with
       | some d =>
         push (putDir1 d i { home := borrowedFrame r.lost e.home, fill := if good then e.fill else 0, part := q.tcb.partition
                             model := q.version, adapter := q.adapter }) { home := .t1 i }
       | none => push d {})
    | none, _, some f, some j =>
      if (q.tcb.state = .paused && q.ctx.demoteStage = 2) || d.ident.n = 32 || r.drained then
        push (putDir2 d j { frame := borrowedFrame r.lost f, slot := slot, pageNo := k, fill := min p (q.ctx.clen - k * p)
                            part := q.tcb.partition, model := q.version, adapter := q.adapter }) { home := .t2 j }
      else push d {}
    | _, _, _, _ => push d {}

/-- Page k came over whole. -/
def pageKept (d : Device) (q : Seq) (k : Nat) : Bool :=
  match (pageAt q k).home with
  | .t1 i => match dir1? d i with | some e => e.fill ≠ 0 | none => false
  | .t2 _ => true
  | .none => false

/-- The sequence's pages, and its re-prefill from the first one that was lost. -/
def adoptPages (d : Device) (slot : Nat) (r : StripeRead) : Device :=
  match d.seq? slot with
  | none => d
  | some q =>
    let n := pagesBelow d q q.ctx.clen
    let d := (List.range n).foldl (adoptPage r slot) d
    let d := (List.range n).foldl (fun d k => writePtab d slot k) d
    match d.seq? slot with
    | none => d
    | some q =>
      match (List.range n).find? (fun k => !pageKept d q k) with
      | some k => trimPages (losePage d slot k none) slot
      | none => d

/-! ### The latest completion again (R386) -/

/-- ARG0 of the turn's end, derived again from its last token (R269). -/
def endReasonAgain (q : Seq) (stops : Nat) : Nat :=
  (endReasonOf { q with inputs := [(1, stops)] } (emittedBefore q (q.ctx.clen + 1)) (q.tcb.tokenEnd - 1)).getD 0

/-- The plan's stage starts over. -/
def adoptStage (d : Device) (slot : Nat) : Device :=
  match d.seq? slot with
  | none => d
  | some q =>
    if q.tcb.cls ≠ .r || !q.tcb.state.running then d
    else if q.plan.stage = 8 then packStart d slot
    else if q.plan.stage = 0 then d
    else
      let d := modPlan (enterStage d slot q.plan.stage) slot (fun p => { p with retryUsed := q.plan.retryUsed })
      match d.seq? slot with
      | some q => writeStageBlocks d slot q q.plan.lists
      | none => d

/-- Sends the sequence's latest completion again. -/
def completeAgain (d : Device) (slot : Nat) (x : SeqExtra) : Device :=
  match d.seq? slot with
  | none => d
  | some q =>
    if q.tcb.state = .finishing then tryEnd (d.modSeq slot (fun q => { q with endReason := if q.tcb.status = .ok && q.tcb.cls = .g then endReasonAgain q x.stops else 3 })) slot
    else if d.faults.lost.contains q.owner then faultSeq (bump d Od.FAULT_STATS 7) slot .faultSliceLost
    else if q.spec.endDefer then turnStop d slot q.spec.endReason
    else if q.tcb.state = .paused && !q.tcb.expired && q.tcb.tokenEnd ≠ 0 && (q.ctx.turns.getLast?.map Turn.gen).getD 0 ≠ 0 then
      sendCompl d slot (seqCompl d q CT_TURN_END .ok (endReasonAgain q x.stops) q.ctx.clen 0)
    else if q.tcb.state.running && q.tcb.stream then sendCompl d slot (seqCompl d q CT_TOKENS .ok q.ctx.clen 0 0)
    else d

/-! ### REBUILD_STRIPE (R383) -/

/-- Step 4: the delta that removes the lost member from the stripe's parity, kept until it is acknowledged. -/
def removeMember (d : Device) (r : StripeRead) (record : BitVec 4096) (timers : BitVec 256) : Device :=
  let p : ParityDelta :=
    { src := d.ident.index, member := r.lost, slot := r.stripe, updNo := (r.lastUpd + 1) % 65536, record := record, timers := timers }
  let now := d.tick
  sendXfer (d.modFaults (fun f => { f with removals := f.removals ++ [(now, p)] }))
    (8 * ((r.lost / 8) ^^^ 1) + r.stripe / 8192) (.parityDelta p) deltaBytes

/-- The pair goes to every slice, with the sequence's group for the owner of its ring pair (R384, R385). -/
def broadcastPair (d : Device) (lost old new group : Nat) : Device :=
  tellPair (forwardPair d lost old new (.group group)) lost old new (.group group)

/-- The stripe cannot be adopted: the END with FAULT_SLICE_LOST from the rebuilt record. -/
def endStripe (d : Device) (record : Nat) (owner : Nat) : Device :=
  let q : Seq := { tcb := Tcb.ofBits (bytesAt record 0 64) }
  let d := (bump d Od.FAULT_STATS 7).modFaults (fun f => { f with lostEnds := f.lostEnds ++ [(q.tcb.handle, owner)] })
  shipCompl d owner (seqCompl d q CT_END .faultSliceLost 3 0 0)

/-- A timer of the rebuilt words is armed. -/
def adoptTimer (d : Device) (slot : Nat) (b : Bool) (x : Nat) : Device :=
  match Timer.ofBits x with
  | some t => armTimer d slot b t.kind t.due
  | none => d

/-- The record is written in its slot, with all that follows. -/
def adoptStripe (d : Device) (r : StripeRead) (record timers slot g : Nat) : Device :=
  let old := bf (bytesAt record 0 64) 511 480
  let q := adoptSeq d record slot g r.extra
  let d := wantModel (d.putSeq slot q) g q.version
  let d := adoptTimer (adoptTimer d slot false (timers % 2 ^ 128)) slot true (timers >>> 128)
  let turns := r.extra.turns.reverse.foldl (fun acc t => acc <<< 256 ||| t.toNat) 0
  let d := if r.extra.turns.isEmpty then d
    else fabiWrite d (.turnList slot) (ptabRoot d slot + 0x1000) (32 * r.extra.turns.length) turns
  let d := adoptPages d slot r
  let d := gapAll d
  let d := traceRec (bump d Od.FAULT_STATS 6) TR_FAULT q.tcb.handle q.tcb.client q.tcb.partition
    (fields [(127, 124, 1), (59, 28, old)])
  let d := broadcastPair d r.lost old q.tcb.handle g
  let d := if q.tcb.cls = .g && q.tcb.state.running && q.tcb.tokenEnd = 0 then readTail d slot else d
  completeAgain (adoptStage d slot) slot r.extra

/-- REBUILD_STRIPE, for a stripe that this slice has still to adopt; one that has lost two members is lost (R382). -/
def rebuildStripe (d : Device) (r : StripeRead) : Device :=
  if !d.faults.toAdopt.contains (r.lost, r.stripe) then d
  else
    let record := rebuiltRecord d r
    let timers := rebuiltTimers d r
    let d := d.modFaults (fun f => { f with toAdopt := f.toAdopt.filter (· ≠ (r.lost, r.stripe)) })
    if r.twice then stripeTwice d r.lost r.stripe
    else if bf record.toNat 479 472 = 0 then d
    else
      let d := removeMember d r record timers
      match allocSlot d, adoptGroup d r.extra.version with
      | some slot, some g => adoptStripe d r record.toNat timers.toNat slot g
      | _, _ => endStripe d record.toNat r.extra.owner

/-- REBUILD_STRIPE. -/
def execRebuildStripe (r : StripeRead) (s : State) : Host.Outcome State Fault Refusal :=
  done s (whenReady s.dev (rebuildStripe · r))

end Sys2Proof.Machine
end

