-- ==== Sys2Proof/Machine/Capacity.lean ====
section
/-! DEFINITION. Draining the slice and taking tiles offline (R390, R392). -/

namespace Sys2Proof.Machine

/-! ### Draining the slice (R392) -/

/-- Every DIRTY T0 copy is written back; it keeps standing. -/
def writebackAll (d : Device) : Device :=
  d.seqs.foldl (fun d p => (List.range p.2.ctx.pages.length).foldl (fun d k => writebackPage d p.1 k 0 false) d) d

/-- What a write of SLICE_DRAIN does: 1 stops the opening of steps, 0 takes the drain back. -/
def effSliceDrain : Effect := fun d v =>
  let d := odSet d Od.SLICE_DRAIN 0 v
  if v = 1 then
    (writebackAll { d with groups := d.groups.map (fun (p : Nat × Group) => (p.1, { p.2 with opened := none })) }, some .ok)
  else
    (((d.groups.filter (fun p => p.2.opened.isNone && p.2.building.isNone)).map Prod.fst).foldl openStep
      (odSet d Od.SLICE_QUIESCED 0 0), some .ok)

/-- SLICE_DRAIN. -/
def execSliceDrain (path : Path) (v : Nat) (s : State) : Host.Outcome State Fault Refusal :=
  done s (pathWrite s.dev path Od.SLICE_DRAIN 0 (leBytes v 1) effSliceDrain)

/-- Steps are over and every DIRTY T0 copy is written back. -/
def drained (d : Device) : Bool :=
  d.groups.all (fun p => p.2.building.isNone && p.2.dispatched.isEmpty) && d.ctx.moves.isEmpty && d.ctx.moveQueue.isEmpty
    && d.ctx.dir1.all (fun p => p.2.t0 ≠ .dirty)

/-- What the member asks besides. -/
def quiet (d : Device) : Bool :=
  if d.ident.n < 16 then d.seqs.isEmpty
  else deltasBusy d = 0 && (List.range 256).all (fun p => !(ringOwned d p && ringEnabled d p))

/-- SLICE_QUIESCED. A copy that a late commit made DIRTY is written back first. -/
def sliceQuiesced (d : Device) : Device :=
  if odGet d Od.SLICE_DRAIN 0 = 0 then d
  else if drained d then (if quiet d then odSet d Od.SLICE_QUIESCED 0 1 else d)
  else writebackAll d

/-- SLICE_QUIESCED. -/
def execSliceQuiesced (s : State) : Host.Outcome State Fault Refusal := done s (whenReady s.dev sliceQuiesced)

/-! ### Tiles (R390) -/

/-- A bit of TILE_ONLINE is cleared: sequences in a step leave the tile after it, others at once. -/
def tileOff (d : Device) (tile : Nat) : Device :=
  let now := d.tick
  let d := d.modTile tile (fun t => { t with drainTick := some now })
  let d := { d with seqs := d.seqs.map (fun (p : Nat × Seq) =>
    (p.1, if p.2.ctx.affTile = some tile && p.2.inStep then { p.2 with evictAfter := true } else p.2)) }
  clearTile d tile

def tileOn (d : Device) (tile : Nat) : Device := d.modTile tile (fun t => { t with drainTick := none })

/-- What a write of TILE_ONLINE does. -/
def effTileOnline (x : Nat) : Effect := fun d v =>
  let old := odGet d Od.TILE_ONLINE x
  let d := odSet d Od.TILE_ONLINE x v
  let d := ((List.range 64).filter (fun i => bit old i && !bit v i)).foldl (fun d i => tileOff d (tileAt d x i)) d
  (((List.range 64).filter (fun i => !bit old i && bit v i)).foldl (fun d i => tileOn d (tileAt d x i)) d, some .ok)

/-- TILE_ONLINE. -/
def execTileOnline (path : Path) (x v : Nat) (s : State) : Host.Outcome State Fault Refusal :=
  done s (pathWrite s.dev path Od.TILE_ONLINE x (leBytes v 8) (effTileOnline x))

/-- Commands of the tile end with KCAUSE OFFLINE; a building step may be left with none to issue. -/
def killOffline (d : Device) (is : List Nat) : Device :=
  is.foldl (fun d i =>
    match Map.find d.inflight i with
    | none => d
    | some c => closeBuilding (returned (killCommand d i 6 65536) (commandSlots c)) c.group) d

/-- TILE_DRAIN_TIMEOUT. -/
def tileDrainTimeout (d : Device) (tile : Nat) : Device :=
  match (d.tile tile).drainTick with
  | none => d
  | some t =>
    if d.tick < t + odGet d Od.TILE_DRAIN_US 0 then d
    else clearTile (killOffline d ((commandsOn d tile).map Prod.fst)) tile

/-- TILE_DRAIN_TIMEOUT. -/
def execTileDrainTimeout (tile : Nat) (s : State) : Host.Outcome State Fault Refusal :=
  done s (whenReady s.dev (tileDrainTimeout · tile))

/-- Every entry of the tile is freed at once: no KILL is sent, and none is waited for. -/
def freeCommands (d : Device) (tile : Nat) : Device :=
  (commandsOn d tile).foldl (fun d p =>
    if p.2.revoked then returned (freeEntry d p.1) (commandSlots p.2)
    else
      let d := d.modInflight p.1 (fun c => { c with istate := if c.istate = .issued then .draining else c.istate })
      killOffline d [p.1]) d

/-- The copies go with the tile, and so does a COMPACT that it held (R239). -/
def loseCopies (d : Device) (tile : Nat) : Device :=
  let cs := (d.seqs.filter (fun p => p.2.ctx.pendCompact && p.2.ctx.affTile = some tile)).map Prod.fst
  cs.foldl (fun d s => compactOver d 0 s) (loseTile d tile)

/-- What a write of TILE_LOST does. -/
def effTileLost : Effect := fun d tile =>
  if tile / 128 ≠ d.ident.index then refusedBy d .rejFormat
  else
    let x := tile % 128 / 64
    let now := d.tick
    let v := odGet d Od.TILE_ONLINE x
    let d := odSet d Od.TILE_ONLINE x (v - (v &&& 2 ^ (tile % 64)))
    let d := freeCommands (bump d Od.FAULT_STATS 4) tile
    let d := d.modTile tile (fun t => { t with used := 0, suspect := false, drainTick := some now })
    (wakePages (loseCopies d tile), some .ok)

/-- TILE_LOST. -/
def execTileLost (path : Path) (tile : Nat) (s : State) : Host.Outcome State Fault Refusal :=
  done s (pathWrite s.dev path Od.TILE_LOST 0 (leBytes tile 2) effTileLost)

end Sys2Proof.Machine
end

