-- ==== Sys2Proof/Machine/Ends.lean ====
section
/-! DEFINITION. Timer expiries (R114, Table 4.2), reclaimed slots (R107), ENDs between slices (R99, R380) and the spawn
of a packed request at the owning slice (R364). -/

namespace Sys2Proof.Machine

/-! ### Timers -/

/-- DEADLINE_EXPIRY: the deadline monitor is evaluated (R142). -/
def deadlineExpiry (d : Device) (slot : Nat) : Device :=
  match timerDue d slot false TK_DEADLINE with
  | some t => monitor (setFlag (expireTimer d slot false t) slot FL_TMR_A) slot
  | none => d

/-- TTL_EXPIRY (row 19, R237): the sequence stays PAUSED, EXPIRED, without pages. -/
def ttlExpiry (d : Device) (slot : Nat) : Device :=
  match timerDue d slot false TK_TTL, d.seq? slot with
  | some t, some q =>
    let d := setFlag (expireTimer d slot false t) slot FL_TMR_A
    if q.tcb.state ≠ .paused then d
    else
      let now := d.tick
      let d := modTcb (d.modSeq slot (fun q => { q with ttlExpired := now })) slot (fun t => { t with expired := true })
      wakePages (releaseAll d slot)
  | _, _ => d

/-- QUARANTINE_EXPIRY: the slot is allocatable again (R105). -/
def quarantineExpiry (d : Device) (slot : Nat) : Device :=
  match timerDue d slot false TK_QUARANTINE with
  | some t => let d := expireTimer d slot false t
              { d with reclaimed := d.reclaimed.filter (· ≠ slot) }
  | none => d

/-- Expiry of timer B with a kind whose flag ends a wait (R109). -/
def waitExpiry (d : Device) (slot kind : Nat) : Device :=
  match timerDue d slot true kind with
  | some t => setFlag (expireTimer d slot true t) slot FL_TMR_B
  | none => d

/-- DEADLINE_EXPIRY. -/
def execDeadlineExpiry (slot : Nat) (s : State) : Host.Outcome State Fault Refusal :=
  done s (whenReady s.dev (deadlineExpiry · slot))
/-- TTL_EXPIRY. -/
def execTtlExpiry (slot : Nat) (s : State) : Host.Outcome State Fault Refusal :=
  done s (whenReady s.dev (ttlExpiry · slot))
/-- QUARANTINE_EXPIRY. -/
def execQuarantineExpiry (slot : Nat) (s : State) : Host.Outcome State Fault Refusal :=
  done s (whenReady s.dev (quarantineExpiry · slot))
/-- NOT_BEFORE_EXPIRY. -/
def execNotBeforeExpiry (slot : Nat) (s : State) : Host.Outcome State Fault Refusal :=
  done s (whenReady s.dev (fun d =>
    match timerDue d slot true TK_NOT_BEFORE, d.seq? slot with
    | some _, some q =>
      let d := waitExpiry d slot TK_NOT_BEFORE
      -- a class R request then asks for its command slots (Table 4.6)
      if q.tcb.cls = .r && q.tcb.state = .waiting then startWait d slot [FL_SLOTS_OK] false else d
    | _, _ => d))
/-- BACKOFF_EXPIRY. -/
def execBackoffExpiry (slot : Nat) (s : State) : Host.Outcome State Fault Refusal :=
  done s (whenReady s.dev (fun d => waitExpiry d slot TK_BACKOFF))

/-! ### Reclaimed slots (R107) -/

/-- The expired PAUSED sequence whose TTL expired first. -/
def reclaimVictim (d : Device) : Option Nat :=
  (minBy (fun p => p.2.ttlExpired) (d.seqs.filter (fun p => p.2.tcb.state = .paused && p.2.tcb.expired))).map Prod.fst

def slotReclaimLoop (d : Device) : Nat → Device
  | 0 => d
  | n + 1 =>
    if odGet d Od.SLOT_RECLAIM_LOW 0 ≤ allocCount d + d.reclaimed.length then d
    else match reclaimVictim d with
      | some s => slotReclaimLoop (endExpired { d with reclaimed := d.reclaimed ++ [s] } s) n
      | none => d

/-- SLOT_RECLAIM. -/
def execSlotReclaim (s : State) : Host.Outcome State Fault Refusal :=
  done s (whenReady s.dev (fun d => slotReclaimLoop d d.seqs.length))

/-! ### ENDs between slices (R99, R380) -/

/-- END_TRANSFER: at N ≥ 16 the owning slice enters it in its receipt table, or refuses it; a second copy of one that it
holds is taken once. Where it holds the old handle of a rebuilt sequence, that END stands, and the slot is freed without
another (R386). The END of a hand-over that was refused is not written, and its slot goes. -/
def endTransfer (d : Device) (c : Compl) : Device :=
  if complRefused d c then sendXfer d c.home (.endWritten c.handle) 32
  else if d.ident.n < 16 then cqEnqueue d { c with noIrq := false }
  else if d.faults.forwards.any (fun x => x.2.2 = c.handle && d.faults.receipts.contains x.2.1) then
    let old := (d.faults.forwards.filter (fun x => x.2.2 = c.handle)).map (fun x => x.2.1)
    sendXfer (d.modFaults (fun f => { f with receipts := f.receipts.map (fun h => if old.contains h then c.handle else h) }))
      c.home (.endWritten c.handle) 32
  else if d.faults.receipts.contains c.handle then d
  else if 4096 ≤ d.faults.receipts.length then sendXfer d c.home (.endRefused c.handle) 32
  else cqEnqueue (d.modFaults (fun f => { f with receipts := f.receipts ++ [c.handle] })) { c with noIrq := false }

/-- END_TRANSFER. -/
def execEndTransfer (c : Compl) (s : State) : Host.Outcome State Fault Refusal :=
  next s (whenReady s.dev (fun d => if ringOwned d c.ring then endTransfer d c else d))

/-- END_RETRY: a refused END is sent again, 1 TICK after the latest try. -/
def endRetry (d : Device) (slot : Nat) : Device :=
  match d.seq? slot with
  | none => d
  | some q =>
    let waits := !q.behind.isEmpty || d.faults.gated.any (fun g => g.1 = slot)
    if d.ident.n < 16 || !q.endSent || waits || d.tick < q.endRefusedTick.getD q.tcb.stateTick + 1 then d
    else
      let now := d.tick
      shipCompl (d.modSeq slot (fun q => { q with endRefusedTick := some now })) q.owner
        (seqCompl d q CT_END q.tcb.status (endArg0 q) q.engineNs q.energyUj)

/-- END_RETRY. -/
def execEndRetry (slot : Nat) (s : State) : Host.Outcome State Fault Refusal :=
  done s (whenReady s.dev (endRetry · slot))

/-- END_WRITTEN_REPORT: row 27. The END of a stripe that was not adopted needs no more (R383). At N ≥ 16 a RELEASE follows the delta that records the slot FREE. -/
def endWritten (d : Device) (h : Nat) : Device :=
  match d.faults.lostEnds.find? (fun x => x.1 = h) with
  | some (_, owner) =>
    sendXfer (d.modFaults (fun f => { f with lostEnds := f.lostEnds.filter (fun x => x.1 ≠ h) })) owner (.release h) 32
  | none =>
  match liveSlot d h with
  | none => d
  | some slot =>
    match d.seq? slot with
    | none => d
    | some q =>
      if !q.endSent then d
      else
        let d := wakeSlots (freeSlot d slot)
        if d.ident.n < 16 then d
        else d.modFaults (fun f => { f with releases := f.releases ++ [(slot, noUpdate, q.owner, h)] })

/-- END_WRITTEN_REPORT. -/
def execEndWrittenReport (handle : Nat) (s : State) : Host.Outcome State Fault Refusal :=
  done s (whenReady s.dev (endWritten · handle))

/-- RELEASE: to an owning slice, the END receipt goes; to a home slice, a late acknowledgement was refused, and the slot
goes without an END (R27, R380). -/
def release (d : Device) (h : Nat) : Device :=
  if d.faults.receipts.contains h then
    d.modFaults (fun f => { f with receipts := f.receipts.filter (· ≠ h) })
  else match liveSlot d h with
    | some slot => finishSeq (d.modSeq slot (fun q => { q with unwanted := true })) slot .rejCapacity 3
    | none => d

/-- RELEASE. -/
def execRelease (handle : Nat) (s : State) : Host.Outcome State Fault Refusal :=
  done s (whenReady s.dev (release · handle))

/-! ### Spawn (R364) -/

/-- The decision that a spawn becomes; it takes the tests of Table 5.2 and joins no flow anew. -/
def spawnDecision (d : Device) (r : SpawnReq) : Decision :=
  { did := d.turn.order, op := .spawn r.parent r.src r.id, ring := r.ring, client := r.client, userTag := r.userTag
    cls := .g, singleTurn := r.singleTurn, model := r.model, adapter := r.adapter, flow := r.flow
    turn := r.turn, paramAddr := r.paramAddr, paramLen := r.paramLen
    order := d.turn.order, part := odGetC d Od.CLIENT_PARTITION r.client }

/-- A spawn whose parent has an ABORT on its way is withdrawn (R365): the parent's home slice answers the ABORT. -/
def spawn (d : Device) (r : SpawnReq) : Device :=
  let withdrawn := match Map.find d.turn.owned r.parent with | some o => o.aborted | none => false
  if ringOwned d r.ring && !withdrawn then
    let x := spawnDecision d r
    startDecision (addDecision d { x with phase := .granted }) x.did
  else d

/-- SPAWN. -/
def execSpawn (r : SpawnReq) (s : State) : Host.Outcome State Fault Refusal :=
  done s (whenReady s.dev (spawn · r))

end Sys2Proof.Machine
end

