-- ==== Sys2Proof/Machine/Scrub.lean ====
section
/-! DEFINITION. Words of the grotto: corrected, retired and uncorrectable ones (R372 to R374, Table 14.4). -/

namespace Sys2Proof.Machine

/-! ### Correctable words -/

def eccWindow (d : Device) : Nat := d.tick / 100000

/-- ECC_CE_RATE is raised where the window's count is above the limit, once in a window (R372). -/
def ceJudge (d : Device) : Device :=
  if odGet d Od.ECC_CE_LIMIT 0 < d.faults.ceCount && !d.faults.ceRaised then
    alertLog (d.modFaults (fun f => { f with ceRaised := true })) ALERT_ECC_CE_RATE 0 0 0 d.faults.ceCount
  else d

/-- ECC_CE_WINDOW: at the end of a window its count is judged against the limit in force, and a new one begins. -/
def ceWindowEnd (d : Device) : Device :=
  if eccWindow d = d.faults.ceWindow then d
  else
    let d := ceJudge d
    let w := eccWindow d
    d.modFaults (fun f => { f with ceCount := 0, ceWindow := w, ceRaised := false })

/-- ECC_CE_WINDOW. -/
def execEccCeWindow (s : State) : Host.Outcome State Fault Refusal := next s (whenReady s.dev ceWindowEnd)

/-- A word is corrected, counted, and retired where it erred a scrub period ago already. In a row that could not be
retired every correctable error is logged (R373). -/
def corrected (d : Device) (addr : Nat) : Device :=
  let d := bump (ceWindowEnd d) Od.FAULT_STATS 0
  let d := noteBadWord (ceJudge (d.modFaults (fun f => { f with ceCount := f.ceCount + 1 }))) addr
  if d.faults.stayed.contains (addr / 512) then flogWrite d ALERT_ECC_CE_RATE addr 0 0 0 else d

/-! ### Uncorrectable words (Table 14.4) -/

/-- A flow entry is invalidated: what waits in it is refused, its live sequences belong to no flow any more, here and on
their home slices. -/
def flowLost (d0 : Device) (i : Nat) : Device :=
  match Map.find d0.flows i with
  | none => d0
  | some f =>
    let d := d0
    let d := f.queue.foldl (fun d did => refuseDecision d did .faultState 0 none) { d with flows := Map.del d.flows i }
    let d := d.modTurn (fun t => { t with
      owned := t.owned.map (fun (p : Nat × Owned) => (p.1, if p.2.flow = some i then { p.2 with flow := none } else p.2))
      decisions := t.decisions.map (fun x => if x.flow = some i then { x with flow := none } else x) })
    let me := d.ident.index
    let away := (Map.keys (d0.turn.owned.filter (fun p => p.2.flow = some i))).filter (fun h =>
      handleSlice h ≠ me && !d.faults.lost.contains (handleSlice h))
    away.foldl (fun d h => sendXfer d (handleSlice h) (.forward me h h .noFlow) 32)
      { d with seqs := d.seqs.map (fun (p : Nat × Seq) =>
          (p.1, if p.2.owner = me && p.2.tcb.flow = some i then { p.2 with tcb := { p.2.tcb with flow := none } } else p.2)) }

/-- A timer of a lost delay-list row at N = 8: a DEADLINE expires at once, every other kind runs its full time again. -/
def rearm (d : Device) (key : Nat) : Device :=
  let slot := key / 2
  match Map.find d.timers key with
  | none => d
  | some t =>
    let full := match d.seq? slot with
      | some q =>
        if t.kind = TK_DEADLINE then 0
        else if t.kind = TK_TTL then odGet d Od.TTL_DEFAULT 0
        else if t.kind = TK_NOT_BEFORE then Hdr.notBefore q.samp.header.toNat
        else if t.kind = TK_IDLE_DEMOTE then odGet d (if q.ctx.demoteStage = 0 then Od.IDLE_DEMOTE else Od.IDLE_SPILL) 0
        else if q.tcb.waitMask.getLsbD FL_DRAFT_READY then odGet d Od.SPEC_DRAFT_WAIT 0
        else odGet d Od.RETRY_BACKOFF 0
      | none => 2048
    { d with timers := Map.put d.timers key (newTimer d t.kind (d.tick + full)) }

/-- Each structure's handling; `addr`: the word's address. -/
def wordLost (d : Device) (addr : Nat) : GrottoLoc → Device
  | .seqRecord slot => if slotProtected d slot then d else faultSeq d slot .faultState
  | .paritySlot _ => d
  | .flowEntry i => flowLost d i
  | .dirT1 i => if d.ident.n = 32 && !d.ctx.mirrorStopped then d else loseEntry d i
  | .dirT2 j =>
    (match Map.find d.ctx.dir2 j with
     | some e => losePage d e.slot e.pageNo none
     | none => d)
  | .prefixEntry i => prefixRemove d i
  | .staging g lane => laneFault d g lane []
  | .tableT _ => tableAgain d addr
  | .delayRow keys => if 16 ≤ d.ident.n then d else keys.foldl rearm d
  | .inflight i => commandFailed d i 3 (fun _ => true)
  | .account c => d.modClient c (fun a => { a with dNs := 0, dBytes := 0, dUj := 0, gap := true })
  | .window _ => d
  | .traceRing places =>
    let lost := (places.filter (fun i => d.trace.issued ≤ i && i < d.trace.ring.length)).dedup
    let d := traceDrop d 3 lost.length
    d.modTrace (fun t => { t with ring := ((indexed 0 t.ring).filter (fun p => !lost.contains p.1)).map Prod.snd })
  | .dictionary => d.modClk (fun c => { c with ready := false })
  | .idle => d

/-- The sequence that an uncorrectable word concerns, and the status it ends with, for the fault log (R371): 0 for none.
For a page that several sequences hold it is the one in the lowest slot (log entry 119). -/
def wordHandle (d : Device) : GrottoLoc → Nat × Nat
  | .seqRecord slot => (slotHandle d slot, if slotProtected d slot then 0 else Status.faultState.code)
  | .flowEntry i => (match Map.find d.flows i with | some f => f.svcHandle | none => 0, 0)
  | .dirT1 i =>
    (match d.seqs.find? (fun p => p.2.ctx.pages.any (fun r => r.home = .t1 i)) with | some p => p.2.tcb.handle | none => 0, 0)
  | .dirT2 j => (match Map.find d.ctx.dir2 j with | some e => slotHandle d e.slot | none => 0, 0)
  | .delayRow keys => (match keys.head? with | some k => slotHandle d (k / 2) | none => 0, 0)
  | _ => (0, 0)

/-- A word of the class-T table notes its address when its error is handled; every other word does here (R373). -/
def noteLost (d : Device) (addr : Nat) : GrottoLoc → Device
  | .tableT _ => d
  | _ => noteBadWord d addr

/-- SCRUB. -/
def scrub (d : Device) (addr : Nat) (loc : GrottoLoc) : Ecc → Device
  | .clean => d
  | .correctable => corrected d addr
  | .uncorrectable =>
    let h := wordHandle d loc
    wordLost (noteLost (eccUe d addr h.1 h.2) addr loc) addr loc

/-- SCRUB. -/
def execScrub (addr : Nat) (loc : GrottoLoc) (found : Ecc) (s : State) : Host.Outcome State Fault Refusal :=
  done s (whenReady s.dev (fun d => scrub d addr loc found))

end Sys2Proof.Machine
end

