-- ==== Sys2Proof/Machine/Power.lean ====
section
/-! DEFINITION. Budget records, telemetry and lane duty (R56 to R59, R406), ROOT_MHZ and TICK_LOAD (R402, R403), and
the seal (R417, R418). -/

namespace Sys2Proof.Machine

/-! ### Budgets (R56 to R58) -/

/-- BUDGET_RECORD. -/
def budgetRecord (d : Device) (r : Nat) : Device :=
  let again := match d.power.budget with | some b => b.seq = Pwr.seq r | none => false
  if !chkOk r 32 || again then d
  else
    let now := d.tick
    d.modPower (fun p => { p with
      budget := some { seq := Pwr.seq r, dieMw := Pwr.dieMw r, fyMw := Pwr.fyMw r, headroom := Pwr.headroom r, tempMax := Pwr.tempMax r }
      acceptTick := now, stale := false })

/-- BUDGET_RECORD: taken from FY_PRESENT on; the ports that discard in reset (R67) do not name PWR. -/
def execBudgetRecord (rec_ : BitVec 256) (s : State) : Host.Outcome State Fault Refusal :=
  next s (whenPresent s.dev (budgetRecord · rec_.toNat))

/-- PWR_STALE: the limit of intervals has passed without an accepted record. -/
def pwrStale (d : Device) : Device :=
  if d.power.stale || d.tick < d.power.acceptTick + 100 * odGet d Od.PWR_STALE_LIMIT 0 then d
  else raiseVector (alertLog (d.modPower (fun p => { p with stale := true })) ALERT_PWR_STALE 0 0 0 0) 7

/-- PWR_STALE. -/
def execPwrStale (s : State) : Host.Outcome State Fault Refusal := next s (whenPresent s.dev pwrStale)

/-! ### Telemetry and lane duty (R59, R406) -/

/-- FY_BUDGET_MW in use: the last accepted value; 7,200 before any (log entry 24). -/
def fyBudget (d : Device) : Nat := match d.power.budget with | some b => b.fyMw | none => 7200

/-- D of R406 after an interval of power `p`. -/
def nextDuty (duty p b : Nat) : Nat :=
  if b < p then max 64 (duty * b / p)
  else if p * 16 < b * 15 then min 256 (duty + 16)
  else duty

/-- The telemetry record of the interval; SEQ_ECHO is 0 before any budget record (log entry 141). -/
def telemetryRecord (d : Device) (powerMw laneBusy : Nat) : Nat :=
  telemetryMessage (match d.power.budget with | some b => b.seq | none => 0) powerMw (d.power.laneFj / 10 ^ 9)
    d.power.stepEstUj laneBusy
    (ofBool d.power.ingressBound + 2 * ofBool d.power.stale + 4 * ofBool (d.clk.duty < 256 || d.power.throttled))

/-- TELEMETRY: once in each interval of 100 TICK. -/
def telemetry (d : Device) (powerMw laneBusy : Nat) : Device :=
  if d.tick / 100 = d.power.teleRound then d
  else
    let round := d.tick / 100
    let duty := nextDuty d.clk.duty powerMw (fyBudget d)
    let d := emit d (.telemetry (BitVec.ofNat 256 (telemetryRecord d powerMw laneBusy)))
    let d := d.modPower (fun p => { p with
      laneFj := 0, stepEstUj := 0, ingressBound := false, throttled := false, teleRound := round })
    d.modClk (fun c => { c with duty := duty })

/-- TELEMETRY: of every slice that is present, ready or not (R59, Table 2.9). -/
def execTelemetry (powerMw laneBusy : Nat) (s : State) : Host.Outcome State Fault Refusal :=
  next s (whenPresent s.dev (fun d => telemetry d powerMw laneBusy))

/-! ### TICK (R402, R403) -/

/-- What a write of ROOT_MHZ does: TICK is recomputed from the whole count and never falls. -/
def effRootMhz : Effect := fun d v =>
  let t := d.tick
  let d := odSet d Od.ROOT_MHZ 0 v
  if d.tick < t then
    (d.modClk (fun c => { c with tickOffset := (t + 2 ^ 64 - d.clk.rootcyc / d.mhz % 2 ^ 64) % 2 ^ 64 }), some .ok)
  else (d, some .ok)

/-- ROOT_MHZ. -/
def execRootMhz (path : Path) (v : Nat) (s : State) : Host.Outcome State Fault Refusal :=
  next s (pathWrite s.dev path Od.ROOT_MHZ 0 (leBytes v 2) effRootMhz)

/-- A ring pair of the slice has ENABLE at 1. -/
def anyRingEnabled (d : Device) : Bool := (odStored d Od.RING_CTRL).any (fun p => ringEnabled d p.1)

/-- What a write of TICK_LOAD does. -/
def effTickLoad : Effect := fun d v =>
  if !d.timers.isEmpty || anyRingEnabled d then refusedBy d .rejFormat
  else
    let raw := d.clk.rootcyc / d.mhz % 2 ^ 64
    (d.modClk (fun c => { c with tickOffset := (v + 2 ^ 64 - raw) % 2 ^ 64 }), some .ok)

/-- TICK_LOAD. -/
def execTickLoad (path : Path) (v : Nat) (s : State) : Host.Outcome State Fault Refusal :=
  next s (pathWrite s.dev path Od.TICK_LOAD 0 (leBytes v 8) effTickLoad)

/-! ### The seal (R417, R418) -/

/-- Bytes over which SETUP_FP is taken. -/
def setupBytes (d : Device) : List Byte :=
  ((List.range 64).map (fun i => leBytes (odGet d Od.PARTITION_TABLE i) 8)).flatten
    ++ (List.range 4096).map (fun c => BitVec.ofNat 8 (odGetC d Od.CLIENT_PARTITION c))
    ++ (List.range 64).map (fun i => BitVec.ofNat 8 (odGet d Od.PREFIX_SCOPE i))
    ++ ((List.range 64).map (fun i => leBytes (prefixKey d i) 16)).flatten
    ++ leBytes (odGet d Od.TABLE_KEY 0) 16 ++ leBytes (odGet d Od.MCTP_WRITE_MASK 0) 32

def setupFp (d : Device) : Nat := crcOf crc64 (setupBytes d)

/-- The 64 PARTITION_TABLE entries as they go to the fabric's mask block. -/
def maskBlock (d : Device) : Nat :=
  (List.range 64).reverse.foldl (fun acc i => acc <<< 64 ||| odGet d Od.PARTITION_TABLE i) 0

/-- What a write of SEAL does; with a mask block to write, the answer comes with its response. -/
def effSeal : Effect := fun d v =>
  if odGet d Od.SEALED 0 = 1 then refusedBy d .rejSealedWrite
  else if v ≠ setupFp d then refusedBy d .rejFormat
  else
    let a := odGet d Od.PART_MASK_ADDR 0
    if a = 0 then (odSet d Od.SEALED 0 1, some .ok)
    else (fabiWrite (d.modMgmt (fun m => { m with job := some .seal })) .maskBlock a 512 (maskBlock d), none)

/-- REQ_ID of the mailbox request in progress. -/
def mbReqId (d : Device) : Nat := bf d.mgmt.mbCmd.toNat 55 40

/-- The mask block has been written, or not: the seal's last step and its answer. -/
def sealAnswered (d : Device) (ok : Bool) : Device :=
  if d.mgmt.job ≠ some .seal then d
  else if ok then mbRespond (odSet d Od.SEALED 0 1) (mbReqId d) .ok []
  else mbRespond d (mbReqId d) .rejFormat []

/-- SEAL. -/
def execSealSlice (path : Path) (v : BitVec 64) (s : State) : Host.Outcome State Fault Refusal :=
  next s (pathWrite s.dev path Od.SEAL 0 (leBytes v.toNat 8) effSeal)

end Sys2Proof.Machine
end

