-- ==== Sys2Proof/Machine/Random.lean ====
section
/-! DEFINITION. Random words for tiles (R50 to R52, R299 to R309) and the key of the class-T table (R302, R413). -/

namespace Sys2Proof.Machine

namespace Rns
def tag (r : Nat) : Nat := bf r 255 224
def entry (r : Nat) : Nat := bf r 223 208
def elementBase (r : Nat) : Nat := bf r 207 144
def position (r : Nat) : Nat := bf r 143 104
def draw (r : Nat) : Nat := bf r 103 88
def words (r : Nat) : Nat := bf r 87 75
def cls (r : Nat) : Nat := bf r 74 74
def part (r : Nat) : Nat := bf r 73 68
def rsvd (r : Nat) : Nat := bf r 67 32
end Rns

/-! ### RNS_REQUEST -/

/-- Word i of a request, under the seed of its entry's sequence and DOMAIN 0x10; the words past WORDS are zero. -/
def rnsWord (d : Device) (seed r i : Nat) : BitVec 64 :=
  if Rns.words r ≤ i then 0
  else BitVec.ofNat 64 (randWord (odGet d Od.TABLE_KEY 0) (Rns.cls r) seed 0x10 (Rns.position r) (Rns.draw r)
    (Rns.elementBase r + i))

/-- The sequence whose seed an entry supplies: the entry stands in the command and is no NOP. -/
def rnsSeed (d : Device) (c : InFlight) (entry : Nat) : Option Nat :=
  match c.entries[entry]? with
  | some e => if e.kind = K_NOP then none else (d.seq? e.slot).map (fun q => Hdr.seed q.samp.header.toNat)
  | none => none

/-- RSTATUS of a request on its acceptance, the counter of a refusal, and the seed (R51, R312). An entry that does not
stand in the command or is a NOP is answered FORMAT (R312), and so is one whose sequence is gone (log entry 120). -/
def rnsCheck (d : Device) (r : Nat) : Nat × Nat × Nat :=
  if !chkOk r 32 || Rns.words r = 0 || 4096 < Rns.words r || Rns.rsvd r ≠ 0 then (3, PERR_LGI_FORMAT, 0)
  else match byTag d (Rns.tag r) with
    | none => (2, PERR_LGI_STALE, 0)
    | some (_, c) =>
      if c.revoked || c.istate = .reserved then (2, PERR_LGI_STALE, 0)
      else match rnsSeed d c (Rns.entry r) with
        | none => (3, PERR_LGI_FORMAT, 0)
        | some seed =>
          if Rns.cls r = 1 && rngClassOf d (Rns.part r) = 0 then (1, PERR_RNS_DENIED, 0) else (0, 0, seed)

/-- Request credits that are not spent, of 64: a credit returns with the LAST beat (R52). -/
def rnsCredits (d : Device) : Nat := 64 - (d.rns.classT.length + d.rns.classC.length)

/-- The request joins the pipe of its class, in arrival order; a refused one for its one zero beat (R51, R52). -/
def rnsAccept (d : Device) (rec_ : BitVec 256) : Device :=
  let c := rnsCheck d rec_.toNat
  let j : RnsJob := { req := rec_, seed := c.2.2, rstatus := c.1 }
  let d := if c.1 = 0 then d else portErr d c.2.1
  { d with rns :=
      if Rns.cls rec_.toNat = 1 then { d.rns with classC := d.rns.classC ++ [j] }
      else { d.rns with classT := d.rns.classT ++ [j] } }

/-- RNS_REQUEST: taken where a credit is left. `table`: address of an uncorrectable word that serving it meets; the table
is generated again, and the words are computed from the new one (R304). -/
def rnsRequest (d : Device) (rec_ : BitVec 256) (table : Option Nat) : Device :=
  if rnsCredits d = 0 then d
  else
    let d := match table with
      | some a => if Rns.cls rec_.toNat = 0 && d.clk.tableBusy.isNone then tableError d a else d
      | none => d
    rnsAccept d rec_

/-- RNS_REQUEST. -/
def execRnsRequest (rec_ : BitVec 256) (hz : Hazard) (s : State) : Host.Outcome State Fault Refusal :=
  next s (whenReady s.dev (fun d => rnsRequest d rec_ hz.table))

/-! ### The two pipes and the port (R52, R311, R312) -/

/-- Beats of a response. -/
def RnsJob.beats (j : RnsJob) : Nat := if j.rstatus = 0 then ceilDiv (Rns.words j.req.toNat) 64 else j.sent + 1

/-- The next beat of a response: 64 words in ascending ELEMENT order, or the zero beat with LAST of one refused or
revoked. -/
def rnsBeat (d : Device) (j : RnsJob) : Out :=
  let r := j.req.toNat
  .rnsBeat (Rns.tag r) (Rns.entry r) (j.beats ≤ j.sent + 1) j.rstatus
    (if j.rstatus = 0 then (List.range 64).map (fun i => rnsWord d j.seed r (64 * j.sent + i)) else List.replicate 64 0)

/-- Words that the next beat carries, for RNG_STATS. -/
def RnsJob.wordsNow (j : RnsJob) : Nat := if j.rstatus = 0 then min 64 (Rns.words j.req.toNat - 64 * j.sent) else 0

/-- A pipe after its next beat: the request leaves with its LAST beat. -/
def popBeat : List RnsJob → List RnsJob
  | [] => []
  | j :: js => if j.beats ≤ j.sent + 1 then js else { j with sent := j.sent + 1 } :: js

/-- One beat of a pipe leaves. -/
def sendBeat (d : Device) (c : Bool) : Device :=
  match (if c then d.rns.classC else d.rns.classT) with
  | [] => d
  | j :: _ =>
    let d := bumpBy (emit d (rnsBeat d j)) Od.RNG_STATS (ofBool c) j.wordsNow
    { d with rns :=
        if c then { d.rns with classC := popBeat d.rns.classC, readyC := false, lastC := true }
        else { d.rns with classT := popBeat d.rns.classT, lastC := false } }

/-- One SCLK of the port: the class-T pipe has a beat ready in each, the class-C pipe in every fourth; while both have
one they alternate, and both are held while the class-T table is generated (R52, R304, R311). -/
def rnsSclk (d : Device) (k : Nat) : Device :=
  if d.clk.tableBusy.isSome || !d.clk.isoN || (d.rns.classT.isEmpty && d.rns.classC.isEmpty) then d
  else
    let d := { d with rns := { d.rns with readyC := !d.rns.classC.isEmpty && (d.rns.readyC || k % 4 = 0) } }
    if d.rns.readyC && (d.rns.classT.isEmpty || !d.rns.lastC) then sendBeat d true
    else sendBeat d false

/-- CLASS_T_TABLE_DONE: a generation of the class-T table has ended. -/
def execClassTTableDone (uncorrectable : Option Nat) (s : State) : Host.Outcome State Fault Refusal :=
  next s (tableDone s.dev uncorrectable)

/-! ### TABLE_KEY (R302, R413) -/

/-- Start-up has not come to the class-T phase yet. -/
def Phase.beforeTable : Phase → Bool
  | .table | .final | .ready | .failed => false
  | _ => true

/-- What a write of TABLE_KEY does: held until the class-T phase, or the table is generated again; the answer comes when
the table stands. -/
def effTableKey (path : Path) : Effect := fun d v =>
  let d' := d.modMgmt (fun m => { m with job := some .table })
  if anyRingEnabled d || !d.seqs.isEmpty then refusedBy d .rejFormat
  else if d.clk.phase.beforeTable then
    (d'.modClk (fun c => { c with heldKey := some { path := path, key := BitVec.ofNat 128 v } }), none)
  else
    ((odSet d' Od.TABLE_KEY 0 v).modClk (fun c => { c with tableBusy := some (c.rootcyc + 131072), tablePath := some path }), none)

/-- TABLE_KEY. -/
def execTableKey (path : Path) (key : BitVec 128) (s : State) : Host.Outcome State Fault Refusal :=
  next s (pathWrite s.dev path Od.TABLE_KEY 0 (leBytes key.toNat 16) (effTableKey path))

end Sys2Proof.Machine
end

