-- ==== Sys2Proof/Machine/Registers.lean ====
section
/-! DEFINITION. What each writable entry of the dictionary does with a value that has passed the checks of Table 18.5
(R442 and the rules of the entries' chapters), and the commands that write one entry. -/

namespace Sys2Proof.Machine

/-! ### Ring pairs (R72, R73) -/

/-- What a write of RING_CTRL does; a pair whose ENABLE rises is announced to the other slices (R387). -/
def effRingCtrl (p : Nat) : Effect := fun d v =>
  match ringCtrlWrite d p v with
  | none => refusedBy d .rejFormat
  | some d' => (if !ringEnabled d p && ringEnabled d' p then announce d' p else d', some .ok)

def ringCtrlPath (d : Device) (path : Path) (p v : Nat) : Device :=
  pathWrite d path Od.RING_CTRL p (leBytes v 1) (effRingCtrl p)

/-- RING_ENABLE: a write of RING_CTRL that sets or clears ENABLE. -/
def execRingEnable (path : Path) (p v : Nat) (s : State) : Host.Outcome State Fault Refusal :=
  next s (ringCtrlPath s.dev path p v)
/-- RING_RESET: a write of RING_CTRL with its RESET bit. -/
def execRingReset (path : Path) (p v : Nat) (s : State) : Host.Outcome State Fault Refusal :=
  next s (ringCtrlPath s.dev path p v)
/-- RING_DISCARD: a write of RING_CTRL with its DISCARD bit. -/
def execRingDiscard (path : Path) (p v : Nat) (s : State) : Host.Outcome State Fault Refusal :=
  next s (ringCtrlPath s.dev path p v)
/-- RING_CLEAR_ERR: a write of RING_CTRL with its CLEAR_ERR bit. -/
def execRingClearErr (path : Path) (p v : Nat) (s : State) : Host.Outcome State Fault Refusal :=
  next s (ringCtrlPath s.dev path p v)

/-- Entries that stand while ENABLE is 1. -/
def effRingEntry (idx p : Nat) : Effect := fun d v => storeIf (Od.CQ_VECTOR ≤ idx || !ringEnabled d p) idx p d v

/-! ### SEQ_QUERY_HANDLE (R94) -/

/-- What a write of SEQ_QUERY_HANDLE does: a handle homed on another slice is refused (Table 18.11). -/
def effSeqQuery : Effect := fun d v => storeIf (handleSlice v = d.ident.index) Od.SEQ_QUERY_HANDLE 0 d v

/-- SEQ_QUERY_RESULT. -/
def seqQueryResult (d : Device) : Nat :=
  let h := odGet d Od.SEQ_QUERY_HANDLE 0
  match (liveSlot d h).bind (fun s => d.seq? s) with
  | some q =>
    fields [(127, 96, h), (95, 73, q.tcb.tokenEnd), (63, 56, q.tcb.state.code), (55, 48, q.tcb.status.code), (47, 40, q.tcb.ring)]
  | none => fields [(127, 96, h), (63, 56, 0), (55, 48, Status.staleHandle.code)]

/-- SEQ_QUERY_HANDLE. -/
def execSeqQueryHandle (path : Path) (h : Nat) (s : State) : Host.Outcome State Fault Refusal :=
  next s (pathWrite s.dev path Od.SEQ_QUERY_HANDLE 0 (leBytes h 4) effSeqQuery)

/-! ### Interrupts (R65) -/

/-- What a write of MSI_MASK does: a pending vector whose mask bit it clears is sent once. -/
def effMsiMask : Effect := fun d v =>
  let old := odGet d Od.MSI_MASK 0
  (((List.range 256).filter (fun i => bit old i && !bit v i)).foldl sendPending (odSet d Od.MSI_MASK 0 v), some .ok)

/-- MSI_MASK. -/
def execMsiMask (path : Path) (v : BitVec 256) (s : State) : Host.Outcome State Fault Refusal :=
  next s (pathWrite s.dev path Od.MSI_MASK 0 (leBytes v.toNat 32) effMsiMask)

/-! ### Models and groups (R175, R196 to R199, R391) -/

/-- Registration figures of a version. -/
def isFigure (idx : Nat) : Bool :=
  idx = Od.MODEL_CLASSES || (Od.MODEL_WEIGHT_BYTES ≤ idx && idx ≤ Od.MODEL_LOGIT_FORMAT) || idx = Od.PAGE_TOKENS
    || idx = Od.MODEL_EMBED_BYTES

/-- Figures are written while the version is UNREGISTERED; MODEL_PAGE_BYTES fits a frame. -/
def effFigure (idx v : Nat) : Effect := fun d x =>
  storeIf (odGet d Od.MODEL_STATE v = 0 && (idx ≠ Od.MODEL_PAGE_BYTES || x ≤ frameBytes d)) idx v d x

/-- MODEL_ACTIVE names a REGISTERED identifier, or none. -/
def effModelActive (m : Nat) : Effect := fun d x =>
  storeIf (x = 0xFFFF || odGet d Od.MODEL_STATE x = 1) Od.MODEL_ACTIVE m d x

/-- MODEL_LIVE. -/
def modelLive (d : Device) (v : Nat) : Nat := (d.seqs.filter (fun p => p.2.version = v)).length

/-- A slot of a group of this slice holds the version, or a load of it into one is in progress. -/
def modelInSlot (d : Device) (v : Nat) : Bool :=
  (homedGroups d).any (fun g => (List.range 8).any (fun s => hotAt d g s = v)
    || (d.group g).loads.any (fun l => l.version = v && l.doneCyc.isNone))

def effModelState (v : Nat) : Effect := fun d x =>
  storeIf (x ≠ 0 || (modelLive d v = 0 && !modelInSlot d v)) Od.MODEL_STATE v d x

/-- A coefficient of Table 6.4 changes: ENERGY_CORR of the groups that hold the model starts at 256 (R165). -/
def effCoefficient (idx m : Nat) : Effect := fun d x =>
  let d := odSet d idx m x
  (((homedGroups d).filter (fun g => (hotSlotOf d g m).isSome)).foldl (fun d g => d.modGroup g (fun r => { r with k := 256 })) d,
    some .ok)

/-- RATIO_NOW starts at RATIO_INIT (R159). -/
def resetRatio (d : Device) (g : Nat) : Device :=
  let r := odGet d Od.RATIO_INIT g
  d.modGroup g (fun x => { x with ratio := r, sp := 0, sd := 0 })

/-- What writes of BALANCE_MODE and RATIO_INIT do. -/
def effBalance (g : Nat) : Effect := fun d x =>
  let d := odSet d Od.BALANCE_MODE g x
  (if x = 1 then resetRatio d g else d, some .ok)

def effRatioInit (g : Nat) : Effect := fun d x => (resetRatio (odSet d Od.RATIO_INIT g x) g, some .ok)

/-- Two runs of tiles of one die meet. -/
def tilesMeet (a b : Nat) : Bool := bf a 6 0 < bf b 6 0 + bf b 14 7 && bf b 6 0 < bf a 6 0 + bf a 14 7

/-- The refusals of R175; COUNT is 1 to 128 (Table 7.1). -/
def groupCfgOk (d : Device) (g v : Nat) : Bool :=
  let old := groupCfg d g
  bf v 19 15 < d.ident.n && bf v 6 0 + bf v 14 7 ≤ 128 && 1 ≤ bf v 14 7 && (!bit old 20 || bf old 19 0 = bf v 19 0)
    && (groups d).all (fun h => h = g || groupHome d h ≠ bf v 19 15 || !tilesMeet (groupCfg d h) v)

/-- Group set-up (R145, R159, R165). -/
def setUpGroup (d : Device) (g : Nat) : Device := resetRatio (d.modGroup g (fun x => { x with step := 0, starts := 0, k := 256 })) g

/-- A group of this slice comes online: its first step opens. -/
def groupUp (d : Device) (g : Nat) : Device :=
  if (d.group g).opened.isNone && (d.group g).building.isNone then openStep d g else d

/-- A group goes offline: its sequences move (R391). -/
def groupDown (d : Device) (g : Nat) : Device :=
  (d.seqs.filter (fun p => p.2.tcb.group = g)).foldl (fun d p => moveIfDue d p.1) d

/-- What a write of GROUP_CFG does. -/
def effGroupCfg (g : Nat) : Effect := fun d v =>
  if !groupCfgOk d g v then refusedBy d .rejFormat
  else
    let old := groupCfg d g
    let d := odSet d Od.GROUP_CFG g v
    if bf v 19 15 ≠ d.ident.index then (d, some .ok)
    else
      let d := if bf old 19 0 = bf v 19 0 then d else setUpGroup d g
      let d := d.modGroup g (fun x => { x with blockedFor := [] })
      (if bit v 20 && !bit old 20 then groupUp d g else if bit old 20 && !bit v 20 then groupDown d g else d, some .ok)

/-- GROUP_CFG. -/
def execGroupCfg (path : Path) (g v : Nat) (s : State) : Host.Outcome State Fault Refusal :=
  done s (pathWrite s.dev path Od.GROUP_CFG g (leBytes v 4) (effGroupCfg g))

/-- The refusals of R199 on a driver write of a hot slot. -/
def hotMapOk (d : Device) (g sl v : Nat) : Bool :=
  sl < hotSlots d g && slotEvictable d g sl
    && (v = 0xFFFF || (v < 256 && odGet d Od.MODEL_STATE v = 1 && odGet d Od.MODEL_WEIGHT_BYTES v ≤ odGet d Od.GROUP_SLOT_BYTES g))

/-- What a driver write of a hot slot does. -/
def effHotMap (g sl : Nat) : Effect := fun d v =>
  if !hotMapOk d g sl v then refusedBy d .rejFormat
  else
    let d := d.modGroup g (fun x => { x with blockedFor := [] })
    if v = 0xFFFF then
      ((setHot d g sl v).modGroup g (fun x => { x with loads := x.loads.filter (fun l => l.slot ≠ sl) }), some .ok)
    else (startLoadInto d g sl v, some .ok)

/-- GROUP_HOT_MAP. -/
def execGroupHotMap (path : Path) (g sl v : Nat) (s : State) : Host.Outcome State Fault Refusal :=
  done s (pathWrite s.dev path (Od.GROUP_HOT_MAP + sl) g (leBytes v 2) (effHotMap g sl))

/-! ### Context store, mailboxes (R209, R242, R271, R343) -/

/-- A group homed here is ONLINE. -/
def homedOnline (d : Device) : Bool := (homedGroups d).any (groupOnline d)

/-- Entries written only while no group homed here is ONLINE. -/
def isLayout (idx : Nat) : Bool :=
  (Od.CTX_FRAME_BYTES ≤ idx && idx ≤ Od.CTX_REPLAY_BLOCKS) || idx = Od.SAMPLE_MB_BASE || idx = Od.SPEC_MB_BASE

def effLayout (idx : Nat) : Effect := fun d v => storeIf (!homedOnline d) idx 0 d v

/-! ### Check-value channels (R423, R428 to R430) -/

/-- POINT and MODE are permitted, ALL is not set with TRAILER, and SELECT fits a partition point. -/
def cvcFormOk (point : Nat) (trailer all : Bool) (sel : Nat) : Bool :=
  1 ≤ point && point ≤ 7 && (!trailer || (point ≤ 2 && !all)) && ((point ≠ PT_PGM && point ≠ PT_SPILL) || sel ≤ 63)

/-- Another enabled channel is in TRAILER mode at the point and ring pair. -/
def trailerTaken (d : Device) (c v : Nat) : Bool :=
  (odStored d Od.CVC_CFG).any (fun p => p.1 ≠ c && cvcEnabled p.2 && cvcTrailer p.2 && bf p.2 59 56 = bf v 59 56
    && bf p.2 54 47 = bf v 54 47)

/-- The refusals of R423. -/
def cvcCfgOk (d : Device) (c v : Nat) : Bool :=
  let old := odGet d Od.CVC_CFG c
  cvcFormOk (bf v 59 56) (cvcTrailer v) (bit v 55) (bf v 54 47) && (!cvcEnabled old || bf old 62 0 = bf v 62 0)
    && !(cvcEnabled v && cvcTrailer v && trailerTaken d c v)

/-- A channel starts: the register at its initial value, LAST at ALIVE_INIT − 1, B0 open (R425, R426). -/
def cvcStart (cfg : Nat) (ch : Channel) : Channel :=
  let i := (cvcPoly cfg).init
  { ch with raw := i, window := ch.window.map (fun _ => i), b0 := none, last := subMod 8 (bf cfg 46 39) 1 }

/-- What a write of CVC_CFG does. -/
def effCvcCfg (c : Nat) : Effect := fun d v =>
  if !cvcCfgOk d c v then refusedBy d .rejFormat
  else
    let was := cvcEnabled (odGet d Od.CVC_CFG c)
    let d := odSet d Od.CVC_CFG c v
    -- a record that is passing belongs to the channel as it was
    (if cvcEnabled v && !was then modViews (chanMod d c (cvcStart v)) (fun x => { x with chans := Map.del x.chans c }) else d
     , some .ok)

/-- CVC_CFG. -/
def execCvcCfg (path : Path) (c : Nat) (v : BitVec 64) (s : State) : Host.Outcome State Fault Refusal :=
  next s (pathWrite s.dev path Od.CVC_CFG c (leBytes v.toNat 8) (effCvcCfg c))

/-- A counter after a commit: less its snapshot; a sticking one is cleared. -/
def cvcLess (top now snap : Nat) : Nat := if now = top then 0 else now - snap

/-- A commit on one channel. -/
def cvcCommit (ch : Channel) : Channel :=
  match ch.snap with
  | none => ch
  | some (r, m, g, p) =>
    { ch with
      raw := ch.window.getD ch.raw, window := none, snap := none
      records := cvcLess statMax ch.records r, mismatch := cvcLess (2 ^ 24 - 1) ch.mismatch m
      gaps := cvcLess (2 ^ 24 - 1) ch.gaps g, repeats := cvcLess (2 ^ 24 - 1) ch.repeats p }

/-- What a write of CVC_RESET does. -/
def effCvcReset : Effect := fun d v =>
  if v = 0xFF then
    (d.modCvc (fun c => { c with chans := c.chans.map (fun (p : Nat × Channel) => (p.1, cvcCommit p.2)) }), some .ok)
  else if 64 ≤ v then refusedBy d .rejFormat
  else (d.modCvc (fun c => { c with chans := Map.mod c.chans v cvcCommit }), some .ok)

/-- CVC_RESET. -/
def execCvcReset (path : Path) (v : Nat) (s : State) : Host.Outcome State Fault Refusal :=
  next s (pathWrite s.dev path Od.CVC_RESET 0 (leBytes v 1) effCvcReset)

/-- CVC_STATE (Table 16.4). -/
def cvcState (d : Device) (c : Nat) : Nat :=
  match Map.find d.cvc.chans c with
  | none => 0
  | some ch =>
    let cfg := odGet d Od.CVC_CFG c
    fields [(255, 192, if cvcTrailer cfg then ch.value else crcFinal (cvcPoly cfg) ch.raw), (191, 144, ch.records),
      (143, 120, ch.mismatch), (119, 96, ch.gaps), (95, 72, ch.repeats), (71, 64, ch.last), (63, 32, ch.lastSeq)]

/-- A read of CVC_STATE latches the counts and opens a new window; an open one is discarded (R428). -/
def cvcSnapshot (d : Device) (c : Nat) : Device :=
  let i := (cvcPoly (odGet d Od.CVC_CFG c)).init
  d.modCvc (fun x => { x with chans := Map.mod x.chans c (fun ch =>
    { ch with window := some i, snap := some (ch.records, ch.mismatch, ch.gaps, ch.repeats) }) })

/-- What a write of LEGACY_CFG does. -/
def effLegacyCfg : Effect := fun d v =>
  let old := odGet d Od.LEGACY_CFG 0
  if cvcFormOk (bf v 28 25) false (bit v 24) (bf v 23 16) && (!bit old 31 || bf old 30 0 = bf v 30 0) then
    let d := odSet d Od.LEGACY_CFG 0 v
    (if bit v 31 && !bit old 31 then
       modViews (d.modCvc (fun c => { c with legacyRaw := (crcOfPoly (bf v 30 29)).init })) (fun x => { x with legacy := 0 })
     else d, some .ok)
  else refusedBy d .rejFormat

/-- What a write of LEGACY_CTRL does. -/
def effLegacyCtrl : Effect := fun d v =>
  ((odSet d Od.LEGACY_CTRL 0 v).modCvc (fun c => { c with legacySkipped := 0 }), some .ok)

/-- What a write of LEGACY_VALUE does: the register takes the low bits of its width. -/
def effLegacyValue : Effect := fun d v =>
  let w := (crcOfPoly (bf (odGet d Od.LEGACY_CFG 0) 30 29)).width
  (modViews (d.modCvc (fun c => { c with legacyRaw := v % 2 ^ w })) (fun x => { x with replaced := true }), some .ok)

/-- LEGACY_CTRL. -/
def execLegacyCtrl (path : Path) (v : Nat) (s : State) : Host.Outcome State Fault Refusal :=
  next s (pathWrite s.dev path Od.LEGACY_CTRL 0 (leBytes v 4) effLegacyCtrl)
/-- LEGACY_VALUE. -/
def execLegacyValue (path : Path) (v : BitVec 64) (s : State) : Host.Outcome State Fault Refusal :=
  next s (pathWrite s.dev path Od.LEGACY_VALUE 0 (leBytes v.toNat 8) effLegacyValue)

/-! ### Trace (R437) -/

/-- What a write of TRACE_TAIL does: a value earlier than the last, or later than TRACE_HEAD, is ignored. -/
def effTraceTail : Effect := fun d v =>
  if earlier v d.trace.tail || earlier d.trace.head v then (d, some .ok)
  else (d.modTrace (fun t => { t with tail := v }), some .ok)

/-- Responses still to come for exported records find nothing to count. -/
def dropExports (d : Device) : Device := fabiDrop d (fun k => match k with | .traceExport _ => true | _ => false)

/-- What a write of TRACE_HOST_BASE does: the counts start at 0, and records not exported are kept. -/
def effTraceBase : Effect := fun d v =>
  ((dropExports (odSet d Od.TRACE_HOST_BASE 0 v)).modTrace (fun t => { t with head := 0, tail := 0, issued := 0, lost := [] }), some .ok)

def effTraceLog2 : Effect := fun d v => storeIf (odGet d Od.TRACE_HOST_BASE 0 = 0) Od.TRACE_HOST_LOG2 0 d v

/-- TRACE_TAIL. -/
def execTraceTail (path : Path) (v : Nat) (s : State) : Host.Outcome State Fault Refusal :=
  next s (pathWrite s.dev path Od.TRACE_TAIL 0 (leBytes v 4) effTraceTail)
/-- TRACE_HOST_BASE. -/
def execTraceHostBase (path : Path) (v : Nat) (s : State) : Host.Outcome State Fault Refusal :=
  next s (pathWrite s.dev path Od.TRACE_HOST_BASE 0 (leBytes v 8) effTraceBase)

/-! ### Every entry -/

/-- A key that has been written stands even where it is zero (R228). -/
def effPrefixKey (q : Nat) : Effect := fun d v => ({ d with od := Map.put d.od (odKey Od.PREFIX_KEY q) v }, some .ok)

/-- DRAFT_POST through the dictionary (R322). -/
def effDraftPost : Effect := fun d v => (draftPost d v, some .ok)

/-- The filters of the trace (R435). -/
def isTraceFilter (idx : Nat) : Bool :=
  idx = Od.TRACE_KIND_MASK || idx = Od.TRACE_PART_MASK || idx = Od.TRACE_CLIENT_MAP

/-- A filter applies from the next SCLK on (R435). -/
def effTraceFilter (idx sub : Nat) : Effect := fun d v => (odSet (keepFilter d idx sub) idx sub v, some .ok)

/-- What an entry does with a value: its own rules, or the value replaces the entry (R442). -/
def effectOf (path : Path) (idx sub : Nat) : Effect :=
  if idx = Od.RING_CTRL then effRingCtrl sub
  else if isRingEntry idx then effRingEntry idx sub
  else if idx = Od.MSI_MASK then effMsiMask
  else if idx = Od.SEQ_QUERY_HANDLE then effSeqQuery
  else if idx = Od.SEAL then effSeal
  else if idx = Od.TABLE_KEY then effTableKey path
  else if idx = Od.PREFIX_KEY then effPrefixKey sub
  else if idx = Od.MODEL_ACTIVE then effModelActive sub
  else if idx = Od.MODEL_STATE then effModelState sub
  else if isFigure idx then effFigure idx sub
  else if Od.STEP_BASE_NS ≤ idx && idx ≤ Od.STAGE_POWER_MW then effCoefficient idx sub
  else if idx = Od.GROUP_CFG then effGroupCfg sub
  else if Od.GROUP_HOT_MAP ≤ idx && idx < Od.GROUP_HOT_MAP + 8 then effHotMap sub (idx - Od.GROUP_HOT_MAP)
  else if idx = Od.BALANCE_MODE then effBalance sub
  else if idx = Od.RATIO_INIT then effRatioInit sub
  else if isLayout idx then effLayout idx
  else if isTraceFilter idx then effTraceFilter idx sub
  else if idx = Od.DRAFT_POST then effDraftPost
  else if idx = Od.SLICE_ONLINE then effSliceOnline
  else if idx = Od.SLICE_DRAIN then effSliceDrain
  else if idx = Od.TILE_ONLINE then effTileOnline sub
  else if idx = Od.TILE_LOST then effTileLost
  else if idx = Od.ROOT_MHZ then effRootMhz
  else if idx = Od.TICK_LOAD then effTickLoad
  else if idx = Od.CVC_CFG then effCvcCfg sub
  else if idx = Od.CVC_RESET then effCvcReset
  else if idx = Od.LEGACY_CFG then effLegacyCfg
  else if idx = Od.LEGACY_CTRL then effLegacyCtrl
  else if idx = Od.LEGACY_VALUE then effLegacyValue
  else if idx = Od.TRACE_TAIL then effTraceTail
  else if idx = Od.TRACE_HOST_BASE then effTraceBase
  else if idx = Od.TRACE_HOST_LOG2 then effTraceLog2
  else if idx = Od.ACCT_RESET then effAcctReset
  else storeIf true idx sub

/-- A write of any entry, with what the entry does. -/
def entryWrite (d : Device) (path : Path) (idx sub : Nat) (data : List Byte) : Device :=
  pathWrite d path idx sub data (effectOf path idx sub)

/-- REGISTER_WRITE: a write of an entry on any path; what waited for the management unit is served so. -/
def execRegisterWrite (path : Path) (idx sub : Nat) (data : List Byte) (s : State) : Host.Outcome State Fault Refusal :=
  done s (entryWrite s.dev path idx sub data)

/-- The value of a direct store: a hot slot takes bits [15:0] of its word (Table 18.7). -/
def directData (idx : Nat) (data : List Byte) : List Byte :=
  if Od.GROUP_HOT_MAP ≤ idx && idx < Od.GROUP_HOT_MAP + 8 then data.take 2 else data

/-- DIRECT_WRITE_REFUSED: a store that the entry's rules refuse completes on the fabric and is recorded in
DIRECT_STATUS (R452). -/
def execDirectWriteRefused (idx sub : Nat) (data : List Byte) (s : State) : Host.Outcome State Fault Refusal :=
  done s (entryWrite s.dev .direct idx sub (directData idx data))

/-! ### SET_PARAM (R82, R449) -/

/-- SET_PARAM after the format checks: it waits for the management unit, and is served at once where that is free. -/
def actSetParam (p : Nat) (d : Device) (r : Nat) : Device :=
  let first := d.mgmt.setParams.isEmpty
  let d := d.modMgmt (fun m => { m with setParams := m.setParams ++ [(p, BitVec.ofNat 1024 r)] })
  if first && unitTurn d .setParam then entryWrite d (.setParam p) (Sq.odIndex r) (Sq.odSub r) (setParamData (Sq.odIndex r) (Sq.odSub r) (Sq.resultAddr r))
  else d

/-- SET_PARAM. -/
def execSetParam (p : Nat) (s : State) : Host.Outcome State Fault Refusal := done s (consume s.dev p 0x0A (actSetParam p))

end Sys2Proof.Machine
end

