-- ==== Sys2Proof/Machine/Reading.lean ====
section
/-! DEFINITION. Reads, commits and descriptions of dictionary entries, and the mailbox and direct mapping that carry them
(R439 to R452, R459, R460). -/

namespace Sys2Proof.Machine

/-! ### Values (Table 18.10) -/

/-- SLICE_STATE. -/
def sliceState (d : Device) : Nat :=
  if d.clk.phase = .failed then 6
  else if odGet d Od.SLICE_QUIESCED 0 = 1 then 5
  else if odGet d Od.SLICE_DRAIN 0 = 1 then 4
  else if odGet d Od.SEALED 0 = 1 && fyReady d then 3
  else if fyReady d then 2
  else 1

/-- Final checks have published their results (Table 15.5). -/
def published (d : Device) : Bool := d.clk.phase = .ready

/-- ACCT_FLAGS. -/
def acctFlags (a : Acct) : Nat := 8 * ofBool a.saturated + 4 * ofBool a.active + 2 * ofBool a.dSat + ofBool a.gap

/-- Entries of identity, rings and management that are not stored values. -/
def readIdentity (d : Device) (idx sub : Nat) : Option Nat :=
  if idx = Od.PRODUCT_NAME then some 0x5355485946
  else if idx = Od.VENDOR_ID then some Config.vendorId.toNat
  else if idx = Od.PACKAGE_N then some d.ident.n
  else if idx = Od.SLICE_INDEX then some d.ident.index
  else if idx = Od.BLOCK_STEPPING then some d.ident.stepping
  else if idx = Od.FABT_WINDOW_BASE then some d.ident.windowBase
  else if idx = Od.SLICE_STATE then some (sliceState d)
  else if idx = Od.RING_STATE then some (ringState d sub)
  else if idx = Od.SEQ_QUERY_RESULT && sub = 1 then some (seqQueryResult d)
  else if idx = Od.SETUP_FP then some (setupFp d)
  else if idx = Od.TABLE_KEY_FP then some (crcOf crc64 (leBytes (odGet d Od.TABLE_KEY 0) 16))
  else if idx = Od.TABLE_CRC then some (if published d then tableCrc (odGet d Od.TABLE_KEY 0) else 0)
  else none

/-- Entries of models, groups and epochs that are not stored values. -/
def readUnits (d : Device) (idx sub : Nat) : Option Nat :=
  if idx = Od.MODEL_LIVE then some (modelLive d sub)
  else if idx = Od.RATIO_NOW then some (match Map.find d.groups sub with | some g => g.ratio | none => odGet d Od.RATIO_INIT sub)
  else if idx = Od.ENERGY_CORR then some (d.group sub).k
  else if idx = Od.STEP_NOW then some (d.group sub).step
  else if idx = Od.EPOCH_TABLE then some (epochEntry d sub)
  else if idx = Od.OLDEST_PINNED then some (oldestPinned d sub)
  else none

/-- Entries of faults, clocks and power that are not stored values. -/
def readHealth (d : Device) (idx sub : Nat) : Option Nat :=
  if idx = Od.LANE_MAP then some (if published d then laneMap d else 0)
  else if idx = Od.LANE_ACTIVE then some (sumBy LaneGroup.active d.lanes)
  else if idx = Od.PARITY_STATE then some (parityState d)
  else if idx = Od.REBUILD_STATE then some d.faults.toAdopt.length
  else if idx = Od.SPARE_ROWS_LEFT then some (if published d then d.clk.spareRows else 0)
  else if idx = Od.FAULT_LOG then some (match Map.find d.faults.flog sub with | some e => e.bits | none => 0)
  else if idx = Od.FLOG_HEAD then some d.faults.flogHead
  else if idx = Od.VDD_FY_MIN_MV then some (vddMin d.mhz)
  else if idx = Od.POWER_MAX_MW then some (powerMax d.mhz)
  else if idx = Od.LANE_DUTY then some d.clk.duty
  else if idx = Od.TICK_NOW then some d.tick
  else if idx = Od.BRINGUP_STATE then some (bringupState d.clk)
  else if idx = Od.BIST_RESULT then some (bistResult d.clk)
  else none

/-- A grotto address of a region idle on a slice this size: the parity region at N = 8, the mirror region below N = 32. It is
read as zero (R22; which addresses they are, log entry 4). -/
def idleRegion (d : Device) (addr : Nat) : Bool :=
  (d.ident.n = 8 && Config.parityRegion addr) || (d.ident.n < 32 && Config.mirrorRegion addr)

/-- Entries of channels, trace, accounting and diagnosis that are not stored values. -/
def readBooks (d : Device) (idx sub : Nat) : Option Nat :=
  let c := idx % 16 * 256 + sub
  if idx = Od.CVC_STATE then some (cvcState d sub)
  else if idx = Od.LEGACY_COUNT then some d.cvc.legacyCount
  else if idx = Od.TRACE_HEAD then some d.trace.head
  else if idx = Od.TRACE_PENDING then some d.trace.ring.length
  else if Od.ACCT_ENGINE_NS ≤ idx && idx < Od.ACCT_ENGINE_NS + 16 then some (d.client c).aggNs
  else if Od.ACCT_BYTES ≤ idx && idx < Od.ACCT_BYTES + 16 then some (d.client c).aggBytes
  else if Od.ACCT_ENERGY_UJ ≤ idx && idx < Od.ACCT_ENERGY_UJ + 16 then some (d.client c).aggUj
  else if Od.ACCT_FLAGS ≤ idx && idx < Od.ACCT_FLAGS + 16 then some (acctFlags (d.client c))
  else if idx = Od.ACCT_ROUND then some d.agg.applied
  else if idx = Od.ACCT_AGGREGATOR then some ((aggregator d).getD 0)
  else if idx = Od.DIAG_DATA then
    some (if idleRegion d (odGet d Od.DIAG_ADDR 0) then 0 else (Config.grottoWord d.freeCtr (odGet d Od.DIAG_ADDR 0)).toNat)
  else if idx = Od.DIAG_CHECK then some (Config.grottoCheck d.freeCtr (odGet d Od.DIAG_ADDR 0)).toNat
  else none

/-- The current value of an entry. -/
def odRead (d : Device) (idx sub : Nat) : Nat :=
  match readIdentity d idx sub with
  | some v => v
  | none =>
    match readUnits d idx sub with
    | some v => v
    | none =>
      match readHealth d idx sub with
      | some v => v
      | none => (readBooks d idx sub).getD (rwRead d idx sub)

/-! ### Reads and commits (R444) -/

def isAcct (idx : Nat) : Bool := Od.ACCT_ENGINE_NS ≤ idx && idx < Od.ACCT_FLAGS

/-- What a mailbox or MCTP read leaves behind: the snapshot of an RRS entry. A read of a grotto word draws the next free
value (log entry 4). -/
def latchRead (d : Device) (r : OdRow) (idx sub : Nat) : Device :=
  if Od.ACCT_ENGINE_NS ≤ idx && idx < Od.ACCT_ENGINE_NS + 16 then acctSnapshot d (idx % 16 * 256 + sub)
  else if isAcct idx then d
  else if idx = Od.CVC_STATE then cvcSnapshot d sub
  else if idx = Od.DIAG_DATA || idx = Od.DIAG_CHECK then { d with freeCtr := d.freeCtr + 1 }
  else if r.acc = 6 then { d with snaps := Map.put d.snaps (odKey idx sub) (odRead d idx sub, 0) }
  else d

/-- What a read of DIAG_DATA finds in the word: an error is met as any read of that structure meets it (R460). -/
def diagRead (d : Device) (idx : Nat) (found : DiagFind) : Device :=
  match found with
  | some (loc, e) =>
    let addr := odGet d Od.DIAG_ADDR 0
    if idx = Od.DIAG_DATA && !idleRegion d addr then scrub d addr loc e else d
  | none => d

/-- A READ: the value in the entry's size, little-endian. `most` bounds the size (R453). -/
def readEntry (d : Device) (most idx sub : Nat) : Device × Status × List Byte :=
  match odRow idx sub with
  | none => (d, .rejFormat, [])
  | some r =>
    if r.acc = 3 || most < r.size then (d, .rejFormat, [])
    else (latchRead d r idx sub, .ok, leBytes (odRead d idx sub) r.size)

/-- The statistics that are maxima (Table 18.12). -/
def isMaximum (idx sub : Nat) : Bool := idx = Od.TIMER_LATE_MAX || (idx = Od.COMPOSE_STATS && sub = 7)

/-- The value that a commit leaves, from the value now and the snapshot. -/
def committed (idx sub now snap since : Nat) : Nat :=
  if idx = Od.ALERT_CAUSE then now - (now &&& snap)
  else if idx = Od.DIRECT_STATUS then fields [(63, 32, now >>> 32), (31, 0, min (2 ^ 32 - 1) since)]
  else if isMaximum idx sub then (if now = snap then 0 else now)
  else min statMax since

/-- Causes that stand: while parity that this slice needs is missing, PARITY_DEGRADED stays raised (R389, log entry
118). -/
def standingCauses (d : Device) : Nat := if 0 < d.faults.unprotected then 2 ^ ALERT_PARITY_DEGRADED else 0

/-- A COMMIT of an entry (R444). -/
def commitEntry (d : Device) (idx sub : Nat) : Device :=
  match Map.find d.snaps (odKey idx sub) with
  | none => d
  | some (snap, since) =>
    -- a cause raised in the MCLK of the commit survives it (R63)
    let snap := if idx = Od.ALERT_CAUSE then snap - (snap &&& (raisedNow d ||| standingCauses d)) else snap
    odSet { d with snaps := Map.del d.snaps (odKey idx sub) } idx sub (committed idx sub (odGet d idx sub) snap since)

/-- Checks 2 and 3 of Table 18.5 for a COMMIT. -/
def commitOk (idx sub : Nat) : Bool :=
  match odRow idx sub with
  | some r => r.acc = 6 && !isAcct idx && idx ≠ Od.CVC_STATE
  | none => false

/-! ### READ_INFO (R446) -/

/-- Offset of an entry in the directly mapped region (Table 18.7). -/
def directOffset (idx sub : Nat) : Option Nat :=
  if idx = Od.RING_STATE then some (32 * sub)
  else if Od.GROUP_HOT_MAP ≤ idx && idx < Od.GROUP_HOT_MAP + 8 then some (0x2000 + 32 * sub + 4 * (idx - Od.GROUP_HOT_MAP))
  else if idx = Od.DRAFT_POST then some 0x4000
  else if idx = Od.TRACE_HEAD then some 0x4008
  else if idx = Od.TRACE_TAIL then some 0x400C
  else if idx = Od.TICK_NOW then some 0x4010
  else if idx = Od.ALERT_CAUSE then some 0x4018
  else if idx = Od.SLICE_STATE then some 0x4020
  else if idx = Od.DIRECT_STATUS then some 0x4028
  else if idx = Od.MSI_PENDING then some 0x4030
  else none

/-- The highest sub-index present at an index. -/
def subMax (idx : Nat) : Nat := ((odTable.filter (fun r => r.lo ≤ idx && idx ≤ r.hi)).map OdRow.shi).foldl max 0

/-- The info record. -/
def infoRecord (r : OdRow) (idx sub : Nat) : Nat :=
  let at_ := directOffset idx sub
  fields [(127, 120, r.ty), (119, 112, r.acc), (111, 96, r.size), (95, 88, subMax idx), (87, 87, ofBool at_.isSome),
    (79, 64, at_.getD 0), (63, 62, r.scope)]

def infoEntry (d : Device) (idx sub : Nat) : Device × Status × List Byte :=
  match odRow idx sub with
  | none => (d, .rejFormat, [])
  | some r => (d, .ok, leBytes (infoRecord r idx sub) 16)

/-! ### The mailbox (R445 to R448) -/

/-- A write to the mailbox while BUSY is 1 is discarded. -/
def mbOverrun (d : Device) : Device := d.modMgmt (fun m => { m with overrun := m.overrun || m.busy })

/-- The request that the mailbox holds is served and answered. -/
def mbAnswer (d : Device) (reqId : Nat) (f : Device → Device × Status × List Byte) : Device :=
  let r := f (tookTurn d (.mailbox reqId))
  mbRespond r.1 reqId r.2.1 r.2.2

/-- A mailbox request without value bytes: accepted where it does not wait there already, served and answered when the
unit is free and the mailbox has its turn (R448, R449). -/
def mbServe (d : Device) (op reqId idx sub : Nat) (f : Device → Device × Status × List Byte) : Device :=
  whenPresent d (fun d =>
    if d.mgmt.busy && !mbHolds d op reqId idx sub then mbOverrun d
    else
      let d := if d.mgmt.busy then d else mbAccept d op reqId idx sub []
      if unitTurn d .mailbox then mbAnswer d reqId f else d)

/-- MB_READ. -/
def execMbRead (reqId idx sub : Nat) (s : State) (found : DiagFind := none) : Host.Outcome State Fault Refusal :=
  done s (mbServe s.dev OP_READ reqId idx sub (fun d => readEntry (diagRead d idx found) 256 idx sub))

/-- MB_WRITE. -/
def execMbWrite (reqId idx sub : Nat) (data : List Byte) (s : State) : Host.Outcome State Fault Refusal :=
  done s (entryWrite s.dev (.mailbox reqId) idx sub data)

/-- A COMMIT through the mailbox. -/
def mbCommit (d : Device) (idx sub : Nat) : Device × Status × List Byte :=
  if commitOk idx sub then (commitEntry d idx sub, .ok, []) else (d, .rejFormat, [])

/-- MB_COMMIT. -/
def execMbCommit (reqId idx sub : Nat) (s : State) : Host.Outcome State Fault Refusal :=
  next s (mbServe s.dev OP_COMMIT reqId idx sub (fun d => mbCommit d idx sub))

/-- MB_READ_INFO. -/
def execMbReadInfo (reqId idx sub : Nat) (s : State) : Host.Outcome State Fault Refusal :=
  next s (mbServe s.dev OP_INFO reqId idx sub (fun d => infoEntry d idx sub))

/-- The request that waits in the mailbox is served when the unit is free and the mailbox has its turn, by the OPCODE of
MB_CMD; one outside Table 18.4, or with an RSVD bit set, is refused (R446, R447, R449). -/
def mbRun (d : Device) : Device :=
  if !(fyPresent d && unitTurn d .mailbox) then d
  else
    let c := d.mgmt.mbCmd.toNat
    let op := bf c 63 56
    let reqId := bf c 55 40
    let idx := bf c 23 8
    let sub := bf c 7 0
    if bf c 39 24 ≠ 0 then mbAnswer d reqId (fun d => (d, .rejFormat, []))
    else if op = OP_READ then mbAnswer d reqId (fun d => readEntry d 256 idx sub)
    else if op = OP_WRITE then
      performWrite (tookTurn d (.mailbox reqId)) (.mailbox reqId) idx sub (mbValue d.mgmt) (effectOf (.mailbox reqId) idx sub)
    else if op = OP_COMMIT then mbAnswer d reqId (fun d => mbCommit d idx sub)
    else if op = OP_INFO then mbAnswer d reqId (fun d => infoEntry d idx sub)
    else mbAnswer d reqId (fun d => (d, .rejFormat, []))

/-! ### The registers of the mailbox (Table 18.3) -/

/-- `size` bytes of `v` from byte `off`. -/
def mbPart (v off size : Nat) : Nat := (v >>> (8 * off)) % 2 ^ (8 * size)

/-- `v` with `size` bytes from byte `off` replaced by `x`. -/
def mbPatch (v off size x : Nat) : Nat :=
  v - (mbPart v off size) <<< (8 * off) + (x % 2 ^ (8 * size)) <<< (8 * off)

/-- What a read of a mailbox register returns. -/
def mbLoad (m : Mgmt) (off size : Nat) : Nat :=
  if off < 0x008 then mbPart m.mbCmd.toNat off size
  else if off = 0x008 then m.mbLen
  else if off < 0x020 then mbPart (mbRespBits m) (off - 0x018) size
  else ofLe ((m.mbData.drop (off - 0x100)).take size)

/-- A write of a mailbox register other than MB_GO. -/
def mbStore (m : Mgmt) (off size v : Nat) : Mgmt :=
  if off < 0x008 then { m with mbCmd := BitVec.ofNat 64 (mbPatch m.mbCmd.toNat off size v) }
  else if off = 0x008 then { m with mbLen := v % 2 ^ 32 }
  else { m with mbData := m.mbData.take (off - 0x100) ++ leBytes v size ++ m.mbData.drop (off - 0x100 + size) }

/-- A permitted access to the mailbox's registers (R445, R448); while BUSY is 1 a write only sets OVERRUN, and 1 in
MB_GO starts the request. -/
def mbRegister (d : Device) (off size : Nat) (write : Bool) (v : Nat) : Device :=
  if !write then emit d (.fabt false (mbLoad d.mgmt off size))
  else if d.mgmt.busy then mbOverrun d
  else if off = 0x010 then (if v % 2 ^ 32 = 1 then mbRun (mbGo d) else d)
  else d.modMgmt (fun m => mbStore m off size v)

/-- A FAB_T access: one to a register of the mailbox acts on it, and one that R35 refuses is answered with an error. -/
def fabtAccess (d : Device) (a : FabtAccess) : Device :=
  if 0x100000 ≤ a.offset && a.offset < 0x101000 && (fabtCase d a).isNone then
    whenPresent d (fun d => mbRegister d (a.offset - 0x100000) a.size a.write a.value.toNat)
  else fabtRefused d a

/-- FABT_ACCESS_REFUSED. -/
def execFabtAccessRefused (a : FabtAccess) (s : State) : Host.Outcome State Fault Refusal := done s (fabtAccess s.dev a)

/-- MAILBOX_OVERRUN: a write while BUSY is 1. -/
def execMailboxOverrun (s : State) : Host.Outcome State Fault Refusal := next s (whenPresent s.dev mbOverrun)

/-! ### Direct reads (R450, R451) -/

/-- Word w of a value. -/
def word64 (v w : Nat) : Nat := (v >>> (64 * w)) % 2 ^ 64

/-- What a load at an offset returns, and the latch that word 0 sets. -/
def directLoad (d : Device) (off : Nat) : Device × Nat :=
  match directAt off with
  | none => (d, 0)
  | some (idx, sub, size, _, _) =>
    if idx = Od.RING_STATE then
      let w := off % 32 / 8
      let d := if w = 0 then d.modMgmt (fun m => { m with ringLatch := Map.put m.ringLatch sub (ringState d sub) }) else d
      (d, word64 (Map.getD d.mgmt.ringLatch sub 0) w)
    else if idx = Od.MSI_PENDING then
      let w := (off - 0x4030) / 8
      let d := if w = 0 then d.modMgmt (fun m => { m with msiLatch := odGet d Od.MSI_PENDING 0 }) else d
      (d, word64 d.mgmt.msiLatch w)
    else (d, odRead d idx sub % 2 ^ (8 * size))

/-- A load of the directly mapped region. -/
def directRead (d : Device) (off : Nat) : Device :=
  match directAt off with
  | some (_, _, _, true, _) =>
    let r := directLoad d off
    emit r.1 (.fabt false r.2)
  | _ => d

/-- DIRECT_READ_LATCH. -/
def execDirectReadLatch (offset : Nat) (s : State) : Host.Outcome State Fault Refusal :=
  next s (whenPresent s.dev (directRead · offset))

/-! ### The export window (R34, R37, R136, R168) -/

/-- The entry of a command that lies at a window offset. -/
def entryAt (d : Device) (off : Nat) : Option WlEntry :=
  (d.inflight.find? (fun p => 4096 * p.2.block ≤ off && off < 4096 * p.2.block + 64 * p.2.entries.length)).bind
    (fun p => p.2.entries[(off - 4096 * p.2.block) / 64]?)

/-- 64 B are charged to the client of each entry fetched. -/
def chargeFetch (d : Device) (off : Nat) : Device :=
  match entryAt d off with
  | some e => chargeBytes d e.client 64
  | none => d

/-- A tile reads entries of the window, which reads zero before FY_READY. -/
def workListFetch (d : Device) (off n : Nat) : Device :=
  if off % 64 ≠ 0 || n % 64 ≠ 0 || n < 64 || 4096 < n || 0x400000 < off + n then d
  else
    let data := if fyReady d then ofLe (Memory.readBytes d.window off n) else 0
    emit (whenReady d (fun d => (List.range (n / 64)).foldl (fun d i => chargeFetch d (off + 64 * i)) d)) (.fabt false data)

/-- WORK_LIST_FETCH. -/
def execWorkListFetch (offset bytes : Nat) (s : State) : Host.Outcome State Fault Refusal :=
  next s (whenPresent s.dev (fun d => workListFetch d offset bytes))

end Sys2Proof.Machine
end

