-- ==== Sys2Proof/Machine/Mctp.lean ====
section
/-! DEFINITION. Management packets and messages (R60, R61, R453 to R456, R466). -/

namespace Sys2Proof.Machine

/-! ### Assembly (R454) -/

/-- A message that does not assemble, or is none for Fyhus, is discarded. -/
def mctpDiscard (d : Device) : Device := bump d Od.MCTP_STATS 2

def partOf (d : Device) (p : MctpPacket) : Option MctpPart :=
  d.mgmt.parts.find? (fun x => x.src = p.src && x.tag = p.tag && x.tagOwner = p.tagOwner)

def setPart (d : Device) (p : MctpPacket) (x : Option MctpPart) : Device :=
  d.modMgmt (fun m => { m with
    parts := m.parts.filter (fun y => !(y.src = p.src && y.tag = p.tag && y.tagOwner = p.tagOwner)) ++ x.toList })

/-- A message that has failed is followed to its end, to be discarded once: more packets than may be. -/
def deadPart (p : MctpPacket) : MctpPart :=
  { src := p.src, tag := p.tag, tagOwner := p.tagOwner, nextSeq := 0, packets := 5, body := [] }

/-- A packet that fills the baseline unit, unless it is the last. -/
def packetFull (p : MctpPacket) : Bool := p.eom || p.payload.length = 64

/-- Packets of incomplete messages in the receive buffer, which holds 4 (R61). -/
def mgtBuffered (d : Device) : Nat := sumBy (fun x => if x.packets ≤ 4 then x.packets else 0) d.mgmt.parts

/-- The packet is for this endpoint: its identifier, or the null one of an endpoint that has none yet (DSP0236, log
entry 25). -/
def mctpMine (d : Device) (p : MctpPacket) : Bool := p.dest = odGet d Od.MCTP_EID 0 || p.dest = 0

/-- The message so far with one more packet. A fourth packet that is not the last shows that the message is too long. -/
def joinPacket (d : Device) (p : MctpPacket) : MctpPart :=
  if p.som then
    (if packetFull p then
      { src := p.src, tag := p.tag, tagOwner := p.tagOwner, nextSeq := (p.seqNo + 1) % 4, packets := 1, body := p.payload }
     else deadPart p)
  else match partOf d p with
    | none => deadPart p
    | some x =>
      if (x.packets < 3 || (x.packets = 3 && p.eom)) && x.nextSeq = p.seqNo && packetFull p then
        { x with nextSeq := (p.seqNo + 1) % 4, packets := x.packets + 1, body := x.body ++ p.payload }
      else deadPart p

/-- A request that Fyhus takes: a control request, or a vendor-defined one with its vendor identifier. -/
def acceptable (x : MctpPart) : Bool :=
  let m : MctpMsg := { src := x.src, tag := x.tag, body := x.body }
  x.packets ≤ 4 && x.tagOwner &&
    ((m.byte 0 = 0 && 3 ≤ x.body.length && 128 ≤ m.byte 1)
      || (m.byte 0 = 0x7E && 3 ≤ x.body.length && (x.body.drop 1).take 2 = vendorBytes))

/-- A whole message: queued for service, or discarded. -/
def mctpMessage (d : Device) (x : MctpPart) : Device :=
  if acceptable x then
    mctpRefuse 4 (d.modMgmt (fun m => { m with queue := m.queue ++ [{ src := x.src, tag := x.tag, body := x.body }] }))
  else mctpDiscard d

/-- MCTP_PACKET. While 4 requests wait, or 4 packets of incomplete messages stand in the receive buffer, MGT is not ready
and the packet stays outside (R61, R454). A packet for another endpoint is dropped. -/
def mctpPacket (d : Device) (p : MctpPacket) : Device :=
  if 4 ≤ d.mgmt.queue.length || 4 ≤ mgtBuffered d || !mctpMine d p then d
  else
    let d' := if p.som && (partOf d p).isSome then mctpDiscard d else d
    let x := joinPacket d p
    if p.eom then mctpMessage (setPart d' p none) x else setPart d' p (some x)

/-- MCTP_PACKET. -/
def execMctpPacket (p : MctpPacket) (s : State) : Host.Outcome State Fault Refusal :=
  next s (whenPresent s.dev (mctpPacket · p))

/-! ### Dictionary requests (R453, R455) -/

/-- Serves the request at the head of the queue where it is a vendor-defined one with the OP, and the unit is free. -/
def mctpServe (d : Device) (op : Nat) (f : Device → MctpMsg → Device) : Device :=
  whenPresent d (fun d =>
    match d.mgmt.queue with
    | [] => d
    | m :: _ =>
      if unitTurn d .mctp && !m.control && m.refusal.isNone && m.op = op then f d m else d)

/-- Serves such a request, which takes the turn of MCTP, and answers with what serving it gave. -/
def mctpReply (d : Device) (op : Nat) (f : Device → MctpMsg → Device × Status × List Byte) : Device :=
  mctpServe d op (fun d m =>
    let r := f (tookTurn d (.mctp m.src m.tag m.reqId)) m
    mctpRespond r.1 m.src m.tag op m.reqId m.idx m.sub r.2.1 r.2.2)

/-- A COMMIT through MCTP, under the write mask. -/
def mctpCommitEntry (d : Device) (idx sub : Nat) : Device × Status × List Byte :=
  if !commitOk idx sub then (d, .rejFormat, [])
  else if bit (odGet d Od.MCTP_WRITE_MASK 0) (idx / 256) then (commitEntry d idx sub, .ok, [])
  else (bump d Od.MCTP_STATS 1, .rejSealedWrite, [])

/-- MCTP_READ. -/
def execMctpRead (s : State) (found : DiagFind := none) : Host.Outcome State Fault Refusal :=
  done s (mctpReply s.dev OP_READ (fun d m => readEntry (diagRead d m.idx found) 128 m.idx m.sub))
/-- MCTP_WRITE: the write itself takes the turn. -/
def execMctpWrite (s : State) : Host.Outcome State Fault Refusal :=
  done s (mctpServe s.dev OP_WRITE (fun d m => entryWrite d (.mctp m.src m.tag m.reqId) m.idx m.sub m.data))
/-- MCTP_COMMIT. -/
def execMctpCommit (s : State) : Host.Outcome State Fault Refusal :=
  next s (mctpReply s.dev OP_COMMIT (fun d m => mctpCommitEntry d m.idx m.sub))
/-- MCTP_READ_INFO. -/
def execMctpReadInfo (s : State) : Host.Outcome State Fault Refusal :=
  next s (mctpReply s.dev OP_INFO (fun d m => infoEntry d m.idx m.sub))

/-! ### Control commands (R60, R456; DSP0236, log entry 25) -/

/-- Serves the control request at the head of the queue: the entry it sets, completion code and data. -/
def controlServe (d : Device) (cmd : Nat) (f : Device → MctpMsg → Device × Nat × List Byte) : Device :=
  whenPresent d (fun d =>
    match d.mgmt.queue with
    | [] => d
    | m :: _ =>
      if m.control && m.command = cmd then
        let r := f d m
        mctpAnswer r.1 m.src m.tag (controlBody m r.2.1 r.2.2)
      else d)

/-- Set Endpoint ID: operations 0 and 1 set an identifier other than 0 and 0xFF. -/
def setEid (d : Device) (m : MctpMsg) : Device × Nat × List Byte :=
  let eid := m.byte 4
  if m.body.length ≠ 5 then (d, 0x03, [])
  else if m.byte 3 % 4 < 2 && eid ≠ 0 && eid ≠ 0xFF then
    (odSet d Od.MCTP_EID 0 eid, 0x00, [0x00, BitVec.ofNat 8 eid, 0x00])
  else (d, 0x02, [])

/-- SET_ENDPOINT_ID. -/
def execSetEndpointId (s : State) : Host.Outcome State Fault Refusal := next s (controlServe s.dev 0x01 setEid)
/-- GET_ENDPOINT_ID: a simple endpoint with a dynamic identifier. -/
def execGetEndpointId (s : State) : Host.Outcome State Fault Refusal :=
  next s (controlServe s.dev 0x02 (fun d _ => (d, 0x00, [BitVec.ofNat 8 (odGet d Od.MCTP_EID 0), 0x00, 0x00])))
/-- GET_MCTP_VERSION_SUPPORT. -/
def execGetMctpVersionSupport (s : State) : Host.Outcome State Fault Refusal :=
  next s (controlServe s.dev 0x04 (fun d _ => (d, 0x00, Config.mctpVersionReply)))
/-- GET_MESSAGE_TYPE_SUPPORT: one type, Vendor Defined – PCI. -/
def execGetMessageTypeSupport (s : State) : Host.Outcome State Fault Refusal :=
  next s (controlServe s.dev 0x05 (fun d _ => (d, 0x00, [0x01, 0x7E])))

/-- Get Vendor Defined Message Support: one set, number 0. -/
def vendorSupport (d : Device) (m : MctpMsg) : Device × Nat × List Byte :=
  if m.byte 3 = 0 then
    (d, 0x00, [0xFF, 0x00] ++ vendorBytes ++ (leBytes (odGet d Od.MCTP_VDM_VERSION 0) 2).reverse)
  else (d, 0x02, [])

/-- GET_VENDOR_DEFINED_MESSAGE_SUPPORT. -/
def execGetVendorDefinedMessageSupport (s : State) : Host.Outcome State Fault Refusal :=
  next s (controlServe s.dev 0x06 vendorSupport)

end Sys2Proof.Machine
end

