-- ==== Sys2Proof/Machine/Fabi.lean ====
section
/-! DEFINITION. Responses on FAB_I, each by what its access serves (R38 to R40, R463), and the export of the trace
(R436, R437). -/

namespace Sys2Proof.Machine

/-! ### Trace export -/

/-- Place of the next record to issue. -/
def issuedCount (t : Trace) : Nat := (t.head + t.issued) % 2 ^ 32

def exportReady (d : Device) : Bool :=
  odGet d Od.TRACE_HOST_BASE 0 ≠ 0 && seqDiff (issuedCount d.trace) d.trace.tail < 2 ^ odGet d Od.TRACE_HOST_LOG2 0
    && d.fabi.outstanding.length < 448

/-- The oldest record not issued is written to its place in the host ring. -/
def traceExport (d : Device) : Device :=
  match d.trace.ring[d.trace.issued]? with
  | none => d
  | some r =>
    if !exportReady d then d
    else
      let pos := issuedCount d.trace
      let at_ := odGet d Od.TRACE_HOST_BASE 0 + 32 * (pos % 2 ^ odGet d Od.TRACE_HOST_LOG2 0)
      fabiWrite (d.modTrace (fun t => { t with issued := t.issued + 1 })) (.traceExport pos) at_ 32 r.toNat

/-- TRACE_EXPORT. -/
def execTraceExport (s : State) : Host.Outcome State Fault Refusal := next s (whenReady s.dev traceExport)

/-- The export of a place is still outstanding. -/
def exporting (d : Device) (pos : Nat) : Bool :=
  (d.fabi.outstanding ++ d.fabi.waiting).any (fun r => r.kind = .traceExport pos)

/-- TRACE_HEAD passes the oldest record; the TRACE point sees one that was written. -/
def headPasses (d : Device) : Device :=
  match d.trace.ring with
  | [] => d
  | r :: rest =>
    let pos := d.trace.head
    let d := if d.trace.lost.contains pos then d else cvcPass d PT_TRACE 0 r.toNat 32 0
    d.modTrace (fun t => { t with
      ring := rest, head := (pos + 1) % 2 ^ 32, issued := t.issued - 1, lost := t.lost.filter (· ≠ pos) })

/-- TRACE_HEAD advances over the issued records whose writes have returned. -/
def advanceHead : Nat → Device → Device
  | 0, d => d
  | n + 1, d => if d.trace.issued = 0 || exporting d d.trace.head then d else advanceHead n (headPasses d)

/-- A trace write has returned: vector 2 when the count reaches its threshold. -/
def exportReturned (d : Device) : Device :=
  let before := seqDiff d.trace.head d.trace.tail
  let d := advanceHead d.trace.issued d
  let n := odGet d Od.TRACE_IRQ_COUNT 0
  if n ≠ 0 && before < n && n ≤ seqDiff d.trace.head d.trace.tail then raiseVector d 2 else d

/-- The write of a record failed: it is dropped, and the export goes on past it. -/
def exportFailed (d : Device) (pos : Nat) : Device :=
  exportReturned (traceDrop (d.modTrace (fun t => { t with lost := t.lost ++ [pos] })) 2 1)

/-! ### Completion writes (R39, R74, R91, R99) -/

/-- An END has been written: the request leaves the owner's books, and its home slice hears of it. -/
def endWrittenHere (d : Device) (c : Compl) : Device :=
  let o := Map.find d.turn.owned c.handle
  let d := d.modTurn (fun t => { t with owned := Map.del t.owned c.handle })
  let d := match o.bind Owned.flow with
    | some i => tidyFlow (modFlow d i (fun f => { f with live := f.live - 1 })) i
    | none => d
  sendXfer (refuseHeld d c.handle) c.home (.endWritten c.handle) 32

/-- The write of the oldest waiting completion has its response. -/
def cqWritten (d : Device) (p : Nat) (rec_ : Nat) : Device :=
  match (d.ring p).waiting with
  | [] => d
  | c :: ws =>
    if !(d.ring p).writing then d
    else
      let bseq := (odGet d Od.BSEQ_BASE p + (d.ring p).cqTail) % 2 ^ 32
      let d := d.modRing p (fun r => { r with
        waiting := ws, writing := false, cqTail := (r.cqTail + 1) % 2 ^ 32
        unanswered := if c.isAnswer then r.unanswered - 1 else r.unanswered })
      let d := ringIrqCount (takeRingUse (noteFull (cvcPassAs d (d.ring p).view PT_CQ_WRITE p rec_ 64 bseq) p) p) p c
      let d := if c.ctype = CT_END then endWrittenHere d c else d
      flowWritten d c

/-! ### Responses -/

/-- A token-log, alternatives or report write has returned. -/
def logReturned (d : Device) (slot : Nat) : Device :=
  flushBehind (d.modSeq slot (fun q => { q with logWrites := q.logWrites - 1 })) slot

/-- The tokens of the window ring (R247). -/
def tailRead (d : Device) (slot : Nat) (toks : List Nat) : Device :=
  d.modSeq slot (fun q => { q with
    tailDue := false
    samp := { q.samp with ring := (indexed q.samp.winStart toks).foldl (fun m x => Map.put m (x.1 % 64) x.2) q.samp.ring } })

/-- An input of R248 for the position in progress. -/
def inputRead (d : Device) (slot node : Nat) (data : List Byte) : Device :=
  d.modSeq slot (fun q => { q with inputs := Map.put q.inputs node (ofLe data), inputsDue := q.inputsDue - 1 })

/-- Tokens of a re-prefill chunk go on to the replay block (R239). -/
def replayFill (d : Device) (slot pos : Nat) (toks : List Nat) : Device :=
  match d.seq? slot with
  | none => d
  | some q =>
    match q.work, q.replay with
    | some w, some b =>
      if pos < w.entry.pos then d
      else fabiWrite d (.replayWrite slot w.islot) (replayAddr d b + 4 * (pos - w.entry.pos)) (4 * toks.length) (wordsBits toks)
    | _, _ => d

/-- What a write's response does, by what the write serves. -/
def wroteKind (d : Device) (r : FabiReq) : Device :=
  match r.kind with
  | .cqWrite p => cqWritten d p r.data
  | .tokenLog slot | .report slot => logReturned d slot
  | .traceExport _ => exportReturned d
  | .mirror idx => wakePages (mirrorAcked d idx)
  | .pageTable slot => pagesArrived (modBlk d slot (fun c => { c with ptabWrites := c.ptabWrites - 1 })) slot
  | .stageBlock slot | .stageList slot => modPlan d slot (fun p => { p with writes := p.writes - 1 })
  | .resultBody slot => resultBodyWritten d slot
  | .resultHeader slot => resultWritten d slot
  | .packWrite slot => packWritten d slot
  | .imageWrite slot | .imageHeader slot => saveReturned d slot true
  | .maskBlock => sealAnswered d true
  | .xfer _ => answerAsks (shipHeld d r.xfer)
  | _ => d

/-- What a read's response does, by what the read serves. -/
def readKind (d : Device) (r : FabiReq) (data : List Byte) : Device :=
  match r.kind with
  | .sqRead p k => d.modRing p (fun q => { q with held := Map.put q.held k (BitVec.ofNat 1024 (ofLe data)) })
  | .paramBlock did off => paramRead d did off data
  | .promptProbe did => probesRead d did (tokensOf false data)
  | .image did => imageRead d did data
  | .epochDesc pub => descriptorRead d pub (ofLe data)
  | .prefixPages slot => prefixRead d slot (tokensOf false data)
  | .promptTail slot => tailRead d slot (tokensOf false data)
  | .chainTokens slot page log => hashTokensRead d slot page (tokensOf log data)
  | .inputs slot node => inputRead d slot node data
  | .replayRead slot pos log => replayFill d slot pos (tokensOf log data)
  | .draftBank slot => draftRead d slot r.addr data
  | .tombLine slot line => lineRead d slot line (ofLe data)
  | .passage slot => packRead d slot data
  | .saveTokens slot pos log => saveTokensRead d slot pos log data
  | _ => d

/-- FABI_WRITE_RESPONSE. -/
def fabiWritten (d : Device) (id : Nat) : Device :=
  match fabiFind d id with
  | none => d
  | some r => if r.write then wroteKind (fabiDone d id) r else d

/-- FABI_READ_RESPONSE: a response carries the bytes that were asked for. -/
def fabiReadBack (d : Device) (id : Nat) (data : List Byte) : Device :=
  match fabiFind d id with
  | none => d
  | some r => if !r.write && data.length = r.len then readKind (fabiDone d id) r data else d

/-- FABI_WRITE_RESPONSE. -/
def execFabiWriteResponse (req : Nat) (s : State) : Host.Outcome State Fault Refusal :=
  done s (whenPresent s.dev (fun d => fabiWritten d req))
/-- FABI_READ_RESPONSE. -/
def execFabiReadResponse (req : Nat) (data : List Byte) (s : State) : Host.Outcome State Fault Refusal :=
  done s (whenPresent s.dev (fun d => fabiReadBack d req data))

/-! ### Error responses (R40, R92, R463) -/

/-- Accesses that are issued once more (Table 2.14). -/
def FabiKind.onceMore : FabiKind → Bool
  | .promptProbe _ | .paramBlock _ _ | .image _ | .prefixPages _ | .promptTail _ | .chainTokens _ _ _ | .inputs _ _
  | .pageTable _ | .turnList _ | .replayWrite _ _ | .draftRequest _ | .sampleBox _ _ | .pathBlock _ | .stageBlock _
  | .stageList _ | .resultBody _ | .resultHeader _ | .tombLine _ _ | .passage _ | .packWrite _ | .imageWrite _
  | .imageHeader _ => true
  | _ => false

/-- The same access is issued again. -/
def fabiAgain (d : Device) (id : Nat) : Device :=
  { d with fabi := { d.fabi with outstanding := modFirst (fun r => r.id = id) (fun r => { r with again := true }) d.fabi.outstanding } }

/-- A completion that reports tokens whose write failed is not written; an END of the request carries the fault, and
neither it nor an answer shows a position at or above `t` (R85). -/
def unreported (t : Nat) (xs : List Outgoing) : List Outgoing :=
  xs.filterMap (fun x =>
    match x with
    | .compl c =>
      if c.ctype = CT_TOKENS || c.ctype = CT_TURN_END then none
      else if c.ctype = CT_END then some (.compl { c with status := .faultState, tokenEnd := min c.tokenEnd t })
      else some x
    | .ack a r n => some (.ack a r (min n t)))

/-- Positions of the turn below the first that a failed write was to hold; all of them, where it held no tokens. -/
def writtenBelow (q : Seq) (r : FabiReq) : Nat :=
  let off := (r.addr + 2 ^ 64 - q.toklogAddr) % 2 ^ 64
  match r.kind with
  | .tokenLog _ => if off < 8 * q.maxTokens then min q.tcb.tokenEnd (off / 8) else q.tcb.tokenEnd
  | _ => q.tcb.tokenEnd

/-- The request ends with FAULT_STATE, also where its end has begun and its END has not gone. -/
def outputLost (d : Device) (slot : Nat) : Device :=
  match d.seq? slot with
  | none => d
  | some q =>
    if q.tcb.state = .finishing then
      tryEnd (modTcb d slot (fun t => { t with status := if 0x20 ≤ t.status.code then t.status else .faultState })) slot
    else faultSeq d slot .faultState

/-- A token-log or report write failed: TOKEN_END shows no position that was never written (R85). -/
def logFailed (d : Device) (slot : Nat) (r : FabiReq) : Device :=
  let d := d.modSeq slot (fun q =>
    let t := writtenBelow q r
    { q with logWrites := q.logWrites - 1, tcb := { q.tcb with tokenEnd := t }, behind := unreported t q.behind })
  flushBehind (outputLost d slot) slot

/-- A write of the result buffer failed. -/
def resultFailed (d : Device) (slot : Nat) : Device := outputLost (modPlan d slot (fun p => { p with resultBusy := false })) slot

/-- The pages of a sequence are hashed no further (R229, Table 2.14). -/
def hashEnds (d : Device) (slot : Nat) : Device := modBlk d slot (fun c => { c with hashing := false, hashStopped := true })

/-- An error response decides the outcome of the access, by what it serves. -/
def failedKind (d : Device) (r : FabiReq) : Device :=
  match r.kind with
  | .sqRead p _ => d.modRing p (fun q => { q with errSq := true })
  | .cqWrite p => d.modRing p (fun q => { q with errCq := true, writing := false })
  | .tokenLog slot | .report slot => logFailed d slot r
  | .traceExport pos => exportFailed d pos
  | .acctDelta _ => addBack d r.data
  | .paramBlock did _ | .image did => refuseDecision d did .rejFormat 0 none
  | .promptProbe did => probesRead d did []
  | .epochDesc pub => (match pub? d pub with | some x => refusePub d x .rejFormat | none => d)
  | .prefixPages slot => prefixRead d slot []
  | .chainTokens slot _ _ => hashEnds d slot
  | .draftBank slot => endPost d slot
  | .replayRead slot _ _ | .replayWrite slot _ => faultSeq d slot .faultPageLost
  | .saveTokens slot _ _ | .imageWrite slot | .imageHeader slot => saveReturned d slot false
  | .maskBlock => sealAnswered d false
  | .promptTail slot | .inputs slot _ | .pageTable slot | .turnList slot | .draftRequest slot | .sampleBox slot _
  | .pathBlock slot | .stageBlock slot | .stageList slot | .tombLine slot _ | .passage slot
  | .packWrite slot => faultSeq d slot .faultState
  | .resultBody slot | .resultHeader slot => resultFailed d slot
  | .xfer _ =>
    let now := d.tick
    (match r.xfer with
     | some (k, x) =>
       if x.answered || d.faults.lost.contains k then d
       else d.modFaults (fun f => { f with unacked := f.unacked ++ [(now, k, x)] })
     | none => d)
  | .msi _ | .mirror _ | .dropped => d

/-- The status with which an error that is not retried ends the sequence it concerns (Table 2.14). -/
def FabiKind.faultStatus : FabiKind → Nat
  | .replayRead _ _ _ | .replayWrite _ _ => Status.faultPageLost.code
  | .tokenLog _ | .report _ | .promptTail _ | .inputs _ _ | .pageTable _ | .turnList _ | .draftRequest _ | .sampleBox _ _
  | .pathBlock _ | .stageBlock _ | .stageList _ | .tombLine _ _ | .passage _ | .packWrite _ | .resultBody _
  | .resultHeader _ => Status.faultState.code
  | _ => 0

/-- FABI_ERROR_RESPONSE: counted, FABRIC_ERR raised, and the rule of what the access serves. -/
def fabiError (d : Device) (id : Nat) : Device :=
  match fabiFind d id with
  | none => d
  | some r =>
    let retry := r.kind.onceMore && !r.again
    let h := match r.kind.slot with | some s => slotHandle d s | none => 0
    let d := alertLog (portErr d PERR_FABI) ALERT_FABRIC_ERR 0 h (if retry || h = 0 then 0 else r.kind.faultStatus) 0
    if retry then fabiAgain d id else failedKind (fabiDone d id) r

/-- FABI_ERROR_RESPONSE. -/
def execFabiErrorResponse (req : Nat) (s : State) : Host.Outcome State Fault Refusal :=
  done s (whenPresent s.dev (fabiError · req))

end Sys2Proof.Machine
end

