-- ==== Sys2Proof/Machine/Dispatch.lean ====
section
/-! DEFINITION. One arm per command: each calls that command's own meaning. -/

namespace Sys2Proof.Machine

def exec (i : Instr) (s : State) : Host.Outcome State Fault Refusal :=
  match i with
  | .porstNAssert => Sys2Proof.Machine.execPorstNAssert s
  | .porstNRelease => Sys2Proof.Machine.execPorstNRelease s
  | .wrstNAssert => Sys2Proof.Machine.execWrstNAssert s
  | .wrstNRelease => Sys2Proof.Machine.execWrstNRelease s
  | .fySrstNAssert rootLock => Sys2Proof.Machine.execFySrstNAssert s rootLock
  | .fySrstNRelease rootLock => Sys2Proof.Machine.execFySrstNRelease s rootLock
  | .fyIsoNAssert => Sys2Proof.Machine.execFyIsoNAssert s
  | .fyIsoNRelease => Sys2Proof.Machine.execFyIsoNRelease s
  | .sliceStart => Sys2Proof.Machine.execSliceStart s
  | .dictionaryRegionDone failing => Sys2Proof.Machine.execDictionaryRegionDone failing s
  | .grottoTestDone failing => Sys2Proof.Machine.execGrottoTestDone failing s
  | .laneGroupsDone failing => Sys2Proof.Machine.execLaneGroupsDone failing s
  | .cipherSelfTest cts => Sys2Proof.Machine.execCipherSelfTest cts s
  | .classTTableDone uncorrectable => Sys2Proof.Machine.execClassTTableDone uncorrectable s
  | .finalChecks => Sys2Proof.Machine.execFinalChecks s
  | .sqTail p v => Sys2Proof.Machine.execSqTail p v s
  | .cqHead p v => Sys2Proof.Machine.execCqHead p v s
  | .fabtAccessRefused a => Sys2Proof.Machine.execFabtAccessRefused a s
  | .sqRecordRead req record => Sys2Proof.Machine.execSqRecordRead req record s
  | .fabiWriteResponse req => Sys2Proof.Machine.execFabiWriteResponse req s
  | .fabiErrorResponse req => Sys2Proof.Machine.execFabiErrorResponse req s
  | .submit p => Sys2Proof.Machine.execSubmit p s
  | .cont p => Sys2Proof.Machine.execCont p s
  | .abort p => Sys2Proof.Machine.execAbort p s
  | .abortClient p => Sys2Proof.Machine.execAbortClient p s
  | .pause p => Sys2Proof.Machine.execPause p s
  | .resume p => Sys2Proof.Machine.execResume p s
  | .save p => Sys2Proof.Machine.execSave p s
  | .restore p => Sys2Proof.Machine.execRestore p s
  | .epochPublish p => Sys2Proof.Machine.execEpochPublish p s
  | .setParam p => Sys2Proof.Machine.execSetParam p s
  | .handOver h => Sys2Proof.Machine.execHandOver h s
  | .handOverAck id r => Sys2Proof.Machine.execHandOverAck id r s
  | .handOverTimeout id => Sys2Proof.Machine.execHandOverTimeout id s
  | .hostCommandTransfer c => Sys2Proof.Machine.execHostCommandTransfer c s
  | .hostCommandAck id r tokenEnd => Sys2Proof.Machine.execHostCommandAck id r s tokenEnd
  | .prefixLookup src msg => Sys2Proof.Machine.execPrefixLookup src msg s
  | .lookupAnswer src msg => Sys2Proof.Machine.execLookupAnswer src msg s
  | .lookupTimeout id => Sys2Proof.Machine.execLookupTimeout id s
  | .queueRetest => Sys2Proof.Machine.execQueueRetest s
  | .queueSweep => Sys2Proof.Machine.execQueueSweep s
  | .completionTransfer c => Sys2Proof.Machine.execCompletionTransfer c s
  | .completionWrite p => Sys2Proof.Machine.execCompletionWrite p s
  | .cqStall p => Sys2Proof.Machine.execCqStall p s
  | .cqIrqTimeout p => Sys2Proof.Machine.execCqIrqTimeout p s
  | .ringEnable path p v => Sys2Proof.Machine.execRingEnable path p v s
  | .ringReset path p v => Sys2Proof.Machine.execRingReset path p v s
  | .ringDiscard path p v => Sys2Proof.Machine.execRingDiscard path p v s
  | .ringClearErr path p v => Sys2Proof.Machine.execRingClearErr path p v s
  | .seqQueryHandle path h => Sys2Proof.Machine.execSeqQueryHandle path h s
  | .deadlineExpiry slot => Sys2Proof.Machine.execDeadlineExpiry slot s
  | .ttlExpiry slot => Sys2Proof.Machine.execTtlExpiry slot s
  | .quarantineExpiry slot => Sys2Proof.Machine.execQuarantineExpiry slot s
  | .notBeforeExpiry slot => Sys2Proof.Machine.execNotBeforeExpiry slot s
  | .backoffExpiry slot => Sys2Proof.Machine.execBackoffExpiry slot s
  | .idleDemoteExpiry slot => Sys2Proof.Machine.execIdleDemoteExpiry slot s
  | .demotionStageDeferred slot => Sys2Proof.Machine.execDemotionStageDeferred slot s
  | .slotReclaim => Sys2Proof.Machine.execSlotReclaim s
  | .endTransfer c => Sys2Proof.Machine.execEndTransfer c s
  | .endRetry slot => Sys2Proof.Machine.execEndRetry slot s
  | .endWrittenReport handle => Sys2Proof.Machine.execEndWrittenReport handle s
  | .release handle => Sys2Proof.Machine.execRelease handle s
  | .aggRoundOpen fit => Sys2Proof.Machine.execAggRoundOpen s fit
  | .deltaEntry src e => Sys2Proof.Machine.execDeltaEntry src e s
  | .aggRoundClose => Sys2Proof.Machine.execAggRoundClose s
  | .aggregateEntry e last => Sys2Proof.Machine.execAggregateEntry e last s
  | .acctAggLost => Sys2Proof.Machine.execAcctAggLost s
  | .acctReset path v => Sys2Proof.Machine.execAcctReset path v s
  | .resetEntry src e => Sys2Proof.Machine.execResetEntry src e s
  | .stepBuild g stalledAway => Sys2Proof.Machine.execStepBuild g stalledAway s
  | .cmdIssue islot => Sys2Proof.Machine.execCmdIssue islot s
  | .energyCorrUpdate => Sys2Proof.Machine.execEnergyCorrUpdate s
  | .switchRateSample => Sys2Proof.Machine.execSwitchRateSample s
  | .completion rec => Sys2Proof.Machine.execCompletion rec s
  | .killAck rec => Sys2Proof.Machine.execKillAck rec s
  | .cmdTimeout islot => Sys2Proof.Machine.execCmdTimeout islot s
  | .killAckTimeout islot => Sys2Proof.Machine.execKillAckTimeout islot s
  | .lgiBeat hdr data => Sys2Proof.Machine.execLgiBeat hdr data s
  | .samplePosition slot node hz => Sys2Proof.Machine.execSamplePosition slot node hz s
  | .digestRound slot hz => Sys2Proof.Machine.execDigestRound slot s hz
  | .sequenceCommit slot => Sys2Proof.Machine.execSequenceCommit slot s
  | .draftPost v => Sys2Proof.Machine.execDraftPost v s
  | .modelWarmupDone g sl => Sys2Proof.Machine.execModelWarmupDone g sl s
  | .groupHotMap path g sl v => Sys2Proof.Machine.execGroupHotMap path g sl v s
  | .groupCfg path g v => Sys2Proof.Machine.execGroupCfg path g v s
  | .pgmStatus rec => Sys2Proof.Machine.execPgmStatus rec s
  | .ctxReclaim => Sys2Proof.Machine.execCtxReclaim s
  | .replayTimeout slot => Sys2Proof.Machine.execReplayTimeout slot s
  | .mirrorWrite src idx entry => Sys2Proof.Machine.execMirrorWrite src idx entry s
  | .mirrorTimeout => Sys2Proof.Machine.execMirrorTimeout s
  | .selectionClaim slot => Sys2Proof.Machine.execSelectionClaim slot s
  | .selectionDelivered slot => Sys2Proof.Machine.execSelectionDelivered slot s
  | .rnsRequest rec hz => Sys2Proof.Machine.execRnsRequest rec hz s
  | .tableKey path key => Sys2Proof.Machine.execTableKey path key s
  | .install src pub descAddr desc => Sys2Proof.Machine.execInstall src pub descAddr desc s
  | .installTimeout pub => Sys2Proof.Machine.execInstallTimeout pub s
  | .activate src pub epoch index => Sys2Proof.Machine.execActivate src pub epoch index s
  | .cancel src pub epoch index => Sys2Proof.Machine.execCancel src pub epoch index s
  | .epochTransferAck a => Sys2Proof.Machine.execEpochTransferAck a s
  | .epochGraceExpiry e => Sys2Proof.Machine.execEpochGraceExpiry e s
  | .spawn r => Sys2Proof.Machine.execSpawn r s
  | .parityDelta d => Sys2Proof.Machine.execParityDelta d s
  | .parityAck member slot updNo => Sys2Proof.Machine.execParityAck member slot updNo s
  | .sliceSuspect slice => Sys2Proof.Machine.execSliceSuspect slice s
  | .sliceOnline path v => Sys2Proof.Machine.execSliceOnline path v s
  | .rebuildStripe r => Sys2Proof.Machine.execRebuildStripe r s
  | .forwardPair lost old new note => Sys2Proof.Machine.execForwardPair lost old new s note
  | .ownershipAnnouncement ring slice => Sys2Proof.Machine.execOwnershipAnnouncement ring slice s
  | .frameRequest m => Sys2Proof.Machine.execFrameRequest m s
  | .sliceDrain path v => Sys2Proof.Machine.execSliceDrain path v s
  | .sliceQuiesced => Sys2Proof.Machine.execSliceQuiesced s
  | .tileOnline path x v => Sys2Proof.Machine.execTileOnline path x v s
  | .tileDrainTimeout tile => Sys2Proof.Machine.execTileDrainTimeout tile s
  | .tileLost path tile => Sys2Proof.Machine.execTileLost path tile s
  | .scrub addr loc found => Sys2Proof.Machine.execScrub addr loc found s
  | .eccCeWindow => Sys2Proof.Machine.execEccCeWindow s
  | .lanePatrol failing => Sys2Proof.Machine.execLanePatrol failing s
  | .laneSubstitution group => Sys2Proof.Machine.execLaneSubstitution group s
  | .laneGroupGate group => Sys2Proof.Machine.execLaneGroupGate group s
  | .laneGroupUngate group => Sys2Proof.Machine.execLaneGroupUngate group s
  | .budgetRecord rec => Sys2Proof.Machine.execBudgetRecord rec s
  | .pwrStale => Sys2Proof.Machine.execPwrStale s
  | .telemetry powerMw laneBusy => Sys2Proof.Machine.execTelemetry powerMw laneBusy s
  | .rootMhz path v => Sys2Proof.Machine.execRootMhz path v s
  | .tickLoad path v => Sys2Proof.Machine.execTickLoad path v s
  | .sealSlice path v => Sys2Proof.Machine.execSealSlice path v s
  | .mbRead reqId idx sub found => Sys2Proof.Machine.execMbRead reqId idx sub s found
  | .mbWrite reqId idx sub data => Sys2Proof.Machine.execMbWrite reqId idx sub data s
  | .mbCommit reqId idx sub => Sys2Proof.Machine.execMbCommit reqId idx sub s
  | .mbReadInfo reqId idx sub => Sys2Proof.Machine.execMbReadInfo reqId idx sub s
  | .mailboxOverrun => Sys2Proof.Machine.execMailboxOverrun s
  | .mctpPacket p => Sys2Proof.Machine.execMctpPacket p s
  | .mctpRead found => Sys2Proof.Machine.execMctpRead s found
  | .mctpWrite => Sys2Proof.Machine.execMctpWrite s
  | .mctpCommit => Sys2Proof.Machine.execMctpCommit s
  | .mctpReadInfo => Sys2Proof.Machine.execMctpReadInfo s
  | .setEndpointId => Sys2Proof.Machine.execSetEndpointId s
  | .getEndpointId => Sys2Proof.Machine.execGetEndpointId s
  | .getMctpVersionSupport => Sys2Proof.Machine.execGetMctpVersionSupport s
  | .getMessageTypeSupport => Sys2Proof.Machine.execGetMessageTypeSupport s
  | .getVendorDefinedMessageSupport => Sys2Proof.Machine.execGetVendorDefinedMessageSupport s
  | .msiMask path v => Sys2Proof.Machine.execMsiMask path v s
  | .cvcCfg path c v => Sys2Proof.Machine.execCvcCfg path c v s
  | .cvcReset path v => Sys2Proof.Machine.execCvcReset path v s
  | .legacyCtrl path v => Sys2Proof.Machine.execLegacyCtrl path v s
  | .legacyValue path v => Sys2Proof.Machine.execLegacyValue path v s
  | .traceExport => Sys2Proof.Machine.execTraceExport s
  | .traceTail path v => Sys2Proof.Machine.execTraceTail path v s
  | .traceHostBase path v => Sys2Proof.Machine.execTraceHostBase path v s
  | .directWriteRefused idx sub data => Sys2Proof.Machine.execDirectWriteRefused idx sub data s
  | .registerWrite path idx sub data => Sys2Proof.Machine.execRegisterWrite path idx sub data s
  | .fabiReadResponse req data => Sys2Proof.Machine.execFabiReadResponse req data s
  | .workListFetch offset bytes => Sys2Proof.Machine.execWorkListFetch offset bytes s
  | .directReadLatch offset => Sys2Proof.Machine.execDirectReadLatch offset s
  | .railGating vddFy => Sys2Proof.Machine.execRailGating vddFy s

end Sys2Proof.Machine
end

