-- ==== Sys2Proof/Machine/Tick.lean ====
section
/-! DEFINITION. The passing of time: what an idle step does (log entry 2). -/

namespace Sys2Proof.Machine

/-- ROOT cycles that one idle step lets pass: one decision slot of 16 SCLK, which is one MCLK (R121, R400). -/
def idleCycles : Nat := 64

/-- At each new TICK, whether moves of each kind have been outstanding at every TICK of the interval (R190). -/
def noteMoves (first : Bool) (c : Ctx) : Ctx :=
  let ms := Map.vals c.moves
  { c with busyAll := ((first || c.busyAll.1) && ms.any Move.isDemotion, (first || c.busyAll.2.1) && ms.any Move.isPromotion,
                       (first || c.busyAll.2.2) && ms.any Move.isWeights) }

/-- What waits for a decision slot goes on: the oldest request granted, and the first record held back (R80, R121). -/
def idleStart (d : Device) : Device := startBehind (startGranted d)

/-- The port of random words in the 16 SCLK of an idle step (R52). -/
def idleRns (d : Device) : Device := (List.range 16).foldl rnsSclk d

/-- Time passes while the slice is out of reset; ROOTCYC stands at 0 while it is held (R402, R408). Steps whose last
commands have been withdrawn, and a request that waits in the mailbox, go on first (R145, R449). -/
def idleTick (d : Device) : Device :=
  if d.clk.phase = .held then d
  else
    let d := settle d (mbRun (closeSteps d))
    let t := d.tick
    let d := d.modClk (fun c => { c with rootcyc := (c.rootcyc + idleCycles) % 2 ^ 64 })
    let d := if d.tick = t then d else d.modCtx (noteMoves (d.tick % 100 = 1))
    idleStart (idleRns (ungateDone d))

end Sys2Proof.Machine
end

