-- ==== Sys2Proof/Machine/Step.lean ====
section
/-! DEFINITION. One step of the slice: the command at the front of the queue, or, on an empty queue, the passing of
64 ROOT cycles. -/

namespace Sys2Proof.Machine

/-- The command at the front of the queue runs on the slice with the rest of the queue; on an empty queue time passes
(log entry 2). -/
def step (s : State) : Host.Outcome State Fault Refusal :=
  match s.pending with
  | [] => .next { s with dev := idleTick s.dev }
  | c :: rest => exec c { s with pending := rest }

/-- `s` with the command that the word spells at the front of its queue. The table gives no row any bits, so no word
spells a command and the state is unchanged. -/
def State.withFetchWord (s : State) (nbits w : Nat) : State :=
  match Sys2Proof.decodeTableWord nbits w with
  | some c => { s with pending := c :: s.pending }
  | none => s

end Sys2Proof.Machine
end

