-- ==== Sys2Proof/Safety.lean ====
section
/-! DEFINITION. What claims take as a well-formed slice: its place in the package is legal, its tables and its export
window are in canonical form, and its clocks and levels stand in a state that the spec allows. -/

namespace Sys2Proof.Machine

/-- The member has 8, 16 or 32 slices and the slice's index is one of them (R1, R17). -/
def Ident.legal (i : Ident) : Bool := (i.n = 8 || i.n = 16 || i.n = 32) && i.index < i.n

/-- A phase of start-up that follows the test or clear pass of the dictionary region (R411). -/
def Phase.afterDict : Phase → Bool
  | .grotto | .lanes | .cipher | .table | .final | .ready => true
  | _ => false

/-- While a reset input is held, or FY_ROOT_LOCK is low, the slice is held; a held slice shows neither FY_PRESENT nor FY_READY; FY_READY is never
1 without FY_PRESENT; FY_PRESENT is 1 from the dictionary region's phase on (R62, R66, R408, R411). -/
def Clk.legal (c : Clk) : Bool :=
  ((c.porstN && c.wrstN && c.srstN && c.rootLock) || c.phase = .held) && (!(c.phase = .held) || (!c.present && !c.ready)) &&
  (!c.ready || c.present) && (!c.phase.afterDict || c.present)

/-- The counters of the clock unit stay in their widths, and spare rows never exceed what a slice holds (R19, R400,
R408). -/
structure Clk.Bounded (c : Clk) : Prop where
  rootcyc : c.rootcyc < 2 ^ 64
  tickOffset : c.tickOffset < 2 ^ 64
  spareRows : c.spareRows ≤ 10752

/-- The directories, the move table and the mirror are in canonical form, and moves hold descriptors 0 to 1,023
(R55). -/
structure Ctx.Sound (c : Ctx) : Prop where
  dir1 : Map.wf c.dir1 = true
  dir2 : Map.wf c.dir2 = true
  prefixes : Map.wf c.prefixes = true
  moves : Map.wf c.moves = true
  descriptors : ∀ p ∈ c.moves, p.1 < 1024
  lent : Map.wf c.lent = true
  mirror : Map.wf c.mirror = true
  mirrorOut : Map.wf c.mirrorOut = true

/-- The invariant of a slice: legal place and levels, canonical tables and window, at most 512 FAB_I accesses
outstanding (R38), at most 131,072 trace records held (R436), four lane groups and eight epoch slots. -/
structure Device.Sound (d : Device) : Prop where
  ident : d.ident.legal = true
  clk : d.clk.legal = true
  bounded : d.clk.Bounded
  od : Map.wf d.od = true
  snaps : Map.wf d.snaps = true
  rings : Map.wf d.rings = true
  seqs : Map.wf d.seqs = true
  gens : Map.wf d.gens = true
  timers : Map.wf d.timers = true
  flows : Map.wf d.flows = true
  acct : Map.wf d.acct = true
  groups : Map.wf d.groups = true
  inflight : Map.wf d.inflight = true
  tgens : Map.wf d.tgens = true
  tiles : Map.wf d.tiles = true
  window : Memory.wf d.window = true
  ctx : Ctx.Sound d.ctx
  fabi : d.fabi.outstanding.length ≤ 512
  trace : d.trace.ring.length ≤ 131072
  lanes : d.lanes.length = 4
  epochs : d.epochs.length = 8

/-- The commands of resets, isolation, rails and start-up (R408 to R411); only they move the levels and the phase. -/
def bringUp : Instr → Bool
  | .porstNAssert | .porstNRelease | .wrstNAssert | .wrstNRelease | .fySrstNAssert _ | .fySrstNRelease _
  | .fyIsoNAssert | .fyIsoNRelease | .railGating _ | .sliceStart | .dictionaryRegionDone _ | .grottoTestDone _
  | .laneGroupsDone _ | .cipherSelfTest _ | .classTTableDone _ | .finalChecks => true
  | _ => false

/-- The commands of the slice's work: what its ports, its other slices and its own units ask of it while it is in FY_READY
(R62, R67). The rest reach resets, isolation, start-up, the dictionary, the doorbells, FAB_T reads and FAB_I responses. -/
def worksWhenReady : Instr → Bool
  | .sqRecordRead _ _ | .handOver _ | .handOverAck _ _ | .handOverTimeout _ | .hostCommandTransfer _
  | .hostCommandAck _ _ _ | .prefixLookup _ _ | .lookupAnswer _ _ | .lookupTimeout _ | .queueRetest | .queueSweep
  | .completionTransfer _ | .completionWrite _ | .cqStall _ | .cqIrqTimeout _ | .deadlineExpiry _ | .ttlExpiry _
  | .quarantineExpiry _ | .notBeforeExpiry _ | .backoffExpiry _ | .idleDemoteExpiry _ | .demotionStageDeferred _
  | .slotReclaim | .endTransfer _ | .endRetry _ | .endWrittenReport _ | .release _ | .aggRoundOpen _
  | .deltaEntry _ _ | .aggRoundClose | .aggregateEntry _ _ | .acctAggLost | .resetEntry _ _ | .stepBuild _ _
  | .cmdIssue _ | .energyCorrUpdate | .switchRateSample | .completion _ | .killAck _ | .cmdTimeout _
  | .killAckTimeout _ | .lgiBeat _ _ | .samplePosition _ _ _ | .digestRound _ _ | .sequenceCommit _
  | .modelWarmupDone _ _ | .pgmStatus _ | .ctxReclaim | .replayTimeout _ | .mirrorWrite _ _ _ | .mirrorTimeout
  | .selectionClaim _ | .selectionDelivered _ | .rnsRequest _ _ | .install _ _ _ _ | .installTimeout _
  | .activate _ _ _ _ | .cancel _ _ _ _ | .epochTransferAck _ | .epochGraceExpiry _ | .spawn _ | .parityDelta _
  | .parityAck _ _ _ | .sliceSuspect _ | .rebuildStripe _ | .forwardPair _ _ _ _ | .ownershipAnnouncement _ _
  | .frameRequest _ | .sliceQuiesced | .tileDrainTimeout _ | .scrub _ _ _ | .eccCeWindow | .lanePatrol _
  | .laneSubstitution _ | .laneGroupGate _ | .laneGroupUngate _
  | .traceExport | .submit _ | .cont _ | .abort _ | .abortClient _ | .pause _ | .resume _ | .save _ | .restore _
  | .epochPublish _ | .setParam _ => true
  | _ => false

/-- Nothing of a slice's work is left: what every reset clears (R408, Table 15.4). -/
def Device.cleared (d : Device) : Prop :=
  d.clk.phase = .held ∧ d.clk.present = false ∧ d.clk.ready = false ∧ d.clk.rootcyc = 0 ∧ d.clk.tickOffset = 0 ∧
  d.clk.heldKey = none ∧ d.clk.tableBusy = none ∧ d.power = {} ∧ d.snaps = [] ∧
  d.fabi.outstanding = [] ∧ d.fabi.waiting = [] ∧ d.rings = [] ∧ d.seqs = [] ∧ d.gens = [] ∧ d.timers = [] ∧
  d.flows = [] ∧ d.turn = {} ∧ d.acct = [] ∧ d.agg = {} ∧ d.groups = [] ∧ d.inflight = [] ∧ d.tgens = [] ∧
  d.tiles = [] ∧ d.stalledAway = [] ∧ d.reclaimed = [] ∧ d.window = [] ∧ d.units = [] ∧ d.ctx = {} ∧ d.sels = [] ∧
  d.epochs = List.replicate 8 {} ∧ d.pubs = [] ∧ d.cvc = {} ∧ d.trace = {} ∧ d.mgmt = {} ∧ d.rns = {}

/-! ### What statements say of a command -/

/-- The command runs to a next state with the slice `d`; the queue stays. -/
def Answers (i : Instr) (s : State) (d : Device) : Prop := exec i s = .next { s with dev := d }

/-- The same, with the parity deltas and mirror writes that follow from what the command wrote (R241, R379). -/
def Settles (i : Instr) (s : State) (d : Device) : Prop := Answers i s (settle s.dev d)

/-- A transfer has left for a slice, or its write waits for the port to take it (R38). -/
def Device.sends (d : Device) (slice : Nat) (x : Xfer) : Prop :=
  Out.xfer slice x ∈ d.out ∨ ∃ r ∈ d.fabi.waiting, r.xfer = some (slice, x)

/-- A write of an entry is served (R447 to R449) and passes checks 2 to 6 of Table 18.5; `d` is the slice once the
management unit has taken it. -/
def WriteTaken (d0 : Device) (path : Path) (idx sub : Nat) (data : List Byte) (d : Device) : Prop :=
  fyPresent d0 = true ∧ (acceptWrite d0 path idx sub data).2 = true ∧
  d = tookTurn (acceptWrite d0 path idx sub data).1 path ∧ writeCheck d path idx sub data.length (ofLe data) = none

end Sys2Proof.Machine
end

