-- ==== Sys2Proof/Certificates/Slice0/Obligations.lean ====
section
/-! DEFINITION. The statements for the provers: what the rules of the manual say the commands and the whole slice do.
Answers and Settles (Safety.lean) say that a command runs to a next state, and to which. -/

open Sys2Proof Sys2Proof.Machine

/-- PORST_N falling, or a rail being gated, leaves nothing of the slice's work, no log, no repair map, every entry at
its default (R408, R409, Table 15.4), ROWS_REPAIRED too; place, input levels and the queue of commands stay. A warm or
slice reset, and a loss of FY_ROOT_LOCK, clears the same, but for the fault log with FLOG_HEAD and FLOG_READ, and for the
repair map with the spare rows left, where the map stands. Rails are taken as gated until a reset is released: the model's choice, log
entry 61. -/
def Obligations.ResetsClearTheSlice : Prop :=
  (∀ (s : State) (i : Instr) (b : Bool), (i = .porstNAssert ∨ i = .railGating b) →
      ∃ t, exec i s = .next t ∧ t.pending = s.pending ∧ t.dev.ident = s.dev.ident ∧ t.dev.cleared ∧
        t.dev.od = [] ∧ t.dev.faults = {} ∧ t.dev.clk.mapLost = true ∧ t.dev.clk.spareRows = 10752 ∧
        t.dev.clk.rowsRepaired = 0 ∧
        t.dev.clk.porstN = (s.dev.clk.porstN && decide (i ≠ .porstNAssert)) ∧ t.dev.clk.wrstN = s.dev.clk.wrstN ∧
        t.dev.clk.srstN = s.dev.clk.srstN ∧ t.dev.clk.rootLock = s.dev.clk.rootLock ∧
        t.dev.clk.isoN = s.dev.clk.isoN) ∧
  (∀ (s : State) (i : Instr) (b : Bool), (i = .wrstNAssert ∨ i = .fySrstNAssert b) →
      ∃ t, exec i s = .next t ∧ t.pending = s.pending ∧ t.dev.ident = s.dev.ident ∧ t.dev.cleared ∧
        t.dev.faults = { flog := s.dev.faults.flog, flogHead := s.dev.faults.flogHead } ∧
        (∀ idx sub, idx < 65536 → sub < 256 → odGet t.dev idx sub =
          if idx = Od.FLOG_READ ∧ sub = 0 then odGet s.dev idx sub else odDefault s.dev idx sub) ∧
        t.dev.clk.mapLost = s.dev.clk.mapLost ∧
        t.dev.clk.spareRows = (if s.dev.clk.mapLost then 10752 else s.dev.clk.spareRows) ∧
        t.dev.clk.rowsRepaired = 0 ∧
        t.dev.clk.isoN = s.dev.clk.isoN ∧ t.dev.clk.porstN = s.dev.clk.porstN ∧
        t.dev.clk.wrstN = (s.dev.clk.wrstN && decide (i ≠ .wrstNAssert)) ∧
        t.dev.clk.srstN = (s.dev.clk.srstN && decide (i ≠ .fySrstNAssert false)) ∧
        t.dev.clk.rootLock = (s.dev.clk.rootLock && decide (i ≠ .fySrstNAssert true)))

/-- The release of the last reset input that is low starts the slice: self-test only where the repair map is lost,
and a wait by index after the two package resets but not after the slice's own or FY_ROOT_LOCK (R402, R408, R409, R411,
Table 15.4). While another of them is low the slice stays held. FY_ISO_N changes no internal state: it only clamps the
outputs to their absent state (R66, R410); at its release the accesses that FAB_I held back go out, as many as the port
takes (R38). -/
def Obligations.LevelsHoldAndReleaseTheSlice : Prop :=
  (∀ (s : State) (c : Clk), s.dev.clk = c →
      let started (c : Clk) (staggered : Bool) : State := { s with dev := { s.dev with clk := { c with
        phase := .waiting, bist := c.mapLost, staggered := staggered, phaseCyc := 0, rootcyc := 0, tickOffset := 0 } } }
      (c.porstN = false → c.wrstN = true → c.srstN = true → c.rootLock = true →
        exec .porstNRelease s = .next (started { c with porstN := true } true)) ∧
      (c.wrstN = false → c.porstN = true → c.srstN = true → c.rootLock = true →
        exec .wrstNRelease s = .next (started { c with wrstN := true } true)) ∧
      (c.srstN = false → c.porstN = true → c.wrstN = true → c.rootLock = true →
        exec (.fySrstNRelease false) s = .next (started { c with srstN := true } false)) ∧
      (c.rootLock = false → c.porstN = true → c.wrstN = true → c.srstN = true →
        exec (.fySrstNRelease true) s = .next (started { c with rootLock := true } false)) ∧
      (c.phase = .held →
        ((c.wrstN && c.srstN && c.rootLock) = false → ∃ t, exec .porstNRelease s = .next t ∧ t.dev.clk.phase = .held) ∧
        ((c.porstN && c.srstN && c.rootLock) = false → ∃ t, exec .wrstNRelease s = .next t ∧ t.dev.clk.phase = .held) ∧
        ((c.porstN && c.wrstN && c.rootLock) = false →
          ∃ t, exec (.fySrstNRelease false) s = .next t ∧ t.dev.clk.phase = .held) ∧
        ((c.porstN && c.wrstN && c.srstN) = false →
          ∃ t, exec (.fySrstNRelease true) s = .next t ∧ t.dev.clk.phase = .held))) ∧
  (∀ (s : State),
      (∃ t, exec .fyIsoNAssert s = .next t ∧ t = { s with dev := { s.dev with clk := { s.dev.clk with isoN := false } } } ∧
        fyPresent t.dev = false ∧ fyReady t.dev = false ∧ fyIdle t.dev = true ∧ fyAlert t.dev = false) ∧
      (∃ e, Answers .fyIsoNRelease s e ∧
        e = { s.dev with clk := { s.dev.clk with isoN := true }, fabi := e.fabi, out := e.out } ∧
        (s.dev.fabi.waiting = [] → e.fabi = s.dev.fabi ∧ e.out = s.dev.out) ∧
        (e.fabi.waiting = [] ∨ 512 ≤ e.fabi.outstanding.length) ∧
        (e.fabi.outstanding ++ e.fabi.waiting).map FabiReq.id =
          (s.dev.fabi.outstanding ++ s.dev.fabi.waiting).map FabiReq.id))

/-- The start-up phases of Table 15.5 in order, where nothing fails: each command moves the slice on once its phase's
fixed duration has passed, FY_PRESENT rises after the dictionary region and FY_READY at the end (R411), where the
full LGI pool of 12,288 beats is advertised (R49, R69) unless isolation clamps the port (R66). A regeneration of the
class-T table ends likewise once its 131,072 cycles have passed, and a table that holds an uncorrectable word is
generated again (R301, R304), with ECC_UE and RNG_TABLE_ERR raised (R374). Start-up fails where the failing rows
outnumber the spare rows, every lane group is closed, or a core returns another ciphertext: the phase becomes FAILED,
FY_READY stays 0, and the cause of R414 is set. That the pool is advertised once and whole is log entry 17; that a
start-up that meets such a word goes on, with a generation that ends after it, log entry 111. -/
def Obligations.StartUpRunsOrFails : Prop :=
  (∀ (s : State) (n : Nat) (cts : List (BitVec 128)),
      let c := s.dev.clk
      let st (c' : Clk) : State := { s with dev := { s.dev with clk := c' } }
      (c.phase = .waiting → (if c.staggered then s.dev.ident.index * 216000 else 0) ≤ c.rootcyc →
        exec .sliceStart s = .next (st { c with
          phase := .dict, phaseCyc := if c.staggered then s.dev.ident.index * 216000 else 0 })) ∧
      (c.phase = .dict → c.phaseCyc + 21600 ≤ c.rootcyc → (c.bist = true → n ≤ c.spareRows) →
        exec (.dictionaryRegionDone n) s = .next (st { c with
          phase := .grotto, phaseCyc := c.phaseCyc + 21600, present := true,
          spareRows := c.spareRows - (if c.bist then n else 0),
          rowsRepaired := c.rowsRepaired + (if c.bist then n else 0) })) ∧
      (c.phase = .grotto → c.phaseCyc + (if c.bist then 7128000 else 262144) ≤ c.rootcyc → (c.bist = true → n ≤ c.spareRows) →
        exec (.grottoTestDone n) s = .next (st { c with
          phase := .lanes, phaseCyc := c.phaseCyc + (if c.bist then 7128000 else 262144), mapLost := false,
          spareRows := c.spareRows - (if c.bist then n else 0),
          rowsRepaired := c.rowsRepaired + (if c.bist then n else 0) })) ∧
      (c.phase = .lanes → c.phaseCyc + 37800 ≤ c.rootcyc →
        (s.dev.lanes.any (fun l => l.active ≠ 0) = true → exec (.laneGroupsDone []) s = .next (st { c with
          phase := .cipher, phaseCyc := c.phaseCyc + 37800 })) ∧
        (∀ ls, let d := (ls.foldl (fun d p => retireLane d p.1 p.2) s.dev).modClk (fun c => { c with
            lanesRetired := c.lanesRetired + ls.length })
          Answers (.laneGroupsDone ls) s
            (if d.lanes.all (fun l => l.active = 0) then failStart d 2 else toPhase d .cipher))) ∧
      (c.phase = .cipher → c.phaseCyc + 5400 ≤ c.rootcyc → cts = List.replicate 8 0x5AC5B47080B7CDD830047B6AD8E0C469#128 →
        exec (.cipherSelfTest cts) s = .next (st { c with phase := .table, phaseCyc := c.phaseCyc + 5400 })) ∧
      (c.phase = .table → c.phaseCyc + 131072 ≤ c.rootcyc → c.heldKey = none →
        let e := bump (st { c with phase := .final, phaseCyc := c.phaseCyc + 131072 }).dev Od.RNG_STATS 3
        Answers (.classTTableDone none) s e ∧ ∀ a, Answers (.classTTableDone (some a)) s (tableError e a)) ∧
      (c.phase = .ready → ∀ t, c.tableBusy = some t →
        (c.rootcyc < t → ∀ u, Answers (.classTTableDone u) s s.dev) ∧
        (t ≤ c.rootcyc →
          let e := bump s.dev Od.RNG_STATS 3
          let f := e.modClk (fun c => { c with tableBusy := none, tablePath := none })
          (c.tablePath = none → Answers (.classTTableDone none) s f) ∧
          (∀ p, c.tablePath = some p → Answers (.classTTableDone none) s (respondWrite f p Od.TABLE_KEY 0 .ok 0)) ∧
          (∀ a, Answers (.classTTableDone (some a)) s (tableError e a)))) ∧
      (c.phase = .final → c.phaseCyc + 5400 ≤ c.rootcyc →
        let e := (st { c with phase := .ready, phaseCyc := c.phaseCyc + 5400, ready := true }).dev
        Answers .finalChecks s (if c.isoN then emit e (.lgiCredit 12288) else e))) ∧
  (∀ (d : Device) (a : Nat), (tableError d a).clk.tableBusy = some (d.clk.rootcyc + 131072) ∧
      bit (odGet (tableError d a) Od.ALERT_CAUSE 0) ALERT_RNG_TABLE_ERR = true ∧
      bit (odGet (tableError d a) Od.ALERT_CAUSE 0) ALERT_ECC_UE = true) ∧
  (∀ (s : State) (n : Nat) (cts : List (BitVec 128)),
      let c := s.dev.clk
      let failed (i : Instr) (code cause : Nat) : Prop := ∃ t, exec i s = .next t ∧ t.dev.clk.phase = .failed ∧
        t.dev.clk.failCode = code ∧ t.dev.clk.ready = c.ready ∧ t.dev.clk.present = c.present ∧
        bit (odGet t.dev Od.ALERT_CAUSE 0) cause = true
      (c.phase = .dict → c.phaseCyc + 21600 ≤ c.rootcyc → c.bist = true → c.spareRows < n →
        failed (.dictionaryRegionDone n) 1 ALERT_ECC_UE) ∧
      (c.phase = .grotto → c.phaseCyc + 7128000 ≤ c.rootcyc → c.bist = true → c.spareRows < n →
        failed (.grottoTestDone n) 1 ALERT_ECC_UE) ∧
      (c.phase = .lanes → c.phaseCyc + 37800 ≤ c.rootcyc → s.dev.lanes.all (fun l => l.active = 0) = true →
        failed (.laneGroupsDone []) 2 ALERT_ECC_UE) ∧
      (c.phase = .cipher → c.phaseCyc + 5400 ≤ c.rootcyc → (∃ x ∈ cts, x ≠ 0x5AC5B47080B7CDD830047B6AD8E0C469#128) →
        failed (.cipherSelfTest cts) 3 ALERT_RNG_SELFTEST))

/-- A doorbell write to an owned, enabled pair (R75, R76). An accepted SQ_TAIL becomes the pair's tail and reads of
covered records start, at most 8 records ahead of SQ_HEAD and each of 128 bytes at its place of the ring (R77), an
accepted CQ_HEAD becomes its head; any other value only sets DOORBELL_ERR. Nothing but the
rings and the FAB_I port changes, and no other pair. Doorbell writes that meet no enabled pair: before FY_READY they
are counted under DOORBELL_EARLY (R37), at a pair the slice does not own they get an error response and are counted
under FABT_UNMAPPED (R35), and with ENABLE 0 they only set DOORBELL_ERR (R76). -/
def Obligations.DoorbellsMoveRingCounts : Prop :=
  (∀ (s : State) (p v : Nat), fyReady s.dev = true → fyPresent s.dev = true → ringOwned s.dev p = true →
      ringEnabled s.dev p = true →
      let r := s.dev.ring p
      (seqDiff v r.sqHead ≤ 2 ^ odGet s.dev Od.SQ_LOG2 p → seqAfter r.sqTail v = false →
        ∃ t, exec (.sqTail p v) s = .next t ∧ t.pending = s.pending ∧
          t.dev = sqFetch (s.dev.modRing p (fun r => { r with sqTail := v })) p 8 ∧
          (∀ k, r.fetchNext = k → k ≠ v → seqDiff k r.sqHead < 8 → r.errSq = false →
            ∃ x ∈ t.dev.fabi.outstanding ++ t.dev.fabi.waiting, x.kind = .sqRead p k ∧ x.write = false ∧ x.len = 128 ∧
              x.addr = (odGet s.dev Od.SQ_BASE p + 128 * (k % 2 ^ odGet s.dev Od.SQ_LOG2 p)) % 2 ^ 64) ∧
          t.dev = { s.dev with rings := t.dev.rings, fabi := t.dev.fabi } ∧ (t.dev.ring p).sqTail = v ∧
          (t.dev.ring p).held = r.held ∧ (t.dev.ring p).waiting = r.waiting ∧
          (t.dev.ring p).sqHead = r.sqHead ∧ (t.dev.ring p).cqHead = r.cqHead ∧ (t.dev.ring p).cqTail = r.cqTail ∧
          ∀ q, q ≠ p → t.dev.ring q = s.dev.ring q) ∧
      (¬(seqDiff v r.sqHead ≤ 2 ^ odGet s.dev Od.SQ_LOG2 p ∧ seqAfter r.sqTail v = false) →
        Answers (.sqTail p v) s (s.dev.modRing p (fun r => { r with doorbellErr := true }))) ∧
      (seqAfter r.cqHead v = false → seqAfter v r.cqTail = false →
        ∃ t, exec (.cqHead p v) s = .next t ∧ t.pending = s.pending ∧ t.dev = { s.dev with rings := t.dev.rings } ∧
          (t.dev.ring p).cqHead = v ∧ (t.dev.ring p).cqTail = r.cqTail ∧ (t.dev.ring p).sqTail = r.sqTail ∧
          (seqDiff r.cqTail v ≤ 2 ^ odGet s.dev Od.CQ_LOG2 p / 2 → (t.dev.ring p).stalled = false) ∧
          ∀ q, q ≠ p → t.dev.ring q = s.dev.ring q) ∧
      (¬(seqAfter r.cqHead v = false ∧ seqAfter v r.cqTail = false) →
        Answers (.cqHead p v) s (s.dev.modRing p (fun r => { r with doorbellErr := true })))) ∧
  (∀ (s : State) (p v : Nat) (i : Instr), (i = .sqTail p v ∨ i = .cqHead p v) → fyPresent s.dev = true →
      (fyReady s.dev = false → Answers i s (bump s.dev Od.PORT_ERR_COUNTS 0x0A)) ∧
      (fyReady s.dev = true → ringOwned s.dev p = false →
        Answers i s (emit (bump s.dev Od.PORT_ERR_COUNTS 0x01) (.fabt true 0))) ∧
      (fyReady s.dev = true → ringOwned s.dev p = true → ringEnabled s.dev p = false →
        Answers i s (s.dev.modRing p (fun r => { r with doorbellErr := true }))))

/-- An access that R35 rejects is counted under the case's sub-index and answered with an error response; it has no
other effect. A doorbell write before FY_READY completes and is counted under DOORBELL_EARLY, whatever its pair (R37).
A permitted access outside the mailbox that is no doorbell changes nothing by this command; one to a register of the
mailbox reads or writes it (R445): while BUSY is 1 a write only sets OVERRUN, and a 1 in MB_GO starts the request that
the registers hold (R448).
A store to a directly mapped entry that the entry's rules refuse completes and is recorded in DIRECT_STATUS (R452). A
port error counts once, at its sub-index of PORT_ERR_COUNTS, sticking at all-ones of 48 bits (R33); no other entry
changes, and what a later COMMIT leaves counts it too (R444). -/
def Obligations.RefusedAccessesOnlyCount : Prop :=
  (∀ (s : State), fyPresent s.dev = true →
      (∀ (a : FabtAccess) (c : Nat), fabtCase s.dev a = some c → isDoorbell a = false ∨ fyReady s.dev = true →
        Answers (.fabtAccessRefused a) s (emit (bump s.dev Od.PORT_ERR_COUNTS c) (.fabt true 0))) ∧
      (∀ (a : FabtAccess), fabtCase s.dev a = none → 0x100000 ≤ a.offset → a.offset < 0x101000 →
        (a.write = false → Answers (.fabtAccessRefused a) s
          (emit s.dev (.fabt false (mbLoad s.dev.mgmt (a.offset - 0x100000) a.size)))) ∧
        (a.write = true → s.dev.mgmt.busy = true → Answers (.fabtAccessRefused a) s
          { s.dev with mgmt := { s.dev.mgmt with overrun := true } }) ∧
        (a.write = true → s.dev.mgmt.busy = false → a.offset ≠ 0x100010 → Answers (.fabtAccessRefused a) s
          { s.dev with mgmt := mbStore s.dev.mgmt (a.offset - 0x100000) a.size a.value.toNat }) ∧
        (a.write = true → s.dev.mgmt.busy = false → a.offset = 0x100010 →
          (a.value.toNat % 2 ^ 32 = 1 → Settles (.fabtAccessRefused a) s (mbRun (mbGo s.dev))) ∧
          (a.value.toNat % 2 ^ 32 ≠ 1 → Answers (.fabtAccessRefused a) s s.dev))) ∧
      (∀ (a : FabtAccess), a.offset < 0x100000 → a.write = true → a.size = 4 →
        (a.offset % 4096 = 0 ∨ a.offset % 4096 = 4) → fyReady s.dev = false →
        Answers (.fabtAccessRefused a) s (bump s.dev Od.PORT_ERR_COUNTS 0x0A)) ∧
      (∀ (a : FabtAccess), fabtCase s.dev a = none → isDoorbell a = false ∨ fyReady s.dev = true →
        a.offset < 0x100000 ∨ 0x101000 ≤ a.offset → Answers (.fabtAccessRefused a) s s.dev) ∧
      (∀ (a : FabtAccess), a.offset < 0x100000 → a.write = true → a.size = 4 →
        (a.offset % 4096 = 0 ∨ a.offset % 4096 = 4) → ringOwned s.dev (a.offset / 4096) = false →
        fabtCase s.dev a = some 0x01) ∧
      (∀ (a : FabtAccess), 0x400000 ≤ a.offset → a.offset < 0x800000 → a.write = true → fabtCase s.dev a = some 0x01) ∧
      (∀ (a : FabtAccess), 0x800000 ≤ a.offset → a.offset < 0x900000 → a.write = true → a.fromSlice = false →
        fabtCase s.dev a = some 0x02) ∧
      (∀ (a : FabtAccess), a.offset = 0x114008 → a.write = true → a.size = 4 → fabtCase s.dev a = some 0x09) ∧
      (∀ (idx sub : Nat) (data : List Byte) (st : Status), directlyWritten idx = true → st ≠ .ok →
        writeCheck s.dev .direct idx sub (directData idx data).length (ofLe (directData idx data)) = some st →
        Answers (.directWriteRefused idx sub data) s (sinceSnap (odSet s.dev Od.DIRECT_STATUS 0
          (fields [(63, 48, idx), (47, 40, sub), (39, 32, st.code),
            (31, 0, satAdd (2 ^ 32 - 1) (odGet s.dev Od.DIRECT_STATUS 0 % 2 ^ 32) 1)])) Od.DIRECT_STATUS 0 1))) ∧
  (∀ (d : Device) (k : Nat), k < 256 → Map.wf d.od = true →
      let e := portErr d k
      odGet e Od.PORT_ERR_COUNTS k = min (2 ^ 48 - 1) (odGet d Od.PORT_ERR_COUNTS k + 1) ∧
      (∀ i j, j < 256 → (i, j) ≠ (Od.PORT_ERR_COUNTS, k) → odGet e i j = odGet d i j) ∧
      e = { d with od := e.od, snaps := e.snaps })

/-- A response to a FAB_I access takes the access off the port and serves what the access was for; an error response
is counted at FABI_ERR_RESP, sets FABRIC_ERR, and applies the rule of what the access serves, once the access has
been issued a second time where Table 2.14 says so (R38, R40, R463). A response for no access outstanding changes
nothing. A submission record that has been read is held under its SQ count until it is consumed (R77); an error
response sets ERROR_SQ and nothing is held (R92). Only the ring and the port change. The log names the sequence that
the access serves, with the status that it ends with (R371). -/
def Obligations.FabiResponsesServeTheirAccess : Prop :=
  (∀ (s : State) (id : Nat) (r : FabiReq), fyPresent s.dev = true → fabiFind s.dev id = some r →
      (r.write = true → Settles (.fabiWriteResponse id) s (wroteKind (fabiDone s.dev id) r)) ∧
      (∀ data, r.write = false → data.length = r.len →
        Settles (.fabiReadResponse id data) s (readKind (fabiDone s.dev id) r data)) ∧
      (let h := match r.kind.slot with | some slot => slotHandle s.dev slot | none => 0
       let e (st : Nat) := alertLog (bump s.dev Od.PORT_ERR_COUNTS 0x08) ALERT_FABRIC_ERR 0 h st 0
       (r.kind.onceMore = true → r.again = false → Settles (.fabiErrorResponse id) s (fabiAgain (e 0) id)) ∧
       (r.kind.onceMore = false ∨ r.again = true → Settles (.fabiErrorResponse id) s
         (failedKind (fabiDone (e (if h = 0 then 0 else r.kind.faultStatus)) id) r)))) ∧
  (∀ (s : State) (id : Nat), fabiFind s.dev id = none →
      Answers (.fabiWriteResponse id) s s.dev ∧ (∀ data, Answers (.fabiReadResponse id data) s s.dev) ∧
      Answers (.fabiErrorResponse id) s s.dev ∧ ∀ x, Answers (.sqRecordRead id x) s s.dev) ∧
  (∀ (s : State) (id p k : Nat) (rec_ : SqRec) (r : FabiReq), fyReady s.dev = true → fabiFind s.dev id = some r →
      r.kind = .sqRead p k →
      ∃ t, exec (.sqRecordRead id rec_) s = .next t ∧ t.pending = s.pending ∧
        t.dev = { s.dev with rings := t.dev.rings, fabi := t.dev.fabi, out := t.dev.out } ∧
        t.dev.ring p = { s.dev.ring p with held := Map.put (s.dev.ring p).held k rec_ } ∧
        (∀ q, q ≠ p → t.dev.ring q = s.dev.ring q) ∧ t.dev.fabi = (fabiDone s.dev id).fabi ∧
        t.dev.out = (fabiDone s.dev id).out)

/-- The completion ring (R89 to R91) of a pair that the slice owns: the oldest waiting completion is written with its
BSEQ and trailer while the ring has room; a full ring is STALLED after CQ_STALL_TICKS; the oldest unsignalled
completion raises the pair's vector after CQ_IRQ_TICKS, both as the newest record written met these entries (R72). A
completion that comes from a home slice joins the waiting completions of its pair at the owner, where a waiting TOKENS
of the same sequence gives way to its next TOKENS or TURN_END (R89); a TURN_END tells the committed length, and each
tells the tokens of its turn. A RESTORED, or the REFUSED in its place, keeps its record's NO_IRQ (R91). None is taken of
a hand-over that this slice refused as late (R27), and none for a pair of another owner. BSEQ and the place of a
completion are those of CQ_TAIL, which counts at the response: log entry 31. The older TOKENS is dropped and the newer
completion joins at the end: log entry 34; what becomes of a refused hand-over's completions: log entry 38; the REFUSED
of a RESTORE whose copies had not returned: log entry 137. -/
def Obligations.CompletionRingIsWrittenAndSignalled : Prop :=
  (∀ (s : State) (p : Nat), fyReady s.dev = true →
      let r := s.dev.ring p
      (∀ c ws, r.waiting = c :: ws → r.writing = false → r.errCq = false → cqFull s.dev p = false →
        ringOwned s.dev p = true →
        let bseq := (odGet s.dev Od.BSEQ_BASE p + r.cqTail) % 2 ^ 32
        let tr := cqTrailer s.dev p bseq (c.bits bseq (hseqEcho s.dev p))
        Answers (.completionWrite p) s
          (fabiWrite (tr.1.modRing p (fun r => { r with writing := true, view := cvcView s.dev })) (.cqWrite p)
            (odGet s.dev Od.CQ_BASE p + 64 * (r.cqTail % 2 ^ odGet s.dev Od.CQ_LOG2 p)) 64 tr.2)) ∧
      (r.waiting = [] ∨ r.writing = true ∨ r.errCq = true ∨ cqFull s.dev p = true ∨ ringOwned s.dev p = false →
        Answers (.completionWrite p) s s.dev) ∧
      (∀ T, r.fullSince = some T → cqFull s.dev p = true → ringOwned s.dev p = true → T + r.useStall ≤ s.dev.tick →
        Answers (.cqStall p) s (s.dev.modRing p (fun r => { r with stalled := true }))) ∧
      (∀ T, r.irqOldest = some T → T + r.useTicks ≤ s.dev.tick → r.useVector ≠ 0 → r.useCount ≠ 0 →
        ringOwned s.dev p = true → Answers (.cqIrqTimeout p) s
          (raiseVector (s.dev.modRing p (fun r => { r with irqCount := 0, irqOldest := none })) r.useVector)) ∧
      (ringOwned s.dev p = false → Answers (.cqStall p) s s.dev ∧ Answers (.cqIrqTimeout p) s s.dev)) ∧
  (∀ (s : State) (c : Compl), fyReady s.dev = true → ringOwned s.dev c.ring = true →
      c.ctype = CT_TOKENS ∨ c.ctype = CT_TURN_END → (s.dev.ring c.ring).writing = false →
      complRefused s.dev c = false →
      ∃ t, exec (.completionTransfer c) s = .next t ∧ t.pending = s.pending ∧
        t.dev = { s.dev with rings := t.dev.rings, turn := t.dev.turn } ∧
        (t.dev.ring c.ring).waiting =
          (s.dev.ring c.ring).waiting.filter (fun w => !(decide (w.ctype = CT_TOKENS) && decide (w.handle = c.handle))) ++
            [{ c with noIrq := false }] ∧
        (∀ q, q ≠ c.ring → t.dev.ring q = s.dev.ring q) ∧
        (∀ o, Map.find s.dev.turn.owned c.handle = some o → Map.find t.dev.turn.owned c.handle =
          some { o with tokenEnd := c.tokenEnd, clen := if c.ctype = CT_TURN_END then c.arg1 else o.clen })) ∧
  (∀ (s : State) (c : Compl), fyReady s.dev = true → ringOwned s.dev c.ring = true →
      c.ctype = CT_SAVED ∨ c.ctype = CT_RESTORED ∨ c.ctype = CT_SPAWNED ∨ c.ctype = CT_REFUSED →
      (s.dev.ring c.ring).writing = false →
      complRefused s.dev c = false →
      ∃ t, exec (.completionTransfer c) s = .next t ∧ t.pending = s.pending ∧
        t.dev = { s.dev with rings := t.dev.rings, turn := t.dev.turn } ∧
        (∀ q, q ≠ c.ring → t.dev.ring q = s.dev.ring q) ∧
        (∀ o, Map.find s.dev.turn.owned c.handle = some o →
          (t.dev.ring c.ring).waiting = (s.dev.ring c.ring).waiting ++
            [{ c with noIrq := c.isAnswer && o.noIrq, handle := if c.ctype = CT_REFUSED then 0 else c.handle }] ∧
          (c.ctype = CT_RESTORED → Map.find t.dev.turn.owned c.handle =
            some { o with tokenEnd := c.tokenEnd, clen := c.arg0, noIrq := false }))) ∧
  (∀ (s : State) (c : Compl), fyReady s.dev = true → complRefused s.dev c = true ∨ ringOwned s.dev c.ring = false →
      Answers (.completionTransfer c) s s.dev)

/-- A write of RING_CTRL (R72, R73): an accepted one takes its actions in the order RESET, DISCARD, CLEAR_ERR and
then writes ENABLE, and its path is answered; one with a refused action answers REJ_FORMAT and does nothing else. -/
def Obligations.RingControlActsAsOneWrite : Prop :=
  ∀ (s : State) (path : Path) (p v : Nat) (d : Device) (i : Instr),
    (i = .ringEnable path p v ∨ i = .ringReset path p v ∨ i = .ringDiscard path p v ∨ i = .ringClearErr path p v) →
    v < 16 → WriteTaken s.dev path Od.RING_CTRL p (leBytes v 1) d →
    let refused : Bool := (bit v 1 && !ringResetOk d p) || (bit v 2 && ringEnabled d p)
      || (bit v 0 && !ringEnabled d p && !ringEnableOk d p)
    (refused = true → Answers i s (respondWrite d path Od.RING_CTRL p .rejFormat 0)) ∧
    (refused = false →
      let d1 := if bit v 1 then ringResetNow d p else d
      let d2 := if bit v 2 then ringDiscardNow d1 p else d1
      let d3 := if bit v 3 then ringClearErrNow d2 p else d2
      let e := odSet d3 Od.RING_CTRL p (v % 2)
      let a := if !ringEnabled d p && ringEnabled e p then announce e p else e
      Answers i s (respondWrite a path Od.RING_CTRL p .ok (readBack a Od.RING_CTRL p)))

/-- Consumption (R77 to R79, R121): in a decision slot the pair whose turn it is gives up the record at its head,
which is counted and followed by a read; without its turn or a slot nothing happens. A record that fails a check of
Table 3.3 is answered REFUSED under the HSEQ that R74 expects, with the tokens of the turn of a live sequence that it
names (Table 3.8), with no other effect; one that passes them has its
opcode's effect, and an opcode outside Table 3.5 fails them. What every opcode's consumption does to its ring pair:
SQ_HEAD advances by one, the record is no longer held, the pair owes one answer more, and the next turn is the next
pair's (R77 to R79). That SUBMIT stands for the opcodes outside the table is log entry 21, SLACK in the trace record of
a refused record log entry 150. -/
def Obligations.ConsumptionTakesTheHeadRecord : Prop :=
  (∀ (s : State) (p : Nat) (rv : SqRec), fyReady s.dev = true →
      Map.find (s.dev.ring p).held (s.dev.ring p).sqHead = some rv → rrPick s.dev = some p → slotForConsume s.dev = true →
      let r := rv.toNat
      let k := (s.dev.ring p).sqHead
      let d := takeHead s.dev p r
      let opens (op : Nat) (answers : Device → Prop) (e : Device) : Prop := Sq.opcode r = op →
        (formatError d p k r = none → answers e) ∧
        (∀ st a, formatError d p k r = some (st, a) →
          answers (refuse d p st (hseqAt d p k) (Sq.userTag r) (Sq.client r) (namedHandle r) a (Sq.noIrq r) 0
            (recordSlack d p r) (namedTokens d p r)))
      opens 0x01 (Answers (.submit p) s) (actSubmit p d r) ∧ opens 0x02 (Answers (.cont p) s) (actContinue p d r) ∧
      opens 0x03 (Answers (.abort p) s) (actAbort p d r) ∧ opens 0x04 (Answers (.abortClient p) s) (actAbortClient p d r) ∧
      opens 0x05 (Answers (.pause p) s) (actPause p d r) ∧ opens 0x06 (Answers (.resume p) s) (actResume p d r) ∧
      opens 0x07 (Answers (.save p) s) (actSave p d r) ∧ opens 0x08 (Answers (.restore p) s) (actRestore p d r) ∧
      opens 0x09 (Answers (.epochPublish p) s) (actPublish p d r) ∧
      opens 0x0A (Settles (.setParam p) s) (actSetParam p d r) ∧
      (Sq.opcode r = 0 ∨ 0x0A < Sq.opcode r → ∃ a, formatError d p k r = some (.rejFormat, a) ∧ Answers (.submit p) s
        (refuse d p .rejFormat (hseqAt d p k) (Sq.userTag r) (Sq.client r) (namedHandle r) a (Sq.noIrq r) 0 noSlack
          (namedTokens d p r)))) ∧
  (∀ (s : State) (p : Nat) (i : Instr), fyReady s.dev = true →
      (i = .submit p ∨ i = .cont p ∨ i = .abort p ∨ i = .abortClient p ∨ i = .pause p ∨ i = .resume p ∨ i = .save p ∨
        i = .restore p ∨ i = .epochPublish p ∨ i = .setParam p) →
      rrPick s.dev ≠ some p ∨ slotForConsume s.dev = false → Answers i s s.dev) ∧
  (∀ (d : Device) (p r : Nat), Map.wf (d.ring p).held = true →
      let e := takeHead d p r
      (e.ring p).sqHead = ((d.ring p).sqHead + 1) % 2 ^ 32 ∧ (e.ring p).unanswered = (d.ring p).unanswered + 1 ∧
      (e.ring p).sqTail = (d.ring p).sqTail ∧ Map.find (e.ring p).held (d.ring p).sqHead = none ∧
      (∀ q, q ≠ p → e.ring q = d.ring q) ∧
      e.turn = { d.turn with lastSlot := some (d.clk.rootcyc / 64), lastWasConsume := true, rrNext := (p + 1) % 256 } ∧
      e = { d with cvc := e.cvc, rings := e.rings, turn := e.turn, fabi := e.fabi })

/-- A hand-over (R27, R125): the home slice gives the request the lowest free slot, or refuses where a check of it
fails; the acknowledgement in time admits the request at the owner, a late one is answered by a release, a refusal or
a timeout strikes the candidate and test 7 decides among the others; a timeout suspects the slice (R381). A packed
generation request takes the admission tests at the slice that owns its ring pair, as a SUBMIT of class G would, once
fewer than 64 decisions are in progress (R121); it changes nothing elsewhere, nor where an ABORT of its parent is on
its way (R364, R365). A late acknowledgement is answered by a release: the model's choice, log entry 38. -/
def Obligations.HandOverAdmitsOrStrikes : Prop :=
  (∀ (s : State), fyReady s.dev = true →
      (∀ h slot, handOverOk s.dev h = true → allocSlot s.dev = some slot →
        (∀ im, h.kind = .restore → h.image = some im →
          Settles (.handOver h) s (handOverRestore s.dev h slot im)) ∧
        (h.kind ≠ .restore ∨ h.image = none → Settles (.handOver h) s (handOverSubmit s.dev h slot))) ∧
      (∀ h, handOverOk s.dev h = false →
        Settles (.handOver h) s (sendXfer s.dev h.src (.handOverAck h.id (.refused .rejCapacity)) 32)) ∧
      (∀ id h cached x T, id < 2 ^ 40 → handOverDec s.dev id = some (x, T) →
        (s.dev.tick ≤ T + 10 → Settles (.handOverAck id (.accepted h cached)) s (admitted s.dev x h cached)) ∧
        (T + 10 < s.dev.tick →
          Settles (.handOverAck id (.accepted h cached)) s (refuseLate s.dev h) ∧
          Settles (.handOverTimeout id) s (decide7 (strike (suspectOnce s.dev (groupHome s.dev x.chosen)) x.did) x.did)) ∧
        (s.dev.tick ≤ T + 10 → Answers (.handOverTimeout id) s s.dev) ∧
        (∀ st, Settles (.handOverAck id (.refused st)) s (markPass (decide7 (strike s.dev x.did) x.did))))) ∧
  (∀ (s : State) (r : SpawnReq), fyReady s.dev = true →
      let withdrawn : Prop := ∃ o, Map.find s.dev.turn.owned r.parent = some o ∧ o.aborted = true
      (ringOwned s.dev r.ring = false ∨ withdrawn → Answers (.spawn r) s s.dev) ∧
      (ringOwned s.dev r.ring = true → ¬ withdrawn →
        let x := spawnDecision s.dev r
        x.cls = .g ∧ x.client = r.client ∧ x.model = r.model ∧
        Settles (.spawn r) s (startDecision { s.dev with turn := { s.dev.turn with
          decisions := s.dev.turn.decisions ++ [{ x with phase := .granted }], order := s.dev.turn.order + 1 } } x.did)))

/-- A command that the owner of a ring pair sends to the home of the sequence it names is carried out there where the
handle names a live sequence that the pair's client created, and is refused with STALE_HANDLE otherwise (R104); the
acknowledgement answers the record by its kind (R80, R83), with the tokens of the sequence's current turn (Table 3.8).
-/
def Obligations.HostCommandsReachLiveSequences : Prop :=
  ∀ (s : State), fyReady s.dev = true →
    (∀ (c : HostCmd) slot q, liveSlot s.dev (forwarded s.dev c.handle) = some slot → s.dev.seq? slot = some q →
      (q.tcb.ring = c.ring → q.tcb.client = c.client →
        Settles (.hostCommandTransfer c) s (hostCommandOn s.dev slot c)) ∧
      (q.tcb.ring ≠ c.ring ∨ q.tcb.client ≠ c.client →
        Settles (.hostCommandTransfer c) s (hostAck s.dev { id := c.id, src := c.src } (.refused .staleHandle)))) ∧
    (∀ (c : HostCmd), liveSlot s.dev (forwarded s.dev c.handle) = none →
      Settles (.hostCommandTransfer c) s (hostAck s.dev { id := c.id, src := c.src } (.refused .staleHandle))) ∧
    (∀ id f, s.dev.turn.fwds.find? (fun x => x.id = id) = some f →
      let d := s.dev.modTurn (fun x => { x with fwds := removeFirst (fun x => x.id = id) x.fwds })
      (f.kind = .abort ∨ f.kind = .pause ∨ f.kind = .resume ∨ f.kind = .save →
        (∀ n te, Settles (.hostCommandAck id (.ack n) te) s
          (answer d f.ring CT_ACK .ok f.hseq f.userTag f.client f.named n 0 f.noIrq te)) ∧
        (∀ st te, Settles (.hostCommandAck id (.refused st) te) s
          (refuse d f.ring st f.hseq f.userTag f.client f.named 0 f.noIrq 0 noSlack te)) ∧
        (∀ n te, Settles (.hostCommandAck id (.saved n) te) s
          (answer d f.ring CT_SAVED .ok f.hseq f.userTag f.client f.named n 0 f.noIrq te))) ∧
      (∀ did r te, f.kind = .cont did → r ≠ .later → Settles (.hostCommandAck id r te) s (contAnswered d f did r te)) ∧
      (∀ gid n te, f.kind = .clientAbort gid → Settles (.hostCommandAck id (.ack n) te) s (clientAborted d f gid n)))

/-- Prefix lookups (R124): a slice answers another's lookup from its own directory; an answer within 2 TICK tells its
cached pages, a later one or none counts no cached page; with the last, tests 6 and 7 decide. What an answer says of
its group is kept whether or not the request still waits, and an answer that was not asked of its source changes
nothing. The queue (R129): a re-test of the oldest entry of the pass takes a decision slot; once in 100 TICK every
request that waits is tested for feasibility and refused where no candidate is feasible any longer. -/
def Obligations.LookupsAndQueueWork : Prop :=
  (∀ (s : State), fyReady s.dev = true →
      (∀ src msg, Settles (.prefixLookup src msg) s
        (sendXfer (lookupServed s.dev msg.toNat).1 src (.answer (BitVec.ofNat 256 (lookupServed s.dev msg.toNat).2)) 32)) ∧
      (∀ src (msg : BitVec 256) g v, Map.find s.dev.turn.asked (bf msg.toNat 255 240) = some (g, v) →
        groupHome s.dev g = src →
        let id := bf msg.toNat 255 240
        let d := noteAnswer (s.dev.modTurn (fun t => { t with asked := Map.del t.asked id })) g v msg.toNat
        (lookupOf d id = none → Settles (.lookupAnswer src msg) s d) ∧
        (∀ x l, lookupOf d id = some (x, l) → l.answered = true → Settles (.lookupAnswer src msg) s d) ∧
        (∀ x l, lookupOf d id = some (x, l) → l.answered = false → Settles (.lookupAnswer src msg) s
          (lookupsOver (markLookup d x.did l.id (if l.tick + 2 < d.tick then 0 else bf msg.toNat 127 104)) x.did))) ∧
      (∀ src (msg : BitVec 256), (∀ g v, Map.find s.dev.turn.asked (bf msg.toNat 255 240) = some (g, v) →
        groupHome s.dev g ≠ src) → Answers (.lookupAnswer src msg) s s.dev) ∧
      (∀ id x l, lookupOf s.dev id = some (x, l) → l.answered = false → l.tick + 2 ≤ s.dev.tick →
        Settles (.lookupTimeout id) s (lookupsOver (markLookup s.dev x.did id 0) x.did))) ∧
  (∀ (s : State), fyReady s.dev = true →
      (∀ did l, retestWaits s.dev = true → slotForRetest s.dev = true →
        (trimPass (currentPass s.dev)).turn.pass = some (did :: l) →
        Settles .queueRetest s (retestDecision ((trimPass (currentPass s.dev)).modTurn (fun x => { x with
          lastSlot := some (decisionSlot (trimPass (currentPass s.dev))), lastWasConsume := false })) did)) ∧
      (s.dev.tick / 100 ≠ s.dev.turn.lastSweep →
        Settles .queueSweep s (((queueEntries s.dev).map Decision.did).foldl
          sweepOne (s.dev.modTurn (fun x => { x with lastSweep := s.dev.tick / 100 })))))

/-- Check value channels (R423, R424, R428 to R430): a write of CVC_CFG that a channel may take enables it with fresh
contents, CVC_RESET commits what the last read of CVC_STATE showed, LEGACY_CTRL clears the skipped count and
LEGACY_VALUE sets the register to the low bits of its width. Every record and every beat that passes a snoop point
changes the check value channels and nothing else (R421, R429); with no channel that sees it, nothing changes. A
completion whose write is outstanding meets the channels as they stood at its issue (R423): one that is enabled
meanwhile does not see it, and a value written to the legacy register stays. What enabling, resetting and reading a
channel do where the rules are silent are log entries 55 and 56, when a record is in progress log entry 152. -/
def Obligations.ChannelEntriesTakeTheirValues : Prop :=
  (∀ (s : State) (path : Path) (d : Device),
      (∀ c (v : BitVec 64), WriteTaken s.dev path Od.CVC_CFG c (leBytes v.toNat 8) d →
        let w := v.toNat &&& 0xFFFFFF8000000000
        cvcCfgOk d c w = true →
        let e0 := odSet d Od.CVC_CFG c w
        let e := if cvcEnabled w && !cvcEnabled (odGet d Od.CVC_CFG c)
          then modViews (chanMod e0 c (cvcStart w)) (fun x => { x with chans := Map.del x.chans c }) else e0
        Answers (.cvcCfg path c v) s (respondWrite e path Od.CVC_CFG c .ok (readBack e Od.CVC_CFG c))) ∧
      (∀ v, v < 64 → WriteTaken s.dev path Od.CVC_RESET 0 (leBytes v 1) d →
        let e := d.modCvc (fun c => { c with chans := Map.mod c.chans v cvcCommit })
        Answers (.cvcReset path v) s (respondWrite e path Od.CVC_RESET 0 .ok (readBack e Od.CVC_RESET 0))) ∧
      (WriteTaken s.dev path Od.CVC_RESET 0 (leBytes 0xFF 1) d →
        let e := d.modCvc (fun c => { c with chans := c.chans.map (fun x => (x.1, cvcCommit x.2)) })
        Answers (.cvcReset path 0xFF) s (respondWrite e path Od.CVC_RESET 0 .ok (readBack e Od.CVC_RESET 0))) ∧
      (∀ v, v ≤ 1 → WriteTaken s.dev path Od.LEGACY_CTRL 0 (leBytes v 4) d →
        let e := (odSet d Od.LEGACY_CTRL 0 v).modCvc (fun c => { c with legacySkipped := 0 })
        Answers (.legacyCtrl path v) s (respondWrite e path Od.LEGACY_CTRL 0 .ok (readBack e Od.LEGACY_CTRL 0))) ∧
      (∀ v : BitVec 64, WriteTaken s.dev path Od.LEGACY_VALUE 0 (leBytes v.toNat 8) d →
        let e := modViews (d.modCvc (fun c => { c with
          legacyRaw := v.toNat % 2 ^ (crcOfPoly (bf (odGet d Od.LEGACY_CFG 0) 30 29)).width }))
          (fun x => { x with replaced := true })
        Answers (.legacyValue path v) s (respondWrite e path Od.LEGACY_VALUE 0 .ok (readBack e Od.LEGACY_VALUE 0)))) ∧
  (∀ (d : Device) (point sel r n seq : Nat),
      cvcPass d point sel r n seq = { d with cvc := (cvcPass d point sel r n seq).cvc } ∧
      ((odStored d Od.CVC_CFG).all (fun p => !cvcSees p.2 point sel) = true → bit (odGet d Od.LEGACY_CFG 0) 31 = false →
        cvcPass d point sel r n seq = d))

/-- A dictionary write that the management unit has taken and that passes the checks of Table 18.5 has the effect of
its entry and is answered on its path; one that fails a check is answered with the check's status and has no other
effect (R447 to R457). The entry is named on any path, by MB_WRITE, or by the MCTP request at the head of the queue
where it is the turn of MCTP (R449). A request to the mailbox that comes while another source has its turn is taken and
waits, BUSY at 1 (R448, R449): when it is served afterwards is log entry 151. Any other write to a busy mailbox only sets
OVERRUN (R448). -/
def Obligations.RegisterWritesHaveTheirEntrysEffect : Prop :=
  ∀ (s : State) (path : Path) (idx sub : Nat) (data : List Byte),
    let served (i : Instr) (path : Path) : Prop :=
      (∀ d, WriteTaken s.dev path idx sub data d →
        let r := effectOf path idx sub d (ofLe data &&& keptBits d idx)
        (r.2 = some .ok → Settles i s (respondWrite r.1 path idx sub .ok (readBack r.1 idx sub))) ∧
        (∀ st, r.2 = some st → st ≠ .ok → Settles i s (respondWrite r.1 path idx sub st 0)) ∧
        (r.2 = none → Settles i s r.1))
    served (.registerWrite path idx sub data) path ∧ (∀ reqId, served (.mbWrite reqId idx sub data) (.mailbox reqId)) ∧
    (∀ m, s.dev.mgmt.queue.head? = some m → unitTurn s.dev .mctp = true → m.control = false → m.formatOk = true →
      m.op = OP_WRITE → m.idx = idx → m.sub = sub → m.data = data →
      served .mctpWrite (.mctp m.src m.tag m.reqId)) ∧
    (∀ reqId, fyPresent s.dev = true → s.dev.mgmt.busy = false →
      let a := mbAccept s.dev OP_WRITE reqId idx sub data
      let d := tookTurn a (.mailbox reqId)
      (unitTurn a .mailbox = true → ∀ st, writeCheck d (.mailbox reqId) idx sub data.length (ofLe data) = some st →
        Settles (.mbWrite reqId idx sub data) s (mbRespond d reqId st [])) ∧
      (unitTurn a .mailbox = false → Settles (.mbWrite reqId idx sub data) s a)) ∧
    (∀ reqId, fyPresent s.dev = true → s.dev.mgmt.busy = true →
      mbHolds s.dev OP_WRITE reqId idx sub = false ∨ mbValue s.dev.mgmt ≠ data →
      Settles (.mbWrite reqId idx sub data) s { s.dev with mgmt := { s.dev.mgmt with overrun := true } })

/-- ROOT_MHZ takes effect at once and TICK never falls; TICK_LOAD sets TICK where no timer is armed and no ring pair
is enabled (R402, R403). -/
def Obligations.TimeEntriesSetTick : Prop :=
  ∀ (s : State) (path : Path) (d : Device) (v : Nat),
    (WriteTaken s.dev path Od.ROOT_MHZ 0 (leBytes v 2) d → v < 65536 →
      ∃ e, Answers (.rootMhz path v) s (respondWrite e path Od.ROOT_MHZ 0 .ok (readBack e Od.ROOT_MHZ 0)) ∧
        e.tick = max d.tick (odSet d Od.ROOT_MHZ 0 v).tick ∧
        e = { odSet d Od.ROOT_MHZ 0 v with clk := { d.clk with tickOffset := e.clk.tickOffset } }) ∧
    (WriteTaken s.dev path Od.TICK_LOAD 0 (leBytes v 8) d → v < 2 ^ 64 → d.timers = [] → anyRingEnabled d = false →
      ∃ e, Answers (.tickLoad path v) s (respondWrite e path Od.TICK_LOAD 0 .ok (readBack e Od.TICK_LOAD 0)) ∧
        e.tick = v ∧ e = { d with clk := { d.clk with tickOffset := e.clk.tickOffset } }) ∧
    (WriteTaken s.dev path Od.TICK_LOAD 0 (leBytes v 8) d → d.timers ≠ [] ∨ anyRingEnabled d = true →
      Answers (.tickLoad path v) s (respondWrite d path Od.TICK_LOAD 0 .rejFormat 0))

/-- MSI_MASK takes its value and sends once every pending vector whose mask bit it clears (R65). TRACE_TAIL takes a
count that is neither earlier than the last nor later than TRACE_HEAD, and ignores any other (R437); TRACE_HOST_BASE
starts the counts at 0 and keeps the records not exported. Trace export (R436, R437): the 32 bytes of the oldest record
not yet issued are written at its place of the host ring while the ring has room and FAB_I has accesses to spare;
otherwise, with a full host ring too, nothing happens. -/
def Obligations.TraceIsKeptAndExported : Prop :=
  (∀ (s : State) (path : Path) (d : Device),
      (∀ v : BitVec 256, WriteTaken s.dev path Od.MSI_MASK 0 (leBytes v.toNat 32) d →
        let e := ((List.range 256).filter (fun i => bit (odGet d Od.MSI_MASK 0) i && !bit v.toNat i)).foldl sendPending
          (odSet d Od.MSI_MASK 0 v.toNat)
        Answers (.msiMask path v) s (respondWrite e path Od.MSI_MASK 0 .ok (readBack e Od.MSI_MASK 0))) ∧
      (∀ v, v < 2 ^ 32 → WriteTaken s.dev path Od.TRACE_TAIL 0 (leBytes v 4) d →
        let e := if seqAfter d.trace.tail v || seqAfter v d.trace.head then d
          else { d with trace := { d.trace with tail := v } }
        Answers (.traceTail path v) s (respondWrite e path Od.TRACE_TAIL 0 .ok (readBack e Od.TRACE_TAIL 0))) ∧
      (∀ v, v < 2 ^ 64 → WriteTaken s.dev path Od.TRACE_HOST_BASE 0 (leBytes v 8) d →
        ∃ e, Answers (.traceHostBase path v) s
            (respondWrite e path Od.TRACE_HOST_BASE 0 .ok (readBack e Od.TRACE_HOST_BASE 0)) ∧
          e.trace = { d.trace with head := 0, tail := 0, issued := 0, lost := [] } ∧
          e.od = (odSet d Od.TRACE_HOST_BASE 0 v).od ∧ e = { d with trace := e.trace, od := e.od, fabi := e.fabi } ∧
          e.fabi.outstanding.length = d.fabi.outstanding.length)) ∧
  (∀ (s : State), fyReady s.dev = true →
      (∀ r, s.dev.trace.ring[s.dev.trace.issued]? = some r → odGet s.dev Od.TRACE_HOST_BASE 0 ≠ 0 →
        let pos := (s.dev.trace.head + s.dev.trace.issued) % 2 ^ 32
        seqDiff pos s.dev.trace.tail < 2 ^ odGet s.dev Od.TRACE_HOST_LOG2 0 → s.dev.fabi.outstanding.length < 448 →
        Answers .traceExport s (fabiWrite { s.dev with trace := { s.dev.trace with issued := s.dev.trace.issued + 1 } }
          (.traceExport pos) (odGet s.dev Od.TRACE_HOST_BASE 0 + 32 * (pos % 2 ^ odGet s.dev Od.TRACE_HOST_LOG2 0)) 32 r.toNat)) ∧
      (s.dev.trace.ring.length ≤ s.dev.trace.issued ∨ odGet s.dev Od.TRACE_HOST_BASE 0 = 0 ∨ 448 ≤ s.dev.fabi.outstanding.length ∨
          2 ^ odGet s.dev Od.TRACE_HOST_LOG2 0 ≤
            seqDiff ((s.dev.trace.head + s.dev.trace.issued) % 2 ^ 32) s.dev.trace.tail →
        Answers .traceExport s s.dev))

/-- TABLE_KEY is held until the class-T phase of start-up comes, and afterwards starts a generation of the table that
takes 131,072 ROOT cycles, with no ring pair enabled and no live sequence (R302, R413). SEAL with the fingerprint of
the setup entries (R417) seals the slice, through its mask block where one has an address; a sealed slice refuses it
(R418).
A write of TABLE_KEY after the class-T phase starts a regeneration: log entry 54. -/
def Obligations.KeyAndSealActOnce : Prop :=
  ∀ (s : State) (path : Path) (d : Device),
    (∀ k : BitVec 128, WriteTaken s.dev path Od.TABLE_KEY 0 (leBytes k.toNat 16) d →
      (d.clk.phase.beforeTable = true → anyRingEnabled d = false → d.seqs = [] → Answers (.tableKey path k) s
        { d with mgmt := { d.mgmt with job := some .table }, clk := { d.clk with heldKey := some { path := path, key := k } } }) ∧
      (d.clk.phase.beforeTable = false → anyRingEnabled d = false → d.seqs = [] →
        ∃ e, Answers (.tableKey path k) s e ∧ e.clk.tableBusy = some (d.clk.rootcyc + 131072) ∧
          e.clk.tablePath = some path ∧ e.od = (odSet d Od.TABLE_KEY 0 k.toNat).od ∧
          e = { d with mgmt := { d.mgmt with job := some .table }, clk := e.clk, od := e.od }) ∧
      (anyRingEnabled d = true ∨ d.seqs ≠ [] →
        Answers (.tableKey path k) s (respondWrite d path Od.TABLE_KEY 0 .rejFormat 0))) ∧
    (∀ v : BitVec 64, WriteTaken s.dev path Od.SEAL 0 (leBytes v.toNat 8) d →
      (odGet d Od.SEALED 0 ≠ 1 → v.toNat = setupFp d → odGet d Od.PART_MASK_ADDR 0 = 0 →
        Answers (.sealSlice path v) s (respondWrite (odSet d Od.SEALED 0 1) path Od.SEAL 0 .ok
          (readBack (odSet d Od.SEALED 0 1) Od.SEAL 0))) ∧
      (odGet d Od.SEALED 0 ≠ 1 → v.toNat = setupFp d → odGet d Od.PART_MASK_ADDR 0 ≠ 0 →
        Answers (.sealSlice path v) s (fabiWrite { d with mgmt := { d.mgmt with job := some .seal } } .maskBlock
          (odGet d Od.PART_MASK_ADDR 0) 512 (maskBlock d))) ∧
      (odGet d Od.SEALED 0 ≠ 1 → v.toNat ≠ setupFp d →
        Answers (.sealSlice path v) s (respondWrite d path Od.SEAL 0 .rejFormat 0)) ∧
      (odGet d Od.SEALED 0 = 1 → Answers (.sealSlice path v) s (respondWrite d path Od.SEAL 0 .rejSealedWrite 0)))

/-- Groups (R175, R196 to R199): GROUP_CFG takes a legal value, and a group homed here starts or stops with its
ONLINE bit; GROUP_HOT_MAP loads a registered version that fits into an evictable slot, or empties the slot.
SEQ_QUERY_HANDLE takes a handle of this slice and refuses one of another (R94, Table 18.11). What sets a group up anew
is log entry 48. -/
def Obligations.GroupEntriesTakeTheirValues : Prop :=
  ∀ (s : State) (path : Path) (d : Device),
    (∀ g v, v < 2 ^ 21 → WriteTaken s.dev path Od.GROUP_CFG g (leBytes v 4) d → groupCfgOk d g v = true →
      let e0 := odSet d Od.GROUP_CFG g v
      let e1 := if bf (groupCfg d g) 19 0 = bf v 19 0 then e0 else setUpGroup e0 g
      let e2 := e1.modGroup g (fun x => { x with blockedFor := [] })
      let e := if bf v 19 15 ≠ d.ident.index then e0
        else if bit v 20 && !bit (groupCfg d g) 20 then groupUp e2 g
        else if bit (groupCfg d g) 20 && !bit v 20 then groupDown e2 g else e2
      Settles (.groupCfg path g v) s (respondWrite e path Od.GROUP_CFG g .ok (readBack e Od.GROUP_CFG g))) ∧
    (∀ g sl v, v < 65536 → WriteTaken s.dev path (Od.GROUP_HOT_MAP + sl) g (leBytes v 2) d → sl < 8 →
      hotMapOk d g sl v = true →
      let e0 := d.modGroup g (fun x => { x with blockedFor := [] })
      let e := if v = 0xFFFF
        then (setHot e0 g sl v).modGroup g (fun x => { x with loads := x.loads.filter (fun l => l.slot ≠ sl) })
        else startLoadInto e0 g sl v
      Settles (.groupHotMap path g sl v) s
        (respondWrite e path (Od.GROUP_HOT_MAP + sl) g .ok (readBack e (Od.GROUP_HOT_MAP + sl) g))) ∧
    (∀ h, h < 2 ^ 32 → WriteTaken s.dev path Od.SEQ_QUERY_HANDLE 0 (leBytes h 4) d →
      let e := odSet d Od.SEQ_QUERY_HANDLE 0 h
      (handleSlice h = d.ident.index → Answers (.seqQueryHandle path h) s
        (respondWrite e path Od.SEQ_QUERY_HANDLE 0 .ok (readBack e Od.SEQ_QUERY_HANDLE 0))) ∧
      (handleSlice h ≠ d.ident.index →
        Answers (.seqQueryHandle path h) s (respondWrite d path Od.SEQ_QUERY_HANDLE 0 .rejFormat 0)))

/-- Changing capacity (R389 to R391) and the accounts' commit (R140): SLICE_ONLINE tells of slices lost and back,
SLICE_DRAIN stops or resumes the opening of steps, TILE_ONLINE takes tiles off and on, TILE_LOST takes a tile of this
slice off at once, ACCT_RESET sends the reset of one client's counters, or of all that a read has opened. Draining
(R390, R392): a draining slice reads
QUIESCED when its steps, moves and DIRTY pages are done and the member asks nothing more of it, and writes back what
a late commit left DIRTY; a tile that is taken off line is cleared of its commands when its time is over. What SLICE_DRAIN
0 does besides is log entry 100, that SLICE_ONLINE counts excluded aggregators in again log entry 42, and which slices
ask for frames and when they are answered log entries 103 and 153. -/
def Obligations.CapacityChangesComeToRest : Prop :=
  (∀ (s : State) (path : Path) (d : Device),
      (∀ v, v < 2 ^ 32 → v < 2 ^ d.ident.n → WriteTaken s.dev path Od.SLICE_ONLINE 0 (leBytes v 4) d →
        let others := (List.range d.ident.n).filter (· ≠ d.ident.index)
        let old := odGet d Od.SLICE_ONLINE 0
        let e0 := (odSet d Od.SLICE_ONLINE 0 v).modAgg (fun a => { a with excluded := [], lastSent := [] })
        let e1 := (others.filter (fun k => bit old k && !bit v k)).foldl sliceLost e0
        let e := answerAsks (askFrames ((others.filter (fun k => !bit old k && bit v k)).foldl (sliceBack old) e1))
        Settles (.sliceOnline path v) s (respondWrite e path Od.SLICE_ONLINE 0 .ok (readBack e Od.SLICE_ONLINE 0))) ∧
      (WriteTaken s.dev path Od.SLICE_DRAIN 0 (leBytes 1 1) d →
        let e0 := odSet d Od.SLICE_DRAIN 0 1
        let e := writebackAll { e0 with groups := e0.groups.map (fun x => (x.1, { x.2 with opened := none })) }
        Settles (.sliceDrain path 1) s (respondWrite e path Od.SLICE_DRAIN 0 .ok (readBack e Od.SLICE_DRAIN 0))) ∧
      (WriteTaken s.dev path Od.SLICE_DRAIN 0 (leBytes 0 1) d →
        let e0 := odSet (odSet d Od.SLICE_DRAIN 0 0) Od.SLICE_QUIESCED 0 0
        let e := ((d.groups.filter (fun p => p.2.opened.isNone && p.2.building.isNone)).map Prod.fst).foldl openStep e0
        Settles (.sliceDrain path 0) s (respondWrite e path Od.SLICE_DRAIN 0 .ok (readBack e Od.SLICE_DRAIN 0))) ∧
      (∀ x v, v < 2 ^ 64 → WriteTaken s.dev path Od.TILE_ONLINE x (leBytes v 8) d →
        let old := odGet d Od.TILE_ONLINE x
        let e0 := odSet d Od.TILE_ONLINE x v
        let e1 := ((List.range 64).filter (fun i => bit old i && !bit v i)).foldl (fun d i => tileOff d (tileAt d x i)) e0
        let e := ((List.range 64).filter (fun i => !bit old i && bit v i)).foldl (fun d i => tileOn d (tileAt d x i)) e1
        Settles (.tileOnline path x v) s (respondWrite e path Od.TILE_ONLINE x .ok (readBack e Od.TILE_ONLINE x))) ∧
      (∀ n, n < 65536 → WriteTaken s.dev path Od.TILE_LOST 0 (leBytes n 2) d → n / 128 = d.ident.index →
        ∃ e, effTileLost d n = (e, some .ok) ∧
          Settles (.tileLost path n) s (respondWrite e path Od.TILE_LOST 0 .ok (readBack e Od.TILE_LOST 0))) ∧
      (∀ c, c ≤ 4095 → WriteTaken s.dev path Od.ACCT_RESET 0 (leBytes c 2) d →
        Answers (.acctReset path c) s
          (respondWrite (sendReset d c) path Od.ACCT_RESET 0 .ok (readBack (sendReset d c) Od.ACCT_RESET 0))) ∧
      (WriteTaken s.dev path Od.ACCT_RESET 0 (leBytes 0xFFFF 2) d →
        let e := (Map.keys d.agg.snaps).foldl sendReset d
        Answers (.acctReset path 0xFFFF) s (respondWrite e path Od.ACCT_RESET 0 .ok (readBack e Od.ACCT_RESET 0)))) ∧
  (∀ (s : State) (tile : Nat), fyReady s.dev = true →
      (odGet s.dev Od.SLICE_DRAIN 0 = 0 → Answers .sliceQuiesced s s.dev) ∧
      (odGet s.dev Od.SLICE_DRAIN 0 ≠ 0 →
        (drained s.dev = true → quiet s.dev = true → Answers .sliceQuiesced s (odSet s.dev Od.SLICE_QUIESCED 0 1)) ∧
        (drained s.dev = true → quiet s.dev = false → Answers .sliceQuiesced s s.dev) ∧
        (drained s.dev = false → Settles .sliceQuiesced s (writebackAll s.dev))) ∧
      ((s.dev.tile tile).drainTick = none → Answers (.tileDrainTimeout tile) s s.dev) ∧
      (∀ t, (s.dev.tile tile).drainTick = some t →
        (s.dev.tick < t + odGet s.dev Od.TILE_DRAIN_US 0 → Answers (.tileDrainTimeout tile) s s.dev) ∧
        (t + odGet s.dev Od.TILE_DRAIN_US 0 ≤ s.dev.tick → Settles (.tileDrainTimeout tile) s
          (clearTile (killOffline s.dev ((commandsOn s.dev tile).map Prod.fst)) tile))))

/-- The mailbox (R444, R446, R448, R449): a request while it is not busy is taken, and served and answered when the
mailbox has its turn, a READ with the entry's value, a COMMIT as R444 gives, a READ_INFO with the info record; a refused
one is answered REJ_FORMAT without data. While another source has its turn it waits, and is served when the mailbox has
its turn; when that is, is log entry 151. While BUSY is 1 any other request, and any write to the mailbox, sets OVERRUN
and does nothing else. A READ of DIAG_DATA that meets an error in the word handles it (R460): log entry 4. A commit of
ALERT_CAUSE leaves what was raised in its MCLK (R63), and PARITY_DEGRADED while parity is missing: log entry 118. -/
def Obligations.MailboxServesRequests : Prop :=
  ∀ (s : State) (r idx sub : Nat), fyPresent s.dev = true →
    let taken (op : Nat) : Device := mbAccept s.dev op r idx sub []
    let a (op : Nat) : Device := tookTurn (taken op) (.mailbox r)
    let held (op : Nat) : Bool := mbHolds s.dev op r idx sub
    (s.dev.mgmt.busy = true → ∀ i, i = .mailboxOverrun ∨ (held OP_READ = false ∧ i = .mbRead r idx sub) ∨
        (held OP_COMMIT = false ∧ i = .mbCommit r idx sub) ∨ (held OP_INFO = false ∧ i = .mbReadInfo r idx sub) →
      Answers i s { s.dev with mgmt := { s.dev.mgmt with overrun := true } }) ∧
    (s.dev.mgmt.busy = false → unitTurn (taken OP_READ) .mailbox = false →
      Answers (.mbRead r idx sub) s (taken OP_READ) ∧ Answers (.mbCommit r idx sub) s (taken OP_COMMIT) ∧
      Answers (.mbReadInfo r idx sub) s (taken OP_INFO)) ∧
    (s.dev.mgmt.busy = true → unitTurn s.dev .mailbox = true → let d := tookTurn s.dev (.mailbox r)
      (∀ e, held OP_READ = true → odRow idx sub = some e → e.acc ≠ 3 → e.size ≤ 256 → Answers (.mbRead r idx sub) s
        (mbRespond (latchRead d e idx sub) r .ok (leBytes (odRead d idx sub) e.size))) ∧
      (held OP_COMMIT = true → commitOk idx sub = true → Answers (.mbCommit r idx sub) s
        (mbRespond (commitEntry d idx sub) r .ok [])) ∧
      (∀ e, held OP_INFO = true → odRow idx sub = some e → Answers (.mbReadInfo r idx sub) s
        (mbRespond d r .ok (leBytes (infoRecord e idx sub) 16)))) ∧
    (s.dev.mgmt.busy = true → unitTurn s.dev .mailbox = false →
      (held OP_READ = true → Answers (.mbRead r idx sub) s s.dev) ∧ (held OP_COMMIT = true → Answers (.mbCommit r idx sub) s s.dev) ∧
      (held OP_INFO = true → Answers (.mbReadInfo r idx sub) s s.dev)) ∧
    (∀ found e, s.dev.mgmt.busy = false → unitTurn (taken OP_READ) .mailbox = true → idx = Od.DIAG_DATA →
      odRow idx sub = some e → e.acc ≠ 3 → e.size ≤ 256 →
      let d := diagRead (a OP_READ) idx found
      Settles (.mbRead r idx sub found) s (mbRespond (latchRead d e idx sub) r .ok (leBytes (odRead d idx sub) e.size))) ∧
    (s.dev.mgmt.busy = false → Answers .mailboxOverrun s s.dev) ∧
    (s.dev.mgmt.busy = false → unitTurn (taken OP_READ) .mailbox = true →
      (∀ e, odRow idx sub = some e →
        (e.acc ≠ 3 → e.size ≤ 256 → Answers (.mbRead r idx sub) s
          (mbRespond (latchRead (a OP_READ) e idx sub) r .ok (leBytes (odRead (a OP_READ) idx sub) e.size))) ∧
        (e.acc = 3 → Answers (.mbRead r idx sub) s (mbRespond (a OP_READ) r .rejFormat [])) ∧
        Answers (.mbReadInfo r idx sub) s (mbRespond (a OP_INFO) r .ok (leBytes (infoRecord e idx sub) 16))) ∧
      (odRow idx sub = none → Answers (.mbRead r idx sub) s (mbRespond (a OP_READ) r .rejFormat []) ∧
        Answers (.mbReadInfo r idx sub) s (mbRespond (a OP_INFO) r .rejFormat [])) ∧
      (commitOk idx sub = false → Answers (.mbCommit r idx sub) s (mbRespond (a OP_COMMIT) r .rejFormat [])) ∧
      (commitOk idx sub = true → Map.find s.dev.snaps (odKey idx sub) = none →
        Answers (.mbCommit r idx sub) s (mbRespond (a OP_COMMIT) r .ok [])) ∧
      (∀ snap since, commitOk idx sub = true → Map.find s.dev.snaps (odKey idx sub) = some (snap, since) →
        let kept := if idx = Od.ALERT_CAUSE then snap &&& (raisedNow s.dev ||| standingCauses s.dev) else 0
        Answers (.mbCommit r idx sub) s (mbRespond
          (odSet { a OP_COMMIT with snaps := Map.del s.dev.snaps (odKey idx sub) } idx sub
            (committed idx sub (odGet s.dev idx sub) (snap - kept) since)) r .ok [])))

/-- Direct reads (R450, R451): of a 32-byte entry, a read of word 0 latches the whole entry and returns its first 8
bytes, and words 1 to 3 come from the latch; another readable entry is answered with its value (R450). Nothing else
changes. That words 1 to 3 read 0 before the first read of word 0 is the model's choice, log entry 109. -/
def Obligations.DirectReadsLatchWords : Prop :=
  ∀ (s : State), fyPresent s.dev = true →
    (∀ p, p < 256 → Answers (.directReadLatch (32 * p)) s (emit
      { s.dev with mgmt := { s.dev.mgmt with ringLatch := Map.put s.dev.mgmt.ringLatch p (ringState s.dev p) } }
      (.fabt false (ringState s.dev p % 2 ^ 64)))) ∧
    (∀ p w, p < 256 → 1 ≤ w → w < 4 → Answers (.directReadLatch (32 * p + 8 * w)) s
      (emit s.dev (.fabt false (Map.getD s.dev.mgmt.ringLatch p 0 / 2 ^ (64 * w) % 2 ^ 64)))) ∧
    Answers (.directReadLatch 0x4030) s (emit { s.dev with mgmt := { s.dev.mgmt with msiLatch := odGet s.dev Od.MSI_PENDING 0 } }
      (.fabt false (odGet s.dev Od.MSI_PENDING 0 % 2 ^ 64))) ∧
    (∀ w, 1 ≤ w → w < 4 → Answers (.directReadLatch (0x4030 + 8 * w)) s
      (emit s.dev (.fabt false (s.dev.mgmt.msiLatch / 2 ^ (64 * w) % 2 ^ 64)))) ∧
    (∀ off idx sub size w, directAt off = some (idx, sub, size, true, w) → idx ≠ Od.RING_STATE → idx ≠ Od.MSI_PENDING →
      Answers (.directReadLatch off) s (emit s.dev (.fabt false (odRead s.dev idx sub % 2 ^ (8 * size)))))

/-- A work-list entry is written whole into the export window: its 64 bytes read as the entry's, least significant
first, every other byte of the window reads as before, and the window keeps its canonical form (R168). A tile's fetch
of whole 64-byte entries returns the bytes of the export window, and charges the client of each entry with its 64 bytes
and nothing else. Before FY_READY it returns zeros and charges nothing (R34, R37, R136). That a byte which no write has set
reads zero is log entry 115. -/
def Obligations.WorkListsAreWrittenAndRead : Prop :=
  (∀ (d : Device) (g off : Nat) (x : WlEntry), Memory.wf d.window = true →
      let e := writeEntry d g off x
      (∀ k, k < 64 → Memory.read e.window (off + k) = BitVec.ofNat 8 (x.bits >>> (8 * k))) ∧
      (∀ a, a < off ∨ off + 64 ≤ a → Memory.read e.window a = Memory.read d.window a) ∧
      Memory.wf e.window = true ∧ e = { d with window := e.window, cvc := e.cvc }) ∧
  (∀ (s : State) (off n : Nat), fyPresent s.dev = true → off % 64 = 0 → n % 64 = 0 → 64 ≤ n → n ≤ 4096 → off + n ≤ 0x400000 →
      (fyReady s.dev = false → Answers (.workListFetch off n) s (emit s.dev (.fabt false 0))) ∧
      (fyReady s.dev = true → ∃ e, Answers (.workListFetch off n) s
          (emit { s.dev with acct := e } (.fabt false (ofLe (Memory.readBytes s.dev.window off n)))) ∧
        e = ((List.range (n / 64)).foldl (fun d k => match entryAt s.dev (off + 64 * k) with
          | some w => chargeBytes d w.client 64
          | none => d) s.dev).acct))

/-- Management packets (R60, R61, R454, R466): while 4 requests wait, or the receive buffer holds 4 packets of messages
that are not whole, a packet changes nothing, and neither does one for another endpoint. Otherwise it joins the message
of its source, tag and tag owner, and messages of others stay as they are; only the last packet of a message can add
a request; never more than 4 requests wait. A whole request that finds none waiting and needs no entry is answered at
once, each packet of the answer on its own tag: a control request that is not supported with ERROR_UNSUPPORTED_CMD (R60),
a vendor-defined one of bad form, or with an OP outside Table 18.4, with REJ_FORMAT and LEN 0 (R453). What becomes of
packets that are no request is log entry 57, which packets are for this endpoint, and the codes, log entry 25. -/
def Obligations.MctpPacketsAssemble : Prop :=
  ∀ (s : State) (p : MctpPacket), fyPresent s.dev = true →
    (4 ≤ s.dev.mgmt.queue.length ∨ 4 ≤ mgtBuffered s.dev → Answers (.mctpPacket p) s s.dev) ∧
    (p.dest ≠ odGet s.dev Od.MCTP_EID 0 → p.dest ≠ 0 → Answers (.mctpPacket p) s s.dev) ∧
    (s.dev.mgmt.queue.length < 4 → mgtBuffered s.dev < 4 → p.dest = odGet s.dev Od.MCTP_EID 0 ∨ p.dest = 0 →
      ∃ e, Answers (.mctpPacket p) s e ∧ e.mgmt.queue.length ≤ 4 ∧
      (p.eom = false → e.mgmt.queue = s.dev.mgmt.queue ∧ partOf e p = some (joinPacket s.dev p)) ∧
      (p.eom = true → partOf e p = none) ∧
      (∀ x, !(x.src = p.src && x.tag = p.tag && x.tagOwner = p.tagOwner) → (x ∈ e.mgmt.parts ↔ x ∈ s.dev.mgmt.parts)) ∧
      (p.eom = true → acceptable (joinPacket s.dev p) = true → (∀ m, s.dev.mgmt.queue.head? = some m → m.refusal = none) →
        ({ src := p.src, tag := p.tag, body := (joinPacket s.dev p).body } : MctpMsg).refusal = none →
        e.mgmt.queue = s.dev.mgmt.queue ++ [{ src := p.src, tag := p.tag, body := (joinPacket s.dev p).body }]) ∧
      (p.eom = true → acceptable (joinPacket s.dev p) = true → s.dev.mgmt.queue = [] →
        let m : MctpMsg := { src := p.src, tag := p.tag, body := (joinPacket s.dev p).body }
        let sent (b : List Byte) : Prop := e.mgmt.queue = [] ∧
          e.out = s.dev.out ++ (mctpPackets (odGet s.dev Od.MCTP_EID 0) p.src p.tag (b.length / 64 + 1) 0 b).map Out.mgt
        (m.control = true → controlSupported m.command = false → sent (controlBody m 0x05 [])) ∧
        (m.control = false → m.formatOk = false ∨ m.op = 0 ∨ 4 < m.op →
          sent (mctpBody m.op m.reqId m.idx m.sub .rejFormat []))) ∧
      (p.som = false → partOf s.dev p = none → p.eom = true → e.mgmt.queue = s.dev.mgmt.queue ∧
        odGet e Od.MCTP_STATS 2 = min (2 ^ 48 - 1) (odGet s.dev Od.MCTP_STATS 2 + 1)) ∧
      e = { s.dev with mgmt := e.mgmt, od := e.od, snaps := e.snaps, out := e.out })

/-- The vendor-defined request at the head of the queue, of good form, is served where the management unit is free and
it is the turn of MCTP (R449), and answered with one response message on its own tag (R453, R454): READ with the entry's
value up to 128 bytes, READ_INFO with the info record, COMMIT as R444 gives where the write mask permits the index
(R455). A READ of DIAG_DATA that meets an error in the word handles it (R460): log entry 4. The control request at the
head of the queue is answered on its own tag (R60, R456). Set Endpoint ID takes an identifier other than 0 and 0xFF; the
others change no entry. The form of the requests and the codes are those of the family's standard, log entry 25; which
operations Set Endpoint ID takes, and that control requests ask no turn of the management unit, log entry 58; the bytes
of the version reply log entry 5, the byte order of VENDOR_ID log entry 12. -/
def Obligations.MctpRequestsAreServedInOrder : Prop :=
  (∀ (s : State) (m : MctpMsg) (ms : List MctpMsg), fyPresent s.dev = true → s.dev.mgmt.queue = m :: ms →
      (unitTurn s.dev .mctp = false → Answers .mctpRead s s.dev ∧ Answers .mctpWrite s s.dev ∧
        Answers .mctpCommit s s.dev ∧ Answers .mctpReadInfo s s.dev) ∧
      (unitTurn s.dev .mctp = true → m.control = false → m.formatOk = true →
        let d : Device := { s.dev with mgmt := { s.dev.mgmt with lastSource := .mctp } }
        let reply (d : Device) (st : Status) (data : List Byte) : Device :=
          mctpAnswer d m.src m.tag (mctpBody m.op m.reqId m.idx m.sub st data)
        (m.op = OP_READ →
          (∀ e, odRow m.idx m.sub = some e → e.acc ≠ 3 → e.size ≤ 128 →
            Answers .mctpRead s (reply (latchRead d e m.idx m.sub) .ok (leBytes (odRead d m.idx m.sub) e.size))) ∧
          (∀ found e, m.idx = Od.DIAG_DATA → odRow m.idx m.sub = some e → e.acc ≠ 3 → e.size ≤ 128 →
            let f := diagRead d m.idx found
            Settles (.mctpRead found) s (reply (latchRead f e m.idx m.sub) .ok (leBytes (odRead f m.idx m.sub) e.size))) ∧
          ((∀ e, odRow m.idx m.sub = some e → e.acc = 3 ∨ 128 < e.size) → Answers .mctpRead s (reply d .rejFormat []))) ∧
        (m.op = OP_COMMIT →
          (commitOk m.idx m.sub = false → Answers .mctpCommit s (reply d .rejFormat [])) ∧
          (commitOk m.idx m.sub = true → bit (odGet d Od.MCTP_WRITE_MASK 0) (m.idx / 256) = true →
            Answers .mctpCommit s (reply (commitEntry d m.idx m.sub) .ok [])) ∧
          (commitOk m.idx m.sub = true → bit (odGet d Od.MCTP_WRITE_MASK 0) (m.idx / 256) = false →
            Answers .mctpCommit s (reply (bump d Od.MCTP_STATS 1) .rejSealedWrite []))) ∧
        (m.op = OP_INFO →
          (∀ e, odRow m.idx m.sub = some e → Answers .mctpReadInfo s (reply d .ok (leBytes (infoRecord e m.idx m.sub) 16))) ∧
          (odRow m.idx m.sub = none → Answers .mctpReadInfo s (reply d .rejFormat []))))) ∧
  (∀ (s : State) (m : MctpMsg) (ms : List MctpMsg), fyPresent s.dev = true → s.dev.mgmt.queue = m :: ms → m.control = true →
      (m.command = 1 → m.body.length = 5 → m.byte 3 % 4 < 2 → m.byte 4 ≠ 0 → m.byte 4 ≠ 0xFF →
        Answers .setEndpointId s (mctpAnswer (odSet s.dev Od.MCTP_EID 0 (m.byte 4)) m.src m.tag
          (controlBody m 0 [0x00, BitVec.ofNat 8 (m.byte 4), 0x00]))) ∧
      (m.command = 1 → m.body.length ≠ 5 → Answers .setEndpointId s (mctpAnswer s.dev m.src m.tag (controlBody m 0x03 []))) ∧
      (m.command = 1 → m.body.length = 5 → 2 ≤ m.byte 3 % 4 ∨ m.byte 4 = 0 ∨ m.byte 4 = 0xFF →
        Answers .setEndpointId s (mctpAnswer s.dev m.src m.tag (controlBody m 0x02 []))) ∧
      (m.command = 6 → m.byte 3 ≠ 0 →
        Answers .getVendorDefinedMessageSupport s (mctpAnswer s.dev m.src m.tag (controlBody m 0x02 []))) ∧
      (m.command = 2 → Answers .getEndpointId s (mctpAnswer s.dev m.src m.tag
        (controlBody m 0 [BitVec.ofNat 8 (odGet s.dev Od.MCTP_EID 0), 0x00, 0x00]))) ∧
      (m.command = 4 → Answers .getMctpVersionSupport s (mctpAnswer s.dev m.src m.tag (controlBody m 0 Config.mctpVersionReply))) ∧
      (m.command = 5 → Answers .getMessageTypeSupport s (mctpAnswer s.dev m.src m.tag (controlBody m 0 [0x01, 0x7E]))) ∧
      (m.command = 6 → m.byte 3 = 0 → Answers .getVendorDefinedMessageSupport s (mctpAnswer s.dev m.src m.tag
        (controlBody m 0 ([0xFF, 0x00] ++ vendorBytes ++ (leBytes (odGet s.dev Od.MCTP_VDM_VERSION 0) 2).reverse)))))

/-- A timer that is armed with the kind of the expiry, whose DUE has come and before which none is due expires, sets its
flag and acts as its kind gives (R105, R109, R114, R115, R142, R235, R237); otherwise the expiry changes nothing. A
deferred demotion stage runs once the sequence has no move outstanding (R235). -/
def Obligations.TimersActAtExpiry : Prop :=
  (∀ (s : State) (slot : Nat), fyReady s.dev = true →
      let d := s.dev
      let first (t : Timer) : Prop := t.due ≤ d.tick ∧ ∀ p ∈ d.timers, t.due ≤ p.2.due
      (∀ t, timerOf d slot false = some t → first t →
        let e0 := expireTimer d slot false t
        let e := setFlag e0 slot FL_TMR_A
        (t.kind = TK_DEADLINE → Settles (.deadlineExpiry slot) s (monitor e slot)) ∧
        (t.kind = TK_QUARANTINE → Settles (.quarantineExpiry slot) s { e0 with reclaimed := d.reclaimed.filter (· ≠ slot) }) ∧
        (∀ q, t.kind = TK_TTL → d.seq? slot = some q →
          (q.tcb.state ≠ .paused → Settles (.ttlExpiry slot) s e) ∧
          (q.tcb.state = .paused → Settles (.ttlExpiry slot) s (wakePages (releaseAll
            (modTcb (e.modSeq slot (fun q => { q with ttlExpired := e.tick })) slot (fun c => { c with expired := true })) slot))))) ∧
      (∀ t q, timerOf d slot true = some t → first t → d.seq? slot = some q →
        let e := setFlag (expireTimer d slot true t) slot FL_TMR_B
        (t.kind = TK_BACKOFF → Settles (.backoffExpiry slot) s e) ∧
        (t.kind = TK_NOT_BEFORE → Settles (.notBeforeExpiry slot) s
          (if q.tcb.cls = .r && q.tcb.state = .waiting then startWait e slot [FL_SLOTS_OK] false else e)) ∧
        (t.kind = TK_IDLE_DEMOTE →
          (q.tcb.state ≠ .paused → Settles (.idleDemoteExpiry slot) s e) ∧
          (q.tcb.state = .paused → moveOut e slot q = true → Settles (.idleDemoteExpiry slot) s
            (modBlk e slot (fun c => { c with deferred := true }))) ∧
          (q.tcb.state = .paused → moveOut e slot q = false → Settles (.idleDemoteExpiry slot) s (demoteStage e slot)))) ∧
      ((∀ t, timerOf d slot false = some t → ¬ first t) → (∀ t, timerOf d slot true = some t → ¬ first t) →
        ∀ i, i = .deadlineExpiry slot ∨ i = .ttlExpiry slot ∨ i = .quarantineExpiry slot ∨ i = .notBeforeExpiry slot ∨
          i = .backoffExpiry slot ∨ i = .idleDemoteExpiry slot → Answers i s d)) ∧
  (∀ (s : State) (slot : Nat) (q : Seq), fyReady s.dev = true → s.dev.seq? slot = some q → q.tcb.state = .paused →
      q.ctx.deferred = true →
      (moveOut s.dev slot q = false → Settles (.demotionStageDeferred slot) s
        (demoteStage (modBlk s.dev slot (fun c => { c with deferred := false })) slot)) ∧
      (moveOut s.dev slot q = true → Answers (.demotionStageDeferred slot) s s.dev))

/-- An expiry takes the timer off its list and leaves every other timer and every record (R109). Its lateness, TICK
less DUE, is recorded in three sticky counters of 48 bits, read and reset under RRS: the count of expiries, the
greatest lateness, and the bin of the histogram that holds the lateness; 64 TICK or more raise TIMER_LATE (R117). -/
def Obligations.ExpiryTakesOneTimer : Prop :=
  ∀ (d : Device) (slot : Nat) (b : Bool) (t : Timer), Map.wf d.timers = true → Map.wf d.od = true →
    let e := expireTimer d slot b t
    let late := d.tick - t.due
    let more (n k : Nat) : Nat := min (2 ^ 48 - 1) (n + k)
    let least : List Nat := [0, 1, 2, 4, 16, 64, 256, 1024]
    timerOf e slot b = none ∧ (∀ u c, (u, c) ≠ (slot, b) → timerOf e u c = timerOf d u c) ∧ e.seqs = d.seqs ∧
    odGet e Od.TIMER_EXPIRED 0 = more (odGet d Od.TIMER_EXPIRED 0) 1 ∧
    odGet e Od.TIMER_LATE_MAX 0 = max (odGet d Od.TIMER_LATE_MAX 0) (min (2 ^ 48 - 1) late) ∧
    (∀ k, k < 8 → odGet e Od.TIMER_LATE_HIST k =
      if least.getD k 0 ≤ late ∧ (k < 7 → late < least.getD (k + 1) 0) then more (odGet d Od.TIMER_LATE_HIST k) 1
      else odGet d Od.TIMER_LATE_HIST k) ∧
    bit (odGet e Od.ALERT_CAUSE 0) ALERT_TIMER_LATE = (bit (odGet d Od.ALERT_CAUSE 0) ALERT_TIMER_LATE || decide (64 ≤ late)) ∧
    commitOk Od.TIMER_EXPIRED 0 = true ∧ commitOk Od.TIMER_LATE_MAX 0 = true ∧ (∀ k, k < 8 → commitOk Od.TIMER_LATE_HIST k = true)

/-- Slots are reclaimed while fewer than SLOT_RECLAIM_LOW can be allocated (R107): the PAUSED sequence whose TTL
expired first ends with EXPIRED_TTL, then the next of those that are left, until enough slots can be allocated or no such
sequence is left. -/
def Obligations.SlotsAreReclaimedInOrder : Prop :=
  ∀ (s : State), fyReady s.dev = true → Map.wf s.dev.seqs = true →
    let enough (d : Device) : Bool := odGet d Od.SLOT_RECLAIM_LOW 0 ≤ allocCount d + d.reclaimed.length
    (enough s.dev = true ∨ reclaimVictim s.dev = none → Answers .slotReclaim s s.dev) ∧
    (∀ v, enough s.dev = false → reclaimVictim s.dev = some v →
      let e := finishSeq { s.dev with reclaimed := s.dev.reclaimed ++ [v] } v .expiredTtl 3
      (∃ q, s.dev.seq? v = some q ∧ q.tcb.state = .paused ∧ q.tcb.expired = true ∧
        ∀ u r, s.dev.seq? u = some r → r.tcb.state = .paused → r.tcb.expired = true → q.ttlExpired ≤ r.ttlExpired) ∧
      Settles .slotReclaim s (slotReclaimLoop e (s.dev.seqs.length - 1)) ∧
      (enough e = true ∨ s.dev.seqs.length = 1 → Settles .slotReclaim s e)) ∧
    (∀ (d : Device) (n : Nat),
      (enough d = true ∨ reclaimVictim d = none → slotReclaimLoop d n = d) ∧
      (∀ v, enough d = false → reclaimVictim d = some v → slotReclaimLoop d (n + 1) =
        slotReclaimLoop (finishSeq { d with reclaimed := d.reclaimed ++ [v] } v .expiredTtl 3) n))

/-- ENDs between slices (R99, R380). At N = 8 the owner writes an END at once. At N of 16 or 32 it enters it in its
receipt table of 4,096 and refuses one that finds the table full; a second copy of a held one changes nothing, and the
END of a rebuilt sequence whose old END has been written is answered as written (R386). A home sends an unwritten END
again 1 TICK after its latest try. END written frees the slot: it is quarantined for 2,048
TICK, its generation advances, and its handle names nothing. RELEASE takes the receipt out. When an END is sent again
is log entry 44; the END of a hand-over that was refused as late is answered as written, log entry 38. -/
def Obligations.EndsAreWrittenOnce : Prop :=
  ∀ (s : State) (c : Compl) (slot h : Nat) (q : Seq), fyReady s.dev = true →
    let d := s.dev
    (ringOwned d c.ring = true → complRefused d c = true →
      Answers (.endTransfer c) s (sendXfer d c.home (.endWritten c.handle) 32)) ∧
    (ringOwned d c.ring = true → complRefused d c = false → d.ident.n < 16 → Answers (.endTransfer c) s (cqEnqueue d { c with noIrq := false })) ∧
    (ringOwned d c.ring = false → Answers (.endTransfer c) s d) ∧
    (∀ l old, ringOwned d c.ring = true → complRefused d c = false → 16 ≤ d.ident.n → (l, old, c.handle) ∈ d.faults.forwards →
      d.faults.receipts.contains old = true →
      ∃ e, Answers (.endTransfer c) s (sendXfer e c.home (.endWritten c.handle) 32) ∧ c.handle ∈ e.faults.receipts ∧
        e = { d with faults := { d.faults with receipts := e.faults.receipts } }) ∧
    (ringOwned d c.ring = true → complRefused d c = false → 16 ≤ d.ident.n →
      (∀ x ∈ d.faults.forwards, x.2.2 = c.handle → d.faults.receipts.contains x.2.1 = false) →
      (d.faults.receipts.contains c.handle = true → Answers (.endTransfer c) s d) ∧
      (d.faults.receipts.contains c.handle = false → 4096 ≤ d.faults.receipts.length →
        Answers (.endTransfer c) s (sendXfer d c.home (.endRefused c.handle) 32)) ∧
      (d.faults.receipts.contains c.handle = false → d.faults.receipts.length < 4096 → Answers (.endTransfer c) s
        (cqEnqueue { d with faults := { d.faults with receipts := d.faults.receipts ++ [c.handle] } } { c with noIrq := false }))) ∧
    (d.seq? slot = some q → 16 ≤ d.ident.n → q.endSent = true → q.behind = [] → (∀ g ∈ d.faults.gated, g.1 ≠ slot) →
      q.endRefusedTick.getD q.tcb.stateTick + 1 ≤ d.tick →
      Settles (.endRetry slot) s (shipCompl (d.modSeq slot (fun q => { q with endRefusedTick := some d.tick })) q.owner
        (seqCompl d q CT_END q.tcb.status (endArg0 q) q.engineNs q.energyUj))) ∧
    (Map.wf d.seqs = true → d.seq? slot = some q → q.tcb.handle = h → handleSlice h = d.ident.index → handleSlot h = slot → q.endSent = true →
      (∀ x ∈ d.faults.lostEnds, x.1 ≠ h) →
      ∃ e, Settles (.endWrittenReport h) s e ∧ e.seq? slot = none ∧ liveSlot e h = none ∧ quarantined e slot = true ∧
        slotGen e slot = nextGen (slotGen d slot) ∧
        (timerOf e slot false).map Timer.due = some (d.tick + 2048)) ∧
    (d.faults.receipts.contains h = true → Settles (.release h) s
      { d with faults := { d.faults with receipts := d.faults.receipts.filter (· ≠ h) } }) ∧
    (d.faults.receipts.contains h = false → liveSlot d h = some slot →
      Settles (.release h) s (finishSeq (d.modSeq slot (fun q => { q with unwanted := true })) slot .rejCapacity 3))

/-- Round r opens at TICK 100 × r (R137): every client of which something has changed has its D fields and TOK_USED
sent to the aggregator in one delta entry, which goes out or waits for FAB_I (R38), and cleared; the other clients'
records stay. At other times the command changes nothing, and without an aggregator it only notes the round. Which
other slices are ready and not draining the opening brings: log entry 45. -/
def Obligations.RoundOpeningSendsChangedClients : Prop :=
  ∀ (s : State) (fit : BitVec 32), fyReady s.dev = true →
    let d := { s.dev with agg := { s.dev.agg with fit := fit.toNat } }
    (s.dev.tick % 100 ≠ 0 → Answers (.aggRoundOpen fit) s s.dev) ∧
    (s.dev.tick % 100 = 0 → aggregator d = none → ∃ e, Answers (.aggRoundOpen fit) s e ∧ e.agg.opened = roundOf s.dev ∧
      e = { s.dev with agg := e.agg }) ∧
    (∀ agg, s.dev.tick % 100 = 0 → aggregator d = some agg →
      let due (c : Nat) : Prop := c ∈ knownClients s.dev ∧ deltaDue s.dev agg c = true
      ∃ e, Answers (.aggRoundOpen fit) s e ∧ e.agg.opened = roundOf s.dev ∧ e.agg.sentTo = some agg ∧
        (∀ c, due c →
          let a := s.dev.client c
          let x : Xfer := .delta (BitVec.ofNat 256 (deltaBits c a.dNs a.dBytes a.dUj (liveOf s.dev c) (demandOf s.dev c)
            a.tokUsed 0 (roundOf s.dev)))
          e.client c = { a with
            dNs := 0, dBytes := 0, dUj := 0, tokUsed := 0
            sentLive := liveOf s.dev c, sentDemand := demandOf s.dev c } ∧
          e.sends agg x) ∧
        (∀ c, ¬ due c → e.client c = s.dev.client c) ∧
        e = { s.dev with agg := e.agg, acct := e.acct, out := e.out, fabi := e.fabi })

/-- A delta entry is folded into its client's aggregate counters as it is accepted (R137); a counter that would pass
all-ones stays there, which sets SATURATED and raises ACCT_SAT with vector 4 once (R140). Other clients are
unchanged. That a client which is saturated already raises it no more is log entry 98. Resets (R140): a reset entry takes
its snapshot off the client's counters, a stuck one starts at 0, and SATURATED is cleared. -/
def Obligations.DeltasAndResetsAreFolded : Prop :=
  (∀ (s : State) (src : Nat) (b : BitVec 256), fyReady s.dev = true → Delta.kind b.toNat = 0 →
      let c := Delta.client b.toNat
      let a := s.dev.client c
      let passes : Bool := 2 ^ 64 ≤ a.aggNs + Delta.ns b.toNat || 2 ^ 64 ≤ a.aggBytes + Delta.bytes b.toNat ||
        2 ^ 64 ≤ a.aggUj + Delta.uj b.toNat
      ∃ e, Answers (.deltaEntry src b) s e ∧
        e.client c = { a with
          aggNs := min (2 ^ 64 - 1) (a.aggNs + Delta.ns b.toNat)
          aggBytes := min (2 ^ 64 - 1) (a.aggBytes + Delta.bytes b.toNat)
          aggUj := min (2 ^ 64 - 1) (a.aggUj + Delta.uj b.toNat), saturated := a.saturated || passes } ∧
        (∀ x, x ≠ c → e.client x = s.dev.client x) ∧
        e.agg.folded = s.dev.agg.folded ++ [{ client := c, src := src, ns := Delta.ns b.toNat, tok := Delta.tok b.toNat }] ∧
        Map.find (Map.getD e.agg.reports c []) src = some (Delta.live b.toNat, Delta.demand b.toNat) ∧
        (passes = false ∨ a.saturated = true → e = { s.dev with agg := e.agg, acct := e.acct }) ∧
        (passes = true → a.saturated = false → e = raiseVector (alertLog { s.dev with agg := e.agg, acct := e.acct } ALERT_ACCT_SAT 0 0 0 c) 4)) ∧
  (∀ (s : State) (src : Nat) (b : BitVec 512), fyReady s.dev = true → Delta.kind b.toNat = 1 →
      let c := Delta.client b.toNat
      let a := s.dev.client c
      let left (now snap : Nat) : Nat := if now = 2 ^ 64 - 1 then 0 else now - snap
      Answers (.resetEntry src b) s { s.dev with acct := Map.put s.dev.acct c { a with
        aggNs := left a.aggNs (bf b.toNat 511 448), aggBytes := left a.aggBytes (bf b.toNat 447 384)
        aggUj := left a.aggUj (bf b.toNat 383 320), saturated := false } })

/-- The aggregator closes round r at TICK 100 × r + 40, once (R138): the virtual time of each client with engine time
in the round rises by that time over its weight, the remainder is kept, the least virtual time of the active clients is
taken off all, and the result is clamped at 2^48; an entry with the client's figures and grants leaves for every other
slice where the client is capped or its aggregate has changed since its last entry, and the round is applied here. The
grants of a round never exceed what the client's cap leaves over the live sequences reported and the grants that this
slice issued in the round before (R134); the token grants add up to the round's allowance. That ACTIVE is taken from the
round that closes is log entry 121; that the aggregator applies the round at its close, and that reports stand until the
next, log entry 43. -/
def Obligations.RoundCloseFoldsAndGrants : Prop :=
  (∀ (s : State), fyReady s.dev = true →
      let d := s.dev
      let r := roundOf d
      (d.tick % 100 ≠ 40 ∨ isAggregator d = false ∨ d.agg.closed = some r → Answers .aggRoundClose s d) ∧
      (d.tick % 100 = 40 → isAggregator d = true → d.agg.closed ≠ some r → (∀ c ∈ roundClients d, c < 4096) →
        let ns (c : Nat) : Nat := sumBy Folded.ns (d.agg.folded.filter (fun f => f.client = c))
        let x (c : Nat) : Nat := ns c * 65536 + (d.client c).vrem
        let v (c : Nat) : Nat := if ns c = 0 then (d.client c).vtime else ((d.client c).vtime + x c / wEff d c) % 2 ^ 64
        let active (c : Nat) : Bool := (reportsOf d c).any (fun p => p.2.1 ≠ 0 || p.2.2 ≠ 0)
        let vmin := (((roundClients d).filter active).map v).min?.getD 0
        ∃ e, Answers .aggRoundClose s e ∧ e.agg.closed = some r ∧ e.agg.folded = [] ∧ e.agg.applied = r ∧ e.agg.missed = 0 ∧
          ∀ c ∈ roundClients d, (e.client c).vrem = (if ns c = 0 then (d.client c).vrem else x c % wEff d c) ∧
            (e.client c).active = active c ∧
            (e.client c).vtime = min (2 ^ 48) (v c - vmin) ∧
            (let capped (entry : Nat) : Bool := odGetC d entry c ≠ 0
             let sg (k : Nat) : Nat := if capped Od.CLIENT_MAX_SEQ then Map.getD (seqGrants d c r) k 0 else 0
             let tg (k : Nat) : Nat := if capped Od.CLIENT_MAX_TPS then Map.getD (tokGrants d c r) k 0 else 0
             capped Od.CLIENT_MAX_SEQ = true ∨ capped Od.CLIENT_MAX_TPS = true ∨
               Map.find d.agg.lastSent c ≠ some (aggregateBits (e.client c) c 0 0 0) →
             ∀ k, k < d.ident.n → k ≠ d.ident.index →
               e.sends k (.aggregate (BitVec.ofNat 512 (aggregateBits (e.client c) c (sg k) (tg k) r)))))) ∧
  (∀ (d : Device) (c r : Nat),
      let before : Nat := if d.agg.closed.map (fun k => (k + 1) % 2 ^ 32) = some r then Map.getD d.agg.prevGrants c 0 else 0
      sumBy Prod.snd (seqGrants d c r) ≤
        odGetC d Od.CLIENT_MAX_SEQ c - (sumBy (fun p => p.2.1) (reportsOf d c) + before) ∧
      (onlineSlices d ≠ [] → sumBy Prod.snd (tokGrants d c r) = max 1 (odGetC d Od.CLIENT_MAX_TPS c / 10000)))

/-- Aggregate entries are held until the last of their round, which applies them (R138): the aggregate fields,
SATURATED, ACTIVE and the grants come from the entry, and the slice's own D fields and flags stay. A round applied marks
a pass of the queue (R129). -/
def Obligations.AggregateEntriesAreAppliedTogether : Prop :=
  ∀ (s : State) (b : BitVec 512), fyReady s.dev = true →
    let r := bf b.toNat 31 0
    let c := bf b.toNat 255 244
    let all := s.dev.agg.incoming ++ [b]
    Answers (.aggregateEntry b false) s { s.dev with agg := { s.dev.agg with incoming := all } } ∧
    ∃ e, Answers (.aggregateEntry b true) s e ∧ e.agg = { s.dev.agg with applied := r, missed := 0, owed := false, incoming := [] } ∧
      e.client c = { s.dev.client c with
        aggNs := bf b.toNat 511 448, aggBytes := bf b.toNat 447 384, aggUj := bf b.toNat 383 320, vtime := bf b.toNat 319 256
        seqGrant := bf b.toNat 243 227, tokGrant := bf b.toNat 226 203, saturated := bit b.toNat 202, active := bit b.toNat 201 } ∧
      (∀ x, (∀ y ∈ all, bf y.toNat 31 0 = r → bf y.toNat 255 244 ≠ x) → e.client x = s.dev.client x) ∧
      (∀ x, (e.client x).dSat = (s.dev.client x).dSat ∧ (e.client x).gap = (s.dev.client x).gap ∧
        (e.client x).dNs = (s.dev.client x).dNs ∧ (e.client x).tokUsed = (s.dev.client x).tokUsed) ∧
      e.turn = (markPass s.dev).turn ∧ e = { s.dev with agg := e.agg, acct := e.acct, turn := e.turn }

/-- Lost aggregator (R139): after 3 rounds of another slice without an application that slice is excluded, so that
another one, or none, aggregates; ACCT_AGG_LOST is raised, GAP is set on every client, and every client's grants and
aggregate fields stay. Which rounds are counted as not applied is log entry 42. -/
def Obligations.LostAggregatorIsExcluded : Prop :=
  ∀ (s : State), fyReady s.dev = true →
    (∀ agg, aggregator s.dev = some agg → agg ≠ s.dev.ident.index → 3 ≤ s.dev.agg.missed →
      ∃ e, Answers .acctAggLost s e ∧ e.agg = { s.dev.agg with excluded := s.dev.agg.excluded ++ [agg], missed := 0 } ∧
        aggregator e ≠ some agg ∧ bit (odGet e Od.ALERT_CAUSE 0) ALERT_ACCT_AGG_LOST = true ∧
        (∀ c, c < 4096 → e.client c = { s.dev.client c with gap := true }) ∧
        e = { alertLog s.dev ALERT_ACCT_AGG_LOST agg 0 0 0 with agg := e.agg, acct := e.acct }) ∧
    (∀ agg, aggregator s.dev = some agg → agg = s.dev.ident.index ∨ s.dev.agg.missed < 3 → Answers .acctAggLost s s.dev)

/-- Steps (R145, R146, R169): a group homed here builds its open step when its scan is complete, what came before is
over and a candidate's model is ready; elsewhere building does nothing. Which ring pairs of other slices are STALLED
is what the command brings, and only that is noted where nothing is built (log entry 14). A building step whose last
commands have been withdrawn goes on first: it is dispatched where one of its commands was issued, else the group opens
another under the same number (R145, log entry 147). A CMD whose host-memory
writes have their responses goes to its tile: the entry becomes ISSUED, times out CMD_TIMEOUT_US later, and the step
keeps the segments still to issue; the last of them dispatches it. A command of no building step, one issued before
or one whose writes are out stays as it is. -/
def Obligations.StepsAreBuiltAndIssued : Prop :=
  ∀ (s : State) (g i : Nat) (away : List Nat), fyReady s.dev = true →
    let b := { s.dev with stalledAway := away }
    (groupHome s.dev g ≠ s.dev.ident.index → Settles (.stepBuild g away) s b) ∧
    (groupHome s.dev g = s.dev.ident.index →
      let c := closeBuilding b g
      ((∀ st, (s.dev.group g).building = some st → st.toIssue ≠ []) → c = b) ∧
      (∀ st, (s.dev.group g).building = some st → st.toIssue = [] → (c.group g).building = none ∧
        (c.group g).step = if st.issued then st.num else (s.dev.group g).step) ∧
      ((∀ o, (c.group g).opened = some o → c.clk.rootcyc < o.scanAt) → Settles (.stepBuild g away) s c) ∧
      (∀ o, (c.group g).opened = some o → o.scanAt ≤ c.clk.rootcyc →
        let d := wantModels (bringMissing c g) g
        (mayBuild d g = none → Settles (.stepBuild g away) s d) ∧
        (∀ p m, mayBuild d g = some (p, m) → Settles (.stepBuild g away) s (buildStep d g p m)))) ∧
    (∀ c st, Map.find s.dev.inflight i = some c → (s.dev.group c.group).building = some st → c.istate = .reserved → i ∈ st.toIssue →
      cmdReady s.dev c = true → (hotSlotOf s.dev c.group c.model).isSome = true →
      let e := issueCmd s.dev i c st
      Settles (.cmdIssue i) s e ∧
      (st.toIssue.filter (· ≠ i) = [] → (e.group c.group).step = st.num ∧ (e.group c.group).building = none) ∧
      (st.toIssue.filter (· ≠ i) ≠ [] →
        Map.find e.inflight i = some { c with
          istate := .issued, issueTick := s.dev.tick, dueTick := s.dev.tick + odGet s.dev Od.CMD_TIMEOUT_US 0 } ∧
        (∀ j, j ≠ i → Map.find e.inflight j = Map.find s.dev.inflight j) ∧
        Out.cmd (BitVec.ofNat 512 (cmdMessage (tagOf s.dev i c) c.wlAddr c.entries.length c.tile c.group c.partition c.model c.prio.code
          st.num)) ∈ e.out ∧
        (e.group c.group).building = some { st with toIssue := st.toIssue.filter (· ≠ i), issued := true })) ∧
    (∀ c, Map.find s.dev.inflight i = some c →
      (s.dev.group c.group).building = none ∨ c.istate ≠ .reserved ∨ cmdReady s.dev c = false → Settles (.cmdIssue i) s s.dev)

/-- Warm-up, energy correction and switching rates (R165, R190, R198): a loaded model may be taken once
MODEL_WARMUP_US has passed; at each TICK that is a multiple of 100 a group's K moves by a quarter towards the
measured ratio where 1,000 µJ or more were predicted, and the measured rates of moves that were outstanding
throughout take in one sample. That the warm-up counts ROOT cycles of ROOT_MHZ from the response of the load's last
descriptor is log entry 19, where an interval of the rates starts log entry 88, and that the sums of an interval start
anew at each such TICK log entry 145. -/
def Obligations.WarmUpAndMeasuredRates : Prop :=
  ∀ (s : State) (g sl : Nat), fyReady s.dev = true →
    (∀ l t, loadInto s.dev g sl = some l → l.doneCyc = some t →
      (t + odGet s.dev Od.MODEL_WARMUP_US l.version * s.dev.mhz ≤ s.dev.clk.rootcyc → Settles (.modelWarmupDone g sl) s
        (s.dev.modGroup g (fun r => { r with loads := r.loads.filter (fun x => x.slot ≠ sl) }))) ∧
      (s.dev.clk.rootcyc < t + odGet s.dev Od.MODEL_WARMUP_US l.version * s.dev.mhz → Answers (.modelWarmupDone g sl) s s.dev)) ∧
    (s.dev.tick % 100 ≠ 0 → Answers .energyCorrUpdate s s.dev ∧ Answers .switchRateSample s s.dev) ∧
    (s.dev.tick % 100 = 0 →
      (∃ e, Answers .energyCorrUpdate s e ∧ e = { s.dev with groups := e.groups } ∧
        ∀ h r, Map.find s.dev.groups h = some r →
          Map.find e.groups h = some { r with
            k := if r.eRaw < 1000 then r.k else (3 * r.k + max 128 (min 512 (256 * r.eMeas / r.eRaw))) / 4
            eMeas := 0, eRaw := 0 }) ∧
      (∃ e, Answers .switchRateSample s e ∧ e = { s.dev with od := e.od, ctx := e.ctx } ∧
        e.ctx = { s.dev.ctx with moved := (0, 0, 0), busyAll := (false, false, false) } ∧
        (Map.wf s.dev.od = true → odGet e Od.SWITCH_B_DEMOTE_MBPS 0 =
            (if s.dev.ctx.busyAll.1 then (7 * odGet s.dev Od.SWITCH_B_DEMOTE_MBPS 0 + s.dev.ctx.moved.1 / 100) / 8
             else odGet s.dev Od.SWITCH_B_DEMOTE_MBPS 0) ∧
          odGet e Od.SWITCH_B_PROMOTE_MBPS 0 =
            (if s.dev.ctx.busyAll.2.1 then (7 * odGet s.dev Od.SWITCH_B_PROMOTE_MBPS 0 + s.dev.ctx.moved.2.1 / 100) / 8
             else odGet s.dev Od.SWITCH_B_PROMOTE_MBPS 0) ∧
          odGet e Od.SWITCH_B_WEIGHTS_MBPS 0 =
            (if s.dev.ctx.busyAll.2.2 then (7 * odGet s.dev Od.SWITCH_B_WEIGHTS_MBPS 0 + s.dev.ctx.moved.2.2 / 100) / 8
             else odGet s.dev Od.SWITCH_B_WEIGHTS_MBPS 0))))

/-- What tiles return (R44, R45, R181, R187): a record whose tag names no command is counted and has no other effect.
An issued command's COMPLETION is accepted, and fails the command where its check value is wrong; that of a command
whose KILL is out is counted as stale and returns the credit. A KILL_ACK frees the entry, with the credit where the
tile had abandoned the command; a late one ends SUSPECT. A command whose DUE_TICK has passed ends with KCAUSE TIMEOUT,
and one that a KILL does not free becomes ORPHAN, its tile SUSPECT. What a second COMPLETION or a stray KILL_ACK does
is log entry 47; the credits of returns that carry a wrong check value or an unknown OUTCOME are log entry 89. -/
def Obligations.ReturnsEndCommands : Prop :=
  ∀ (s : State), fyReady s.dev = true →
    let d := s.dev
    (∀ b : BitVec 256, byTag d (bf b.toNat 255 224) = none → Answers (.completion b) s (portErr d PERR_DSP_FORMAT)) ∧
    (∀ b : BitVec 128, byTag d (bf b.toNat 127 96) = none → Answers (.killAck b) s (portErr d PERR_DSP_FORMAT)) ∧
    (∀ (b : BitVec 256) i c, byTag d (bf b.toNat 255 224) = some (i, c) → chkOk b.toNat 32 = true →
      (c.istate = .issued → Settles (.completion b) s (acceptCompletion d i c b.toNat)) ∧
      (c.istate = .draining → Answers (.completion b) s d) ∧
      (c.revoked = true → Settles (.completion b) s (returnCredit (portErr d PERR_DSP_STALE) c.tile))) ∧
    (∀ (b : BitVec 256) i c, byTag d (bf b.toNat 255 224) = some (i, c) → chkOk b.toNat 32 = false →
      let e := portErr d PERR_DSP_FORMAT
      (c.istate = .issued → Settles (.completion b) s
        (commandFailed ((returnCredit (bump e Od.DISPATCH_STATS 1) c.tile).modInflight i (fun x => { x with failEntry := 0xFFFF }))
          i 1 (fun _ => true))) ∧
      (c.istate = .draining → Settles (.completion b) s e) ∧
      (c.revoked = true → Settles (.completion b) s (returnCredit e c.tile))) ∧
    (∀ (b : BitVec 128) i c, byTag d (bf b.toNat 127 96) = some (i, c) →
      (chkOk b.toNat 16 = false → Answers (.killAck b) s (portErr d PERR_DSP_FORMAT)) ∧
      (chkOk b.toNat 16 = true → c.revoked = false → Answers (.killAck b) s d) ∧
      (chkOk b.toNat 16 = true → c.istate = .killing →
        let e := if bf b.toNat 83 80 = 0 then returnCredit d c.tile else d
        Settles (.killAck b) s (returned (freeEntry e i) (commandSlots c))) ∧
      (chkOk b.toNat 16 = true → c.istate = .orphan →
        let e := if bf b.toNat 83 80 = 0 then returnCredit d c.tile else d
        Settles (.killAck b) s
          (returned (freeEntry (e.modTile c.tile (fun t => { t with suspect := false })) i) (commandSlots c)))) ∧
    (∀ i c, Map.find d.inflight i = some c →
      (c.istate = .issued ∨ c.istate = .draining → c.dueTick ≤ d.tick →
        Settles (.cmdTimeout i) s (commandFailed (bump d Od.DISPATCH_STATS 3) i 3 (fun _ => true))) ∧
      (c.istate = .killing → c.dueTick ≤ d.tick →
        let e := bump ((d.modInflight i (fun x => { x with istate := .orphan })).modTile c.tile (fun t => { t with suspect := true }))
          Od.DISPATCH_STATS 4
        Settles (.killAckTimeout i) s (alertLog e ALERT_TILE_HUNG c.tile 0 0 (tagOf d i c))) ∧
      (d.tick < c.dueTick → Answers (.cmdTimeout i) s d ∧ Answers (.killAckTimeout i) s d))

/-- Command tags (R176): home slice, in-flight entry and generation stand at [31:27], [26:15] and [14:0]; the
generation is 1 after reset, advances by 1 each time its entry returns to FREE and continues at 1 after 32,767, so
that no tag is 0; two entries never share a tag, and the tag of an entry that returned to FREE names nothing. Every
other entry stays. -/
def Obligations.FreedTagsNameNothing : Prop :=
  (∀ slice i g, slice < 32 → i < 4096 → g < 32768 → let t := mkTag slice i g
    t < 2 ^ 32 ∧ t / 2 ^ 27 = slice ∧ t / 2 ^ 15 % 4096 = i ∧ t % 2 ^ 15 = g ∧ (1 ≤ g → t ≠ 0)) ∧
  (∀ i, islotGen State.reset.dev i = 1) ∧
  (∀ (d : Device) i j c x, i < 4096 → j < 4096 → tagOf d i c = tagOf d j x → i = j) ∧
  (∀ (d : Device) (i : Nat) (c : InFlight), Map.wf d.inflight = true → Map.find d.inflight i = some c →
    let e := freeEntry d i
    Map.find e.inflight i = none ∧ (∀ j, j ≠ i → Map.find e.inflight j = Map.find d.inflight j) ∧
    (i < 4096 → byTag e (tagOf d i c) = none) ∧
    islotGen e i = (if islotGen d i = 32767 then 1 else islotGen d i + 1) ∧ (∀ j, j ≠ i → islotGen e j = islotGen d j) ∧
    (1 ≤ islotGen d i → islotGen d i ≤ 32767 → 1 ≤ islotGen e i ∧ islotGen e i ≤ 32767))

/-- Beats (R48): one whose tag names no command, or a revoked one, is counted as stale and its credit returns; one
that fails a check is counted, its credit returns and the command fails with it; any other is accepted. Which beats
are of wrong form is log entry 49. -/
def Obligations.BeatsAreAcceptedOrCounted : Prop :=
  ∀ (s : State) (h : BitVec 256) (x : BitVec 16384), fyReady s.dev = true →
    (byTag s.dev (Lgi.tag h.toNat) = none → Answers (.lgiBeat h x) s (emit (portErr s.dev PERR_LGI_STALE) (.lgiCredit 1))) ∧
    (∀ i c, byTag s.dev (Lgi.tag h.toNat) = some (i, c) →
      (c.revoked = true → Answers (.lgiBeat h x) s (emit (portErr s.dev PERR_LGI_STALE) (.lgiCredit 1))) ∧
      (c.revoked = false → beatOk s.dev c h.toNat x.toNat = true →
        Settles (.lgiBeat h x) s (acceptBeat s.dev i c h.toNat x.toNat)) ∧
      (c.revoked = false → beatOk s.dev c h.toNat x.toNat = false → Settles (.lgiBeat h x) s
        (commandFailed (emit (portErr s.dev PERR_LGI_FORMAT) (.lgiCredit 1)) i 2 (fun _ => true))))

/-- A position whose logits and inputs are present, and which has not been processed, is processed (R258, R328) by a
usable lane group: its distribution is what its logits, its inputs and its random word give, and with the entry's last
distribution the outcome is ready; no other sequence changes. Before that nothing changes. A lane error or an
uncorrectable table word of the step takes its own course (R304, R375), and a position that draws words of either class
waits while the table is generated, which holds both pipes (R311). Which group serves is open: log entry 23. -/
def Obligations.PositionsAreProcessedOnce : Prop :=
  ∀ (s : State) (slot node : Nat) (q : Seq) (w : Work) (hz : Hazard), fyReady s.dev = true → s.dev.seq? slot = some q →
    q.work = some w →
    let v := vocabOf s.dev q.version
    (positionReady s.dev q w node = false → exec (.samplePosition slot node hz) s = .next s) ∧
    (w.entry.logitMode = 1 → node < w.entry.positions → q.tcb.state.running = true → q.outcome.ready = false →
      Map.find q.dists node = none → q.inputsDue = 0 → q.tailDue = false → blocksIn s.dev w v node LK_LOGITS = true →
      (chainMode q w.entry = true → node ≠ 0 → blocksIn s.dev w v node LK_DRAFT = true) →
      (∀ lg l, hz.lane = some (lg, l) → Settles (.samplePosition slot node hz) s (laneFault s.dev lg l [slot])) ∧
      (hz.lane = none → usableGroups s.dev ≠ [] →
        (drawsWords q w.entry = true → s.dev.clk.tableBusy ≠ none → exec (.samplePosition slot node hz) s = .next s) ∧
        (∀ a, needsTable q w.entry = true → s.dev.clk.tableBusy = none → hz.table = some a →
          Settles (.samplePosition slot node hz) s (tableError s.dev a)) ∧
        ((drawsWords q w.entry = true → s.dev.clk.tableBusy = none) → (needsTable q w.entry = true → hz.table = none) →
          ∃ g ∈ usableGroups s.dev,
          let e := sampleNode s.dev slot q w node g
          exec (.samplePosition slot node hz) s = .next { s with dev := settle s.dev e } ∧
          (∃ p, e.seq? slot = some p ∧ p.outcome.ready = nodesDone p w.entry ∧ Map.find p.dists node = some
            (resolve (posIn s.dev q w.entry node) (exactBlks s.dev w (posIn s.dev q w.entry node) node LK_LOGITS)
              (wordOf s.dev q 1 (yieldPos q w.entry node))).1) ∧
          (∀ r, r ≠ slot → e.seq? r = s.dev.seq? r))))

/-- The digest loop (R265): with every digest and input in and nothing requested yet, the blocks of corrected tokens
are asked for first, or the loop runs; with every requested block in, the loop runs again, and after FALL it resolves
the position. A lane error or an uncorrectable table word of the step takes its own course (R304, R375), and a position
that draws words of either class waits while the table is generated (R311). Which group serves is open: log entry 23. -/
def Obligations.DigestLoopRuns : Prop :=
  ∀ (s : State) (slot : Nat) (q : Seq) (w : Work) (hz : Hazard), fyReady s.dev = true → s.dev.seq? slot = some q →
    q.work = some w →
    (digestReady s.dev q w = false → exec (.digestRound slot hz) s = .next s) ∧
    (2 ≤ w.entry.logitMode → q.tcb.state.running = true → q.outcome.ready = false → q.inputsDue = 0 → q.tailDue = false →
      (∀ b, b < blocksOf (vocabOf s.dev q.version) →
        (digestOf s.dev w (vocabOf s.dev q.version) w.entry.logitMode b).isSome = true) →
      (∀ lg l, hz.lane = some (lg, l) → Settles (.digestRound slot hz) s (laneFault s.dev lg l [slot])) ∧
      (hz.lane = none → drawsWords q w.entry = true → s.dev.clk.tableBusy ≠ none →
        exec (.digestRound slot hz) s = .next s) ∧
      (∀ a, hz.lane = none → needsTable q w.entry = true → s.dev.clk.tableBusy = none → hz.table = some a →
        Settles (.digestRound slot hz) s (tableError s.dev a)) ∧
      (hz.lane = none → (drawsWords q w.entry = true → s.dev.clk.tableBusy = none) →
          (needsTable q w.entry = true → hz.table = none) →
        (∀ x, q.digest = some x →
          let sent : Bool := x.requested.all (fun b => match unitFor s.dev w 0 LK_LOGITS b with | some u => u.complete | none => false)
          let e := digestStep s.dev slot q w x
          (sent = false → exec (.digestRound slot hz) s = .next s) ∧
          (sent = true → exec (.digestRound slot hz) s = .next { s with dev := settle s.dev e } ∧
            (x.fall = true → ∃ p, e.seq? slot = some p ∧ p.outcome.ready = true ∧ p.digest = none))) ∧
        (q.digest = none → usableGroups s.dev ≠ [] → ∃ g ∈ usableGroups s.dev,
          let x : DigestPos := { islot := w.islot, lane := g }
          let bs := sortBy (· ≤ ·) (correctedBlocks q w.entry.newPos)
          let e := requestRound s.dev slot w x bs
          (correctedBlocks q w.entry.newPos = [] →
            exec (.digestRound slot hz) s = .next { s with dev := settle s.dev (digestStep s.dev slot q w x) }) ∧
          (correctedBlocks q w.entry.newPos ≠ [] → exec (.digestRound slot hz) s = .next { s with dev := settle s.dev e } ∧
            ∃ p, e.seq? slot = some p ∧ p.digest = some { x with round := 1, requested := bs }))))

/-- A sequence whose command is complete and whose outcome is ready commits, once its record's delta is free (R184):
class G writes its tokens, pages and record, or ends with NO_VALID_TOKEN, counted, where no token was possible; class
R and E write their stage. The record action of a commit (R184): TOKEN_END rises by the tokens written and the window
ring takes them, each at its position modulo 64; the client is charged for them, in 24 bits that saturate and from the
token grant of a capped client (R134), and no other sequence or client changes. -/
def Obligations.ReadySequencesCommit : Prop :=
  (∀ (s : State) (slot : Nat) (q : Seq), fyReady s.dev = true → s.dev.seq? slot = some q →
      (deltaFree s.dev slot = false ∨ commitReady q = false → Answers (.sequenceCommit slot) s s.dev) ∧
      (deltaFree s.dev slot = true → commitReady q = true →
        (∀ w, q.tcb.cls = .g → q.work = some w →
          (q.outcome.noValid = true → q.outcome.emits = [] →
            Settles (.sequenceCommit slot) s (finishSeq (bump s.dev Od.SAMPLE_STATS 2) slot .noValidToken 3)) ∧
          Settles (.sequenceCommit slot) s (commitGen s.dev slot q w)) ∧
        (q.tcb.cls = .r ∨ q.tcb.cls = .e → Settles (.sequenceCommit slot) s (commitStage s.dev slot q)))) ∧
  (∀ (d : Device) (slot : Nat) (w : WlEntry) (es : List Emit) (q : Seq), d.seq? slot = some q → es ≠ [] → es.length ≤ 64 →
      let e := commitTokens d slot w es
      (∃ p, e.seq? slot = some p ∧ p.tcb = { q.tcb with tokenEnd := q.tcb.tokenEnd + es.length } ∧
        (∀ k, k < es.length → Map.find p.samp.ring ((w.newPos + k) % 64) = (es[k]?).map Emit.token)) ∧
      (∀ r, r ≠ slot → e.seq? r = d.seq? r) ∧
      (e.client q.tcb.client).tokUsed = min (2 ^ 24 - 1) ((d.client q.tcb.client).tokUsed + es.length) ∧
      (e.client q.tcb.client).tokGrant = (if odGetC d Od.CLIENT_MAX_TPS q.tcb.client = 0
        then (d.client q.tcb.client).tokGrant else (d.client q.tcb.client).tokGrant - es.length) ∧
      (∀ c, c ≠ q.tcb.client → e.client c = d.client c))

/-- DRAFT_POST (R37, R322): every post is counted, before FY_READY too. One for a live class G sequence that speculates, of the version and
bank expected, has its bank's header read into a free staging slot; any other is discarded and counted. That the header
is read before the node words, and what becomes of a post that another overtakes, is log entry 94. -/
def Obligations.DraftsAreReadOrDiscarded : Prop :=
  ∀ (s : State) (v : Nat), fyPresent s.dev = true →
    let d := bump s.dev Od.SPEC_STATS 0
    (liveSlot d (bf v 63 32) = none → Settles (.draftPost v) s (bump d Od.SPEC_STATS 1)) ∧
    (∀ slot q, liveSlot d (bf v 63 32) = some slot → d.seq? slot = some q →
      let taken : Bool := mayPost d q && bf v 31 16 = q.spec.dseq && bit v 15 = q.spec.dbank && !q.spec.dvalid && !q.spec.reading
      (taken = false ∨ leastFree (usedStaging d) 4096 = none → Settles (.draftPost v) s (bump d Od.SPEC_STATS 1)) ∧
      (∀ n, leastFree (usedStaging d) 4096 = some n → taken = true → Settles (.draftPost v) s
        (fabiRead (modSpec d slot (fun s => { s with reading := true, readSlot := n })) (.draftBank slot)
          (bankAddr d slot q.spec.dbank) 64)))

/-- Page moves (R54, R225): a status with a wrong check value changes nothing; DONE for no move outstanding changes
nothing, any other status for none is counted; a known move leaves the table, DONE completes it and another status
counts and posts it again or gives it up; what waited then goes on. A status that is discarded without a count is log
entry 50. -/
def Obligations.MoveStatusesActOnTheirMove : Prop :=
  ∀ (s : State) (b : BitVec 128), fyReady s.dev = true →
    let id := bf b.toNat 127 112
    let st := bf b.toNat 111 104
    (chkOk b.toNat 16 = false → Answers (.pgmStatus b) s s.dev) ∧
    (chkOk b.toNat 16 = true → Map.find s.dev.ctx.moves id = none →
      (st = 0 → Answers (.pgmStatus b) s s.dev) ∧ (st ≠ 0 → Answers (.pgmStatus b) s (portErr s.dev PERR_PGM))) ∧
    (∀ m, chkOk b.toNat 16 = true → Map.find s.dev.ctx.moves id = some m →
      let d0 := { s.dev with ctx := { s.dev.ctx with moves := Map.del s.dev.ctx.moves id } }
      let d1 := postWaiting (if st = 0 then moveDone (countMoved d0 m) m else moveError d0 m st)
      let d2 := if (d1.tile m.tile).drainTick.isSome && !m.isWeights then clearTile d1 m.tile else d1
      (m.isWeights = true → Settles (.pgmStatus b) s d2) ∧
      (m.isWeights = false → Settles (.pgmStatus b) s (afterMove (serveFrames d2 m.tile) m.slot)))

/-- Reclamation, the replay area and the mirror (R222, R239 to R241): below CTX_T1_LOW free frames or entries pages
are reclaimed; a sequence that has had no replay block for 10,000 TICK ends with FAULT_PAGE_LOST; a partner's mirror
write is kept, an all-zero one deletes, and is acknowledged; a mirror write without its answer for 10 TICK stops the
mirror, raises MIRROR_LOST and makes the partner suspected (R381). What acknowledges a mirror write is log entry 112. -/
def Obligations.StoresAreReclaimedAndMirrored : Prop :=
  ∀ (s : State) (slot src idx : Nat) (e : BitVec 256), fyReady s.dev = true →
    let d := s.dev
    (t1Below d (odGet d Od.CTX_T1_LOW 0) = false → Answers .ctxReclaim s d) ∧
    (t1Below d (odGet d Od.CTX_T1_LOW 0) = true → Settles .ctxReclaim s
      (wakePages (leafRetry (reclaimLoop d (d.ctx.dir1.length + d.seqs.length))))) ∧
    (∀ q t, d.seq? slot = some q → q.replaySince = some t → q.replay = none →
      (t + 10000 ≤ d.tick → Settles (.replayTimeout slot) s (faultSeq d slot .faultPageLost)) ∧
      (d.tick < t + 10000 → Answers (.replayTimeout slot) s d)) ∧
    (d.ident.n = 32 → src = mirrorPartner d → Answers (.mirrorWrite src idx e) s
      (sendXfer { d with ctx := { d.ctx with mirror := if e = 0 then Map.del d.ctx.mirror idx else Map.put d.ctx.mirror idx e } } src
        (.mirrorAck idx) 32)) ∧
    (d.ident.n ≠ 32 ∨ src ≠ mirrorPartner d → Answers (.mirrorWrite src idx e) s d) ∧
    (d.ctx.mirrorStopped = false → (∃ p ∈ d.ctx.mirrorOut, ∃ w ∈ p.2, w.1 + 10 ≤ d.tick) → Answers .mirrorTimeout s
      (suspectOnce (alertLog { d with ctx := { d.ctx with mirrorStopped := true, mirrorOut := [] } } ALERT_MIRROR_LOST
        (mirrorPartner d) 0 0 0) (mirrorPartner d))) ∧
    (d.ctx.mirrorStopped = true ∨ (∀ p ∈ d.ctx.mirrorOut, ∀ w ∈ p.2, d.tick < w.1 + 10) → Answers .mirrorTimeout s d)

/-- Selections (R277, R289, R346, R360): the oldest unclaimed one claims a bank where its reserve is free; when every
command of its stage has returned, the tombstone lines that its result still depends on are read; then it is
delivered, lists that are missing being asked for once more, with stage blocks of their own (R348), or accepted or fatal
as the plan's policy says. -/
def Obligations.SelectionsAreClaimedAndDelivered : Prop :=
  ∀ (s : State) (slot : Nat) (q : Seq) (x : Selection), fyReady s.dev = true → selFor s.dev slot = some x →
    s.dev.seq? slot = some q →
    (x.claimed = false → claimable s.dev x = true → ∃ e, Settles (.selectionClaim slot) s e ∧
      e = { s.dev with sels := e.sels, od := e.od, snaps := e.snaps } ∧
      selFor e slot = some { x with claimed := true } ∧ ∀ r, r ≠ slot → selFor e r = selFor s.dev r) ∧
    (x.claimed = true ∨ claimable s.dev x = false → Answers (.selectionClaim slot) s s.dev) ∧
    (stageOver s.dev slot q x = false → Answers (.selectionDelivered slot) s s.dev) ∧
    (stageOver s.dev slot q x = true →
      let covered : Bool := Plan.minCoverage (planBits q) ≤ (q.plan.coverage * stageCoverage q) >>> 16
      let late : Bool := !(q.deadline = 0 || 0 ≤ seqSlack s.dev q)
      let more := x.unread (tombBitsOf (epochDesc s.dev q))
      (more ≠ [] → Settles (.selectionDelivered slot) s (readLines (modSel s.dev slot (fun y => { y with held := more })) slot)) ∧
      (more = [] → q.plan.missing = 0 → Settles (.selectionDelivered slot) s (deliver s.dev slot q x)) ∧
      (more = [] → q.plan.missing ≠ 0 → Plan.strict (planBits q) = false → covered = true →
        Settles (.selectionDelivered slot) s (deliver s.dev slot q x)) ∧
      (more = [] → q.plan.missing ≠ 0 → Plan.strict (planBits q) = false → covered = false →
        Settles (.selectionDelivered slot) s (faultSeq s.dev slot .faultTile)) ∧
      (more = [] → q.plan.missing ≠ 0 → Plan.strict (planBits q) = true → q.plan.retryUsed = true ∨ late = true →
        Settles (.selectionDelivered slot) s (faultSeq s.dev slot .faultTile)) ∧
      (more = [] → q.plan.missing ≠ 0 → Plan.strict (planBits q) = true → q.plan.retryUsed = false → late = false →
        let q' : Seq := { q with plan := { q.plan with
          todo := q.plan.missingLists, missingLists := [], missing := 0, retryUsed := true } }
        Settles (.selectionDelivered slot) s
          (writeStageBlocks (bump (s.dev.modSeq slot (fun _ => q')) Od.RANK_STATS 3) slot q' q.plan.missingLists)))

/-- Random words (R51, R52, R311, R312): a request joins the pipe of its class while one of the 64 request credits is
left; with it stands RSTATUS, and the seed of its entry's sequence where it passes every check. A refused one is
counted. Each SCLK one beat leaves: 64 words in ascending order, each computed under that seed, the last one marked and
padded with zeros; the two pipes alternate, and both stand still while the table is generated. A response whose tag is
revoked ends with one beat more, marked as the last, STALE and of zeros (R312). A request that meets an uncorrectable
table word has the table generated again, and is served afterwards (R304). The order of the checks is log entry 53,
entries without a seed log entry 120, the pace of the pipes log entry 62. -/
def Obligations.RandomRequestsAreServed : Prop :=
  (∀ (s : State) (b : BitVec 256) (hz : Hazard), fyReady s.dev = true →
    let r := b.toNat
    let held := s.dev.rns.classT.length + s.dev.rns.classC.length
    let formOk : Bool := chkOk r 32 && Rns.words r ≠ 0 && Rns.words r ≤ 4096 && Rns.rsvd r = 0
    let joins (d : Device) (rstatus seed : Nat) : Prop :=
      let j : RnsJob := { req := b, seed := seed, rstatus := rstatus }
      let pipes := if Rns.cls r = 1 then { d.rns with classC := d.rns.classC ++ [j] } else { d.rns with classT := d.rns.classT ++ [j] }
      exec (.rnsRequest b hz) s = .next { s with dev := { d with rns := pipes } }
    (64 ≤ held → exec (.rnsRequest b hz) s = .next s) ∧
    (∀ a, held < 64 → hz.table = some a → Rns.cls r = 0 → s.dev.clk.tableBusy = none → ∃ e, Answers (.rnsRequest b hz) s e ∧
      e.clk.tableBusy = some (s.dev.clk.rootcyc + 131072) ∧ bit (odGet e Od.ALERT_CAUSE 0) ALERT_RNG_TABLE_ERR = true ∧
      ∃ j : RnsJob, j.req = b ∧ e.rns = { s.dev.rns with classT := s.dev.rns.classT ++ [j] }) ∧
    (held < 64 → hz.table = none ∨ Rns.cls r = 1 ∨ s.dev.clk.tableBusy ≠ none →
      (formOk = false → joins (portErr s.dev PERR_LGI_FORMAT) 3 0) ∧
      (formOk = true → byTag s.dev (Rns.tag r) = none → joins (portErr s.dev PERR_LGI_STALE) 2 0) ∧
      (∀ i c, formOk = true → byTag s.dev (Rns.tag r) = some (i, c) →
        (c.revoked = true ∨ c.istate = .reserved → joins (portErr s.dev PERR_LGI_STALE) 2 0) ∧
        (c.revoked = false → c.istate ≠ .reserved →
          (rnsSeed s.dev c (Rns.entry r) = none → joins (portErr s.dev PERR_LGI_FORMAT) 3 0) ∧
          (∀ seed, rnsSeed s.dev c (Rns.entry r) = some seed →
            (Rns.cls r = 1 → odGet s.dev Od.PARTITION_TABLE (Rns.part r) % 2 = 0 →
              joins (portErr s.dev PERR_RNS_DENIED) 1 0) ∧
            (Rns.cls r = 0 ∨ odGet s.dev Od.PARTITION_TABLE (Rns.part r) % 2 = 1 → joins s.dev 0 seed)))))) ∧
  (∀ (d : Device) (k : Nat),
    (d.clk.tableBusy ≠ none → rnsSclk d k = d) ∧
    (d.clk.tableBusy = none → d.clk.isoN = true →
      let turnC : Bool := !d.rns.classC.isEmpty && (d.rns.readyC || k % 4 = 0) && (d.rns.classT.isEmpty || !d.rns.lastC)
      (d.rns.classT = [] → turnC = false → (rnsSclk d k).out = d.out ∧ (rnsSclk d k).rns.classC = d.rns.classC) ∧
      (∀ j js, (if turnC then d.rns.classC else d.rns.classT) = j :: js →
        let r := j.req.toNat
        let nb := if j.rstatus = 0 then (Rns.words r + 63) / 64 else j.sent + 1
        let word (k : Nat) : BitVec 64 := if j.rstatus ≠ 0 ∨ Rns.words r ≤ k then 0 else
          BitVec.ofNat 64 (randWord (odGet d Od.TABLE_KEY 0) (Rns.cls r) j.seed 0x10 (Rns.position r) (Rns.draw r)
            (Rns.elementBase r + k))
        let e := rnsSclk d k
        e.out = d.out ++ [Out.rnsBeat (Rns.tag r) (Rns.entry r) (decide (nb ≤ j.sent + 1)) j.rstatus
          ((List.range 64).map (fun i => word (64 * j.sent + i)))] ∧
        (if turnC then e.rns.classC else e.rns.classT) = (if nb ≤ j.sent + 1 then js else { j with sent := j.sent + 1 } :: js) ∧
        (if turnC then e.rns.classT else e.rns.classC) = (if turnC then d.rns.classT else d.rns.classC) ∧
        e.rns.lastC = turnC ∧ e = { d with od := e.od, snaps := e.snaps, out := e.out, rns := e.rns }) ∧
      (d.rns.classT ≠ [] → d.rns.classC ≠ [] → d.rns.readyC = true → (rnsSclk d k).rns.lastC = !d.rns.lastC))) ∧
  (∀ (d : Device) (tag : Nat),
    let stopped (j : RnsJob) : RnsJob := if Rns.tag j.req.toNat = tag ∧ j.rstatus = 0 then { j with rstatus := 2 } else j
    (revokeRns d tag).rns = { d.rns with classT := d.rns.classT.map stopped, classC := d.rns.classC.map stopped })

/-- A slice's part in publishing (R356, R358): INSTALL copies the descriptor into the lowest FREE slot and
acknowledges, or refuses; ACTIVATE makes it CURRENT and acknowledges; CANCEL frees it; a RETIRED slot without pins is
freed when its grace has passed. The owner's part in publishing (R356): an acknowledgement from a slice that was
asked is taken off; when the last INSTALL is acknowledged ACTIVATE goes out, when the last ACTIVATE is, the host is
answered; a refusal, an acknowledgement past 10 TICK, or 10 TICK without every acknowledgement, cancels. -/
def Obligations.PublicationsReachEverySlice : Prop :=
  (∀ (s : State) (src pub addr epoch index : Nat) (desc : BitVec 1024), fyReady s.dev = true →
      let free := epochIn s.dev .free (fun _ => true)
      let same := epochIn s.dev .installed (fun x => x.index = bf desc.toNat 991 988)
      (∀ e x, free = some (e, x) → same = none → Answers (.install src pub addr desc) s (sendXfer
        (setEpoch s.dev e { state := .installed, epoch := bf desc.toNat 1023 992, index := bf desc.toNat 991 988, desc := desc, descAddr := addr })
        src (.epochAck pub true) 32)) ∧
      (free = none ∨ same ≠ none → Answers (.install src pub addr desc) s (sendXfer s.dev src (.epochAck pub false) 32)) ∧
      Answers (.activate src pub epoch index) s (sendXfer (activateEpoch s.dev epoch index) src (.epochAck pub true) 32) ∧
      (∀ e x, epochIn s.dev .installed (fun y => y.epoch = epoch && y.index = index) = some (e, x) →
        Answers (.cancel src pub epoch index) s (setEpoch s.dev e {})) ∧
      (epochIn s.dev .installed (fun y => y.epoch = epoch && y.index = index) = none → Answers (.cancel src pub epoch index) s s.dev) ∧
      (∀ e x, s.dev.epochs[e]? = some x →
        (x.state = .retired → epochPins s.dev e = 0 → x.retireTick + odGet s.dev Od.EPOCH_GRACE 0 ≤ s.dev.tick →
          Answers (.epochGraceExpiry e) s (setEpoch s.dev e {})) ∧
        (x.state ≠ .retired ∨ epochPins s.dev e ≠ 0 ∨ s.dev.tick < x.retireTick + odGet s.dev Od.EPOCH_GRACE 0 →
          Answers (.epochGraceExpiry e) s s.dev))) ∧
  (∀ (s : State) (a : EpochAck) (x : Publication), fyReady s.dev = true → pub? s.dev a.pub = some x →
      (a.src ∉ x.awaiting → Answers (.epochTransferAck a) s s.dev) ∧
      (a.src ∈ x.awaiting → x.phase = .installing → a.accepted = false ∨ x.tick + 10 < s.dev.tick →
        Answers (.epochTransferAck a) s (cancelPub s.dev x)) ∧
      (a.src ∈ x.awaiting → x.phase ≠ .installing → a.accepted = false → Answers (.epochTransferAck a) s s.dev) ∧
      (a.src ∈ x.awaiting → a.accepted = true → x.phase ≠ .installing ∨ s.dev.tick ≤ x.tick + 10 →
        let y : Publication := { x with
          awaiting := x.awaiting.filter (· ≠ a.src)
          installed := if x.phase = .installing then x.installed ++ [a.src] else x.installed }
        Answers (.epochTransferAck a) s (advancePub { s.dev with pubs := modFirst (fun p => p.pub = a.pub) (fun _ => y) s.dev.pubs } y)) ∧
      (x.phase = .installing → x.awaiting ≠ [] → x.tick + 10 < s.dev.tick → Answers (.installTimeout a.pub) s (cancelPub s.dev x)) ∧
      (s.dev.tick ≤ x.tick + 10 → Answers (.installTimeout a.pub) s s.dev))

/-- Activation (R356): the installed epoch becomes CURRENT, the one that was CURRENT for the index RETIRED at this
TICK, every other slot stays; where at most one slot of an index was CURRENT, it is so afterwards. -/
def Obligations.ActivationKeepsOneCurrent : Prop :=
  ∀ (d : Device) (epoch index e : Nat) (x : EpochSlot),
    epochIn d .installed (fun y => y.epoch = epoch && y.index = index) = some (e, x) →
    (∀ (f g : Nat) (y z : EpochSlot), d.epochs[f]? = some y → d.epochs[g]? = some z → y.state = .current → z.state = .current → y.index = z.index → f = g) →
    let t := activateEpoch d epoch index
    t.epochs[e]? = some { x with state := .current } ∧
    (∀ (f : Nat) (y : EpochSlot), f ≠ e → d.epochs[f]? = some y → t.epochs[f]? = some
      (if y.state = .current ∧ y.index = index then { y with state := .retired, retireTick := d.tick } else y)) ∧
    (∀ (f g : Nat) (y z : EpochSlot), t.epochs[f]? = some y → t.epochs[g]? = some z → y.state = .current → z.state = .current → y.index = z.index → f = g)

/-- Parity (R378, R379): a delta for a stripe held here is folded in once and acknowledged; the same delta again is
only acknowledged. The acknowledgement of the delta outstanding frees its buffer, ships what waited for it, sends what
gathered meanwhile and answers what waited for the parity to be complete; that of a removal ends the removal. A slice that leaves a transfer without an acknowledgement
for 10 TICK is suspected (R381): it is named, logged, and sent again what is late; nothing happens where nothing is
late. Which transfers are not sent again is log entry 22. -/
def Obligations.ParityDeltasAreAppliedOnce : Prop :=
  (∀ (s : State) (p : ParityDelta), fyReady s.dev = true →
      let d := s.dev
      let key := p.slot % 8192
      let old := Map.getD d.faults.parity key {}
      let ack (d : Device) : Device := sendXfer d p.src (.parityAck p.member p.slot p.updNo) 32
      (holdsParity d p.member p.slot = false → Answers (.parityDelta p) s d) ∧
      (holdsParity d p.member p.slot = true → Map.find old.applied p.member = some p.updNo → Answers (.parityDelta p) s (ack d)) ∧
      (holdsParity d p.member p.slot = true → Map.find old.applied p.member ≠ some p.updNo →
        ∃ e, Answers (.parityDelta p) s (ack e) ∧ e = { d with faults := { d.faults with parity := e.faults.parity } } ∧
          Map.find e.faults.parity key = some
            { record := old.record ^^^ p.record, timers := old.timers ^^^ p.timers, applied := Map.put old.applied p.member p.updNo } ∧
          (∀ k, k ≠ key → Map.find e.faults.parity k = Map.find d.faults.parity k) ∧
          Answers (.parityDelta p) { s with dev := ack e } (ack (ack e))) ∧
      (∀ member slot n, member ≠ d.ident.index → Answers (.parityAck member slot n) s
        (d.modFaults (fun f => { f with
          removals := f.removals.filter (fun r => !(r.2.member = member && r.2.slot = slot && r.2.updNo = n)) }))) ∧
      (∀ slot n r t, (deltaBuf d slot).sent = some (n, r, t) →
        let f := { d with faults := { d.faults with refreshing := d.faults.refreshing.filter (· ≠ slot) } }
        Answers (.parityAck d.ident.index slot n) s (answerAsks
          (sendWaiting (shipAcks (sendDelta (shipGated (modDelta f slot (fun b => { b with sent := none })) slot n) slot) slot)))) ∧
      (∀ slot n, (deltaBuf d slot).sent = none → Answers (.parityAck d.ident.index slot n) s d) ∧
      (∀ slot n m r t, (deltaBuf d slot).sent = some (m, r, t) → m ≠ n → Answers (.parityAck d.ident.index slot n) s d)) ∧
  (∀ (s : State) (k : Nat), fyReady s.dev = true → k ≠ s.dev.ident.index → bit (odGet s.dev Od.SLICE_ONLINE 0) k = true →
      (lateDeltas s.dev k = [] → lateRemovals s.dev k = [] → lateCmds s.dev k = [] → lateSends s.dev k = [] →
        lateErrors s.dev k = [] → latePubs s.dev k = [] → lateOnce s.dev k = false → Answers (.sliceSuspect k) s s.dev) ∧
      (lateDeltas s.dev k ≠ [] ∨ lateRemovals s.dev k ≠ [] ∨ lateCmds s.dev k ≠ [] ∨ lateSends s.dev k ≠ [] ∨
          lateErrors s.dev k ≠ [] ∨ latePubs s.dev k ≠ [] ∨ lateOnce s.dev k = true →
        ∃ e, Answers (.sliceSuspect k) s e ∧ k ∈ e.faults.suspects ∧
          (∀ slot n r t, slot ∈ lateDeltas s.dev k → (deltaBuf s.dev slot).sent = some (n, r, t) →
            let p : ParityDelta :=
              { src := s.dev.ident.index, member := s.dev.ident.index, slot := slot, updNo := n, record := r, timers := t }
            e.sends (parityHolder s.dev slot) (.parityDelta p)) ∧
          (∀ r ∈ lateRemovals s.dev k, e.sends k (.parityDelta r)) ∧
          (∀ f ∈ lateCmds s.dev k, e.sends k (.hostCmd f.cmd)) ∧
          (∀ u ∈ lateErrors s.dev k, e.sends k u.2.2) ∧ e.seqs = s.dev.seqs))

/-- Rebuilding (R383, R384): a stripe still to be adopted is adopted where a slot and a group are to be had, else its
END is sent; either way the lost member is taken out of the parity. An empty stripe needs no more; one that has lost two
members raises REBUILD_FAULT and is lost for each lost member of its group (R382, R383). A pair of handles moves what the
owner keeps to the new one; the end of a pair takes it out of the table (R384); what the message tells besides, of a
group, a lost flow or stripes lost twice, is log entry 136. Ring pairs and borrowed frames between slices (R387, R393): a
slice that enables a pair owns it here, and the ENDs that waited go to it; a slice that asks for frames is answered once
what it needs from this slice has reached it, an answer replaces what was held for its slice, and the custodian of a lost
slice's pool records the frames released. When a question is answered is log entry 153; a later answer replaces an
earlier one: log entry 46; the form of the last message is log entry 134. -/
def Obligations.RebuiltStripesFindTheirPlace : Prop :=
  (∀ (s : State) (r : StripeRead) (lost old new : Nat), fyReady s.dev = true →
      ((r.lost, r.stripe) ∉ s.dev.faults.toAdopt → Answers (.rebuildStripe r) s s.dev) ∧
      ((r.lost, r.stripe) ∈ s.dev.faults.toAdopt →
        let x := rebuiltRecord s.dev r
        let t := rebuiltTimers s.dev r
        let d := { s.dev with faults := { s.dev.faults with toAdopt := s.dev.faults.toAdopt.filter (· ≠ (r.lost, r.stripe)) } }
        (r.twice = true → Settles (.rebuildStripe r) s
          ((d.faults.lost.filter (fun k => k / 8 = r.lost / 8)).foldl (fun d k => twiceLost d k [r.stripe])
            (alertLog d ALERT_REBUILD_FAULT r.lost 0 0 0))) ∧
        (r.twice = false → bf x.toNat 479 472 = 0 → Settles (.rebuildStripe r) s d) ∧
        (r.twice = false → bf x.toNat 479 472 ≠ 0 →
          let e := removeMember d r x t
          (∀ slot g, allocSlot e = some slot → adoptGroup e r.extra.version = some g →
            Settles (.rebuildStripe r) s (adoptStripe e r x.toNat t.toNat slot g)) ∧
          (allocSlot e = none ∨ adoptGroup e r.extra.version = none →
            Settles (.rebuildStripe r) s (endStripe e x.toNat r.extra.owner)))) ∧
      (new ≠ 0 → old ≠ new →
        (s.dev.faults.forwards.length < 262144 → ∃ e, Settles (.forwardPair lost old new) s e ∧
          e.faults.forwards = s.dev.faults.forwards.filter (fun y => y.2.1 ≠ old) ++ [(lost, old, new)] ∧
          (∀ o, Map.find s.dev.turn.owned old = some o → Map.find e.turn.owned new = some o ∧
            ∀ g, ∃ f, Settles (.forwardPair lost old new (.group g)) s f ∧ Map.find f.turn.owned new = some { o with group := g }) ∧
          e.seqs = s.dev.seqs) ∧
        (262144 ≤ s.dev.faults.forwards.length → ∃ e, Settles (.forwardPair lost old new) s e ∧
          e.faults.forwards = s.dev.faults.forwards ∧ ∀ c ∈ e.faults.heldCmds, c.handle ≠ old)) ∧
      (∃ e, Settles (.forwardPair lost old 0) s e ∧ e.faults.forwards = s.dev.faults.forwards.filter (fun y => y.2.1 ≠ old) ∧
        ∀ c ∈ e.faults.heldCmds, c.handle ≠ old) ∧
      (old ≠ 0 → Settles (.forwardPair lost old old) s s.dev) ∧
      (∀ slot q, liveSlot s.dev new = some slot → s.dev.seq? slot = some q →
        ∃ e, Settles (.forwardPair lost old new .noFlow) s e ∧ e.seq? slot = some { q with tcb := { q.tcb with flow := none } } ∧
          ∀ r, r ≠ slot → e.seq? r = s.dev.seq? r) ∧
      (∀ js, Settles (.forwardPair lost old new (.lostStripes js)) s (stripesLost s.dev lost js.contains))) ∧
  (∀ (s : State) (p k : Nat) (frames : List Nat), fyReady s.dev = true →
      (k ∉ s.dev.faults.lost → ∃ e, Settles (.ownershipAnnouncement p k) s e ∧ (e.ring p).owner = some k ∧
        (∀ c ∈ e.faults.orphanEnds, c.ring ≠ p) ∧
        (∀ c ∈ s.dev.faults.orphanEnds, c.ring = p → c.ctype = CT_END → e.sends k (.endC c)) ∧
        (∀ r, r ≠ p → e.ring r = s.dev.ring r)) ∧
      (s.dev.ctx.asks = [] →
        (askReady s.dev k = true → Answers (.frameRequest (.ask k)) s (sendXfer s.dev k (.frameAnswer (borrowedFrom s.dev k)) 512)) ∧
        (askReady s.dev k = false → Answers (.frameRequest (.ask k)) s
          { s.dev with ctx := { s.dev.ctx with asks := [k] } })) ∧
      Answers (.frameRequest (.answer k frames)) s { s.dev with ctx := { s.dev.ctx with
        asked := s.dev.ctx.asked.filter (· ≠ k)
        lent := if frames.isEmpty then Map.del s.dev.ctx.lent k else Map.put s.dev.ctx.lent k frames } } ∧
      (let mine : Bool := s.dev.ident.n = 32 && k = mirrorPartner s.dev && s.dev.faults.lost.contains k
       Answers (.frameRequest (.released k frames)) s (if mine then { s.dev with ctx := { s.dev.ctx with
         custody := Map.put s.dev.ctx.custody k ((Map.getD s.dev.ctx.custody k [] ++ frames).dedup) } } else s.dev)))

/-- Words of the grotto (R370 to R374): a clean word changes nothing; a corrected one is counted, and its row is
retired where the same word erred a scrub period ago, while a spare is left, else it stays; an uncorrectable one is
counted, raises ECC_UE, logged with the sequence it concerns, and is handled by what it held. ECC_CE_RATE is raised
once in a window, when its count passes ECC_CE_LIMIT; at the end of a window the count starts again. That it is raised
once in a window is log entry 106, the HANDLE and STATUS that are logged log entry 119. -/
def Obligations.GrottoErrorsAreHandled : Prop :=
  ∀ (s : State) (a : Nat) (loc : GrottoLoc), fyReady s.dev = true →
    let h := wordHandle s.dev loc
    let seen := Map.find s.dev.faults.eccSeen a
    Answers (.scrub a loc .clean) s s.dev ∧
    Settles (.scrub a loc .uncorrectable) s
      (wordLost (noteLost (alertLog (bump s.dev Od.FAULT_STATS 1) ALERT_ECC_UE a h.1 h.2 0) a loc) a loc) ∧
    (s.dev.tick / 100000 = s.dev.faults.ceWindow → ∃ e, Answers (.scrub a loc .correctable) s e ∧
      e.faults.ceCount = s.dev.faults.ceCount + 1 ∧ e.seqs = s.dev.seqs ∧
      (∀ t, seen = some t → t + 2 ^ 32 ≤ s.dev.clk.rootcyc → s.dev.clk.spareRows ≠ 0 →
        e.clk = { s.dev.clk with spareRows := s.dev.clk.spareRows - 1 } ∧ Map.find e.faults.eccSeen a = none) ∧
      (∀ t, seen = some t → t + 2 ^ 32 ≤ s.dev.clk.rootcyc → s.dev.clk.spareRows = 0 →
        e.clk = s.dev.clk ∧ a / 512 ∈ e.faults.stayed) ∧
      (∀ t, seen = some t → s.dev.clk.rootcyc < t + 2 ^ 32 → e.clk = s.dev.clk ∧ e.faults.eccSeen = s.dev.faults.eccSeen) ∧
      (seen = none → e.clk = s.dev.clk ∧ Map.find e.faults.eccSeen a = some s.dev.clk.rootcyc) ∧
      (odGet s.dev Od.ECC_CE_LIMIT 0 < s.dev.faults.ceCount + 1 → s.dev.faults.ceRaised = false →
        bit (odGet e Od.ALERT_CAUSE 0) ALERT_ECC_CE_RATE = true ∧ e.faults.ceRaised = true)) ∧
    (s.dev.tick / 100000 = s.dev.faults.ceWindow → Answers .eccCeWindow s s.dev) ∧
    (s.dev.tick / 100000 ≠ s.dev.faults.ceWindow → ∃ e, Answers .eccCeWindow s e ∧
      e.faults.ceCount = 0 ∧ e.faults.ceRaised = false ∧ e.faults.ceWindow = s.dev.tick / 100000 ∧ e.seqs = s.dev.seqs)

/-- Lane groups (R375, R376, R407): a lane that fails a check is retired and what it may have touched is withdrawn;
its place goes to a spare of its group while one is left, and a slice whose groups are all closed lowers FY_READY. A
group that issued nothing for 8,192 ROOT cycles is gated; one group ungates at a time, the lowest first of those that
wait, and serves again after 128 ROOT cycles. That an ungated group counts as just used is log entry 92. -/
def Obligations.LaneGroupsServeAndRest : Prop :=
  ∀ (s : State) (g l : Nat) (grp : LaneGroup), fyReady s.dev = true → s.dev.lanes[g]? = some grp →
    Settles (.lanePatrol [(g, l)]) s (laneFault s.dev g l []) ∧
    (grp.retired = [] → ∃ e, Answers (.laneSubstitution g) s e ∧ e.lanes = s.dev.lanes) ∧
    (∀ r rs, grp.retired = r :: rs → ∃ e, Answers (.laneSubstitution g) s e ∧
      e.lanes[g]? = some { grp with
        retired := rs, spares := grp.spares - 1, active := if 0 < grp.spares then grp.active + 1 else grp.active } ∧
      (∀ h, h ≠ g → e.lanes[h]? = s.dev.lanes[h]?) ∧
      e.clk.ready = (s.dev.clk.ready && !e.lanes.all (fun x => x.active = 0))) ∧
    (let x : LaneGroup := if grp.gate = .on ∧ grp.lastIssue + 8192 ≤ s.dev.clk.rootcyc then { grp with gate := .gated } else grp
     Answers (.laneGroupGate g) s { s.dev with lanes := s.dev.lanes.set g x }) ∧
    (grp.gate = .gated → grp.active ≠ 0 →
      ((∀ x ∈ s.dev.lanes, ∀ t, x.gate ≠ .ungating t) → (∀ h x, h < g → s.dev.lanes[h]? = some x → x.gate ≠ .waiting) →
        Answers (.laneGroupUngate g) s { s.dev with
          lanes := s.dev.lanes.set g { grp with gate := .ungating s.dev.clk.rootcyc } }) ∧
      ((∃ x ∈ s.dev.lanes, ∃ t, x.gate = .ungating t) →
        Answers (.laneGroupUngate g) s { s.dev with lanes := s.dev.lanes.set g { grp with gate := .waiting } })) ∧
    (∀ t, grp.gate = .ungating t → (ungateDone s.dev).lanes[g]? = some
      (if t + 128 ≤ s.dev.clk.rootcyc then { grp with gate := .on, lastIssue := s.dev.clk.rootcyc } else grp))

/-- Budget records and telemetry (R56 to R59, R406): a record with a wrong check value or the SEQ of the last is
discarded, any other is taken and ends staleness; PWR_STALE_LIMIT intervals of 100 TICK without one raise PWR_STALE
once. In an interval of 100 TICK one telemetry record is sent, by a slice that is present (Table 2.9), the interval's sums start again, and D follows the
power within 64 to 256. That one telemetry record leaves in each interval of 100 TICK but the first is log entry 52; the
figures before any record are log entry 24, that staleness counts from TICK 0 log entry 27, SEQ_ECHO before any record log
entry 141. -/
def Obligations.BudgetsAndTelemetryFollowTheirIntervals : Prop :=
  (∀ (s : State) (b : BitVec 256), fyPresent s.dev = true →
    let d := s.dev
    let repeated : Bool := match d.power.budget with | some x => x.seq = Pwr.seq b.toNat | none => false
    (chkOk b.toNat 32 = false ∨ repeated = true → Answers (.budgetRecord b) s d) ∧
    (chkOk b.toNat 32 = true → repeated = false → Answers (.budgetRecord b) s { d with power := { d.power with
      budget := some { seq := Pwr.seq b.toNat, dieMw := Pwr.dieMw b.toNat, fyMw := Pwr.fyMw b.toNat, headroom := Pwr.headroom b.toNat,
                       tempMax := Pwr.tempMax b.toNat }
      acceptTick := d.tick, stale := false } })) ∧
  (∀ (s : State), fyPresent s.dev = true →
    let d := s.dev
    (d.power.stale = true ∨ d.tick < d.power.acceptTick + 100 * odGet d Od.PWR_STALE_LIMIT 0 → Answers .pwrStale s d) ∧
    (d.power.stale = false → d.power.acceptTick + 100 * odGet d Od.PWR_STALE_LIMIT 0 ≤ d.tick → Answers .pwrStale s
      (raiseVector (alertLog { d with power := { d.power with stale := true } } ALERT_PWR_STALE 0 0 0 0) 7))) ∧
  (∀ (s : State) (p busy : Nat), fyPresent s.dev = true →
    let d := s.dev
    (d.tick / 100 = d.power.teleRound → Answers (.telemetry p busy) s d) ∧
    (d.tick / 100 ≠ d.power.teleRound → ∃ e, Answers (.telemetry p busy) s e ∧
      e = { d with clk := { d.clk with duty := nextDuty d.clk.duty p (fyBudget d) }, power := e.power, out := e.out } ∧
      e.out = d.out ++ [.telemetry (BitVec.ofNat 256 (telemetryRecord d p busy))] ∧
      e.power.laneFj = 0 ∧ e.power.stepEstUj = 0 ∧ e.power.teleRound = d.tick / 100 ∧
      (64 ≤ d.clk.duty → d.clk.duty ≤ 256 → 64 ≤ e.clk.duty ∧ e.clk.duty ≤ 256) ∧
      Answers (.telemetry p busy) { s with dev := e } e))

/-- A step with a command at the front of the queue is that command's meaning on the slice with the queue's rest. That
the slice takes its commands from a queue, first in, first out, is the model's choice, log entries 2 and 8. -/
def Obligations.StepRunsFront : Prop :=
  ∀ (c : Instr) (s : State), step { s with pending := c :: s.pending } = exec c s

/-- With an empty queue a step lets 64 cycles of ROOT pass, which are 16 SCLK and one decision slot. Building steps whose
last commands have been withdrawn go on first (R145), and a request that waits in the mailbox is served in its turn
(R449); at a new TICK the context store notes which of its moves were outstanding (R190), a lane group that has ungated
serves again and the next one ungates (R407), the port of random words sends its beats (R52), and what waits for a
decision begins it (R80, R121). Where nothing of that waits nothing else changes; a slice that is held in reset stays as
it is. The model's choice, log entry 2; what goes on first, log entries 147 and 151. -/
def Obligations.IdleStepPassesTime : Prop :=
  ∀ (s : State), s.pending = [] →
    (s.dev.clk.phase = .held → step s = .next s) ∧
    (s.dev.clk.phase ≠ .held →
      let d := settle s.dev (mbRun (closeSteps s.dev))
      ((∀ p ∈ s.dev.groups, ∀ st, p.2.building = some st → st.toIssue ≠ []) → s.dev.mgmt.mbWaits = false → d = s.dev) ∧
      ∃ e : Device, e = { d with clk := { d.clk with rootcyc := (d.clk.rootcyc + 64) % 2 ^ 64 }, ctx := e.ctx } ∧
        e.ctx = { d.ctx with busyAll := e.ctx.busyAll } ∧ (e.tick = d.tick → e.ctx = d.ctx) ∧
        step s = .next { s with dev := startBehind (startGranted ((List.range 16).foldl rnsSclk (ungateDone e))) } ∧
        ((∀ l ∈ d.lanes, l.gate = .on ∨ l.gate = .gated) → d.rns.classT = [] → d.rns.classC = [] → d.turn.behind = [] →
          (∀ x ∈ d.turn.decisions, x.phase ≠ .granted) → step s = .next { s with dev := e }))

/-- The slice right after reset has the invariant of every step. What the spec gives no reset value for stands in log
entries 1 and 26. -/
def Obligations.ResetIsSound : Prop :=
  State.reset.dev.Sound ∧ State.reset.pending = []

/-- Every step keeps the invariant: legal place and levels, counters within their widths, tables and window in
canonical form, at most 512 FAB_I accesses outstanding (R38), at most 131,072 trace records (R436), move descriptors
0 to 1,023 (R55). -/
def Obligations.EveryStepKeepsSound : Prop :=
  ∀ (s t : State), s.dev.Sound → step s = .next t → t.dev.Sound

/-- No command stops: on a sound slice each answers a next state, whatever its operands. Only resets, isolation,
rails and start-up move the levels, the phase and FY_PRESENT; another command may lower FY_READY and never raises it
(R62, R408 to R411). FY_READY rises only by the final checks of a start-up that has reached them, once their time has
passed (R411). -/
def Obligations.OnlyBringUpMovesLevels : Prop :=
  (∀ (c : Instr) (s : State), s.dev.Sound → ∃ t, exec c s = .next t ∧ t.pending = s.pending ∧ t.dev.ident = s.dev.ident) ∧
  (∀ (c : Instr) (s t : State), bringUp c = false → s.dev.Sound → exec c s = .next t →
      t.dev.clk.porstN = s.dev.clk.porstN ∧ t.dev.clk.wrstN = s.dev.clk.wrstN ∧ t.dev.clk.srstN = s.dev.clk.srstN ∧
      t.dev.clk.isoN = s.dev.clk.isoN ∧ t.dev.clk.rootLock = s.dev.clk.rootLock ∧ t.dev.clk.phase = s.dev.clk.phase ∧
      t.dev.clk.present = s.dev.clk.present ∧ (t.dev.clk.ready = true → s.dev.clk.ready = true)) ∧
  (∀ (c : Instr) (s t : State), s.dev.Sound → exec c s = .next t → s.dev.clk.ready = false → t.dev.clk.ready = true →
      c = .finalChecks ∧ s.dev.clk.phase = .final ∧ s.dev.clk.phaseCyc + 5400 ≤ s.dev.clk.rootcyc)

/-- Before FY_READY, and while the slice is isolated, none of its work takes place (R62, R67): each of these commands
leaves the slice as it is. That isolation holds its work back is the model's choice, log entry 154. -/
def Obligations.WorkWaitsForReady : Prop :=
  ∀ (c : Instr) (s : State), worksWhenReady c = true → fyReady s.dev = false → exec c s = .next s

/-- A freed slot (R105): it is FREE, its timer A is armed with QUARANTINE for 2,048 TICK, and its generation
advances. A quarantined slot is not allocated; the expiry does nothing before DUE and ends the quarantine from DUE
on, once no other timer is due before it (R115). -/
def Obligations.FreedSlotsAreQuarantined : Prop :=
  (∀ (d : Device) (slot : Nat) (q : Seq), Map.wf d.seqs = true → d.seq? slot = some q →
    let e := freeSlot d slot
    e.seq? slot = none ∧ (timerOf e slot false).map (fun t => (t.due, t.kind)) = some (d.tick + 2048, TK_QUARANTINE) ∧
    quarantined e slot = true ∧
    slotGen e slot = (if slotGen d slot = 2047 then 1 else slotGen d slot + 1) ∧ ∀ r, r ≠ slot → e.seq? r = d.seq? r) ∧
  (∀ (d : Device) (slot : Nat), quarantined d slot = true → allocSlot d ≠ some slot) ∧
  (∀ (s : State) (slot : Nat) (t : Timer), fyReady s.dev = true → Map.wf s.dev.timers = true → timerOf s.dev slot false = some t →
    t.kind = TK_QUARANTINE →
    (s.dev.tick < t.due → Answers (.quarantineExpiry slot) s s.dev) ∧
    (t.due ≤ s.dev.tick → (∀ p ∈ s.dev.timers, t.due ≤ p.2.due) →
      ∃ e, Settles (.quarantineExpiry slot) s e ∧ timerOf e slot false = none ∧ quarantined e slot = false ∧
      e.seqs = s.dev.seqs))
end

