-- ==== Sys2Proof/Laws/Map.lean ====
section
/-! SUPPORT. Tables and the export window: reads after writes, and that every operation keeps the canonical form. -/

namespace Sys2Proof.Machine

/-! ### Reads after writes -/

theorem Map.find_put {α : Type} (m : Map α) (k j : Nat) (a : α) :
    Map.find (Map.put m k a) j = if j = k then some a else Map.find m j := by
  fun_induction Map.put m k a <;> grind [Map.find]

theorem Map.find_put_same {α : Type} (m : Map α) (k : Nat) (a : α) : Map.find (Map.put m k a) k = some a := by
  rw [Map.find_put, if_pos rfl]

theorem Map.find_put_ne {α : Type} (m : Map α) {k j : Nat} (a : α) (h : j ≠ k) :
    Map.find (Map.put m k a) j = Map.find m j := by
  rw [Map.find_put, if_neg h]

theorem Map.find_del_ne {α : Type} (m : Map α) {k j : Nat} (h : j ≠ k) : Map.find (Map.del m k) j = Map.find m j := by
  fun_induction Map.del m k <;> grind [Map.find]

/-! ### Canonical form -/

/-- Keys rise from each entry to every later one. -/
theorem Map.wf_pairwise {α : Type} (m : Map α) : Map.wf m = true ↔ m.Pairwise (fun p q => p.1 < q.1) := by
  fun_induction Map.wf m <;> grind [List.pairwise_cons]

@[simp] theorem Map.wf_nil {α : Type} : Map.wf ([] : Map α) = true := rfl

theorem Map.mem_put {α : Type} {m : Map α} {k : Nat} {a : α} {p : Nat × α} (h : p ∈ Map.put m k a) :
    p = (k, a) ∨ p ∈ m := by
  fun_induction Map.put m k a <;> grind

theorem Map.mem_del {α : Type} {m : Map α} {k : Nat} {p : Nat × α} (h : p ∈ Map.del m k) : p ∈ m := by
  fun_induction Map.del m k <;> grind

theorem Map.wf_put {α : Type} {m : Map α} (k : Nat) (a : α) (h : Map.wf m = true) : Map.wf (Map.put m k a) = true := by
  rw [Map.wf_pairwise] at *
  fun_induction Map.put m k a <;> grind [List.pairwise_cons, → Map.mem_put]

theorem Map.wf_del {α : Type} {m : Map α} (k : Nat) (h : Map.wf m = true) : Map.wf (Map.del m k) = true := by
  rw [Map.wf_pairwise] at *
  fun_induction Map.del m k <;> grind [List.pairwise_cons, → Map.mem_del]

theorem Map.wf_mod {α : Type} {m : Map α} (k : Nat) (f : α → α) (h : Map.wf m = true) :
    Map.wf (Map.mod m k f) = true := by
  grind [Map.mod, Map.wf_put]

theorem Map.wf_set {α : Type} {m : Map α} (k : Nat) (o : Option α) (h : Map.wf m = true) :
    Map.wf (Map.set m k o) = true :=
  match o with
  | none => Map.wf_del k h
  | some a => Map.wf_put k a h

theorem Map.wf_filter {α : Type} {m : Map α} (p : Nat × α → Bool) (h : Map.wf m = true) :
    Map.wf (m.filter p) = true :=
  (Map.wf_pairwise _).mpr (((Map.wf_pairwise m).mp h).filter p)

/-- Values may change, keys stay. -/
theorem Map.wf_map {α β : Type} {m : Map α} (f : Nat × α → Nat × β) (hf : ∀ p, (f p).1 = p.1) (h : Map.wf m = true) :
    Map.wf (m.map f : Map β) = true := by
  rw [Map.wf_pairwise, List.pairwise_map]
  simpa only [hf] using (Map.wf_pairwise m).mp h

/-- The table of a function over rising numbers. -/
theorem Map.wf_range {α : Type} (n : Nat) (g : Nat → α) : Map.wf ((List.range n).map (fun c => (c, g c))) = true := by
  rw [Map.wf_pairwise, List.pairwise_map]
  exact List.pairwise_lt_range

theorem Map.mem_of_find {α : Type} {m : Map α} {k : Nat} {a : α} (h : Map.find m k = some a) : (k, a) ∈ m := by
  fun_induction Map.find m k <;> grind

theorem Map.find_del_same {α : Type} {m : Map α} (k : Nat) (h : Map.wf m = true) : Map.find (Map.del m k) k = none := by
  rw [Map.wf_pairwise] at h
  fun_induction Map.del m k with
  | case1 => rfl
  | case2 b m =>
    exact Option.eq_none_iff_forall_ne_some.mpr fun _ ha =>
      absurd ((List.pairwise_cons.mp h).1 _ (Map.mem_of_find ha)) (Nat.lt_irrefl _)
  | case3 => grind [Map.find, List.pairwise_cons]

/-- A table in canonical form holds exactly what it reads. -/
theorem Map.mem_iff {α : Type} {m : Map α} (h : Map.wf m = true) (p : Nat × α) : p ∈ m ↔ Map.find m p.1 = some p.2 := by
  rw [Map.wf_pairwise] at h
  obtain ⟨k, a⟩ := p
  fun_induction Map.find m k <;> grind [List.pairwise_cons]

/-- Two tables in canonical form with the same reads are the same table. -/
theorem Map.ext {α : Type} {m n : Map α} (hm : Map.wf m = true) (hn : Map.wf n = true)
    (h : ∀ k, Map.find m k = Map.find n k) : m = n := by
  have same (p : Nat × α) : p ∈ m ↔ p ∈ n := by rw [Map.mem_iff hm, Map.mem_iff hn, h]
  rw [Map.wf_pairwise] at hm hn
  have nodup {l : Map α} (hl : l.Pairwise (fun p q => p.1 < q.1)) : l.Nodup := hl.imp (fun hlt he => by simp [he] at hlt)
  exact ((List.perm_ext_iff_of_nodup (nodup hm) (nodup hn)).mpr same).eq_of_pairwise
    (fun _ _ _ _ hab hba => absurd hab (Nat.lt_asymm hba)) hm hn

/-! ### The export window -/

theorem Memory.read_write_same {m : Memory} (a : Nat) (b : Byte) (h : Map.wf m = true) :
    Memory.read (Memory.write m a b) a = b := by
  grind [Memory.read, Memory.write, Map.getD, Map.find_del_same, Map.find_put_same]

theorem Memory.read_write_ne (m : Memory) {a c : Nat} (b : Byte) (h : c ≠ a) :
    Memory.read (Memory.write m a b) c = Memory.read m c := by
  grind [Memory.read, Memory.write, Map.getD, Map.find_del_ne, Map.find_put_ne]

theorem Memory.wf_iff (m : Memory) : Memory.wf m = true ↔ Map.wf m = true ∧ ∀ p ∈ m, p.2 ≠ 0 := by
  simp [Memory.wf]

theorem Memory.wf_write {m : Memory} (a : Nat) (b : Byte) (h : Memory.wf m = true) :
    Memory.wf (Memory.write m a b) = true := by
  grind [Memory.wf_iff, Memory.write, Map.wf_del, Map.wf_put, → Map.mem_put, → Map.mem_del]

theorem Memory.wf_writeBytes {m : Memory} (a : Nat) (bs : List Byte) (h : Memory.wf m = true) :
    Memory.wf (Memory.writeBytes m a bs) = true := by
  fun_induction Memory.writeBytes m a bs <;> grind [Memory.wf_write]

/-- A byte outside those written reads as before. -/
theorem Memory.read_writeBytes_outside (m : Memory) (a c : Nat) (bs : List Byte) (h : c < a ∨ a + bs.length ≤ c) :
    Memory.read (Memory.writeBytes m a bs) c = Memory.read m c := by
  fun_induction Memory.writeBytes m a bs <;> grind [Memory.read_write_ne]

/-- The window of a slice after reset. -/
theorem Memory.wf_empty : Memory.wf ([] : Memory) = true := rfl

end Sys2Proof.Machine
end

