-- ==== Sys2Proof/Laws/Kept.lean ====
section
/-! SUPPORT. What every operation but the resets and the phases of start-up keeps: the slice's place, its levels and
phase, that FY_READY does not rise, and the invariant `Device.Sound`. The files beside this one give one lemma for each
operation of the model. -/

set_option Elab.async false

namespace Sys2Proof.Machine

/-- The clock unit: levels and phase stand, FY_READY does not rise, and the counters stay in their widths. -/
structure Clk.Kept (c0 c : Clk) : Prop where
  porstN : c.porstN = c0.porstN
  wrstN : c.wrstN = c0.wrstN
  rootLock : c.rootLock = c0.rootLock
  srstN : c.srstN = c0.srstN
  isoN : c.isoN = c0.isoN
  phase : c.phase = c0.phase
  present : c.present = c0.present
  ready : c.ready = true → c0.ready = true
  rootcyc : c.rootcyc < 2 ^ 64
  tickOffset : c.tickOffset < 2 ^ 64
  spareRows : c.spareRows ≤ 10752

/-- `d` comes from `d0` by operations that keep the invariant. -/
structure Kept (d0 d : Device) : Prop where
  ident : d.ident = d0.ident
  clk : Clk.Kept d0.clk d.clk
  od : Map.wf d.od = true
  snaps : Map.wf d.snaps = true
  rings : Map.wf d.rings = true
  seqs : Map.wf d.seqs = true
  gens : Map.wf d.gens = true
  timers : Map.wf d.timers = true
  flows : Map.wf d.flows = true
  acct : Map.wf d.acct = true
  groups : Map.wf d.groups = true
  inflight : Map.wf d.inflight = true
  tgens : Map.wf d.tgens = true
  tiles : Map.wf d.tiles = true
  window : Memory.wf d.window = true
  ctx : Ctx.Sound d.ctx
  fabi : d.fabi.outstanding.length ≤ 512
  trace : d.trace.ring.length ≤ 131072
  lanes : d.lanes.length = 4
  epochs : d.epochs.length = 8

/-- The same of the device that an operation answers beside a value. -/
def KeptP {β : Type} (d0 : Device) (x : Device × β) : Prop := Kept d0 x.1
/-- The same of the device that an operation may answer. -/
def KeptO (d0 : Device) (x : Option Device) : Prop := ∀ d, x = some d → Kept d0 d
def KeptOP {β : Type} (d0 : Device) (x : Option (Device × β)) : Prop := ∀ d, x = some d → Kept d0 d.1
/-- The same of an outcome, which is always a next state with the queue as it was. -/
def KeptR (q : List Instr) (d0 : Device) (r : Host.Outcome State Fault Refusal) : Prop :=
  ∃ t : State, r = .next t ∧ t.pending = q ∧ Kept d0 t.dev

theorem Kept.ite {d0 a b : Device} {c : Prop} [Decidable c] (ha : Kept d0 a) (hb : Kept d0 b) :
    Kept d0 (if c then a else b) :=
  iteInduction (fun _ => ha) (fun _ => hb)
theorem KeptP.ite {β : Type} {d0 : Device} {a b : Device × β} {c : Prop} [Decidable c] (ha : KeptP d0 a)
    (hb : KeptP d0 b) : KeptP d0 (if c then a else b) :=
  iteInduction (fun _ => ha) (fun _ => hb)
theorem KeptO.ite {d0 : Device} {a b : Option Device} {c : Prop} [Decidable c] (ha : KeptO d0 a) (hb : KeptO d0 b) :
    KeptO d0 (if c then a else b) :=
  iteInduction (fun _ => ha) (fun _ => hb)
theorem KeptOP.ite {β : Type} {d0 : Device} {a b : Option (Device × β)} {c : Prop} [Decidable c] (ha : KeptOP d0 a)
    (hb : KeptOP d0 b) : KeptOP d0 (if c then a else b) :=
  iteInduction (fun _ => ha) (fun _ => hb)
theorem KeptR.ite {q : List Instr} {d0 : Device} {a b : Host.Outcome State Fault Refusal} {c : Prop} [Decidable c]
    (ha : KeptR q d0 a) (hb : KeptR q d0 b) : KeptR q d0 (if c then a else b) :=
  iteInduction (fun _ => ha) (fun _ => hb)
theorem KeptP.mk {β : Type} {d0 d : Device} {b : β} (h : Kept d0 d) : KeptP d0 (d, b) := h
theorem KeptO.some {d0 d : Device} (h : Kept d0 d) : KeptO d0 (some d) := fun _ he => Option.some.inj he ▸ h
theorem KeptO.none {d0 : Device} : KeptO d0 none := fun _ he => nomatch he
theorem KeptOP.some {β : Type} {d0 : Device} {x : Device × β} (h : KeptP d0 x) : KeptOP d0 (some x) :=
  fun _ he => Option.some.inj he ▸ h
theorem KeptOP.none {β : Type} {d0 : Device} : KeptOP (β := β) d0 none := fun _ he => nomatch he
theorem KeptO.of_eq {d0 d : Device} {x : Option Device} (h : KeptO d0 x) (he : x = Option.some d) : Kept d0 d := h d he
theorem KeptOP.of_eq {β : Type} {d0 : Device} {d : Device × β} {x : Option (Device × β)} (h : KeptOP d0 x)
    (he : x = Option.some d) : Kept d0 d.1 := h d he
theorem KeptP.of_eq {β : Type} {d0 d : Device} {b : β} {x : Device × β} (h : KeptP d0 x) (he : x = (d, b)) : Kept d0 d := by
  subst he; exact h
theorem KeptR.next {s : State} {d0 d : Device} (h : Kept d0 d) : KeptR s.pending d0 (Sys2Proof.Machine.next s d) :=
  ⟨_, rfl, rfl, h⟩

theorem Kept.foldl {α : Type} {d0 : Device} {f : Device → α → Device} (hf : ∀ d x, Kept d0 d → Kept d0 (f d x))
    {l : List α} {d : Device} (h : Kept d0 d) : Kept d0 (l.foldl f d) :=
  List.foldlRecOn l f h (fun _ hd x _ => hf _ x hd)

theorem KeptP.foldl {α β : Type} {d0 : Device} {f : Device × β → α → Device × β}
    (hf : ∀ d x, KeptP d0 d → KeptP d0 (f d x)) {l : List α} {d : Device × β} (h : KeptP d0 d) :
    KeptP d0 (l.foldl f d) :=
  List.foldlRecOn l f h (fun _ hd x _ => hf _ x hd)

theorem Map.wf_ite {α : Type} {a b : Map α} {c : Prop} [Decidable c] (ha : Map.wf a = true) (hb : Map.wf b = true) :
    Map.wf (if c then a else b) = true :=
  iteInduction (motive := fun m => Map.wf m = true) (fun _ => ha) (fun _ => hb)

theorem length_setAt {α : Type} (l : List α) (i : Nat) (a : α) : (setAt l i a).length = l.length := by
  fun_induction setAt l i a <;> simp [*]

theorem length_modAt {α : Type} (l : List α) (i : Nat) (f : α → α) : (modAt l i f).length = l.length := by
  fun_induction modAt l i f <;> simp [*]

theorem length_modFirst {α : Type} (p : α → Bool) (f : α → α) (l : List α) : (modFirst p f l).length = l.length := by
  fun_induction modFirst p f l <;> simp [*]

theorem length_removeFirst_le {α : Type} (p : α → Bool) (l : List α) : (removeFirst p l).length ≤ l.length := by
  fun_induction removeFirst p l <;> grind

theorem Kept.acctRange {d0 d : Device} {n : Nat} {g : Nat → Acct} (h : Kept d0 d) :
    Kept d0 { d with acct := (List.range n).map (fun c => (c, g c)) } := { h with acct := Map.wf_range n g }

theorem length_indexed {α : Type} (l : List α) (i : Nat) : (indexed i l).length = l.length := by
  fun_induction indexed i l <;> simp [*]

/-- Records taken out of the ring leave no more than there were. -/
theorem length_ring_filter (l : List (BitVec 256)) (p : Nat × BitVec 256 → Bool) (h : l.length ≤ 131072) :
    (((indexed 0 l).filter p).map Prod.snd).length ≤ 131072 := by
  rw [List.length_map]
  exact Nat.le_trans (List.length_filter_le _ _) (Nat.le_trans (Nat.le_of_eq (length_indexed _ _)) h)

theorem Device.Sound.kept {d : Device} (h : d.Sound) : Kept d d :=
  { h with
    ident := rfl
    clk := ⟨rfl, rfl, rfl, rfl, rfl, rfl, rfl, id, h.bounded.rootcyc, h.bounded.tickOffset, h.bounded.spareRows⟩ }

theorem Kept.sound {d0 d : Device} (h : Kept d0 d) (h0 : d0.Sound) : d.Sound :=
  { h with
    ident := by rw [h.ident]; exact h0.ident
    clk := by
      have hl := h0.clk
      have hr := h.clk.ready
      unfold Clk.legal at hl ⊢
      rw [h.clk.porstN, h.clk.wrstN, h.clk.srstN, h.clk.rootLock, h.clk.phase, h.clk.present]
      revert hl hr
      cases d.clk.ready <;> cases d0.clk.ready <;> simp +contextual <;> exact fun h1 h2 _ => h1.resolve_right h2
    bounded := ⟨h.clk.rootcyc, h.clk.tickOffset, h.clk.spareRows⟩ }

end Sys2Proof.Machine
end

