-- ==== Sys2Proof/Laws/Kept1.lean ====
section
/-! SUPPORT. What each operation keeps (see Sys2Proof/Laws/Kept.lean), in the order in which they call each other: part 1. -/

set_option Elab.async false

namespace Sys2Proof.Machine

theorem Device_modAgg_kept {d0 : Device} {a0} {a1} (h00 : Kept d0 a0)
    : Kept d0 (Device.modAgg a0 a1) := by
  unfold Device.modAgg
  exact { h00 with  }

theorem Device_modClient_kept {d0 : Device} {a0} {a1} {a2} (h00 : Kept d0 a0)
    : Kept d0 (Device.modClient a0 a1 a2) := by
  unfold Device.modClient
  exact { h00 with acct := (Map.wf_put _ _ h00.acct) }

theorem Device_modClk_kept {d0 d : Device} {f : Clk → Clk} (h : Kept d0 d)
    (hf : ∀ c, Clk.Kept d0.clk c → Clk.Kept d0.clk (f c)) : Kept d0 (d.modClk f) :=
  { h with clk := hf _ h.clk }

theorem Device_modCtx_kept {d0 d : Device} {f : Ctx → Ctx} (h : Kept d0 d)
    (hf : ∀ c, Ctx.Sound c → Ctx.Sound (f c)) : Kept d0 (d.modCtx f) :=
  { h with ctx := hf _ h.ctx }

theorem Device_modCvc_kept {d0 : Device} {a0} {a1} (h00 : Kept d0 a0)
    : Kept d0 (Device.modCvc a0 a1) := by
  unfold Device.modCvc
  exact { h00 with  }

theorem Device_modFaults_kept {d0 : Device} {a0} {a1} (h00 : Kept d0 a0)
    : Kept d0 (Device.modFaults a0 a1) := by
  unfold Device.modFaults
  exact { h00 with  }

theorem Device_modGroup_kept {d0 : Device} {a0} {a1} {a2} (h00 : Kept d0 a0)
    : Kept d0 (Device.modGroup a0 a1 a2) := by
  unfold Device.modGroup
  exact { h00 with groups := (Map.wf_put _ _ h00.groups) }

theorem Device_modInflight_kept {d0 : Device} {a0} {a1} {a2} (h00 : Kept d0 a0)
    : Kept d0 (Device.modInflight a0 a1 a2) := by
  unfold Device.modInflight
  exact { h00 with inflight := (Map.wf_mod _ _ h00.inflight) }

theorem Device_modMgmt_kept {d0 : Device} {a0} {a1} (h00 : Kept d0 a0)
    : Kept d0 (Device.modMgmt a0 a1) := by
  unfold Device.modMgmt
  exact { h00 with  }

theorem Device_modPower_kept {d0 : Device} {a0} {a1} (h00 : Kept d0 a0)
    : Kept d0 (Device.modPower a0 a1) := by
  unfold Device.modPower
  exact { h00 with  }

theorem Device_modRing_kept {d0 : Device} {a0} {a1} {a2} (h00 : Kept d0 a0)
    : Kept d0 (Device.modRing a0 a1 a2) := by
  unfold Device.modRing
  exact { h00 with rings := (Map.wf_put _ _ h00.rings) }

theorem Device_modSeq_kept {d0 : Device} {a0} {a1} {a2} (h00 : Kept d0 a0)
    : Kept d0 (Device.modSeq a0 a1 a2) := by
  unfold Device.modSeq
  exact { h00 with seqs := (Map.wf_mod _ _ h00.seqs) }

theorem Device_modTile_kept {d0 : Device} {a0} {a1} {a2} (h00 : Kept d0 a0)
    : Kept d0 (Device.modTile a0 a1 a2) := by
  unfold Device.modTile
  exact { h00 with tiles := (Map.wf_put _ _ h00.tiles) }

theorem Device_modTrace_kept {d0 d : Device} {f : Trace → Trace} (h : Kept d0 d)
    (hf : ∀ t, t.ring.length ≤ 131072 → (f t).ring.length ≤ 131072) : Kept d0 (d.modTrace f) :=
  { h with trace := hf _ h.trace }

theorem Device_modTurn_kept {d0 : Device} {a0} {a1} (h00 : Kept d0 a0)
    : Kept d0 (Device.modTurn a0 a1) := by
  unfold Device.modTurn
  exact { h00 with  }

theorem Device_putSeq_kept {d0 : Device} {a0} {a1} {a2} (h00 : Kept d0 a0)
    : Kept d0 (Device.putSeq a0 a1 a2) := by
  unfold Device.putSeq
  exact { h00 with seqs := (Map.wf_put _ _ h00.seqs) }

theorem fabiOut_kept {d0 d : Device} {r : FabiReq} (h : Kept d0 d) (ho : d.fabi.outstanding.length < 512) :
    Kept d0 (fabiOut d r) :=
  { h with fabi := by show (d.fabi.outstanding ++ _).length ≤ 512; simp; omega }

theorem fabiOpen_lt {d : Device} (h : fabiOpen d = true) : d.fabi.outstanding.length < 512 := by
  unfold fabiOpen at h; simp at h; exact h.1

theorem fabiIssue_kept {d0 d : Device} {r : FabiReq} (h : Kept d0 d)
    : Kept d0 (fabiIssue d r) := by
  unfold fabiIssue
  split
  · exact fabiOut_kept h (fabiOpen_lt ‹_›)
  · exact { h with fabi := h.fabi }

theorem fabiNew_kept {d0 d : Device} {k : FabiKind} {w : Bool} {a len n : Nat} {x : Option (Nat × Xfer)} (h
    : Kept d0 d) :
    Kept d0 (fabiNew d k w a len n x) :=
  fabiIssue_kept (d := { d with fabi := { d.fabi with nextId := d.fabi.nextId + 1 } }) { h with fabi := h.fabi }

theorem fabiWrite_kept {d0 : Device} {a0} {a1} {a2} {a3} {a4} (h00 : Kept d0 a0)
    : Kept d0 (fabiWrite a0 a1 a2 a3 a4) := by
  unfold fabiWrite
  exact fabiNew_kept h00

theorem writeResult_kept {d0 : Device} {a0} {a1} {a2} {a3} {a4} {a5} {a6} {a7}
    (h00 : Kept d0 a0) : Kept d0 (writeResult a0 a1 a2 a3 a4 a5 a6 a7) := by
  unfold writeResult
  split
  · exact h00
  · extract_lets -merge -useContext x1 x2 d3
    have h3 : Kept d0 d3 := Device_modSeq_kept h00
    clear_value d3
    exact fabiWrite_kept h3

theorem modTcb_kept {d0 : Device} {a0} {a1} {a2} (h00 : Kept d0 a0) : Kept d0 (modTcb a0 a1 a2) := by
  unfold modTcb
  exact Device_modSeq_kept h00

theorem cancelTimer_kept {d0 : Device} {a0} {a1} {a2} (h00 : Kept d0 a0)
    : Kept d0 (cancelTimer a0 a1 a2) := by
  unfold cancelTimer
  exact { h00 with timers := (Map.wf_del _ h00.timers) }

theorem emit_kept {d0 : Device} {a0} {a1} (h00 : Kept d0 a0) : Kept d0 (emit a0 a1) := by
  unfold emit
  exact { h00 with  }

theorem fabiXfer_kept {d0 : Device} {a0} {a1} {a2} {a3} {a4} {a5} (h00
    : Kept d0 a0) : Kept d0 (fabiXfer a0 a1 a2 a3 a4 a5) := by
  unfold fabiXfer
  exact fabiNew_kept h00

theorem sendXfer_kept {d0 : Device} {a0} {a1} {a2} {a3} (h00 : Kept d0 a0)
    : Kept d0 (sendXfer a0 a1 a2 a3) := by
  unfold sendXfer
  refine Kept.ite ?_ ?_
  · exact emit_kept h00
  · extract_lets -merge -useContext x1
    refine fabiXfer_kept ?_
    refine Kept.foldl (fun d2 x2 h2 => ?_) ?_
    · exact fabiWrite_kept h2
    · exact h00

theorem hostAck_kept {d0 : Device} {a0} {a1} {a2} {a3} (h00 : Kept d0 a0)
    : Kept d0 (hostAck a0 a1 a2 a3) := by
  unfold hostAck
  exact sendXfer_kept h00

theorem answerAtStop_kept {d0 : Device} {a0} {a1} (h00 : Kept d0 a0)
    : Kept d0 (answerAtStop a0 a1) := by
  unfold answerAtStop
  split
  · exact h00
  · refine Kept.ite ?_ ?_
    · refine Kept.foldl (fun d1 x1 h1 => ?_) ?_
      · exact hostAck_kept h1
      · exact Device_modSeq_kept h00
    · exact h00

theorem carryCompl_kept {d0 : Device} {a0} {a1} {a2} (h00 : Kept d0 a0)
    : Kept d0 (carryCompl a0 a1 a2) := by
  unfold carryCompl
  extract_lets -merge -useContext d1
  have h1 : Kept d0 d1 := sendXfer_kept h00
  clear_value d1
  refine Kept.ite ?_ ?_
  · exact answerAtStop_kept h1
  · exact h1

theorem shipCompl_kept {d0 : Device} {a0} {a1} {a2} (h00 : Kept d0 a0)
    : Kept d0 (shipCompl a0 a1 a2) := by
  unfold shipCompl
  refine Kept.ite ?_ ?_
  · refine Kept.ite ?_ ?_
    · exact Device_modFaults_kept h00
    · exact h00
  · refine Kept.ite ?_ ?_
    · exact h00
    · refine Kept.ite ?_ ?_
      · exact Device_modFaults_kept h00
      · exact carryCompl_kept h00

theorem shipOut_kept {d0 : Device} {a0} {a1} {a2} (h00 : Kept d0 a0)
    : Kept d0 (shipOut a0 a1 a2) := by
  unfold shipOut
  split
  · exact shipCompl_kept h00
  · exact hostAck_kept h00

theorem gateOut_kept {d0 : Device} {a0} {a1} {a2} {a3} (h00 : Kept d0 a0)
    : Kept d0 (gateOut a0 a1 a2 a3) := by
  unfold gateOut
  refine Kept.ite ?_ ?_
  · exact Device_modFaults_kept h00
  · exact shipOut_kept h00

theorem sendOut_kept {d0 : Device} {a0} {a1} {a2} (h00 : Kept d0 a0)
    : Kept d0 (sendOut a0 a1 a2) := by
  unfold sendOut
  split
  · exact h00
  · refine Kept.ite ?_ ?_
    · exact gateOut_kept h00
    · exact Device_modSeq_kept h00

theorem sendCompl_kept {d0 : Device} {a0} {a1} {a2} (h00 : Kept d0 a0)
    : Kept d0 (sendCompl a0 a1 a2) := by
  unfold sendCompl
  exact sendOut_kept h00

theorem endRestore_kept {d0 : Device} {a0} {a1} {a2} (h00 : Kept d0 a0)
    : Kept d0 (endRestore a0 a1 a2) := by
  unfold endRestore
  split
  · exact h00
  · refine Kept.ite ?_ ?_
    · exact sendCompl_kept (Device_modSeq_kept h00)
    · exact h00

theorem seqAnswer_kept {d0 : Device} {a0} {a1} {a2} {a3} (h00 : Kept d0 a0)
    : Kept d0 (seqAnswer a0 a1 a2 a3) := by
  unfold seqAnswer
  split
  · exact h00
  · exact sendOut_kept h00

theorem endSave_kept {d0 : Device} {a0} {a1} {a2} (h00 : Kept d0 a0)
    : Kept d0 (endSave a0 a1 a2) := by
  unfold endSave
  split
  · exact h00
  · extract_lets -merge -useContext x1 d2 d3
    have h2 : Kept d0 d2 := Device_modSeq_kept h00
    clear_value d2
    have h3 : Kept d0 d3 := by
      unfold d3
      split
      · exact seqAnswer_kept h2
      · exact h2
    clear_value d3
    refine Kept.foldl (fun d4 x4 h4 => ?_) ?_
    · exact seqAnswer_kept h4
    · exact h3

theorem answerPause_kept {d0 : Device} {a0} {a1} {a2} (h00 : Kept d0 a0)
    : Kept d0 (answerPause a0 a1 a2) := by
  unfold answerPause
  split
  · exact h00
  · extract_lets -merge -useContext d1
    have h1 : Kept d0 d1 := modTcb_kept (Device_modSeq_kept h00)
    clear_value d1
    refine Kept.foldl (fun d2 x2 h2 => ?_) ?_
    · exact seqAnswer_kept h2
    · exact h1

theorem enterState_kept {d0 : Device} {a0} {a1} {a2} (h00 : Kept d0 a0)
    : Kept d0 (enterState a0 a1 a2) := by
  unfold enterState
  extract_lets -merge -useContext x1
  exact modTcb_kept h00

theorem sinceSnap_kept {d0 : Device} {a0} {a1} {a2} {a3} (h00 : Kept d0 a0)
    : Kept d0 (sinceSnap a0 a1 a2 a3) := by
  unfold sinceSnap
  exact { h00 with snaps := (Map.wf_mod _ _ h00.snaps) }

theorem odSet_kept {d0 : Device} {a0} {a1} {a2} {a3} (h00 : Kept d0 a0)
    : Kept d0 (odSet a0 a1 a2 a3) := by
  unfold odSet
  exact { h00 with od := (Map.wf_ite (Map.wf_del _ h00.od) (Map.wf_put _ _ h00.od)) }

theorem bumpBy_kept {d0 : Device} {a0} {a1} {a2} {a3} (h00 : Kept d0 a0)
    : Kept d0 (bumpBy a0 a1 a2 a3) := by
  unfold bumpBy
  exact sinceSnap_kept (odSet_kept h00)

theorem bump_kept {d0 : Device} {a0} {a1} {a2} (h00 : Kept d0 a0) : Kept d0 (bump a0 a1 a2) := by
  unfold bump
  exact bumpBy_kept h00

theorem fabiDrop_kept {d0 d : Device} {p : FabiKind → Bool} (h : Kept d0 d)
    : Kept d0 (fabiDrop d p) :=
  { h with fabi := by show (d.fabi.outstanding.map _).length ≤ 512; rw [List.length_map]; exact h.fabi }

theorem dropPost_kept {d0 : Device} {a0} {a1} (h00 : Kept d0 a0) : Kept d0 (dropPost a0 a1) := by
  unfold dropPost
  split
  · refine Kept.ite ?_ ?_
    · exact Device_modSeq_kept (bump_kept (fabiDrop_kept h00))
    · exact h00
  · exact h00

theorem dropInputs_kept {d0 : Device} {a0} {a1} (h00 : Kept d0 a0) : Kept d0 (dropInputs a0 a1) := by
  unfold dropInputs
  exact fabiDrop_kept h00

theorem dropUnits_kept {d0 : Device} {a0} {a1} (h00 : Kept d0 a0) : Kept d0 (dropUnits a0 a1) := by
  unfold dropUnits
  extract_lets -merge -useContext x1 d2
  have h2 : Kept d0 d2 := { h00 with  }
  clear_value d2
  refine Kept.ite ?_ ?_
  · exact h2
  · exact emit_kept h2

theorem dropOutcome_kept {d0 : Device} {a0} {a1} (h00 : Kept d0 a0) : Kept d0 (dropOutcome a0 a1) := by
  unfold dropOutcome
  extract_lets -merge -useContext d1
  have h1 : Kept d0 d1 := Device_modSeq_kept (dropInputs_kept h00)
  clear_value d1
  exact dropUnits_kept { h1 with  }

theorem endRounds_kept {d0 : Device} {a0} {a1} (h00 : Kept d0 a0) : Kept d0 (endRounds a0 a1) := by
  unfold endRounds
  exact fabiDrop_kept { h00 with fabi := h00.fabi }

theorem unblockOf_kept {d0 : Device} {a0} {a1} (h00 : Kept d0 a0) : Kept d0 (unblockOf a0 a1) := by
  unfold unblockOf
  exact { h00 with groups := (Map.wf_map _ (fun _ => rfl) h00.groups) }

theorem returnCredit_kept {d0 : Device} {a0} {a1} (h00 : Kept d0 a0)
    : Kept d0 (returnCredit a0 a1) := by
  unfold returnCredit
  exact unblockOf_kept (Device_modTile_kept h00)

theorem modSteps_kept {d0 : Device} {a0} {a1} {a2} (h00 : Kept d0 a0)
    : Kept d0 (modSteps a0 a1 a2) := by
  unfold modSteps
  refine Kept.ite ?_ ?_
  · exact Device_modGroup_kept h00
  · exact h00

theorem cancelKind_kept {d0 : Device} {a0} {a1} {a2} {a3} (h00 : Kept d0 a0)
    : Kept d0 (cancelKind a0 a1 a2 a3) := by
  unfold cancelKind
  split
  · refine Kept.ite ?_ ?_
    · exact cancelTimer_kept h00
    · exact h00
  · exact h00

theorem evalWait_kept {d0 : Device} {a0} {a1} (h00 : Kept d0 a0) : Kept d0 (evalWait a0 a1) := by
  unfold evalWait
  split
  · exact h00
  · refine Kept.ite ?_ ?_
    · exact enterState_kept (cancelKind_kept (modTcb_kept h00))
    · exact h00

theorem setFlagBit_kept {d0 : Device} {a0} {a1} {a2} {a3} (h00 : Kept d0 a0)
    : Kept d0 (setFlagBit a0 a1 a2 a3) := by
  unfold setFlagBit
  exact modTcb_kept h00

theorem setFlag_kept {d0 : Device} {a0} {a1} {a2} (h00 : Kept d0 a0)
    : Kept d0 (setFlag a0 a1 a2) := by
  unfold setFlag
  exact evalWait_kept (setFlagBit_kept h00)

theorem setIfHolds_kept {d0 : Device} {a0} {a1} {a2} (h00 : Kept d0 a0)
    : Kept d0 (setIfHolds a0 a1 a2) := by
  unfold setIfHolds
  split
  · refine Kept.ite ?_ ?_
    · exact setFlag_kept h00
    · exact h00
  · exact h00

theorem wakeSlots_kept {d0 : Device} {a0} (h00 : Kept d0 a0) : Kept d0 (wakeSlots a0) := by
  unfold wakeSlots
  refine Kept.foldl (fun d1 x1 h1 => ?_) ?_
  · refine Kept.ite ?_ ?_
    · exact setIfHolds_kept h1
    · exact h1
  · exact h00

theorem unblock_kept {d0 : Device} {a0} (h00 : Kept d0 a0) : Kept d0 (unblock a0) := by
  unfold unblock
  exact unblockOf_kept h00

theorem retireSteps_kept {d0 : Device} {a0} {a1} (h00 : Kept d0 a0) : Kept d0 (retireSteps a0 a1) := by
  unfold retireSteps
  extract_lets -merge -useContext x1 x2
  refine Kept.ite ?_ ?_
  · exact h00
  · exact unblock_kept (Device_modGroup_kept h00)

theorem freeEntry_kept {d0 : Device} {a0} {a1} (h00 : Kept d0 a0) : Kept d0 (freeEntry a0 a1) := by
  unfold freeEntry
  split
  · exact h00
  · extract_lets -merge -useContext x1 d2 d3 d4
    have h2 : Kept d0 d2 := { h00 with inflight := (Map.wf_del _ h00.inflight), tgens := (Map.wf_put _ _ h00.tgens) }
    clear_value d2
    have h3 : Kept d0 d3 := dropUnits_kept h2
    clear_value d3
    have h4 : Kept d0 d4 := modSteps_kept h3
    clear_value d4
    exact wakeSlots_kept (unblock_kept (retireSteps_kept h4))

theorem traceDrop_kept {d0 d : Device} {c n : Nat} (h : Kept d0 d) : Kept d0 (traceDrop d c n) := by
  unfold traceDrop
  split
  · exact h
  · have h1 : Kept d0 (bumpBy d Od.TRACE_DROPS c n) := bumpBy_kept h
    exact { h1 with trace := h1.trace }

theorem traceRec_kept {d0 d : Device} {k a b c e : Nat} (h : Kept d0 d)
    : Kept d0 (traceRec d k a b c e) := by
  have hcase (r : BitVec 256) (n : Nat) (hl : d.trace.ring.length < 131072) : Kept d0 { d with trace := { d.trace with
      ring := d.trace.ring ++ [r], gapNext := false, sclk := d.clk.rootcyc / 64, inSclk := n } } :=
    { h with trace := by show (d.trace.ring ++ [_]).length ≤ 131072; simp; omega }
  unfold traceRec
  extract_lets n e
  refine Kept.ite h ?_
  split
  · exact traceDrop_kept h
  · split
    · exact traceDrop_kept h
    · rename_i hl
      exact hcase _ _ (by omega)

theorem traceKill_kept {d0 : Device} {a0} {a1} {a2} {a3} (h00 : Kept d0 a0)
    : Kept d0 (traceKill a0 a1 a2 a3) := by
  unfold traceKill
  exact traceRec_kept h00

theorem revokeRns_kept {d0 : Device} {a0} {a1} (h00 : Kept d0 a0) : Kept d0 (revokeRns a0 a1) := by
  unfold revokeRns
  extract_lets -merge -useContext x1 x2 x3 x4
  exact bumpBy_kept { h00 with  }

theorem sendKill_kept {d0 : Device} {a0} {a1} {a2} {a3} (h00 : Kept d0 a0)
    : Kept d0 (sendKill a0 a1 a2 a3) := by
  unfold sendKill
  extract_lets -merge -useContext d1
  have h1 : Kept d0 d1 := emit_kept (revokeRns_kept (bump_kept h00))
  clear_value d1
  exact Device_modInflight_kept h1

theorem endOne_kept {d0 : Device} {a0} {a1} {a2} (h00 : Kept d0 a0) : Kept d0 (endOne a0 a1 a2) := by
  unfold endOne
  extract_lets -merge -useContext d1
  have h1 : Kept d0 d1 := endRounds_kept h00
  clear_value d1
  split
  · exact h1
  · refine Kept.ite ?_ ?_
    · exact returnCredit_kept (freeEntry_kept h1)
    · extract_lets -merge -useContext d2
      have h2 : Kept d0 d2 := traceKill_kept h1
      clear_value d2
      refine Kept.ite ?_ ?_
      · exact sendKill_kept h2
      · exact freeEntry_kept h2

theorem listsMissing_kept {d0 : Device} {a0} {a1} {a2} (h00 : Kept d0 a0)
    : Kept d0 (listsMissing a0 a1 a2) := by
  unfold listsMissing
  extract_lets -merge -useContext d1
  have h1 : Kept d0 d1 := bumpBy_kept h00
  clear_value d1
  exact setIfHolds_kept (Device_modSeq_kept h1)

theorem leaveStep_kept {d0 : Device} {a0} {a1} (h00 : Kept d0 a0) : Kept d0 (leaveStep a0 a1) := by
  unfold leaveStep
  refine Kept.foldl (fun d1 x1 h1 => ?_) ?_
  · exact retireSteps_kept (modSteps_kept h1)
  · exact Device_modSeq_kept h00

theorem requestClaim_kept {d0 : Device} {a0} {a1} {a2} (h00 : Kept d0 a0)
    : Kept d0 (requestClaim a0 a1 a2) := by
  unfold requestClaim
  extract_lets -merge -useContext x1 d2
  have h2 : Kept d0 d2 := { h00 with  }
  clear_value d2
  refine Kept.ite ?_ ?_
  · exact h2
  · exact bump_kept h2

theorem newClaim_kept {d0 : Device} {a0} {a1} {a2} (h00 : Kept d0 a0)
    : Kept d0 (newClaim a0 a1 a2) := by
  unfold newClaim
  split
  · exact requestClaim_kept h00
  · exact h00

theorem dropStep_kept {d0 : Device} {a0} {a1} (h00 : Kept d0 a0) : Kept d0 (dropStep a0 a1) := by
  unfold dropStep
  split
  · exact h00
  · exact newClaim_kept (dropOutcome_kept h00)

theorem parkNow_kept {d0 : Device} {a0} {a1} (h00 : Kept d0 a0) : Kept d0 (parkNow a0 a1) := by
  unfold parkNow
  extract_lets -merge -useContext d1
  have h1 : Kept d0 d1 := modTcb_kept h00
  clear_value d1
  exact answerPause_kept (setFlagBit_kept (enterState_kept h1))

theorem armTimer_kept {d0 : Device} {a0} {a1} {a2} {a3} {a4} (h00 : Kept d0 a0)
    : Kept d0 (armTimer a0 a1 a2 a3 a4) := by
  unfold armTimer
  extract_lets -merge -useContext x1
  exact setFlagBit_kept { h00 with timers := (Map.wf_put _ _ h00.timers) }

theorem refreshFlags_kept {d0 : Device} {a0} {a1} {a2} (h00 : Kept d0 a0)
    : Kept d0 (refreshFlags a0 a1 a2) := by
  unfold refreshFlags
  refine Kept.foldl (fun d1 x1 h1 => ?_) ?_
  · refine Kept.ite ?_ ?_
    · split
      · split
        · exact setFlagBit_kept h1
        · exact h1
      · exact h1
    · exact h1
  · exact h00

theorem startWait_kept {d0 : Device} {a0} {a1} {a2} {a3} (h00 : Kept d0 a0)
    : Kept d0 (startWait a0 a1 a2 a3) := by
  unfold startWait
  extract_lets -merge -useContext x1 d2 d3 d4
  have h2 : Kept d0 d2 := modTcb_kept h00
  clear_value d2
  have h3 : Kept d0 d3 := refreshFlags_kept h2
  clear_value d3
  have h4 : Kept d0 d4 := modTcb_kept h3
  clear_value d4
  split
  · exact h3
  · refine Kept.ite ?_ ?_
    · refine Kept.ite ?_ ?_
      · exact enterState_kept h4
      · exact h4
    · refine Kept.ite ?_ ?_
      · exact enterState_kept (modTcb_kept h3)
      · exact h3

theorem withdrawSeq_kept {d0 : Device} {a0} {a1} (h00 : Kept d0 a0) : Kept d0 (withdrawSeq a0 a1) := by
  unfold withdrawSeq
  split
  · exact h00
  · refine Kept.ite ?_ ?_
    · exact leaveStep_kept h00
    · extract_lets -merge -useContext d1 d2 d3 d4
      have h1 : Kept d0 d1 := dropStep_kept (leaveStep_kept h00)
      clear_value d1
      have h2 : Kept d0 d2 := setFlagBit_kept (Device_modSeq_kept h1)
      clear_value d2
      have h3 : Kept d0 d3 := by
        refine Kept.ite ?_ ?_
        · exact parkNow_kept h2
        · exact h2
      clear_value d3
      have h4 : Kept d0 d4 := armTimer_kept h3
      clear_value d4
      exact startWait_kept h4

theorem killCommand_kept {d0 : Device} {a0} {a1} {a2} {a3} (h00 : Kept d0 a0)
    : Kept d0 (killCommand a0 a1 a2 a3) := by
  unfold killCommand
  split
  · exact h00
  · refine Kept.ite ?_ ?_
    · exact h00
    · extract_lets -merge -useContext x1 x2 x3 d4 d5 x6
      have h4 : Kept d0 d4 := bumpBy_kept h00
      clear_value d4
      have h5 : Kept d0 d5 := by
        refine Kept.foldl (fun d7 x7 h7 => ?_) ?_
        · exact endOne_kept h7
        · exact h4
      clear_value d5
      refine Kept.foldl (fun d8 x8 h8 => ?_) ?_
      · refine Kept.ite ?_ ?_
        · exact h8
        · split
          · refine Kept.ite ?_ ?_
            · exact listsMissing_kept h8
            · exact withdrawSeq_kept h8
          · exact h8
      · exact h5

theorem cvcLegacy_kept {d0 : Device} {a0} {a1} {a2} {a3} {a4} {a5} (h00
    : Kept d0 a0) : Kept d0 (cvcLegacy a0 a1 a2 a3 a4 a5) := by
  unfold cvcLegacy
  extract_lets -merge -useContext x1 x2 x3 x4
  refine Kept.ite ?_ ?_
  · refine Kept.ite ?_ ?_
    · exact { h00 with  }
    · exact { h00 with  }
  · exact h00

theorem chanMod_kept {d0 : Device} {a0} {a1} {a2} (h00 : Kept d0 a0)
    : Kept d0 (chanMod a0 a1 a2) := by
  unfold chanMod
  exact { h00 with  }

theorem cvcOne_kept {d0 : Device} {a0} {a1} {a2} {a3} {a4} {a5} {a6} {a7}
    (h00 : Kept d0 a0) : Kept d0 (cvcOne a0 a1 a2 a3 a4 a5 a6 a7) := by
  unfold cvcOne
  refine Kept.ite ?_ ?_
  · refine Kept.ite ?_ ?_
    · refine Kept.ite ?_ ?_
      · exact chanMod_kept h00
      · exact chanMod_kept h00
    · exact chanMod_kept h00
  · exact h00

theorem cvcPassAs_kept {d0 : Device} {a0} {a1} {a2} {a3} {a4} {a5} {a6}
    (h00 : Kept d0 a0) : Kept d0 (cvcPassAs a0 a1 a2 a3 a4 a5 a6) := by
  unfold cvcPassAs
  refine cvcLegacy_kept ?_
  refine Kept.foldl (fun d1 x1 h1 => ?_) ?_
  · exact cvcOne_kept h1
  · exact h00

theorem cvcPass_kept {d0 : Device} {a0} {a1} {a2} {a3} {a4} {a5} (h00
    : Kept d0 a0) : Kept d0 (cvcPass a0 a1 a2 a3 a4 a5) := by
  unfold cvcPass
  exact cvcPassAs_kept h00

theorem writeEntry_kept {d0 d : Device} {g off : Nat} {e : WlEntry} (h
    : Kept d0 d) : Kept d0 (writeEntry d g off e) :=
  cvcPass_kept { h with window := Memory.wf_writeBytes _ _ h.window }

theorem nopEntries_kept {d0 : Device} {a0} {a1} {a2} (h00 : Kept d0 a0)
    : Kept d0 (nopEntries a0 a1 a2) := by
  unfold nopEntries
  split
  · exact h00
  · extract_lets -merge -useContext x1 d2
    have h2 : Kept d0 d2 := by
      refine Kept.foldl (fun d3 x3 h3 => ?_) ?_
      · refine Kept.ite ?_ ?_
        · exact writeEntry_kept h3
        · exact h3
      · exact h00
    clear_value d2
    exact Device_modInflight_kept h2

theorem modBlk_kept {d0 : Device} {a0} {a1} {a2} (h00 : Kept d0 a0) : Kept d0 (modBlk a0 a1 a2) := by
  unfold modBlk
  exact Device_modSeq_kept h00

theorem trimPages_kept {d0 : Device} {a0} {a1} (h00 : Kept d0 a0) : Kept d0 (trimPages a0 a1) := by
  unfold trimPages
  exact modBlk_kept h00

theorem modDir1_kept {d0 : Device} {a0} {a1} {a2} (h00 : Kept d0 a0)
    : Kept d0 (modDir1 a0 a1 a2) := by
  unfold modDir1
  refine Device_modCtx_kept ?_ ?_
  · exact h00
  · exact fun c hc => { hc with dir1 := (Map.wf_mod _ _ hc.dir1) }

theorem delDir1_kept {d0 : Device} {a0} {a1} (h00 : Kept d0 a0) : Kept d0 (delDir1 a0 a1) := by
  unfold delDir1
  refine Device_modCtx_kept ?_ ?_
  · exact h00
  · exact fun c hc => { hc with dir1 := (Map.wf_del _ hc.dir1) }

theorem unref_kept {d0 : Device} {a0} {a1} (h00 : Kept d0 a0) : Kept d0 (unref a0 a1) := by
  unfold unref
  split
  · exact h00
  · refine Kept.ite ?_ ?_
    · exact modDir1_kept h00
    · refine Kept.ite ?_ ?_
      · exact modDir1_kept h00
      · exact delDir1_kept h00

theorem delDir2_kept {d0 : Device} {a0} {a1} (h00 : Kept d0 a0) : Kept d0 (delDir2 a0 a1) := by
  unfold delDir2
  refine Device_modCtx_kept ?_ ?_
  · exact h00
  · exact fun c hc => { hc with dir2 := (Map.wf_del _ hc.dir2) }

theorem setPage_kept {d0 : Device} {a0} {a1} {a2} {a3} (h00 : Kept d0 a0)
    : Kept d0 (setPage a0 a1 a2 a3) := by
  unfold setPage
  exact modBlk_kept h00

theorem releasePage_kept {d0 : Device} {a0} {a1} {a2} (h00 : Kept d0 a0)
    : Kept d0 (releasePage a0 a1 a2) := by
  unfold releasePage
  split
  · exact h00
  · extract_lets -merge -useContext d1
    have h1 : Kept d0 d1 := by
      unfold d1
      split
      · exact unref_kept h00
      · exact delDir2_kept h00
      · exact h00
    clear_value d1
    exact setPage_kept h1

theorem releaseFrom_kept {d0 d : Device} {s n k : Nat} (h : Kept d0 d)
    : Kept d0 (releaseFrom d s n k) := by
  induction n generalizing d k with
  | zero => exact h
  | succ n ih => exact ih (Kept.ite h (releasePage_kept h))

theorem ptabWrite_kept {d0 : Device} {a0} {a1} {a2} {a3} {a4} (h00 : Kept d0 a0)
    : Kept d0 (ptabWrite a0 a1 a2 a3 a4) := by
  unfold ptabWrite
  exact fabiWrite_kept (modBlk_kept h00)

theorem takeLeaf_kept {d0 : Device} {a0} {a1} {a2} (h00 : Kept d0 a0)
    : Kept d0 (takeLeaf a0 a1 a2) := by
  unfold takeLeaf
  split
  · exact h00
  · refine Kept.ite ?_ ?_
    · exact h00
    · split
      · exact h00
      · exact ptabWrite_kept (modBlk_kept h00)

theorem writePtab_kept {d0 : Device} {a0} {a1} {a2} (h00 : Kept d0 a0)
    : Kept d0 (writePtab a0 a1 a2) := by
  unfold writePtab
  extract_lets -merge -useContext d1
  have h1 : Kept d0 d1 := takeLeaf_kept h00
  clear_value d1
  split
  · exact h1
  · split
    · exact h1
    · exact ptabWrite_kept h1

theorem leafRetry_kept {d0 : Device} {a0} (h00 : Kept d0 a0) : Kept d0 (leafRetry a0) := by
  unfold leafRetry
  refine Kept.foldl (fun d1 x1 h1 => ?_) ?_
  · refine Kept.foldl (fun d2 x2 h2 => ?_) ?_
    · split
      · refine Kept.ite ?_ ?_
        · exact writePtab_kept h2
        · exact h2
      · exact h2
    · exact h1
  · exact h00

theorem affUpdate_kept {d0 : Device} {a0} {a1} (h00 : Kept d0 a0) : Kept d0 (affUpdate a0 a1) := by
  unfold affUpdate
  split
  · refine Kept.ite ?_ ?_
    · exact modBlk_kept h00
    · exact h00
  · exact h00

theorem dropLeaves_kept {d0 : Device} {a0} {a1} (h00 : Kept d0 a0) : Kept d0 (dropLeaves a0 a1) := by
  unfold dropLeaves
  split
  · exact h00
  · refine Kept.foldl (fun d1 x1 h1 => ?_) ?_
    · exact ptabWrite_kept h1
    · exact modBlk_kept h00

end Sys2Proof.Machine
end

