-- ==== Sys2Proof/Laws/Kept2.lean ====
section
/-! SUPPORT. What each operation keeps (see Sys2Proof/Laws/Kept.lean), in the order in which they call each other: part 2. -/

set_option Elab.async false

namespace Sys2Proof.Machine

theorem releaseAll_kept {d0 : Device} {a0} {a1} (h00 : Kept d0 a0) : Kept d0 (releaseAll a0 a1) := by
  unfold releaseAll
  split
  · exact h00
  · extract_lets -merge -useContext d1 d2
    have h1 : Kept d0 d1 := trimPages_kept (releaseFrom_kept h00)
    clear_value d1
    have h2 : Kept d0 d2 := modBlk_kept h1
    clear_value d2
    split
    · exact h2
    · refine Kept.ite ?_ ?_
      · exact leafRetry_kept (affUpdate_kept (modBlk_kept (dropLeaves_kept h2)))
      · exact h2

theorem tellPair_kept {d0 : Device} {a0} {a1} {a2} {a3} {a4} (h00 : Kept d0 a0)
    : Kept d0 (tellPair a0 a1 a2 a3 a4) := by
  unfold tellPair
  extract_lets -merge -useContext x1
  refine Kept.foldl (fun d2 x2 h2 => ?_) ?_
  · exact sendXfer_kept h2
  · exact h00

theorem freeSlot_kept {d0 : Device} {a0} {a1} (h00 : Kept d0 a0) : Kept d0 (freeSlot a0 a1) := by
  unfold freeSlot
  split
  · exact h00
  · extract_lets -merge -useContext d1 d2 d3 d4
    have h1 : Kept d0 d1 := { h00 with seqs := (Map.wf_del _ h00.seqs), gens := (Map.wf_put _ _ h00.gens), timers := (Map.wf_put _ _ (Map.wf_del _ h00.timers)) }
    clear_value d1
    have h2 : Kept d0 d2 := fabiDrop_kept h1
    clear_value d2
    have h3 : Kept d0 d3 := by
      refine Kept.foldl (fun d5 x5 h5 => ?_) ?_
      · exact tellPair_kept h5
      · exact h2
    clear_value d3
    have h4 : Kept d0 d4 := Device_modFaults_kept h3
    clear_value d4
    exact { h4 with groups := (Map.wf_map _ (fun _ => rfl) h4.groups) }

theorem writeHeader_kept {d0 : Device} {a0} {a1} {a2} (h00 : Kept d0 a0)
    : Kept d0 (writeHeader a0 a1 a2) := by
  unfold writeHeader
  split
  · exact h00
  · extract_lets -merge -useContext x1
    exact fabiWrite_kept (Device_modSeq_kept h00)

theorem tryEnd_kept {d0 : Device} {a0} {a1} (h00 : Kept d0 a0) : Kept d0 (tryEnd a0 a1) := by
  unfold tryEnd
  split
  · exact h00
  · refine Kept.ite ?_ ?_
    · exact h00
    · extract_lets -merge -useContext d1
      have h1 : Kept d0 d1 := releaseAll_kept h00
      clear_value d1
      split
      · exact h1
      · refine Kept.ite ?_ ?_
        · exact h1
        · refine Kept.ite ?_ ?_
          · exact freeSlot_kept h1
          · extract_lets -merge -useContext x2 d3 d4 d5 x6
            have h3 : Kept d0 d3 := modTcb_kept h1
            clear_value d3
            have h4 : Kept d0 d4 := Device_modSeq_kept h3
            clear_value d4
            have h5 : Kept d0 d5 := by
              unfold d5
              split
              · exact h4
              · exact bump_kept h4
              · refine Kept.ite ?_ ?_
                · exact bump_kept (bump_kept h4)
                · exact bump_kept h4
            clear_value d5
            refine Kept.ite ?_ ?_
            · exact writeHeader_kept h1
            · exact sendCompl_kept (enterState_kept h5)

theorem finishSeq_kept {d0 : Device} {a0} {a1} {a2} {a3} {a4} (h00 : Kept d0 a0)
    : Kept d0 (finishSeq a0 a1 a2 a3 a4) := by
  unfold finishSeq
  split
  · exact h00
  · refine Kept.ite ?_ ?_
    · exact h00
    · extract_lets -merge -useContext d1 d2 x3 d4 d5 d6 x7 d8 d9 d10
      have h1 : Kept d0 d1 := cancelTimer_kept (cancelTimer_kept h00)
      clear_value d1
      have h2 : Kept d0 d2 := endRestore_kept (endSave_kept (answerPause_kept h1))
      clear_value d2
      have h4 : Kept d0 d4 := enterState_kept h2
      clear_value d4
      have h5 : Kept d0 d5 := modTcb_kept h4
      clear_value d5
      have h6 : Kept d0 d6 := Device_modSeq_kept (dropPost_kept h5)
      clear_value d6
      have h8 : Kept d0 d8 := by
        refine Kept.ite ?_ ?_
        · exact bump_kept h6
        · exact h6
      clear_value d8
      have h9 : Kept d0 d9 := dropOutcome_kept h8
      clear_value d9
      have h10 : Kept d0 d10 := by
        refine Kept.foldl (fun d11 x11 h11 => ?_) ?_
        · refine Kept.ite ?_ ?_
          · split
            · exact killCommand_kept h11
            · exact nopEntries_kept h11
            · exact h11
          · exact h11
        · exact h9
      clear_value d10
      exact tryEnd_kept (leaveStep_kept h10)

theorem abandon_kept {d0 : Device} {a0} {a1} (h00 : Kept d0 a0) : Kept d0 (abandon a0 a1) := by
  unfold abandon
  split
  · exact h00
  · extract_lets -merge -useContext x1 x2 x3 d4
    have h4 : Kept d0 d4 := by
      refine Kept.ite ?_ ?_
      · exact writeResult_kept (modTcb_kept h00)
      · exact h00
    clear_value d4
    exact finishSeq_kept h4

theorem shipAcks_kept {d0 : Device} {a0} {a1} (h00 : Kept d0 a0) : Kept d0 (shipAcks a0 a1) := by
  unfold shipAcks
  extract_lets -merge -useContext x1 x2 d3
  have h3 : Kept d0 d3 := Device_modFaults_kept h00
  clear_value d3
  refine Kept.ite ?_ ?_
  · exact h00
  · refine Kept.foldl (fun d4 x4 h4 => ?_) ?_
    · exact sendXfer_kept h4
    · exact h3

theorem modDelta_kept {d0 : Device} {a0} {a1} {a2} (h00 : Kept d0 a0)
    : Kept d0 (modDelta a0 a1 a2) := by
  unfold modDelta
  exact Device_modFaults_kept h00

theorem sendDelta_kept {d0 : Device} {a0} {a1} (h00 : Kept d0 a0) : Kept d0 (sendDelta a0 a1) := by
  unfold sendDelta
  extract_lets -merge -useContext x1 x2 x3 d4
  have h4 : Kept d0 d4 := modDelta_kept h00
  clear_value d4
  refine Kept.ite ?_ ?_
  · exact h00
  · exact sendXfer_kept h4

theorem sendWaiting_kept {d0 : Device} {a0} (h00 : Kept d0 a0) : Kept d0 (sendWaiting a0) := by
  unfold sendWaiting
  refine Kept.foldl (fun d1 x1 h1 => ?_) ?_
  · exact shipAcks_kept (sendDelta_kept h1)
  · exact h00

theorem shipGated_kept {d0 : Device} {a0} {a1} {a2} (h00 : Kept d0 a0)
    : Kept d0 (shipGated a0 a1 a2) := by
  unfold shipGated
  extract_lets -merge -useContext x1 x2 d3 x4 d5
  have h3 : Kept d0 d3 := Device_modFaults_kept h00
  clear_value d3
  have h5 : Kept d0 d5 := by
    refine Kept.foldl (fun d6 x6 h6 => ?_) ?_
    · exact shipOut_kept h6
    · exact h3
  clear_value d5
  refine Kept.foldl (fun d7 x7 h7 => ?_) ?_
  · exact sendXfer_kept h7
  · exact h5

theorem abandonDeltas_kept {d0 : Device} {a0} {a1} (h00 : Kept d0 a0)
    : Kept d0 (abandonDeltas a0 a1) := by
  unfold abandonDeltas
  refine sendWaiting_kept ?_
  refine Kept.foldl (fun d1 x1 h1 => ?_) ?_
  · extract_lets -merge -useContext d2 x3
    have h2 : Kept d0 d2 := modDelta_kept h1
    clear_value d2
    refine shipAcks_kept ?_
    refine Kept.foldl (fun d4 x4 h4 => ?_) ?_
    · exact shipGated_kept h4
    · exact h2
  · exact h00

theorem markPass_kept {d0 : Device} {a0} (h00 : Kept d0 a0) : Kept d0 (markPass a0) := by
  unfold markPass
  exact Device_modTurn_kept h00

theorem leaveFlowQueue_kept {d0 : Device} {a0} {a1} (h00 : Kept d0 a0)
    : Kept d0 (leaveFlowQueue a0 a1) := by
  unfold leaveFlowQueue
  exact { h00 with flows := (Map.wf_map _ (fun _ => rfl) h00.flows) }

theorem delDec_kept {d0 : Device} {a0} {a1} (h00 : Kept d0 a0) : Kept d0 (delDec a0 a1) := by
  unfold delDec
  exact Device_modTurn_kept h00

theorem modDec_kept {d0 : Device} {a0} {a1} {a2} (h00 : Kept d0 a0) : Kept d0 (modDec a0 a1 a2) := by
  unfold modDec
  exact Device_modTurn_kept h00

theorem endRetest_kept {d0 : Device} {a0} {a1} {a2} (h00 : Kept d0 a0)
    : Kept d0 (endRetest a0 a1 a2) := by
  unfold endRetest
  split
  · exact h00
  · refine Kept.ite ?_ ?_
    · exact Device_modTurn_kept (modDec_kept h00)
    · exact h00

theorem dropDecision_kept {d0 : Device} {a0} {a1} (h00 : Kept d0 a0)
    : Kept d0 (dropDecision a0 a1) := by
  unfold dropDecision
  exact leaveFlowQueue_kept (delDec_kept (endRetest_kept h00))

theorem returnGrant_kept {d0 : Device} {a0} {a1} (h00 : Kept d0 a0) : Kept d0 (returnGrant a0 a1) := by
  unfold returnGrant
  split
  · exact h00
  · refine Kept.ite ?_ ?_
    · exact Device_modClient_kept (modDec_kept h00)
    · exact h00

theorem countRefusal_kept {d0 : Device} {a0} {a1} (h00 : Kept d0 a0)
    : Kept d0 (countRefusal a0 a1) := by
  unfold countRefusal
  refine Kept.ite ?_ ?_
  · exact bump_kept h00
  · refine Kept.ite ?_ ?_
    · exact bump_kept h00
    · refine Kept.ite ?_ ?_
      · exact bump_kept h00
      · exact h00

theorem cqEnqueue_kept {d0 : Device} {a0} {a1} (h00 : Kept d0 a0) : Kept d0 (cqEnqueue a0 a1) := by
  unfold cqEnqueue
  exact Device_modRing_kept h00

theorem answer_kept {d0 : Device} {a0} {a1} {a2} {a3} {a4} {a5} {a6} {a7} {a8} {a9} {a10} {a11}
    (h00 : Kept d0 a0) : Kept d0 (answer a0 a1 a2 a3 a4 a5 a6 a7 a8 a9 a10 a11) := by
  unfold answer
  exact cqEnqueue_kept h00

theorem refuse_kept {d0 : Device} {a0} {a1} {a2} {a3} {a4} {a5} {a6} {a7} {a8} {a9} {a10} {a11}
    (h00 : Kept d0 a0) : Kept d0 (refuse a0 a1 a2 a3 a4 a5 a6 a7 a8 a9 a10 a11) := by
  unfold refuse
  extract_lets -merge -useContext d1
  have h1 : Kept d0 d1 := traceRec_kept h00
  clear_value d1
  exact answer_kept h1

theorem refuseDecision_kept {d0 : Device} {a0} {a1} {a2} {a3} {a4} {a5}
    (h00 : Kept d0 a0) : Kept d0 (refuseDecision a0 a1 a2 a3 a4 a5) := by
  unfold refuseDecision
  split
  · exact h00
  · extract_lets -merge -useContext x1 d2 d3 d4
    have h2 : Kept d0 d2 := dropDecision_kept (returnGrant_kept h00)
    clear_value d2
    have h3 : Kept d0 d3 := countRefusal_kept h2
    clear_value d3
    have h4 : Kept d0 d4 := traceRec_kept h3
    clear_value d4
    split
    · exact sendXfer_kept h4
    · exact refuse_kept h3

theorem abortDecision_kept {d0 : Device} {a0} {a1} (h00 : Kept d0 a0)
    : Kept d0 (abortDecision a0 a1) := by
  unfold abortDecision
  exact markPass_kept (refuseDecision_kept h00)

theorem abortSeq_kept {d0 : Device} {a0} {a1} {a2} (h00 : Kept d0 a0)
    : Kept d0 (abortSeq a0 a1 a2) := by
  unfold abortSeq
  split
  · exact h00
  · refine Kept.ite ?_ ?_
    · extract_lets -merge -useContext d1
      have h1 : Kept d0 d1 := seqAnswer_kept h00
      clear_value d1
      exact finishSeq_kept (setFlagBit_kept h1)
    · exact seqAnswer_kept h00

theorem sendHost_kept {d0 : Device} {a0} {a1} (h00 : Kept d0 a0) : Kept d0 (sendHost a0 a1) := by
  unfold sendHost
  refine Kept.ite ?_ ?_
  · exact Device_modFaults_kept h00
  · exact sendXfer_kept h00

theorem sendFwd_kept {d0 : Device} {a0} {a1} (h00 : Kept d0 a0) : Kept d0 (sendFwd a0 a1) := by
  unfold sendFwd
  extract_lets -merge -useContext x1
  exact sendHost_kept (Device_modTurn_kept h00)

theorem releaseBefore_kept {d0 : Device} {a0} {a1} {a2} (h00 : Kept d0 a0)
    : Kept d0 (releaseBefore a0 a1 a2) := by
  unfold releaseBefore
  extract_lets -merge -useContext x1
  refine Kept.foldl (fun d2 x2 h2 => ?_) ?_
  · exact sendFwd_kept h2
  · exact Device_modTurn_kept h00

theorem abortWaiting_kept {d0 : Device} {a0} {a1} (h00 : Kept d0 a0)
    : Kept d0 (abortWaiting a0 a1) := by
  unfold abortWaiting
  extract_lets -merge -useContext x1 x2 d3 d4
  have h3 : Kept d0 d3 := by
    refine Kept.foldl (fun d5 x5 h5 => ?_) ?_
    · exact abortDecision_kept h5
    · exact h00
  clear_value d3
  have h4 : Kept d0 d4 := releaseBefore_kept h3
  clear_value d4
  refine Kept.foldl (fun d6 x6 h6 => ?_) ?_
  · exact markPass_kept (dropDecision_kept (returnGrant_kept h6))
  · exact h4

theorem chargeBytes_kept {d0 : Device} {a0} {a1} {a2} (h00 : Kept d0 a0)
    : Kept d0 (chargeBytes a0 a1 a2) := by
  unfold chargeBytes
  exact Device_modClient_kept h00

theorem stageBeat_kept {d0 : Device} {a0} {a1} {a2} {a3} {a4} (h00 : Kept d0 a0)
    : Kept d0 (stageBeat a0 a1 a2 a3 a4) := by
  unfold stageBeat
  extract_lets -merge -useContext x1 x2 x3
  split
  · exact { h00 with  }
  · exact { h00 with  }

theorem laneIssue_kept {d0 d : Device} {g : Nat} (h : Kept d0 d) : Kept d0 (laneIssue d g) :=
  { h with lanes := (length_modAt _ _ _).trans h.lanes }

theorem modSel_kept {d0 : Device} {a0} {a1} {a2} (h00 : Kept d0 a0) : Kept d0 (modSel a0 a1 a2) := by
  unfold modSel
  exact { h00 with  }

theorem chargeUj_kept {d0 : Device} {a0} {a1} {a2} (h00 : Kept d0 a0)
    : Kept d0 (chargeUj a0 a1 a2) := by
  unfold chargeUj
  exact Device_modClient_kept h00

theorem chargeLanes_kept {d0 : Device} {a0} {a1} {a2} (h00 : Kept d0 a0)
    : Kept d0 (chargeLanes a0 a1 a2) := by
  unfold chargeLanes
  extract_lets -merge -useContext x1 x2 d3
  have h3 : Kept d0 d3 := chargeUj_kept (Device_modClient_kept h00)
  clear_value d3
  exact Device_modPower_kept h3

theorem fabiRead_kept {d0 : Device} {a0} {a1} {a2} {a3} (h00 : Kept d0 a0)
    : Kept d0 (fabiRead a0 a1 a2 a3) := by
  unfold fabiRead
  exact fabiNew_kept h00

theorem readLines_kept {d0 : Device} {a0} {a1} (h00 : Kept d0 a0) : Kept d0 (readLines a0 a1) := by
  unfold readLines
  split
  · extract_lets -merge -useContext x1
    refine Kept.foldl (fun d2 x2 h2 => ?_) ?_
    · exact fabiRead_kept (modSel_kept h2)
    · exact h00
  · exact h00

theorem feedSel_kept {d0 : Device} {a0} {a1} {a2} (h00 : Kept d0 a0)
    : Kept d0 (feedSel a0 a1 a2) := by
  unfold feedSel
  split
  · extract_lets -merge -useContext x1 d2
    have h2 : Kept d0 d2 := bumpBy_kept h00
    clear_value d2
    exact readLines_kept (modSel_kept (bumpBy_kept h2))
  · exact h00

theorem foldBeat_kept {d0 : Device} {a0} {a1} {a2} {a3} {a4} (h00 : Kept d0 a0)
    : Kept d0 (foldBeat a0 a1 a2 a3 a4) := by
  unfold foldBeat
  split
  · exact emit_kept h00
  · extract_lets -merge -useContext x1 x2 x3 d4 d5 d6
    have h4 : Kept d0 d4 := Device_modInflight_kept h00
    clear_value d4
    have h5 : Kept d0 d5 := by
      unfold d5
      split
      · exact laneIssue_kept (modSel_kept h4)
      · exact h4
    clear_value d5
    have h6 : Kept d0 d6 := by
      unfold d6
      split
      · exact chargeLanes_kept h5
      · exact h5
    clear_value d6
    exact emit_kept (feedSel_kept (stageBeat_kept h6))

theorem clearVictim_kept {d0 : Device} {a0} {a1} (h00 : Kept d0 a0) : Kept d0 (clearVictim a0 a1) := by
  unfold clearVictim
  split
  · refine Kept.ite ?_ ?_
    · exact h00
    · exact { h00 with groups := (Map.wf_map _ (fun _ => rfl) h00.groups) }
  · exact h00

theorem traceMove_kept {d0 : Device} {a0} {a1} {a2} {a3} {a4} {a5} {a6} {a7}
    (h00 : Kept d0 a0) : Kept d0 (traceMove a0 a1 a2 a3 a4 a5 a6 a7) := by
  unfold traceMove
  refine Kept.ite ?_ ?_
  · exact h00
  · exact traceRec_kept h00

theorem unname_kept {d0 : Device} {a0} {a1} {a2} (h00 : Kept d0 a0) : Kept d0 (unname a0 a1 a2) := by
  unfold unname
  exact writePtab_kept (setPage_kept h00)

theorem unnamePage_kept {d0 : Device} {a0} {a1} {a2} (h00 : Kept d0 a0)
    : Kept d0 (unnamePage a0 a1 a2) := by
  unfold unnamePage
  exact affUpdate_kept (unname_kept h00)

theorem chargeMove_kept {d0 : Device} {a0} {a1} (h00 : Kept d0 a0) : Kept d0 (chargeMove a0 a1) := by
  unfold chargeMove
  refine Kept.ite ?_ ?_
  · exact h00
  · exact chargeBytes_kept h00

theorem leastNotIn_lt {used : List Nat} {n lo hi id : Nat} (h : leastNotIn used n lo hi = some id) : id < hi := by
  induction n generalizing lo with
  | zero => exact nomatch h
  | succ n ih =>
    unfold leastNotIn at h
    split at h
    · exact nomatch h
    · split at h
      · exact ih h
      · cases h; omega

theorem leastFree_lt {used : List Nat} {n id : Nat} (h : leastFree used n = some id) : id < n := leastNotIn_lt h

theorem postMove_kept {d0 d : Device} {m : Move} (h : Kept d0 d) : Kept d0 (postMove d m) := by
  unfold postMove
  split
  · exact Device_modCtx_kept h (fun c hc => { hc with })
  · rename_i id heq
    have hid : id < 1024 := leastFree_lt heq
    have h1 : Kept d0 (d.modCtx (fun c => { c with moves := Map.put c.moves id m })) := Device_modCtx_kept h (fun c hc =>
      { hc with
        moves := Map.wf_put _ _ hc.moves
        descriptors := fun p hp => by
          rcases Map.mem_put hp with hp | hp
          · subst hp; exact hid
          · exact hc.descriptors p hp })
    have h2 {o : Out} : Kept d0 (emit _ o) := emit_kept (chargeMove_kept (a1 := m) h1)
    exact Kept.ite (cvcPass_kept (cvcPass_kept h2)) (cvcPass_kept h2)

theorem writebackPage_kept {d0 : Device} {a0} {a1} {a2} {a3} {a4} {a5}
    (h00 : Kept d0 a0) : Kept d0 (writebackPage a0 a1 a2 a3 a4 a5) := by
  unfold writebackPage
  split
  · exact h00
  · split
    · split
      · exact h00
      · refine Kept.ite ?_ ?_
        · exact postMove_kept (bump_kept (modDir1_kept h00))
        · exact h00
    · exact h00

theorem grantRoom_kept {d0 : Device} {a0} {a1} {a2} (h00 : Kept d0 a0)
    : Kept d0 (grantRoom a0 a1 a2) := by
  unfold grantRoom
  exact { h00 with groups := (Map.wf_map _ (fun _ => rfl) h00.groups) }

theorem dropCopy_kept {d0 : Device} {a0} {a1} (h00 : Kept d0 a0) : Kept d0 (dropCopy a0 a1) := by
  unfold dropCopy
  exact modDir1_kept h00

theorem dropT0_kept {d0 : Device} {a0} {a1} {a2} {a3} {a4} (h00 : Kept d0 a0)
    : Kept d0 (dropT0 a0 a1 a2 a3 a4) := by
  unfold dropT0
  split
  · exact h00
  · split
    · split
      · exact h00
      · refine Kept.ite ?_ ?_
        · exact unnamePage_kept h00
        · refine Kept.ite ?_ ?_
          · exact writebackPage_kept h00
          · refine Kept.ite ?_ ?_
            · exact grantRoom_kept (unnamePage_kept (dropCopy_kept h00))
            · exact h00
    · exact h00

theorem dropAllT0_kept {d0 : Device} {a0} {a1} {a2} {a3} (h00 : Kept d0 a0)
    : Kept d0 (dropAllT0 a0 a1 a2 a3) := by
  unfold dropAllT0
  split
  · exact h00
  · extract_lets -merge -useContext d1
    have h1 : Kept d0 d1 := traceMove_kept h00
    clear_value d1
    refine Kept.foldl (fun d2 x2 h2 => ?_) ?_
    · exact dropT0_kept h2
    · exact h1

theorem evictNow_kept {d0 : Device} {a0} {a1} (h00 : Kept d0 a0) : Kept d0 (evictNow a0 a1) := by
  unfold evictNow
  split
  · exact h00
  · refine Kept.ite ?_ ?_
    · exact clearVictim_kept (dropAllT0_kept (Device_modSeq_kept h00))
    · exact h00

theorem afterReturn_kept {d0 : Device} {a0} {a1} (h00 : Kept d0 a0) : Kept d0 (afterReturn a0 a1) := by
  unfold afterReturn
  refine Kept.foldl (fun d1 x1 h1 => ?_) ?_
  · exact tryEnd_kept (setIfHolds_kept (setIfHolds_kept h1))
  · exact h00

theorem returned_kept {d0 : Device} {a0} {a1} (h00 : Kept d0 a0) : Kept d0 (returned a0 a1) := by
  unfold returned
  refine Kept.foldl (fun d1 x1 h1 => ?_) ?_
  · exact evictNow_kept h1
  · exact afterReturn_kept h00

theorem hashFetch_kept {d0 : Device} {a0} {a1} (h00 : Kept d0 a0) : Kept d0 (hashFetch a0 a1) := by
  unfold hashFetch
  split
  · exact h00
  · extract_lets -merge -useContext x1 x2 x3
    split
    · exact h00
    · exact fabiRead_kept h00

theorem hashStart_kept {d0 : Device} {a0} {a1} (h00 : Kept d0 a0) : Kept d0 (hashStart a0 a1) := by
  unfold hashStart
  split
  · exact h00
  · refine Kept.ite ?_ ?_
    · exact hashFetch_kept (modBlk_kept h00)
    · exact h00

theorem writebackFull_kept {d0 d : Device} {s n k : Nat} (h : Kept d0 d)
    : Kept d0 (writebackFull d s n k) := by
  induction n generalizing d k with
  | zero => exact h
  | succ n ih =>
    refine ih ?_
    split
    · split
      · split
        · exact Kept.ite (writebackPage_kept h) h
        · exact h
      · exact h
    · exact h

theorem armPaused_kept {d0 : Device} {a0} {a1} (h00 : Kept d0 a0) : Kept d0 (armPaused a0 a1) := by
  unfold armPaused
  exact armTimer_kept (armTimer_kept h00)

theorem wakePages_kept {d0 : Device} {a0} (h00 : Kept d0 a0) : Kept d0 (wakePages a0) := by
  unfold wakePages
  refine Kept.foldl (fun d1 x1 h1 => ?_) ?_
  · refine Kept.ite ?_ ?_
    · exact setIfHolds_kept h1
    · exact h1
  · exact h00

theorem pausePages_kept {d0 : Device} {a0} {a1} (h00 : Kept d0 a0) : Kept d0 (pausePages a0 a1) := by
  unfold pausePages
  split
  · exact h00
  · extract_lets -merge -useContext x1 x2 d3 d4
    have h3 : Kept d0 d3 := by
      refine Kept.ite ?_ ?_
      · exact writebackPage_kept h00
      · exact h00
    clear_value d3
    have h4 : Kept d0 d4 := trimPages_kept (releaseFrom_kept h3)
    clear_value d4
    exact wakePages_kept (affUpdate_kept (modBlk_kept h4))

theorem turnStop_kept {d0 : Device} {a0} {a1} {a2} (h00 : Kept d0 a0)
    : Kept d0 (turnStop a0 a1 a2) := by
  unfold turnStop
  split
  · exact h00
  · refine Kept.ite ?_ ?_
    · exact finishSeq_kept h00
    · extract_lets -merge -useContext d1 d2 d3 d4
      have h1 : Kept d0 d1 := cancelTimer_kept (cancelTimer_kept h00)
      clear_value d1
      have h2 : Kept d0 d2 := modTcb_kept (enterState_kept h1)
      clear_value d2
      have h3 : Kept d0 d3 := Device_modSeq_kept (dropPost_kept h2)
      clear_value d3
      have h4 : Kept d0 d4 := armPaused_kept (pausePages_kept h3)
      clear_value d4
      split
      · exact sendCompl_kept h4
      · exact h4

theorem tellGroup_kept {d0 : Device} {a0} {a1} {a2} (h00 : Kept d0 a0)
    : Kept d0 (tellGroup a0 a1 a2) := by
  unfold tellGroup
  split
  · exact h00
  · refine Kept.ite ?_ ?_
    · exact h00
    · exact sendXfer_kept h00

theorem moveGroup_kept {d0 : Device} {a0} {a1} {a2} (h00 : Kept d0 a0)
    : Kept d0 (moveGroup a0 a1 a2) := by
  unfold moveGroup
  extract_lets -merge -useContext d1 x2 d3 d4
  have h1 : Kept d0 d1 := tellGroup_kept (dropAllT0_kept h00)
  clear_value d1
  have h3 : Kept d0 d3 := { h1 with groups := (Map.wf_map _ (fun _ => rfl) h1.groups) }
  clear_value d3
  have h4 : Kept d0 d4 := modTcb_kept h3
  clear_value d4
  split
  · refine Kept.ite ?_ ?_
    · exact startWait_kept h4
    · exact h4
  · exact h4

theorem moveIfDue_kept {d0 : Device} {a0} {a1} (h00 : Kept d0 a0) : Kept d0 (moveIfDue a0 a1) := by
  unfold moveIfDue
  split
  · exact h00
  · refine Kept.ite ?_ ?_
    · exact h00
    · split
      · exact moveGroup_kept h00
      · exact h00

theorem compactOver_kept {d0 : Device} {a0} {a1} {a2} (h00 : Kept d0 a0)
    : Kept d0 (compactOver a0 a1 a2) := by
  unfold compactOver
  split
  · exact h00
  · refine Kept.ite ?_ ?_
    · exact h00
    · extract_lets -merge -useContext d1 x2 d3 d4 d5
      have h1 : Kept d0 d1 := modBlk_kept h00
      clear_value d1
      have h3 : Kept d0 d3 := by
        refine Kept.ite ?_ ?_
        · exact leaveStep_kept (Device_modSeq_kept h1)
        · exact h1
      clear_value d3
      have h4 : Kept d0 d4 := hashStart_kept (writebackFull_kept h3)
      clear_value d4
      have h5 : Kept d0 d5 := moveIfDue_kept h4
      clear_value d5
      refine Kept.ite ?_ ?_
      · exact h4
      · refine Kept.ite ?_ ?_
        · refine Kept.ite ?_ ?_
          · exact h4
          · exact turnStop_kept h4
        · refine Kept.ite ?_ ?_
          · refine Kept.ite ?_ ?_
            · exact parkNow_kept h5
            · exact h5
          · exact h4

theorem compactDone_kept {d0 : Device} {a0} {a1} {a2} (h00 : Kept d0 a0)
    : Kept d0 (compactDone a0 a1 a2) := by
  unfold compactDone
  split
  · refine Kept.ite ?_ ?_
    · exact compactOver_kept (bump_kept h00)
    · exact h00
  · exact h00

theorem entryDone_kept {d0 : Device} {a0} {a1} {a2} (h10 : Kept d0 a1)
    : Kept d0 (entryDone a0 a1 a2) := by
  unfold entryDone
  refine Kept.ite ?_ ?_
  · exact h10
  · refine Kept.ite ?_ ?_
    · exact compactDone_kept h10
    · exact Device_modSeq_kept h10

theorem commandDone_kept {d0 : Device} {a0} {a1} (h00 : Kept d0 a0) : Kept d0 (commandDone a0 a1) := by
  unfold commandDone
  split
  · exact h00
  · refine returned_kept ?_
    refine Kept.foldl (fun d1 x1 h1 => ?_) ?_
    · exact entryDone_kept h1
    · exact freeEntry_kept h00

theorem acceptBeat_kept {d0 : Device} {a0} {a1} {a2} {a3} {a4} (h00 : Kept d0 a0)
    : Kept d0 (acceptBeat a0 a1 a2 a3 a4) := by
  unfold acceptBeat
  extract_lets -merge -useContext d1 x2 d3 d4
  have h1 : Kept d0 d1 := Device_modInflight_kept h00
  clear_value d1
  have h3 : Kept d0 d3 := chargeBytes_kept h1
  clear_value d3
  have h4 : Kept d0 d4 := by
    unfold d4
    split
    · refine Kept.ite ?_ ?_
      · exact stageBeat_kept h3
      · refine Kept.ite ?_ ?_
        · exact foldBeat_kept h3
        · exact emit_kept (stageBeat_kept h3)
    · exact emit_kept (stageBeat_kept h3)
  clear_value d4
  split
  · refine Kept.ite ?_ ?_
    · exact commandDone_kept h4
    · exact h4
  · exact h4

theorem chargeNs_kept {d0 : Device} {a0} {a1} {a2} (h00 : Kept d0 a0)
    : Kept d0 (chargeNs a0 a1 a2) := by
  unfold chargeNs
  exact Device_modClient_kept h00

theorem chargeEntry_kept {d0 : Device} {a0} {a1} {a2} {a3} (h00 : Kept d0 a0)
    : Kept d0 (chargeEntry a0 a1 a2 a3) := by
  unfold chargeEntry
  extract_lets -merge -useContext d1
  have h1 : Kept d0 d1 := chargeUj_kept (chargeNs_kept h00)
  clear_value d1
  split
  · refine Kept.ite ?_ ?_
    · exact Device_modSeq_kept h1
    · exact h1
  · exact h1

theorem chargeCommand_kept {d0 : Device} {a0} {a1} {a2} {a3} (h00 : Kept d0 a0)
    : Kept d0 (chargeCommand a0 a1 a2 a3) := by
  unfold chargeCommand
  refine Kept.foldl (fun d1 x1 h1 => ?_) ?_
  · exact chargeEntry_kept h1
  · exact h00

theorem stepEnergy_kept {d0 : Device} {a0} {a1} {a2} (h00 : Kept d0 a0)
    : Kept d0 (stepEnergy a0 a1 a2) := by
  unfold stepEnergy
  exact modSteps_kept h00

theorem faultSeq_kept {d0 : Device} {a0} {a1} {a2} (h00 : Kept d0 a0)
    : Kept d0 (faultSeq a0 a1 a2) := by
  unfold faultSeq
  exact finishSeq_kept (setFlagBit_kept h00)

theorem failSeq_kept {d0 : Device} {a0} {a1} {a2} (h00 : Kept d0 a0)
    : Kept d0 (failSeq a0 a1 a2) := by
  unfold failSeq
  split
  · exact h00
  · refine Kept.ite ?_ ?_
    · exact leaveStep_kept h00
    · refine Kept.ite ?_ ?_
      · exact faultSeq_kept (leaveStep_kept h00)
      · exact withdrawSeq_kept (modTcb_kept h00)

theorem failCommand_kept {d0 : Device} {a0} {a1} {a2} {a3} (h00 : Kept d0 a0)
    : Kept d0 (failCommand a0 a1 a2 a3) := by
  unfold failCommand
  split
  · exact h00
  · refine Kept.ite ?_ ?_
    · exact h00
    · extract_lets -merge -useContext x1 x2 x3 x4 d5 d6 x7
      have h5 : Kept d0 d5 := bumpBy_kept h00
      clear_value d5
      have h6 : Kept d0 d6 := by
        refine Kept.foldl (fun d8 x8 h8 => ?_) ?_
        · exact endOne_kept h8
        · exact h5
      clear_value d6
      refine Kept.foldl (fun d9 x9 h9 => ?_) ?_
      · split
        · refine Kept.ite ?_ ?_
          · exact listsMissing_kept h9
          · refine Kept.ite ?_ ?_
            · exact failSeq_kept h9
            · exact withdrawSeq_kept h9
        · exact h9
      · exact h6

theorem commandFailed_kept {d0 : Device} {a0} {a1} {a2} {a3} (h00 : Kept d0 a0)
    : Kept d0 (commandFailed a0 a1 a2 a3) := by
  unfold commandFailed
  split
  · exact h00
  · exact returned_kept (failCommand_kept h00)

theorem prefixRemove_kept {d0 : Device} {a0} {a1} (h00 : Kept d0 a0)
    : Kept d0 (prefixRemove a0 a1) := by
  unfold prefixRemove
  split
  · exact h00
  · extract_lets -merge -useContext d1
    have h1 : Kept d0 d1 := by
      refine Device_modCtx_kept ?_ ?_
      · exact h00
      · exact fun c hc => { hc with prefixes := (Map.wf_del _ hc.prefixes) }
    clear_value d1
    split
    · exact h1
    · refine Kept.ite ?_ ?_
      · exact delDir1_kept h1
      · exact modDir1_kept h1

theorem losePage_kept {d0 : Device} {a0} {a1} {a2} {a3} (h00 : Kept d0 a0)
    : Kept d0 (losePage a0 a1 a2 a3) := by
  unfold losePage
  split
  · exact h00
  · extract_lets -merge -useContext x1 d2
    have h2 : Kept d0 d2 := by
      refine Kept.ite ?_ ?_
      · exact h00
      · exact modBlk_kept h00
    clear_value d2
    refine affUpdate_kept ?_
    refine Kept.foldl (fun d3 x3 h3 => ?_) ?_
    · refine Kept.ite ?_ ?_
      · exact h3
      · split
        · exact h3
        · extract_lets -merge -useContext x4
          clear_value x4
          split
          · exact modDir1_kept h3
          · refine Kept.ite ?_ ?_
            · exact h3
            · exact writePtab_kept (releasePage_kept h3)
    · exact h2

theorem loseEntry_kept {d0 : Device} {a0} {a1} (h00 : Kept d0 a0) : Kept d0 (loseEntry a0 a1) := by
  unfold loseEntry
  split
  · exact h00
  · refine Kept.ite ?_ ?_
    · exact prefixRemove_kept h00
    · extract_lets -merge -useContext x1 d2
      have h2 : Kept d0 d2 := by
        refine Kept.ite ?_ ?_
        · exact prefixRemove_kept h00
        · exact h00
      clear_value d2
      refine Kept.foldl (fun d3 x3 h3 => ?_) ?_
      · split
        · exact losePage_kept h3
        · exact h3
      · exact h2

theorem loseCopy_kept {d0 : Device} {a0} {a1} (h00 : Kept d0 a0) : Kept d0 (loseCopy a0 a1) := by
  unfold loseCopy
  split
  · exact h00
  · extract_lets -merge -useContext x1 d2 d3
    have h2 : Kept d0 d2 := dropCopy_kept h00
    clear_value d2
    have h3 : Kept d0 d3 := by
      refine Kept.foldl (fun d4 x4 h4 => ?_) ?_
      · refine Kept.foldl (fun d5 x5 h5 => ?_) ?_
        · refine Kept.ite ?_ ?_
          · exact unnamePage_kept h5
          · exact h5
        · exact h4
      · exact h2
    clear_value d3
    refine Kept.ite ?_ ?_
    · exact loseEntry_kept h3
    · exact h3

theorem loseTile_kept {d0 : Device} {a0} {a1} (h00 : Kept d0 a0) : Kept d0 (loseTile a0 a1) := by
  unfold loseTile
  extract_lets -merge -useContext d1
  have h1 : Kept d0 d1 := by
    refine Kept.foldl (fun d2 x2 h2 => ?_) ?_
    · exact loseCopy_kept h2
    · exact h00
  clear_value d1
  refine Kept.foldl (fun d3 x3 h3 => ?_) ?_
  · exact modBlk_kept h3
  · exact h1

theorem acceptCompletion_kept {d0 : Device} {a0} {a1} {a2} {a3} (h00
    : Kept d0 a0) : Kept d0 (acceptCompletion a0 a1 a2 a3) := by
  unfold acceptCompletion
  extract_lets -merge -useContext x1 x2 x3 d4 d5 d6 d7
  have h4 : Kept d0 d4 := chargeCommand_kept (bumpBy_kept h00)
  clear_value d4
  have h5 : Kept d0 d5 := returnCredit_kept (stepEnergy_kept h4)
  clear_value d5
  have h6 : Kept d0 d6 := Device_modInflight_kept h5
  clear_value d6
  have h7 : Kept d0 d7 := commandFailed_kept (bump_kept h6)
  clear_value d7
  refine Kept.ite ?_ ?_
  · refine Kept.ite ?_ ?_
    · exact commandDone_kept h6
    · refine Kept.ite ?_ ?_
      · exact commandFailed_kept (Device_modInflight_kept h6)
      · exact Device_modInflight_kept h6
  · refine Kept.ite ?_ ?_
    · exact loseTile_kept h7
    · exact h7

theorem mbGo_kept {d0 : Device} {a0} (h00 : Kept d0 a0) : Kept d0 (mbGo a0) := by
  unfold mbGo
  extract_lets -merge -useContext d1 x2 x3
  have h1 : Kept d0 d1 := Device_modMgmt_kept h00
  clear_value d1
  exact cvcPass_kept h1

theorem mbAccept_kept {d0 : Device} {a0} {a1} {a2} {a3} {a4} {a5} (h00
    : Kept d0 a0) : Kept d0 (mbAccept a0 a1 a2 a3 a4 a5) := by
  unfold mbAccept
  exact mbGo_kept (Device_modMgmt_kept h00)

theorem acceptWrite_kept {d0 : Device} {a0} {a1} {a2} {a3} {a4} (h00
    : Kept d0 a0) : KeptP d0 (acceptWrite a0 a1 a2 a3 a4) := by
  unfold acceptWrite
  split
  · refine KeptP.ite ?_ ?_
    · refine KeptP.mk ?_
      exact Device_modMgmt_kept h00
    · extract_lets -merge -useContext d1
      have h1 : Kept d0 d1 := by
        refine Kept.ite ?_ ?_
        · exact h00
        · exact mbAccept_kept h00
      clear_value d1
      refine KeptP.mk ?_
      exact h1
  · refine KeptP.mk ?_
    exact h00
  · refine KeptP.mk ?_
    exact h00
  · refine KeptP.mk ?_
    exact h00

theorem acctSnapshot_kept {d0 : Device} {a0} {a1} (h00 : Kept d0 a0)
    : Kept d0 (acctSnapshot a0 a1) := by
  unfold acctSnapshot
  extract_lets -merge -useContext x1
  exact Device_modAgg_kept h00

theorem ackHandOver_kept {d0 : Device} {a0} {a1} (h00 : Kept d0 a0) : Kept d0 (ackHandOver a0 a1) := by
  unfold ackHandOver
  split
  · exact h00
  · split
    · exact h00
    · extract_lets -merge -useContext d1
      have h1 : Kept d0 d1 := Device_modSeq_kept h00
      clear_value d1
      refine Kept.ite ?_ ?_
      · exact Device_modFaults_kept h1
      · exact sendXfer_kept h1

theorem freshId_kept {d0 : Device} {a0} (h00 : Kept d0 a0) : KeptP d0 (freshId a0) := by
  unfold freshId
  refine KeptP.mk ?_
  exact Device_modTurn_kept h00

theorem forwardCmd_kept {d0 : Device} {a0} {a1} {a2} {a3} {a4} {a5} (h00
    : Kept d0 a0) : Kept d0 (forwardCmd a0 a1 a2 a3 a4 a5) := by
  unfold forwardCmd
  split
  · rename_i y1_0 y1_1 heq1
    have h1 : Kept d0 y1_0 := by
      refine KeptP.of_eq ?_ heq1
      exact freshId_kept h00
    exact sendFwd_kept h1

theorem markAborted_kept {d0 : Device} {a0} {a1} (h00 : Kept d0 a0) : Kept d0 (markAborted a0 a1) := by
  unfold markAborted
  exact Device_modTurn_kept h00

theorem actAbort_kept {d0 : Device} {a0} {a1} {a2} (h10 : Kept d0 a1)
    : Kept d0 (actAbort a0 a1 a2) := by
  unfold actAbort
  extract_lets -merge -useContext x1
  subst x1
  refine Kept.ite ?_ ?_
  · split
    · exact answer_kept (abortDecision_kept h10)
    · split
      · exact forwardCmd_kept (markAborted_kept (abortWaiting_kept h10))
      · exact h10
  · exact forwardCmd_kept (markAborted_kept (abortWaiting_kept h10))

theorem actAbortClient_kept {d0 : Device} {a0} {a1} {a2} (h10 : Kept d0 a1)
    : Kept d0 (actAbortClient a0 a1 a2) := by
  unfold actAbortClient
  extract_lets -merge -useContext x1 x2 d3 x4
  have h3 : Kept d0 d3 := by
    refine Kept.foldl (fun d5 x5 h5 => ?_) ?_
    · exact abortDecision_kept h5
    · exact h10
  clear_value d3
  refine Kept.ite ?_ ?_
  · exact answer_kept h3
  · split
    · rename_i y6_0 y6_1 heq6
      have h6 : Kept d0 y6_0 := by
        refine KeptP.of_eq ?_ heq6
        exact freshId_kept h3
      extract_lets -merge -useContext d7
      have h7 : Kept d0 d7 := Device_modTurn_kept h6
      clear_value d7
      refine Kept.foldl (fun d8 x8 h8 => ?_) ?_
      · exact forwardCmd_kept (markAborted_kept (abortWaiting_kept h8))
      · exact h7

theorem addDecision_kept {d0 : Device} {a0} {a1} (h00 : Kept d0 a0) : Kept d0 (addDecision a0 a1) := by
  unfold addDecision
  exact Device_modTurn_kept h00

theorem queueDecision_kept {d0 : Device} {a0} {a1} {a2} {a3} (h00 : Kept d0 a0)
    : Kept d0 (queueDecision a0 a1 a2 a3) := by
  unfold queueDecision
  extract_lets -merge -useContext d1 x2 x3
  have h1 : Kept d0 d1 := returnGrant_kept h00
  clear_value d1
  split
  · exact h1
  · refine Kept.ite ?_ ?_
    · exact endRetest_kept (modDec_kept h1)
    · extract_lets -merge -useContext x4
      split
      · exact refuseDecision_kept h1
      · refine Kept.ite ?_ ?_
        · exact refuseDecision_kept h1
        · refine Kept.ite ?_ ?_
          · exact refuseDecision_kept h1
          · refine Kept.ite ?_ ?_
            · exact refuseDecision_kept h1
            · extract_lets -merge -useContext d5 d6
              have h5 : Kept d0 d5 := modDec_kept h1
              clear_value d5
              have h6 : Kept d0 d6 := bump_kept h5
              clear_value d6
              exact traceRec_kept h6

theorem modFlow_kept {d0 : Device} {a0} {a1} {a2} (h00 : Kept d0 a0)
    : Kept d0 (modFlow a0 a1 a2) := by
  unfold modFlow
  exact { h00 with flows := (Map.wf_mod _ _ h00.flows) }

theorem testFour_kept {d0 : Device} {a0} {a1} (h00 : Kept d0 a0) : KeptO d0 (testFour a0 a1) := by
  unfold testFour
  split
  · exact KeptO.none
  · refine KeptO.ite ?_ ?_
    · refine KeptO.some ?_
      exact h00
    · refine KeptO.ite ?_ ?_
      · exact KeptO.none
      · refine KeptO.some ?_
        exact Device_modClient_kept (modDec_kept h00)

theorem prefixAge_kept {d0 : Device} {a0} {a1} (h00 : Kept d0 a0) : Kept d0 (prefixAge a0 a1) := by
  unfold prefixAge
  refine Device_modCtx_kept ?_ ?_
  · exact h00
  · exact fun c hc => { hc with prefixes := (Map.wf_map _ (fun _ => by (repeat' split) <;> rfl) hc.prefixes) }

theorem probeAll_kept {d0 d : Device} {sc m ad : Nat} {l : List Nat} (h
    : Kept d0 d) :
    KeptP d0 (probeAll d sc m ad l) := by
  induction l generalizing d with
  | nil => exact h
  | cons p l ih =>
    unfold probeAll
    split
    · exact ih (prefixAge_kept h)
    · exact ih h

end Sys2Proof.Machine
end

