-- ==== Sys2Proof/Laws/Kept3.lean ====
section
/-! SUPPORT. What each operation keeps (see Sys2Proof/Laws/Kept.lean), in the order in which they call each other: part 3. -/

set_option Elab.async false

namespace Sys2Proof.Machine

theorem serveLookup_kept {d0 : Device} {a0} {a1} {a2} {a3} {a4} {a5} {a6}
    (h00 : Kept d0 a0) : KeptP d0 (serveLookup a0 a1 a2 a3 a4 a5 a6) := by
  unfold serveLookup
  extract_lets -merge -useContext d1 d2
  have h1 : KeptP d0 d1 := probeAll_kept (bump_kept h00)
  clear_value d1
  have h2 : Kept d0 d2 := h1
  clear_value d2
  refine KeptP.mk ?_
  exact h2

theorem noteAnswer_kept {d0 : Device} {a0} {a1} {a2} {a3} (h00 : Kept d0 a0)
    : Kept d0 (noteAnswer a0 a1 a2 a3) := by
  unfold noteAnswer
  extract_lets -merge -useContext x1
  exact Device_modTurn_kept h00

theorem sendLookups_kept {d0 d : Device} {did : Nat} {l : List Nat} (h
    : Kept d0 d) : Kept d0 (sendLookups d did l) := by
  induction l generalizing d with
  | nil => exact h
  | cons g gs ih =>
    unfold sendLookups
    split
    · exact h
    · have h1 : Kept d0 (freshId d).1 := freshId_kept h
      dsimp only
      refine Kept.ite ?_ ?_
      · exact ih (modDec_kept (noteAnswer_kept (serveLookup_kept h1)))
      · exact ih (modDec_kept (sendXfer_kept (Device_modTurn_kept h1)))

theorem sendHandOver_kept {d0 : Device} {a0} {a1} {a2} {a3} (h00 : Kept d0 a0)
    : Kept d0 (sendHandOver a0 a1 a2 a3) := by
  unfold sendHandOver
  split
  · exact h00
  · split
    · rename_i y1_0 y1_1 heq1
      have h1 : Kept d0 y1_0 := by
        refine KeptP.of_eq ?_ heq1
        exact freshId_kept h00
      extract_lets -merge -useContext d2 d3
      have h2 : Kept d0 d2 := endRetest_kept h1
      clear_value d2
      have h3 : Kept d0 d3 := modDec_kept h2
      clear_value d3
      split
      · extract_lets -merge -useContext x4
        exact sendFwd_kept (modDec_kept (releaseBefore_kept h2))
      · exact sendXfer_kept h3

theorem toFallback_kept {d0 : Device} {a0} {a1} {a2} (h00 : Kept d0 a0)
    : Kept d0 (toFallback a0 a1 a2) := by
  unfold toFallback
  exact modDec_kept h00

theorem decideGroup_kept {d0 : Device} {a0} {a1} (h00 : Kept d0 a0) : KeptP d0 (decideGroup a0 a1) := by
  unfold decideGroup
  split
  · refine KeptP.mk ?_
    exact h00
  · split
    · refine KeptP.ite ?_ ?_
      · refine KeptP.mk ?_
        exact refuseDecision_kept h00
      · refine KeptP.mk ?_
        exact queueDecision_kept h00
    · split
      · extract_lets -merge -useContext x1 x2 d3
        have h3 : Kept d0 d3 := modDec_kept h00
        clear_value d3
        refine KeptP.mk ?_
        exact sendHandOver_kept h3
      · refine KeptP.mk ?_
        exact toFallback_kept h00
      · refine KeptP.mk ?_
        exact refuseDecision_kept h00

theorem askCandidates_kept {d0 : Device} {a0} {a1} (h00 : Kept d0 a0)
    : KeptP d0 (askCandidates a0 a1) := by
  unfold askCandidates
  split
  · refine KeptP.mk ?_
    exact h00
  · extract_lets -merge -useContext x1 d2 d3
    have h2 : Kept d0 d2 := modDec_kept h00
    clear_value d2
    have h3 : Kept d0 d3 := sendLookups_kept h2
    clear_value d3
    split
    · refine KeptP.mk ?_
      exact h3
    · refine KeptP.ite ?_ ?_
      · exact decideGroup_kept h3
      · refine KeptP.mk ?_
        exact h3

theorem beginSix_kept {d0 : Device} {a0} {a1} (h00 : Kept d0 a0) : KeptP d0 (beginSix a0 a1) := by
  unfold beginSix
  split
  · refine KeptP.mk ?_
    exact h00
  · extract_lets -merge -useContext x1
    refine KeptP.ite ?_ ?_
    · exact askCandidates_kept h00
    · refine KeptP.mk ?_
      exact fabiRead_kept (modDec_kept h00)

theorem testSix_kept {d0 : Device} {a0} {a1} (h00 : Kept d0 a0) : Kept d0 (testSix a0 a1) := by
  unfold testSix
  extract_lets -merge -useContext d1
  have h1 : KeptP d0 d1 := beginSix_kept h00
  clear_value d1
  refine Kept.ite ?_ ?_
  · show KeptP d0 _
    exact beginSix_kept h1
  · exact h1

theorem testsFrom3_kept {d0 : Device} {a0} {a1} (h00 : Kept d0 a0) : Kept d0 (testsFrom3 a0 a1) := by
  unfold testsFrom3
  split
  · exact h00
  · refine Kept.ite ?_ ?_
    · exact refuseDecision_kept h00
    · split
      · exact queueDecision_kept h00
      · rename_i y1_0 heq1
        have h1 : Kept d0 y1_0 := by
          refine KeptO.of_eq ?_ heq1
          exact testFour_kept h00
        refine Kept.ite ?_ ?_
        · exact queueDecision_kept h1
        · exact testSix_kept h1

theorem paramDecided_kept {d0 : Device} {a0} {a1} {a2} (h00 : Kept d0 a0)
    : Kept d0 (paramDecided a0 a1 a2) := by
  unfold paramDecided
  split
  · exact h00
  · extract_lets -merge -useContext x1 x2 d3
    have h3 : Kept d0 d3 := modDec_kept h00
    clear_value d3
    refine Kept.ite ?_ ?_
    · exact refuseDecision_kept h3
    · refine Kept.ite ?_ ?_
      · exact refuseDecision_kept h3
      · exact testsFrom3_kept h3

theorem beginParam_kept {d0 : Device} {a0} {a1} (h00 : Kept d0 a0) : Kept d0 (beginParam a0 a1) := by
  unfold beginParam
  split
  · exact h00
  · refine Kept.ite ?_ ?_
    · exact paramDecided_kept h00
    · refine Kept.ite ?_ ?_
      · exact paramDecided_kept h00
      · exact fabiRead_kept (modDec_kept h00)

theorem beginCont_kept {d0 : Device} {a0} {a1} {a2} (h00 : Kept d0 a0)
    : Kept d0 (beginCont a0 a1 a2) := by
  unfold beginCont
  split
  · exact refuseDecision_kept h00
  · refine Kept.ite ?_ ?_
    · exact refuseDecision_kept h00
    · exact beginParam_kept (modDec_kept h00)

theorem beginTests_kept {d0 : Device} {a0} {a1} (h00 : Kept d0 a0) : Kept d0 (beginTests a0 a1) := by
  unfold beginTests
  split
  · exact h00
  · split
    · exact beginCont_kept h00
    · split
      · exact refuseDecision_kept h00
      · exact beginParam_kept (modDec_kept h00)

theorem serveFlow_kept {d0 : Device} {a0} {a1} {a2} (h00 : Kept d0 a0)
    : Kept d0 (serveFlow a0 a1 a2) := by
  unfold serveFlow
  extract_lets -merge -useContext x1
  exact modFlow_kept h00

theorem contFlow_kept {d0 : Device} {a0} {a1} {a2} (h00 : Kept d0 a0)
    : Kept d0 (contFlow a0 a1 a2) := by
  unfold contFlow
  split
  · extract_lets -merge -useContext d1
    have h1 : Kept d0 d1 := modDec_kept h00
    clear_value d1
    refine Kept.ite ?_ ?_
    · exact refuseDecision_kept h1
    · refine Kept.ite ?_ ?_
      · exact queueDecision_kept (modFlow_kept h1)
      · exact beginTests_kept (serveFlow_kept h1)
  · exact beginTests_kept h00

theorem actContinue_kept {d0 : Device} {a0} {a1} {a2} (h10 : Kept d0 a1)
    : Kept d0 (actContinue a0 a1 a2) := by
  unfold actContinue
  split
  · exact h10
  · extract_lets -merge -useContext x1 x2 d3
    have h3 : Kept d0 d3 := addDecision_kept h10
    clear_value d3
    split
    · exact contFlow_kept h3
    · refine Kept.ite ?_ ?_
      · exact modDec_kept h3
      · exact beginTests_kept h3

theorem inOrder_kept {d0 : Device} {a0} {a1} {a2} {a3} {a4} (h00 : Kept d0 a0)
    : Kept d0 (inOrder a0 a1 a2 a3 a4) := by
  unfold inOrder
  extract_lets -merge -useContext x1
  refine Kept.ite ?_ ?_
  · split
    · rename_i y2_0 y2_1 heq2
      have h2 : Kept d0 y2_0 := by
        refine KeptP.of_eq ?_ heq2
        exact freshId_kept h00
      extract_lets -merge -useContext x3
      exact Device_modTurn_kept h2
  · exact forwardCmd_kept h00

theorem actPause_kept {d0 : Device} {a0} {a1} {a2} (h10 : Kept d0 a1)
    : Kept d0 (actPause a0 a1 a2) := by
  unfold actPause
  exact inOrder_kept h10

theorem actPublish_kept {d0 : Device} {a0} {a1} {a2} (h10 : Kept d0 a1)
    : Kept d0 (actPublish a0 a1 a2) := by
  unfold actPublish
  refine Kept.ite ?_ ?_
  · exact refuse_kept h10
  · extract_lets -merge -useContext d1 x2 d3
    have h1 : KeptP d0 d1 := freshId_kept h10
    clear_value d1
    have h3 : Kept d0 d3 := h1
    clear_value d3
    exact fabiRead_kept { h3 with  }

theorem actRestore_kept {d0 : Device} {a0} {a1} {a2} (h10 : Kept d0 a1)
    : Kept d0 (actRestore a0 a1 a2) := by
  unfold actRestore
  extract_lets -merge -useContext x1 x2 x3 d4
  have h4 : Kept d0 d4 := addDecision_kept h10
  clear_value d4
  refine Kept.ite ?_ ?_
  · exact refuseDecision_kept h4
  · exact fabiRead_kept h4

theorem actResume_kept {d0 : Device} {a0} {a1} {a2} (h10 : Kept d0 a1)
    : Kept d0 (actResume a0 a1 a2) := by
  unfold actResume
  exact inOrder_kept h10

theorem actSave_kept {d0 : Device} {a0} {a1} {a2} (h10 : Kept d0 a1)
    : Kept d0 (actSave a0 a1 a2) := by
  unfold actSave
  exact inOrder_kept h10

theorem whenPresent_kept {d0 : Device} {a0} {a1} (h00 : Kept d0 a0) (h10 : ∀ z0, Kept d0 z0 → Kept d0 (a1 z0)) : Kept d0 (whenPresent a0 a1) := by
  unfold whenPresent
  refine Kept.ite ?_ ?_
  · refine h10 _ ?_
    · exact h00
  · exact h00

theorem countMasked_kept {d0 : Device} {a0} {a1} {a2} {a3} {a4} (h00
    : Kept d0 a0) : Kept d0 (countMasked a0 a1 a2 a3 a4) := by
  unfold countMasked
  split
  · refine Kept.ite ?_ ?_
    · exact bump_kept h00
    · exact h00
  · exact h00

theorem raiseVector_kept {d0 : Device} {a0} {a1} (h00 : Kept d0 a0) : Kept d0 (raiseVector a0 a1) := by
  unfold raiseVector
  refine Kept.ite ?_ ?_
  · exact odSet_kept h00
  · refine Kept.ite ?_ ?_
    · exact h00
    · exact fabiWrite_kept h00

theorem mbRespond_kept {d0 : Device} {a0} {a1} {a2} {a3} (h00 : Kept d0 a0)
    : Kept d0 (mbRespond a0 a1 a2 a3) := by
  unfold mbRespond
  extract_lets -merge -useContext d1 d2
  have h1 : Kept d0 d1 := Device_modMgmt_kept h00
  clear_value d1
  have h2 : Kept d0 d2 := cvcPass_kept h1
  clear_value d2
  exact raiseVector_kept h2

theorem mctpSend_kept {d0 : Device} {a0} {a1} {a2} {a3} (h00 : Kept d0 a0)
    : Kept d0 (mctpSend a0 a1 a2 a3) := by
  unfold mctpSend
  refine Kept.foldl (fun d1 x1 h1 => ?_) ?_
  · exact emit_kept h1
  · exact bump_kept h00

theorem mctpRefuse_kept {d0 d : Device} {n : Nat} (h : Kept d0 d) : Kept d0 (mctpRefuse n d) := by
  induction n generalizing d with
  | zero => exact h
  | succ n ih =>
    unfold mctpRefuse
    split
    · exact h
    · split
      · exact ih (mctpSend_kept (Device_modMgmt_kept h))
      · exact h

theorem mctpAnswer_kept {d0 : Device} {a0} {a1} {a2} {a3} (h00 : Kept d0 a0)
    : Kept d0 (mctpAnswer a0 a1 a2 a3) := by
  unfold mctpAnswer
  exact mctpRefuse_kept (mctpSend_kept (Device_modMgmt_kept h00))

theorem mctpRespond_kept {d0 : Device} {a0} {a1} {a2} {a3} {a4} {a5} {a6} {a7} {a8}
    (h00 : Kept d0 a0) : Kept d0 (mctpRespond a0 a1 a2 a3 a4 a5 a6 a7 a8) := by
  unfold mctpRespond
  exact mctpAnswer_kept h00

theorem setParamRespond_kept {d0 : Device} {a0} {a1} {a2} {a3} (h00 : Kept d0 a0)
    : Kept d0 (setParamRespond a0 a1 a2 a3) := by
  unfold setParamRespond
  split
  · exact h00
  · extract_lets -merge -useContext x1 d2
    have h2 : Kept d0 d2 := Device_modMgmt_kept h00
    clear_value d2
    refine Kept.ite ?_ ?_
    · exact answer_kept h2
    · exact refuse_kept h2

theorem directRefuse_kept {d0 : Device} {a0} {a1} {a2} {a3} (h00 : Kept d0 a0)
    : Kept d0 (directRefuse a0 a1 a2 a3) := by
  unfold directRefuse
  extract_lets -merge -useContext x1
  exact sinceSnap_kept (odSet_kept h00)

theorem respondWrite_kept {d0 : Device} {a0} {a1} {a2} {a3} {a4} {a5}
    (h00 : Kept d0 a0) : Kept d0 (respondWrite a0 a1 a2 a3 a4 a5) := by
  unfold respondWrite
  split
  · exact mbRespond_kept h00
  · exact mctpRespond_kept h00
  · exact setParamRespond_kept h00
  · refine Kept.ite ?_ ?_
    · exact h00
    · exact directRefuse_kept h00

theorem performWrite_kept {d0 : Device} {a0} {a1} {a2} {a3} {a4} {a5}
    (h00 : Kept d0 a0) (h50 : ∀ z0 z1, Kept d0 z0 → KeptP d0 (a5 z0 z1)) : Kept d0 (performWrite a0 a1 a2 a3 a4 a5) := by
  unfold performWrite
  extract_lets -merge -useContext x1 d2 d3
  have h2 : Kept d0 d2 := countMasked_kept h00
  clear_value d2
  have h3 : KeptP d0 d3 := by
    refine h50 _ _ ?_
    · exact h2
  clear_value d3
  split
  · exact respondWrite_kept h2
  · split
    · exact respondWrite_kept h3
    · exact respondWrite_kept h3
    · exact h3

theorem tookTurn_kept {d0 : Device} {a0} {a1} (h00 : Kept d0 a0) : Kept d0 (tookTurn a0 a1) := by
  unfold tookTurn
  split
  · exact Device_modMgmt_kept h00
  · exact Device_modMgmt_kept h00
  · exact Device_modMgmt_kept h00
  · exact h00

theorem pathWrite_kept {d0 : Device} {a0} {a1} {a2} {a3} {a4} {a5} (h00
    : Kept d0 a0) (h50 : ∀ z0 z1, Kept d0 z0 → KeptP d0 (a5 z0 z1)) : Kept d0 (pathWrite a0 a1 a2 a3 a4 a5) := by
  unfold pathWrite
  refine whenPresent_kept ?_ ?_
  · exact h00
  · intro y1_0 h1
    extract_lets -merge -useContext d2
    have h2 : KeptP d0 d2 := acceptWrite_kept h1
    clear_value d2
    refine Kept.ite ?_ ?_
    · refine performWrite_kept ?_ ?_
      · exact tookTurn_kept h2
      · intro y3_0 y3_1 h3
        refine h50 _ _ ?_
        · exact h3
    · exact h2

theorem dropSqReads_kept {d0 : Device} {a0} {a1} (h00 : Kept d0 a0) : Kept d0 (dropSqReads a0 a1) := by
  unfold dropSqReads
  exact fabiDrop_kept h00

theorem ringResetNow_kept {d0 : Device} {a0} {a1} (h00 : Kept d0 a0)
    : Kept d0 (ringResetNow a0 a1) := by
  unfold ringResetNow
  extract_lets -merge -useContext d1
  have h1 : Kept d0 d1 := dropSqReads_kept { h00 with rings := (Map.wf_put _ _ h00.rings) }
  clear_value d1
  refine Kept.foldl (fun d2 x2 h2 => ?_) ?_
  · refine Kept.ite ?_ ?_
    · exact Device_modCvc_kept h2
    · exact h2
  · exact h1

theorem ringDiscardNow_kept {d0 : Device} {a0} {a1} (h00 : Kept d0 a0)
    : Kept d0 (ringDiscardNow a0 a1) := by
  unfold ringDiscardNow
  exact Device_modRing_kept (dropSqReads_kept h00)

theorem sqFetch_kept {d0 d : Device} {p n : Nat} (h : Kept d0 d) : Kept d0 (sqFetch d p n) := by
  induction n generalizing d with
  | zero => exact h
  | succ n ih =>
    unfold sqFetch
    exact Kept.ite (ih (fabiRead_kept (Device_modRing_kept h))) h

theorem cqTrailer_kept {d0 : Device} {a0} {a1} {a2} {a3} (h00 : Kept d0 a0)
    : KeptP d0 (cqTrailer a0 a1 a2 a3) := by
  unfold cqTrailer
  split
  · refine KeptP.mk ?_
    exact h00
  · extract_lets -merge -useContext x1 x2
    refine KeptP.mk ?_
    exact chanMod_kept h00

theorem cqIssue_kept {d0 : Device} {a0} {a1} (h00 : Kept d0 a0) : Kept d0 (cqIssue a0 a1) := by
  unfold cqIssue
  extract_lets -merge -useContext x1 x2 x3
  split
  · exact h00
  · extract_lets -merge -useContext d4 d5
    have h4 : KeptP d0 d4 := cqTrailer_kept h00
    clear_value d4
    have h5 : Kept d0 d5 := Device_modRing_kept h4
    clear_value d5
    exact fabiWrite_kept h5

theorem ringClearErrNow_kept {d0 : Device} {a0} {a1} (h00 : Kept d0 a0)
    : Kept d0 (ringClearErrNow a0 a1) := by
  unfold ringClearErrNow
  extract_lets -merge -useContext x1 x2 d3 d4
  have h3 : Kept d0 d3 := Device_modRing_kept h00
  clear_value d3
  have h4 : Kept d0 d4 := by
    refine Kept.ite ?_ ?_
    · exact sqFetch_kept (Device_modRing_kept (dropSqReads_kept h3))
    · exact h3
  clear_value d4
  refine Kept.ite ?_ ?_
  · exact cqIssue_kept h4
  · exact h4

theorem ringCtrlWrite_kept {d0 : Device} {a0} {a1} {a2} (h00 : Kept d0 a0)
    : KeptO d0 (ringCtrlWrite a0 a1 a2) := by
  unfold ringCtrlWrite
  refine KeptO.ite ?_ ?_
  · exact KeptO.none
  · extract_lets -merge -useContext d1 d2 d3
    have h1 : Kept d0 d1 := by
      refine Kept.ite ?_ ?_
      · exact ringResetNow_kept h00
      · exact h00
    clear_value d1
    have h2 : Kept d0 d2 := by
      refine Kept.ite ?_ ?_
      · exact ringDiscardNow_kept h1
      · exact h1
    clear_value d2
    have h3 : Kept d0 d3 := by
      refine Kept.ite ?_ ?_
      · exact ringClearErrNow_kept h2
      · exact h2
    clear_value d3
    refine KeptO.some ?_
    exact odSet_kept h3

theorem refusedBy_kept {d0 : Device} {a0} {a1} (h00 : Kept d0 a0) : KeptP d0 (refusedBy a0 a1) := by
  unfold refusedBy
  refine KeptP.mk ?_
  exact h00

theorem announce_kept {d0 : Device} {a0} {a1} (h00 : Kept d0 a0) : Kept d0 (announce a0 a1) := by
  unfold announce
  refine Kept.foldl (fun d1 x1 h1 => ?_) ?_
  · exact sendXfer_kept h1
  · exact h00

theorem effRingCtrl_kept {d0 : Device} {a0} {a1} {a2} (h10 : Kept d0 a1)
    : KeptP d0 (effRingCtrl a0 a1 a2) := by
  unfold effRingCtrl
  split
  · exact refusedBy_kept h10
  · rename_i y1_0 heq1
    have h1 : Kept d0 y1_0 := by
      refine KeptO.of_eq ?_ heq1
      exact ringCtrlWrite_kept h10
    refine KeptP.mk ?_
    refine Kept.ite ?_ ?_
    · exact announce_kept h1
    · exact h1

theorem storeIf_kept {d0 : Device} {a0} {a1} {a2} {a3} {a4} (h30 : Kept d0 a3)
    : KeptP d0 (storeIf a0 a1 a2 a3 a4) := by
  unfold storeIf
  refine KeptP.ite ?_ ?_
  · refine KeptP.mk ?_
    exact odSet_kept h30
  · refine KeptP.mk ?_
    exact h30

theorem effRingEntry_kept {d0 : Device} {a0} {a1} {a2} {a3} (h20 : Kept d0 a2)
    : KeptP d0 (effRingEntry a0 a1 a2 a3) := by
  unfold effRingEntry
  exact storeIf_kept h20

theorem sendPending_kept {d0 : Device} {a0} {a1} (h00 : Kept d0 a0) : Kept d0 (sendPending a0 a1) := by
  unfold sendPending
  refine Kept.ite ?_ ?_
  · extract_lets -merge -useContext x1 d2
    have h2 : Kept d0 d2 := { h00 with  }
    clear_value d2
    exact fabiWrite_kept (odSet_kept h2)
  · exact h00

theorem effMsiMask_kept {d0 : Device} {a0} {a1} (h00 : Kept d0 a0) : KeptP d0 (effMsiMask a0 a1) := by
  unfold effMsiMask
  extract_lets -merge -useContext x1
  refine KeptP.mk ?_
  refine Kept.foldl (fun d2 x2 h2 => ?_) ?_
  · exact sendPending_kept h2
  · exact odSet_kept h00

theorem effSeqQuery_kept {d0 : Device} {a0} {a1} (h00 : Kept d0 a0) : KeptP d0 (effSeqQuery a0 a1) := by
  unfold effSeqQuery
  exact storeIf_kept h00

theorem effSeal_kept {d0 : Device} {a0} {a1} (h00 : Kept d0 a0) : KeptP d0 (effSeal a0 a1) := by
  unfold effSeal
  refine KeptP.ite ?_ ?_
  · exact refusedBy_kept h00
  · refine KeptP.ite ?_ ?_
    · exact refusedBy_kept h00
    · extract_lets -merge -useContext x1
      refine KeptP.ite ?_ ?_
      · refine KeptP.mk ?_
        exact odSet_kept h00
      · refine KeptP.mk ?_
        exact fabiWrite_kept (Device_modMgmt_kept h00)

theorem effTableKey_kept {d0 : Device} {a0} {a1} {a2} (h10 : Kept d0 a1)
    : KeptP d0 (effTableKey a0 a1 a2) := by
  unfold effTableKey
  extract_lets -merge -useContext d1
  have h1 : Kept d0 d1 := Device_modMgmt_kept h10
  clear_value d1
  refine KeptP.ite ?_ ?_
  · exact refusedBy_kept h10
  · refine KeptP.ite ?_ ?_
    · refine KeptP.mk ?_
      refine Device_modClk_kept ?_ ?_
      · exact h1
      · exact fun c hc => { hc with  }
    · refine KeptP.mk ?_
      refine Device_modClk_kept ?_ ?_
      · exact odSet_kept h1
      · exact fun c hc => { hc with  }

theorem effPrefixKey_kept {d0 : Device} {a0} {a1} {a2} (h10 : Kept d0 a1)
    : KeptP d0 (effPrefixKey a0 a1 a2) := by
  unfold effPrefixKey
  refine KeptP.mk ?_
  exact { h10 with od := (Map.wf_put _ _ h10.od) }

theorem effModelActive_kept {d0 : Device} {a0} {a1} {a2} (h10 : Kept d0 a1)
    : KeptP d0 (effModelActive a0 a1 a2) := by
  unfold effModelActive
  exact storeIf_kept h10

theorem effModelState_kept {d0 : Device} {a0} {a1} {a2} (h10 : Kept d0 a1)
    : KeptP d0 (effModelState a0 a1 a2) := by
  unfold effModelState
  exact storeIf_kept h10

theorem effFigure_kept {d0 : Device} {a0} {a1} {a2} {a3} (h20 : Kept d0 a2)
    : KeptP d0 (effFigure a0 a1 a2 a3) := by
  unfold effFigure
  exact storeIf_kept h20

theorem effCoefficient_kept {d0 : Device} {a0} {a1} {a2} {a3} (h20 : Kept d0 a2)
    : KeptP d0 (effCoefficient a0 a1 a2 a3) := by
  unfold effCoefficient
  extract_lets -merge -useContext d1
  have h1 : Kept d0 d1 := odSet_kept h20
  clear_value d1
  refine KeptP.mk ?_
  refine Kept.foldl (fun d2 x2 h2 => ?_) ?_
  · exact Device_modGroup_kept h2
  · exact h1

theorem resetRatio_kept {d0 : Device} {a0} {a1} (h00 : Kept d0 a0) : Kept d0 (resetRatio a0 a1) := by
  unfold resetRatio
  extract_lets -merge -useContext x1
  exact Device_modGroup_kept h00

theorem setUpGroup_kept {d0 : Device} {a0} {a1} (h00 : Kept d0 a0) : Kept d0 (setUpGroup a0 a1) := by
  unfold setUpGroup
  exact resetRatio_kept (Device_modGroup_kept h00)

theorem evict_kept {d0 : Device} {a0} {a1} {a2} {a3} {a4} (h00 : Kept d0 a0)
    : Kept d0 (evict a0 a1 a2 a3 a4) := by
  unfold evict
  split
  · exact h00
  · extract_lets -merge -useContext x1 x2 x3 x4 d5 d6 d7
    have h5 : Kept d0 d5 := traceRec_kept (bump_kept h00)
    clear_value d5
    have h6 : Kept d0 d6 := Device_modSeq_kept h5
    clear_value d6
    have h7 : Kept d0 d7 := by
      refine Kept.ite ?_ ?_
      · refine Kept.foldl (fun d8 x8 h8 => ?_) ?_
        · exact killCommand_kept h8
        · exact h6
      · exact h6
    clear_value d7
    exact evictNow_kept h7

theorem traceBring_kept {d0 : Device} {a0} {a1} {a2} {a3} (h00 : Kept d0 a0)
    (h10 : Kept d0 a1) : Kept d0 (traceBring a0 a1 a2 a3) := by
  unfold traceBring
  split
  · exact h10
  · extract_lets -merge -useContext x1 x2 x3 x4
    exact traceMove_kept (traceMove_kept h10)

theorem useRoom_kept {d0 : Device} {a0} {a1} {a2} (h00 : Kept d0 a0)
    : Kept d0 (useRoom a0 a1 a2) := by
  unfold useRoom
  exact { h00 with groups := (Map.wf_map _ (fun _ => rfl) h00.groups) }

theorem promotePage_kept {d0 : Device} {a0} {a1} {a2} {a3} (h00 : Kept d0 a0)
    : Kept d0 (promotePage a0 a1 a2 a3) := by
  unfold promotePage
  split
  · exact h00
  · split
    · split
      · exact h00
      · refine Kept.ite ?_ ?_
        · refine Kept.ite ?_ ?_
          · exact writePtab_kept (setPage_kept h00)
          · exact h00
        · split
          · exact h00
          · exact postMove_kept (modDir1_kept (useRoom_kept h00))
    · exact h00

theorem dropNamed_kept {d0 : Device} {a0} {a1} (h00 : Kept d0 a0) : Kept d0 (dropNamed a0 a1) := by
  unfold dropNamed
  refine Kept.foldl (fun d1 x1 h1 => ?_) ?_
  · refine Kept.foldl (fun d2 x2 h2 => ?_) ?_
    · refine Kept.ite ?_ ?_
      · exact unname_kept h2
      · exact h2
    · exact h1
  · exact dropCopy_kept h00

theorem putDir1_kept {d0 : Device} {a0} {a1} {a2} (h00 : Kept d0 a0)
    : Kept d0 (putDir1 a0 a1 a2) := by
  unfold putDir1
  refine Device_modCtx_kept ?_ ?_
  · exact h00
  · exact fun c hc => { hc with dir1 := (Map.wf_put _ _ hc.dir1) }

theorem ownPage_kept {d0 : Device} {a0} {a1} {a2} {a3} {a4} {a5} (h00
    : Kept d0 a0) : Kept d0 (ownPage a0 a1 a2 a3 a4 a5) := by
  unfold ownPage
  split
  · extract_lets -merge -useContext x1 d2
    have h2 : Kept d0 d2 := setPage_kept (putDir1_kept (useRoom_kept h00))
    clear_value d2
    exact postMove_kept h2
  · exact h00

theorem modDir2_kept {d0 : Device} {a0} {a1} {a2} (h00 : Kept d0 a0)
    : Kept d0 (modDir2 a0 a1 a2) := by
  unfold modDir2
  refine Device_modCtx_kept ?_ ?_
  · exact h00
  · exact fun c hc => { hc with dir2 := (Map.wf_mod _ _ hc.dir2) }

theorem fillPage_kept {d0 : Device} {a0} {a1} {a2} {a3} (h00 : Kept d0 a0)
    : Kept d0 (fillPage a0 a1 a2 a3) := by
  unfold fillPage
  split
  · exact h00
  · split
    · split
      · refine Kept.ite ?_ ?_
        · exact h00
        · extract_lets -merge -useContext x1 x2 d3 d4
          have h3 : Kept d0 d3 := modDir2_kept (putDir1_kept (useRoom_kept h00))
          clear_value d3
          have h4 : Kept d0 d4 := postMove_kept (bump_kept h3)
          clear_value d4
          exact postMove_kept h4
      · exact h00
    · exact h00

theorem bringPage_kept {d0 : Device} {a0} {a1} {a2} {a3} (h00 : Kept d0 a0)
    : Kept d0 (bringPage a0 a1 a2 a3) := by
  unfold bringPage
  split
  · exact h00
  · split
    · split
      · exact h00
      · refine Kept.ite ?_ ?_
        · refine Kept.ite ?_ ?_
          · exact writebackPage_kept h00
          · refine Kept.ite ?_ ?_
            · exact promotePage_kept (dropNamed_kept h00)
            · refine Kept.ite ?_ ?_
              · exact ownPage_kept h00
              · exact h00
        · exact promotePage_kept h00
    · exact fillPage_kept h00
    · exact h00

theorem bringPages_kept {d0 d : Device} {s c n k : Nat} (h : Kept d0 d)
    : Kept d0 (bringPages d s c n k) := by
  induction n generalizing d k with
  | zero => exact h
  | succ n ih => exact ih (bringPage_kept h)

theorem bringTraced_kept {d0 : Device} {a0} {a1} {a2} (h00 : Kept d0 a0)
    : Kept d0 (bringTraced a0 a1 a2) := by
  unfold bringTraced
  split
  · exact h00
  · refine traceBring_kept ?_ ?_
    · exact h00
    · exact bringPages_kept h00

theorem serveFrames_kept {d0 : Device} {a0} {a1} (h00 : Kept d0 a0) : Kept d0 (serveFrames a0 a1) := by
  unfold serveFrames
  refine Kept.foldl (fun d1 x1 h1 => ?_) ?_
  · split
    · refine Kept.ite ?_ ?_
      · exact h1
      · exact bringTraced_kept h1
    · exact h1
  · exact h00

theorem serveRoom_kept {d0 : Device} {a0} {a1} {a2} (h00 : Kept d0 a0)
    : Kept d0 (serveRoom a0 a1 a2) := by
  unfold serveRoom
  split
  · exact h00
  · exact h00
  · refine Kept.ite ?_ ?_
    · exact h00
    · extract_lets -merge -useContext x1 d2 d3
      have h2 : Kept d0 d2 := Device_modGroup_kept h00
      clear_value d2
      have h3 : Kept d0 d3 := by
        refine Kept.foldl (fun d4 x4 h4 => ?_) ?_
        · exact evict_kept h4
        · exact h2
      clear_value d3
      refine Kept.ite ?_ ?_
      · exact bump_kept (raiseVector_kept h00)
      · refine Kept.foldl (fun d5 x5 h5 => ?_) ?_
        · exact clearVictim_kept h5
        · exact serveFrames_kept h3

theorem serveRooms_kept {d0 : Device} {a0} {a1} (h00 : Kept d0 a0) : Kept d0 (serveRooms a0 a1) := by
  unfold serveRooms
  extract_lets -merge -useContext x1
  refine Kept.foldl (fun d2 x2 h2 => ?_) ?_
  · exact serveRoom_kept h2
  · exact h00

theorem setHot_kept {d0 : Device} {a0} {a1} {a2} {a3} (h00 : Kept d0 a0)
    : Kept d0 (setHot a0 a1 a2 a3) := by
  unfold setHot
  exact odSet_kept h00

theorem noteRaised_kept {d0 : Device} {a0} {a1} (h00 : Kept d0 a0) : Kept d0 (noteRaised a0 a1) := by
  unfold noteRaised
  exact { h00 with  }

theorem raiseCause_kept {d0 : Device} {a0} {a1} (h00 : Kept d0 a0) : Kept d0 (raiseCause a0 a1) := by
  unfold raiseCause
  extract_lets -merge -useContext d1
  have h1 : Kept d0 d1 := odSet_kept (noteRaised_kept h00)
  clear_value d1
  refine Kept.ite ?_ ?_
  · exact raiseVector_kept h1
  · exact h1

theorem flogWrite_kept {d0 : Device} {a0} {a1} {a2} {a3} {a4} {a5} (h00
    : Kept d0 a0) : Kept d0 (flogWrite a0 a1 a2 a3 a4 a5) := by
  unfold flogWrite
  extract_lets -merge -useContext x1 x2 x3 x4 x5 x6 x7 x8 d9 x10 d11
  clear_value x1
  have h9 : Kept d0 d9 := { h00 with  }
  clear_value d9
  have h11 : Kept d0 d11 := traceRec_kept h9
  clear_value d11
  refine Kept.ite ?_ ?_
  · exact { h00 with  }
  · refine Kept.ite ?_ ?_
    · exact raiseCause_kept h11
    · exact h11

theorem alertLog_kept {d0 : Device} {a0} {a1} {a2} {a3} {a4} {a5} (h00
    : Kept d0 a0) : Kept d0 (alertLog a0 a1 a2 a3 a4 a5) := by
  unfold alertLog
  exact flogWrite_kept (raiseCause_kept h00)

theorem loadFailed_kept {d0 : Device} {a0} {a1} {a2} {a3} (h00 : Kept d0 a0)
    : Kept d0 (loadFailed a0 a1 a2 a3) := by
  unfold loadFailed
  extract_lets -merge -useContext d1 d2 d3
  have h1 : Kept d0 d1 := setHot_kept h00
  clear_value d1
  have h2 : Kept d0 d2 := Device_modGroup_kept h1
  clear_value d2
  have h3 : Kept d0 d3 := alertLog_kept h2
  clear_value d3
  refine Kept.foldl (fun d4 x4 h4 => ?_) ?_
  · refine Kept.ite ?_ ?_
    · exact faultSeq_kept h4
    · exact h4
  · exact h3

theorem loadWritten_kept {d0 : Device} {a0} {a1} {a2} {a3} (h00 : Kept d0 a0)
    : Kept d0 (loadWritten a0 a1 a2 a3) := by
  unfold loadWritten
  extract_lets -merge -useContext x1
  exact Device_modGroup_kept (setHot_kept h00)

theorem loadMoves_kept {d0 d : Device} {g s v u b n k : Nat} (h : Kept d0 d)
    : Kept d0 (loadMoves d g s v u b n k) := by
  induction n generalizing d k with
  | zero => exact h
  | succ n ih => exact ih (postMove_kept h)

theorem startLoadInto_kept {d0 : Device} {a0} {a1} {a2} {a3} (h00 : Kept d0 a0)
    : Kept d0 (startLoadInto a0 a1 a2 a3) := by
  unfold startLoadInto
  extract_lets -merge -useContext x1 d2 x3 x4 d5
  have h2 : Kept d0 d2 := bump_kept (setHot_kept h00)
  clear_value d2
  have h5 : Kept d0 d5 := Device_modGroup_kept h2
  clear_value d5
  refine Kept.ite ?_ ?_
  · exact loadFailed_kept h2
  · refine Kept.ite ?_ ?_
    · exact loadWritten_kept h5
    · exact loadMoves_kept h5

theorem wantModel_kept {d0 : Device} {a0} {a1} {a2} (h00 : Kept d0 a0)
    : Kept d0 (wantModel a0 a1 a2) := by
  unfold wantModel
  refine Kept.ite ?_ ?_
  · exact h00
  · split
    · exact startLoadInto_kept h00
    · exact h00

theorem wantModels_kept {d0 : Device} {a0} {a1} (h00 : Kept d0 a0) : Kept d0 (wantModels a0 a1) := by
  unfold wantModels
  refine Kept.foldl (fun d1 x1 h1 => ?_) ?_
  · exact wantModel_kept h1
  · exact h00

theorem chooseAff_kept {d0 : Device} {a0} {a1} (h00 : Kept d0 a0) : Kept d0 (chooseAff a0 a1) := by
  unfold chooseAff
  split
  · exact h00
  · extract_lets -merge -useContext x1 x2
    refine Kept.ite ?_ ?_
    · exact h00
    · exact modBlk_kept h00

theorem requestRoom_kept {d0 : Device} {a0} {a1} {a2} {a3} (h00 : Kept d0 a0)
    : Kept d0 (requestRoom a0 a1 a2 a3) := by
  unfold requestRoom
  split
  · exact h00
  · refine Kept.ite ?_ ?_
    · exact h00
    · exact Device_modGroup_kept h00

theorem bringAll_kept {d0 : Device} {a0} {a1} {a2} (h00 : Kept d0 a0)
    : Kept d0 (bringAll a0 a1 a2) := by
  unfold bringAll
  extract_lets -merge -useContext d1
  have h1 : Kept d0 d1 := bringTraced_kept (chooseAff_kept h00)
  clear_value d1
  split
  · exact h1
  · split
    · refine Kept.ite ?_ ?_
      · exact requestRoom_kept h1
      · exact h1
    · exact h1

theorem makeResident_kept {d0 : Device} {a0} {a1} {a2} (h00 : Kept d0 a0)
    : Kept d0 (makeResident a0 a1 a2) := by
  unfold makeResident
  split
  · exact h00
  · refine Kept.ite ?_ ?_
    · exact modBlk_kept h00
    · extract_lets -merge -useContext d1
      have h1 : Kept d0 d1 := bringAll_kept h00
      clear_value d1
      split
      · exact h1
      · refine Kept.ite ?_ ?_
        · exact modBlk_kept h1
        · refine Kept.ite ?_ ?_
          · exact startWait_kept h1
          · exact h1

theorem bringMissing_kept {d0 : Device} {a0} {a1} (h00 : Kept d0 a0)
    : Kept d0 (bringMissing a0 a1) := by
  unfold bringMissing
  refine Kept.foldl (fun d1 x1 h1 => ?_) ?_
  · exact makeResident_kept h1
  · exact h00

theorem openStep_kept {d0 : Device} {a0} {a1} (h00 : Kept d0 a0) : Kept d0 (openStep a0 a1) := by
  unfold openStep
  refine Kept.ite ?_ ?_
  · exact h00
  · extract_lets -merge -useContext x1
    split
    · rename_i y2_0 y2_1 heq2
      have h2 : Kept d0 y2_0 := by
        refine KeptP.of_eq ?_ heq2
        split
        · refine KeptP.mk ?_
          exact { h00 with  }
        · refine KeptP.mk ?_
          exact { h00 with  }
      extract_lets -merge -useContext d3
      have h3 : Kept d0 d3 := Device_modGroup_kept h2
      clear_value d3
      exact serveRooms_kept (wantModels_kept (bringMissing_kept h3))

theorem groupUp_kept {d0 : Device} {a0} {a1} (h00 : Kept d0 a0) : Kept d0 (groupUp a0 a1) := by
  unfold groupUp
  refine Kept.ite ?_ ?_
  · exact openStep_kept h00
  · exact h00

theorem groupDown_kept {d0 : Device} {a0} {a1} (h00 : Kept d0 a0) : Kept d0 (groupDown a0 a1) := by
  unfold groupDown
  refine Kept.foldl (fun d1 x1 h1 => ?_) ?_
  · exact moveIfDue_kept h1
  · exact h00

theorem effGroupCfg_kept {d0 : Device} {a0} {a1} {a2} (h10 : Kept d0 a1)
    : KeptP d0 (effGroupCfg a0 a1 a2) := by
  unfold effGroupCfg
  refine KeptP.ite ?_ ?_
  · exact refusedBy_kept h10
  · extract_lets -merge -useContext x1 d2 d3 d4
    have h2 : Kept d0 d2 := odSet_kept h10
    clear_value d2
    have h3 : Kept d0 d3 := by
      refine Kept.ite ?_ ?_
      · exact h2
      · exact setUpGroup_kept h2
    clear_value d3
    have h4 : Kept d0 d4 := Device_modGroup_kept h3
    clear_value d4
    refine KeptP.ite ?_ ?_
    · refine KeptP.mk ?_
      exact h2
    · refine KeptP.mk ?_
      refine Kept.ite ?_ ?_
      · exact groupUp_kept h4
      · refine Kept.ite ?_ ?_
        · exact groupDown_kept h4
        · exact h4

theorem effHotMap_kept {d0 : Device} {a0} {a1} {a2} {a3} (h20 : Kept d0 a2)
    : KeptP d0 (effHotMap a0 a1 a2 a3) := by
  unfold effHotMap
  refine KeptP.ite ?_ ?_
  · exact refusedBy_kept h20
  · extract_lets -merge -useContext d1
    have h1 : Kept d0 d1 := Device_modGroup_kept h20
    clear_value d1
    refine KeptP.ite ?_ ?_
    · refine KeptP.mk ?_
      exact Device_modGroup_kept (setHot_kept h1)
    · refine KeptP.mk ?_
      exact startLoadInto_kept h1

theorem effBalance_kept {d0 : Device} {a0} {a1} {a2} (h10 : Kept d0 a1)
    : KeptP d0 (effBalance a0 a1 a2) := by
  unfold effBalance
  extract_lets -merge -useContext d1
  have h1 : Kept d0 d1 := odSet_kept h10
  clear_value d1
  refine KeptP.mk ?_
  refine Kept.ite ?_ ?_
  · exact resetRatio_kept h1
  · exact h1

theorem effRatioInit_kept {d0 : Device} {a0} {a1} {a2} (h10 : Kept d0 a1)
    : KeptP d0 (effRatioInit a0 a1 a2) := by
  unfold effRatioInit
  refine KeptP.mk ?_
  exact resetRatio_kept (odSet_kept h10)

end Sys2Proof.Machine
end

