-- ==== Sys2Proof/Laws/Kept4.lean ====
section
/-! SUPPORT. What each operation keeps (see Sys2Proof/Laws/Kept.lean), in the order in which they call each other: part 4. -/

set_option Elab.async false

namespace Sys2Proof.Machine

theorem effLayout_kept {d0 : Device} {a0} {a1} {a2} (h10 : Kept d0 a1)
    : KeptP d0 (effLayout a0 a1 a2) := by
  unfold effLayout
  exact storeIf_kept h10

theorem keepFilter_kept {d0 d : Device} {i k : Nat} (h : Kept d0 d) : Kept d0 (keepFilter d i k) :=
  { h with trace := h.trace }

theorem effTraceFilter_kept {d0 : Device} {a0} {a1} {a2} {a3} (h20 : Kept d0 a2)
    : KeptP d0 (effTraceFilter a0 a1 a2 a3) := by
  unfold effTraceFilter
  refine KeptP.mk ?_
  exact odSet_kept (keepFilter_kept h20)

theorem discardDraft_kept {d0 : Device} {a0} (h00 : Kept d0 a0) : Kept d0 (discardDraft a0) := by
  unfold discardDraft
  exact bump_kept h00

theorem modSpec_kept {d0 : Device} {a0} {a1} {a2} (h00 : Kept d0 a0)
    : Kept d0 (modSpec a0 a1 a2) := by
  unfold modSpec
  exact Device_modSeq_kept h00

theorem draftPost_kept {d0 : Device} {a0} {a1} (h00 : Kept d0 a0) : Kept d0 (draftPost a0 a1) := by
  unfold draftPost
  extract_lets -merge -useContext d1
  have h1 : Kept d0 d1 := bump_kept h00
  clear_value d1
  split
  · exact discardDraft_kept h1
  · split
    · refine Kept.ite ?_ ?_
      · exact fabiRead_kept (modSpec_kept h1)
      · exact discardDraft_kept h1
    · exact discardDraft_kept h1

theorem effDraftPost_kept {d0 : Device} {a0} {a1} (h00 : Kept d0 a0)
    : KeptP d0 (effDraftPost a0 a1) := by
  unfold effDraftPost
  refine KeptP.mk ?_
  exact draftPost_kept h00

theorem endLostRings_kept {d0 : Device} {a0} {a1} (h00 : Kept d0 a0)
    : Kept d0 (endLostRings a0 a1) := by
  unfold endLostRings
  refine Kept.foldl (fun d1 x1 h1 => ?_) ?_
  · refine Kept.ite ?_ ?_
    · refine Kept.ite ?_ ?_
      · exact h1
      · exact shipCompl_kept h1
    · refine Kept.ite ?_ ?_
      · exact h1
      · exact faultSeq_kept (bump_kept h1)
  · exact h00

theorem lostCmds_kept {d0 : Device} {a0} {a1} {a2} (h00 : Kept d0 a0)
    : Kept d0 (lostCmds a0 a1 a2) := by
  unfold lostCmds
  extract_lets -merge -useContext x1
  exact Device_modFaults_kept h00

theorem tidyFlow_kept {d0 : Device} {a0} {a1} (h00 : Kept d0 a0) : Kept d0 (tidyFlow a0 a1) := by
  unfold tidyFlow
  split
  · refine Kept.ite ?_ ?_
    · exact { h00 with flows := (Map.wf_del _ h00.flows) }
    · exact h00
  · exact h00

theorem startDecision_kept {d0 : Device} {a0} {a1} (h00 : Kept d0 a0)
    : Kept d0 (startDecision a0 a1) := by
  unfold startDecision
  refine Kept.ite ?_ ?_
  · exact beginTests_kept (modDec_kept h00)
  · exact modDec_kept h00

theorem flowEnd_kept {d0 : Device} {a0} {a1} (h00 : Kept d0 a0) : Kept d0 (flowEnd a0 a1) := by
  unfold flowEnd
  split
  · exact h00
  · extract_lets -merge -useContext d1
    have h1 : Kept d0 d1 := modFlow_kept h00
    clear_value d1
    split
    · exact tidyFlow_kept h1
    · extract_lets -merge -useContext d2
      have h2 : Kept d0 d2 := modFlow_kept h1
      clear_value d2
      split
      · exact tidyFlow_kept h2
      · extract_lets -merge -useContext d3
        have h3 : Kept d0 d3 := serveFlow_kept h2
        clear_value d3
        exact startDecision_kept (modDec_kept h3)

theorem forgetOwned_kept {d0 : Device} {a0} {a1} (h00 : Kept d0 a0) : Kept d0 (forgetOwned a0 a1) := by
  unfold forgetOwned
  extract_lets -merge -useContext x1 d2
  have h2 : Kept d0 d2 := Device_modTurn_kept h00
  clear_value d2
  split
  · exact h2
  · extract_lets -merge -useContext d3
    have h3 : Kept d0 d3 := modFlow_kept h2
    clear_value d3
    split
    · refine Kept.ite ?_ ?_
      · exact flowEnd_kept h3
      · exact tidyFlow_kept h3
    · exact h3

theorem stripesLost_kept {d0 : Device} {a0} {a1} {a2} (h00 : Kept d0 a0)
    : Kept d0 (stripesLost a0 a1 a2) := by
  unfold stripesLost
  extract_lets -merge -useContext x1 d2 d3
  have h2 : Kept d0 d2 := by
    refine Kept.foldl (fun d4 x4 h4 => ?_) ?_
    · exact sendXfer_kept h4
    · exact h00
  clear_value d2
  have h3 : Kept d0 d3 := by
    refine Kept.foldl (fun d5 x5 h5 => ?_) ?_
    · exact forgetOwned_kept h5
    · exact h2
  clear_value d3
  exact Device_modFaults_kept h3

theorem twiceLost_kept {d0 : Device} {a0} {a1} {a2} (h00 : Kept d0 a0)
    : Kept d0 (twiceLost a0 a1 a2) := by
  unfold twiceLost
  refine Kept.ite ?_ ?_
  · exact h00
  · exact tellPair_kept (stripesLost_kept h00)

theorem takeCustody_kept {d0 : Device} {a0} {a1} (h00 : Kept d0 a0) : Kept d0 (takeCustody a0 a1) := by
  unfold takeCustody
  refine Kept.ite ?_ ?_
  · exact h00
  · extract_lets -merge -useContext x1 x2
    refine Device_modCtx_kept ?_ ?_
    · exact h00
    · exact fun c hc => { hc with mirror := (Map.wf_filter _ hc.mirror) }

theorem gapAll_kept {d0 : Device} {a0} (h00 : Kept d0 a0) : Kept d0 (gapAll a0) := by
  unfold gapAll
  exact Kept.acctRange h00

theorem rebuildFault_kept {d0 : Device} {a0} {a1} {a2} (h00 : Kept d0 a0)
    : Kept d0 (rebuildFault a0 a1 a2) := by
  unfold rebuildFault
  refine Kept.ite ?_ ?_
  · exact h00
  · refine Kept.foldl (fun d1 x1 h1 => ?_) ?_
    · exact twiceLost_kept h1
    · exact alertLog_kept h00

theorem sliceLost_kept {d0 : Device} {a0} {a1} (h00 : Kept d0 a0) : Kept d0 (sliceLost a0 a1) := by
  unfold sliceLost
  extract_lets -merge -useContext d1 x2 x3 d4 d5 x6 d7 d8 d9 d10 d11 x12
  have h1 : Kept d0 d1 := flogWrite_kept (bump_kept h00)
  clear_value d1
  have h4 : Kept d0 d4 := Device_modFaults_kept h1
  clear_value d4
  have h5 : Kept d0 d5 := by
    refine Device_modCtx_kept ?_ ?_
    · exact h4
    · exact fun c hc => { hc with  }
  clear_value d5
  have h7 : Kept d0 d7 := endLostRings_kept (lostCmds_kept (stripesLost_kept h5))
  clear_value d7
  have h8 : Kept d0 d8 := by
    refine Kept.foldl (fun d13 x13 h13 => ?_) ?_
    · exact twiceLost_kept h13
    · exact h7
  clear_value d8
  have h9 : Kept d0 d9 := by
    refine takeCustody_kept ?_
    refine Kept.ite ?_ ?_
    · exact h8
    · exact abandonDeltas_kept h8
  clear_value d9
  have h10 : Kept d0 d10 := gapAll_kept h9
  clear_value d10
  have h11 : Kept d0 d11 := by
    refine Kept.ite ?_ ?_
    · exact alertLog_kept (Device_modFaults_kept h10)
    · exact h10
  clear_value d11
  refine Kept.ite ?_ ?_
  · exact h9
  · refine Kept.ite ?_ ?_
    · exact h11
    · exact rebuildFault_kept (Device_modFaults_kept h11)

theorem sendEpochs_kept {d0 : Device} {a0} {a1} {a2} (h00 : Kept d0 a0)
    : Kept d0 (sendEpochs a0 a1 a2) := by
  unfold sendEpochs
  refine Kept.ite ?_ ?_
  · exact h00
  · extract_lets -merge -useContext x1
    refine Kept.foldl (fun d2 x2 h2 => ?_) ?_
    · exact sendXfer_kept (sendXfer_kept h2)
    · exact h00

theorem tellForwards_kept {d0 : Device} {a0} {a1} (h00 : Kept d0 a0)
    : Kept d0 (tellForwards a0 a1) := by
  unfold tellForwards
  refine Kept.foldl (fun d1 x1 h1 => ?_) ?_
  · exact sendXfer_kept h1
  · exact h00

theorem refreshParity_kept {d0 : Device} {a0} {a1} (h00 : Kept d0 a0)
    : Kept d0 (refreshParity a0 a1) := by
  unfold refreshParity
  extract_lets -merge -useContext x1
  refine Kept.foldl (fun d2 x2 h2 => ?_) ?_
  · exact sendDelta_kept (modDelta_kept h2)
  · exact Device_modFaults_kept h00

theorem mirrorEntry_kept {d0 : Device} {a0} {a1} {a2} (h00 : Kept d0 a0)
    (h10 : Kept d0 a1) : Kept d0 (mirrorEntry a0 a1 a2) := by
  unfold mirrorEntry
  refine Kept.ite ?_ ?_
  · exact h10
  · extract_lets -merge -useContext x1 x2 d3
    have h3 : Kept d0 d3 := by
      refine Device_modCtx_kept ?_ ?_
      · exact h10
      · exact fun c hc => { hc with mirrorOut := (Map.wf_put _ _ hc.mirrorOut) }
    clear_value d3
    exact fabiXfer_kept h3

theorem settleMirror_kept {d0 : Device} {a0} {a1} (h00 : Kept d0 a0)
    (h10 : Kept d0 a1) : Kept d0 (settleMirror a0 a1) := by
  unfold settleMirror
  refine Kept.ite ?_ ?_
  · exact h10
  · refine Kept.foldl (fun d1 x1 h1 => ?_) ?_
    · refine mirrorEntry_kept ?_ ?_
      · exact h00
      · exact h1
    · exact h10

theorem refreshMirror_kept {d0 d : Device} (h : Kept d0 d) : Kept d0 (refreshMirror d) := by
  have h1 : Kept d0 (d.modCtx (fun c => { c with mirrorStopped := false, mirrorOut := [] })) :=
    Device_modCtx_kept h (fun c hc => { hc with mirrorOut := rfl })
  exact settleMirror_kept { h1 with ctx := { h1.ctx with dir1 := rfl } } h1

theorem sliceBack_kept {d0 : Device} {a0} {a1} {a2} (h10 : Kept d0 a1)
    : Kept d0 (sliceBack a0 a1 a2) := by
  unfold sliceBack
  extract_lets -merge -useContext d1 d2 d3 d4
  have h1 : Kept d0 d1 := sendEpochs_kept (Device_modFaults_kept h10)
  clear_value d1
  have h2 : Kept d0 d2 := by
    refine Device_modCtx_kept ?_ ?_
    · exact h1
    · exact fun c hc => { hc with  }
  clear_value d2
  have h3 : Kept d0 d3 := tellForwards_kept h2
  clear_value d3
  have h4 : Kept d0 d4 := by
    refine Kept.ite ?_ ?_
    · exact refreshParity_kept (Device_modFaults_kept h3)
    · exact h3
  clear_value d4
  refine Kept.ite ?_ ?_
  · exact h2
  · refine Kept.ite ?_ ?_
    · exact refreshMirror_kept h4
    · exact h4

theorem answerAsks_kept {d0 : Device} {a0} (h00 : Kept d0 a0) : Kept d0 (answerAsks a0) := by
  unfold answerAsks
  refine Kept.foldl (fun d1 x1 h1 => ?_) ?_
  · refine sendXfer_kept ?_
    refine Device_modCtx_kept ?_ ?_
    · exact h1
    · exact fun c hc => { hc with  }
  · exact h00

theorem askFrames_kept {d0 : Device} {a0} (h00 : Kept d0 a0) : Kept d0 (askFrames a0) := by
  unfold askFrames
  refine Kept.ite ?_ ?_
  · extract_lets -merge -useContext x1
    refine Kept.foldl (fun d2 x2 h2 => ?_) ?_
    · exact sendXfer_kept h2
    · refine Device_modCtx_kept ?_ ?_
      · exact h00
      · exact fun c hc => { hc with  }
  · exact h00

theorem effSliceOnline_kept {d0 : Device} {a0} {a1} (h00 : Kept d0 a0)
    : KeptP d0 (effSliceOnline a0 a1) := by
  unfold effSliceOnline
  extract_lets -merge -useContext x1 x2 d3 d4 d5
  have h3 : Kept d0 d3 := Device_modAgg_kept (odSet_kept h00)
  clear_value d3
  have h4 : Kept d0 d4 := by
    refine Kept.foldl (fun d6 x6 h6 => ?_) ?_
    · exact sliceLost_kept h6
    · exact h3
  clear_value d4
  have h5 : Kept d0 d5 := by
    refine Kept.foldl (fun d7 x7 h7 => ?_) ?_
    · exact sliceBack_kept h7
    · exact h4
  clear_value d5
  refine KeptP.mk ?_
  exact answerAsks_kept (askFrames_kept h5)

theorem writebackAll_kept {d0 : Device} {a0} (h00 : Kept d0 a0) : Kept d0 (writebackAll a0) := by
  unfold writebackAll
  refine Kept.foldl (fun d1 x1 h1 => ?_) ?_
  · refine Kept.foldl (fun d2 x2 h2 => ?_) ?_
    · exact writebackPage_kept h2
    · exact h1
  · exact h00

theorem effSliceDrain_kept {d0 : Device} {a0} {a1} (h00 : Kept d0 a0)
    : KeptP d0 (effSliceDrain a0 a1) := by
  unfold effSliceDrain
  extract_lets -merge -useContext d1
  have h1 : Kept d0 d1 := odSet_kept h00
  clear_value d1
  refine KeptP.ite ?_ ?_
  · refine KeptP.mk ?_
    exact writebackAll_kept { h1 with groups := (Map.wf_map _ (fun _ => rfl) h1.groups) }
  · refine KeptP.mk ?_
    refine Kept.foldl (fun d2 x2 h2 => ?_) ?_
    · exact openStep_kept h2
    · exact odSet_kept h1

theorem dropFromTile_kept {d0 : Device} {a0} {a1} {a2} (h00 : Kept d0 a0)
    : Kept d0 (dropFromTile a0 a1 a2) := by
  unfold dropFromTile
  split
  · exact h00
  · extract_lets -merge -useContext x1
    refine Kept.foldl (fun d2 x2 h2 => ?_) ?_
    · exact dropT0_kept h2
    · exact traceMove_kept h00

theorem clearTile_kept {d0 : Device} {a0} {a1} (h00 : Kept d0 a0) : Kept d0 (clearTile a0 a1) := by
  unfold clearTile
  extract_lets -merge -useContext x1 d2 x3 d4
  have h2 : Kept d0 d2 := by
    refine Kept.foldl (fun d5 x5 h5 => ?_) ?_
    · refine Kept.ite ?_ ?_
      · exact dropFromTile_kept h5
      · exact h5
    · exact h00
  clear_value d2
  have h4 : Kept d0 d4 := by
    refine Kept.foldl (fun d6 x6 h6 => ?_) ?_
    · refine Kept.ite ?_ ?_
      · exact h6
      · exact dropCopy_kept h6
    · exact h2
  clear_value d4
  refine Kept.foldl (fun d7 x7 h7 => ?_) ?_
  · refine Kept.ite ?_ ?_
    · exact affUpdate_kept h7
    · exact h7
  · exact h4

theorem tileOff_kept {d0 : Device} {a0} {a1} (h00 : Kept d0 a0) : Kept d0 (tileOff a0 a1) := by
  unfold tileOff
  extract_lets -merge -useContext x1 d2 d3
  have h2 : Kept d0 d2 := Device_modTile_kept h00
  clear_value d2
  have h3 : Kept d0 d3 := { h2 with seqs := (Map.wf_map _ (fun _ => rfl) h2.seqs) }
  clear_value d3
  exact clearTile_kept h3

theorem tileOn_kept {d0 : Device} {a0} {a1} (h00 : Kept d0 a0) : Kept d0 (tileOn a0 a1) := by
  unfold tileOn
  exact Device_modTile_kept h00

theorem effTileOnline_kept {d0 : Device} {a0} {a1} {a2} (h10 : Kept d0 a1)
    : KeptP d0 (effTileOnline a0 a1 a2) := by
  unfold effTileOnline
  extract_lets -merge -useContext x1 d2 d3
  have h2 : Kept d0 d2 := odSet_kept h10
  clear_value d2
  have h3 : Kept d0 d3 := by
    refine Kept.foldl (fun d4 x4 h4 => ?_) ?_
    · exact tileOff_kept h4
    · exact h2
  clear_value d3
  refine KeptP.mk ?_
  refine Kept.foldl (fun d5 x5 h5 => ?_) ?_
  · exact tileOn_kept h5
  · exact h3

theorem bumpMax_kept {d0 : Device} {a0} {a1} {a2} {a3} (h00 : Kept d0 a0)
    : Kept d0 (bumpMax a0 a1 a2 a3) := by
  unfold bumpMax
  exact odSet_kept h00

theorem dispatchStep_kept {d0 : Device} {a0} {a1} {a2} (h00 : Kept d0 a0)
    : Kept d0 (dispatchStep a0 a1 a2) := by
  unfold dispatchStep
  extract_lets -merge -useContext x1 d2 d3 x4 x5 d6
  have h2 : Kept d0 d2 := traceRec_kept h00
  clear_value d2
  have h3 : Kept d0 d3 := bumpMax_kept (bump_kept h2)
  clear_value d3
  have h6 : Kept d0 d6 := Device_modGroup_kept h3
  clear_value d6
  exact openStep_kept (retireSteps_kept h6)

theorem closeBuilding_kept {d0 : Device} {a0} {a1} (h00 : Kept d0 a0)
    : Kept d0 (closeBuilding a0 a1) := by
  unfold closeBuilding
  split
  · exact h00
  · refine Kept.ite ?_ ?_
    · exact h00
    · refine Kept.ite ?_ ?_
      · exact dispatchStep_kept h00
      · exact openStep_kept (Device_modGroup_kept h00)

theorem killOffline_kept {d0 : Device} {a0} {a1} (h00 : Kept d0 a0) : Kept d0 (killOffline a0 a1) := by
  unfold killOffline
  refine Kept.foldl (fun d1 x1 h1 => ?_) ?_
  · split
    · exact h1
    · exact closeBuilding_kept (returned_kept (killCommand_kept h1))
  · exact h00

theorem freeCommands_kept {d0 : Device} {a0} {a1} (h00 : Kept d0 a0)
    : Kept d0 (freeCommands a0 a1) := by
  unfold freeCommands
  refine Kept.foldl (fun d1 x1 h1 => ?_) ?_
  · refine Kept.ite ?_ ?_
    · exact returned_kept (freeEntry_kept h1)
    · extract_lets -merge -useContext d2
      have h2 : Kept d0 d2 := Device_modInflight_kept h1
      clear_value d2
      exact killOffline_kept h2
  · exact h00

theorem loseCopies_kept {d0 : Device} {a0} {a1} (h00 : Kept d0 a0) : Kept d0 (loseCopies a0 a1) := by
  unfold loseCopies
  extract_lets -merge -useContext x1
  refine Kept.foldl (fun d2 x2 h2 => ?_) ?_
  · exact compactOver_kept h2
  · exact loseTile_kept h00

theorem effTileLost_kept {d0 : Device} {a0} {a1} (h00 : Kept d0 a0) : KeptP d0 (effTileLost a0 a1) := by
  unfold effTileLost
  refine KeptP.ite ?_ ?_
  · exact refusedBy_kept h00
  · extract_lets -merge -useContext x1 x2 x3 d4 d5 d6
    have h4 : Kept d0 d4 := odSet_kept h00
    clear_value d4
    have h5 : Kept d0 d5 := freeCommands_kept (bump_kept h4)
    clear_value d5
    have h6 : Kept d0 d6 := Device_modTile_kept h5
    clear_value d6
    refine KeptP.mk ?_
    exact wakePages_kept (loseCopies_kept h6)

theorem effRootMhz_kept {d0 : Device} {a0} {a1} (h00 : Kept d0 a0) : KeptP d0 (effRootMhz a0 a1) := by
  unfold effRootMhz
  extract_lets -merge -useContext x1 d2
  have h2 : Kept d0 d2 := odSet_kept h00
  clear_value d2
  refine KeptP.ite ?_ ?_
  · refine KeptP.mk ?_
    refine Device_modClk_kept ?_ ?_
    · exact h2
    · exact fun c hc => { hc with tickOffset := Nat.mod_lt _ (Nat.two_pow_pos 64) }
  · refine KeptP.mk ?_
    exact h2

theorem effTickLoad_kept {d0 : Device} {a0} {a1} (h00 : Kept d0 a0) : KeptP d0 (effTickLoad a0 a1) := by
  unfold effTickLoad
  refine KeptP.ite ?_ ?_
  · exact refusedBy_kept h00
  · extract_lets -merge -useContext x1
    refine KeptP.mk ?_
    refine Device_modClk_kept ?_ ?_
    · exact h00
    · exact fun c hc => { hc with tickOffset := Nat.mod_lt _ (Nat.two_pow_pos 64) }

theorem modViews_kept {d0 : Device} {a0} {a1} (h00 : Kept d0 a0) : Kept d0 (modViews a0 a1) := by
  unfold modViews
  exact { h00 with rings := (Map.wf_map _ (fun _ => rfl) h00.rings) }

theorem effCvcCfg_kept {d0 : Device} {a0} {a1} {a2} (h10 : Kept d0 a1)
    : KeptP d0 (effCvcCfg a0 a1 a2) := by
  unfold effCvcCfg
  refine KeptP.ite ?_ ?_
  · exact refusedBy_kept h10
  · extract_lets -merge -useContext x1 d2
    have h2 : Kept d0 d2 := odSet_kept h10
    clear_value d2
    refine KeptP.mk ?_
    refine Kept.ite ?_ ?_
    · exact modViews_kept (chanMod_kept h2)
    · exact h2

theorem effCvcReset_kept {d0 : Device} {a0} {a1} (h00 : Kept d0 a0) : KeptP d0 (effCvcReset a0 a1) := by
  unfold effCvcReset
  refine KeptP.ite ?_ ?_
  · refine KeptP.mk ?_
    exact Device_modCvc_kept h00
  · refine KeptP.ite ?_ ?_
    · exact refusedBy_kept h00
    · refine KeptP.mk ?_
      exact Device_modCvc_kept h00

theorem effLegacyCfg_kept {d0 : Device} {a0} {a1} (h00 : Kept d0 a0)
    : KeptP d0 (effLegacyCfg a0 a1) := by
  unfold effLegacyCfg
  extract_lets -merge -useContext x1 d2
  have h2 : Kept d0 d2 := odSet_kept h00
  clear_value d2
  refine KeptP.ite ?_ ?_
  · refine KeptP.mk ?_
    refine Kept.ite ?_ ?_
    · exact modViews_kept (Device_modCvc_kept h2)
    · exact h2
  · exact refusedBy_kept h00

theorem effLegacyCtrl_kept {d0 : Device} {a0} {a1} (h00 : Kept d0 a0)
    : KeptP d0 (effLegacyCtrl a0 a1) := by
  unfold effLegacyCtrl
  refine KeptP.mk ?_
  exact Device_modCvc_kept (odSet_kept h00)

theorem effLegacyValue_kept {d0 : Device} {a0} {a1} (h00 : Kept d0 a0)
    : KeptP d0 (effLegacyValue a0 a1) := by
  unfold effLegacyValue
  extract_lets -merge -useContext x1
  refine KeptP.mk ?_
  exact modViews_kept (Device_modCvc_kept h00)

theorem effTraceTail_kept {d0 : Device} {a0} {a1} (h00 : Kept d0 a0)
    : KeptP d0 (effTraceTail a0 a1) := by
  unfold effTraceTail
  refine KeptP.ite ?_ ?_
  · refine KeptP.mk ?_
    exact h00
  · refine KeptP.mk ?_
    refine Device_modTrace_kept ?_ ?_
    · exact h00
    · exact fun _ ht => ht

theorem dropExports_kept {d0 : Device} {a0} (h00 : Kept d0 a0) : Kept d0 (dropExports a0) := by
  unfold dropExports
  exact fabiDrop_kept h00

theorem effTraceBase_kept {d0 : Device} {a0} {a1} (h00 : Kept d0 a0)
    : KeptP d0 (effTraceBase a0 a1) := by
  unfold effTraceBase
  refine KeptP.mk ?_
  refine Device_modTrace_kept ?_ ?_
  · exact dropExports_kept (odSet_kept h00)
  · exact fun _ ht => ht

theorem effTraceLog2_kept {d0 : Device} {a0} {a1} (h00 : Kept d0 a0)
    : KeptP d0 (effTraceLog2 a0 a1) := by
  unfold effTraceLog2
  exact storeIf_kept h00

theorem sendReset_kept {d0 : Device} {a0} {a1} (h00 : Kept d0 a0) : Kept d0 (sendReset a0 a1) := by
  unfold sendReset
  split
  · exact h00
  · extract_lets -merge -useContext x1 d2 d3
    have h2 : Kept d0 d2 := Device_modAgg_kept h00
    clear_value d2
    have h3 : Kept d0 d3 := Device_modClient_kept h2
    clear_value d3
    split
    · exact sendXfer_kept h3
    · exact h3

theorem effAcctReset_kept {d0 : Device} {a0} {a1} (h00 : Kept d0 a0)
    : KeptP d0 (effAcctReset a0 a1) := by
  unfold effAcctReset
  refine KeptP.ite ?_ ?_
  · refine KeptP.mk ?_
    refine Kept.foldl (fun d1 x1 h1 => ?_) ?_
    · exact sendReset_kept h1
    · exact h00
  · refine KeptP.ite ?_ ?_
    · exact refusedBy_kept h00
    · refine KeptP.mk ?_
      exact sendReset_kept h00

theorem effIte_kept {d0 : Device} {f g : Effect} {c : Prop} [Decidable c] (hf : ∀ d v, Kept d0 d → KeptP d0 (f d v))
    (hg : ∀ d v, Kept d0 d → KeptP d0 (g d v)) : ∀ d v, Kept d0 d → KeptP d0 ((if c then f else g) d v) := by
  split <;> assumption

theorem effectOf_effect_kept {d0 : Device} {path : Path} {idx sub : Nat} :
    ∀ d v, Kept d0 d → KeptP d0 (effectOf path idx sub d v) := by
  unfold effectOf
  refine effIte_kept (fun _ _ h => effRingCtrl_kept h) ?_
  refine effIte_kept (fun _ _ h => effRingEntry_kept h) ?_
  refine effIte_kept (fun _ _ h => effMsiMask_kept h) ?_
  refine effIte_kept (fun _ _ h => effSeqQuery_kept h) ?_
  refine effIte_kept (fun _ _ h => effSeal_kept h) ?_
  refine effIte_kept (fun _ _ h => effTableKey_kept h) ?_
  refine effIte_kept (fun _ _ h => effPrefixKey_kept h) ?_
  refine effIte_kept (fun _ _ h => effModelActive_kept h) ?_
  refine effIte_kept (fun _ _ h => effModelState_kept h) ?_
  refine effIte_kept (fun _ _ h => effFigure_kept h) ?_
  refine effIte_kept (fun _ _ h => effCoefficient_kept h) ?_
  refine effIte_kept (fun _ _ h => effGroupCfg_kept h) ?_
  refine effIte_kept (fun _ _ h => effHotMap_kept h) ?_
  refine effIte_kept (fun _ _ h => effBalance_kept h) ?_
  refine effIte_kept (fun _ _ h => effRatioInit_kept h) ?_
  refine effIte_kept (fun _ _ h => effLayout_kept h) ?_
  refine effIte_kept (fun _ _ h => effTraceFilter_kept h) ?_
  refine effIte_kept (fun _ _ h => effDraftPost_kept h) ?_
  refine effIte_kept (fun _ _ h => effSliceOnline_kept h) ?_
  refine effIte_kept (fun _ _ h => effSliceDrain_kept h) ?_
  refine effIte_kept (fun _ _ h => effTileOnline_kept h) ?_
  refine effIte_kept (fun _ _ h => effTileLost_kept h) ?_
  refine effIte_kept (fun _ _ h => effRootMhz_kept h) ?_
  refine effIte_kept (fun _ _ h => effTickLoad_kept h) ?_
  refine effIte_kept (fun _ _ h => effCvcCfg_kept h) ?_
  refine effIte_kept (fun _ _ h => effCvcReset_kept h) ?_
  refine effIte_kept (fun _ _ h => effLegacyCfg_kept h) ?_
  refine effIte_kept (fun _ _ h => effLegacyCtrl_kept h) ?_
  refine effIte_kept (fun _ _ h => effLegacyValue_kept h) ?_
  refine effIte_kept (fun _ _ h => effTraceTail_kept h) ?_
  refine effIte_kept (fun _ _ h => effTraceBase_kept h) ?_
  refine effIte_kept (fun _ _ h => effTraceLog2_kept h) ?_
  refine effIte_kept (fun _ _ h => effAcctReset_kept h) ?_
  exact fun _ _ h => storeIf_kept h

theorem effectOf_kept {d0 d : Device} {path : Path} {idx sub v : Nat} (h
    : Kept d0 d) :
    KeptP d0 (effectOf path idx sub d v) := effectOf_effect_kept d v h

theorem entryWrite_kept {d0 : Device} {a0} {a1} {a2} {a3} {a4} (h00 : Kept d0 a0)
    : Kept d0 (entryWrite a0 a1 a2 a3 a4) := by
  unfold entryWrite
  refine pathWrite_kept ?_ ?_
  · exact h00
  · intro y1_0 y1_1 h1
    exact effectOf_kept h1

theorem actSetParam_kept {d0 : Device} {a0} {a1} {a2} (h10 : Kept d0 a1)
    : Kept d0 (actSetParam a0 a1 a2) := by
  unfold actSetParam
  extract_lets -merge -useContext x1 d2
  have h2 : Kept d0 d2 := Device_modMgmt_kept h10
  clear_value d2
  refine Kept.ite ?_ ?_
  · exact entryWrite_kept h2
  · exact h2

theorem joinFlow_kept {d0 : Device} {a0} {a1} {a2} (h00 : Kept d0 a0)
    : Kept d0 (joinFlow a0 a1 a2) := by
  unfold joinFlow
  split
  · exact h00
  · split
    · refine Kept.ite ?_ ?_
      · exact refuseDecision_kept h00
      · extract_lets -merge -useContext d1 d2
        have h1 : Kept d0 d1 := modDec_kept h00
        clear_value d1
        have h2 : Kept d0 d2 := modFlow_kept h1
        clear_value d2
        refine Kept.ite ?_ ?_
        · exact queueDecision_kept h2
        · exact beginTests_kept (serveFlow_kept h1)
    · split
      · exact refuseDecision_kept h00
      · extract_lets -merge -useContext d3
        have h3 : Kept d0 d3 := { h00 with flows := (Map.wf_put _ _ h00.flows) }
        clear_value d3
        exact beginTests_kept (serveFlow_kept (modDec_kept h3))

theorem actSubmit_kept {d0 : Device} {a0} {a1} {a2} (h10 : Kept d0 a1)
    : Kept d0 (actSubmit a0 a1 a2) := by
  unfold actSubmit
  extract_lets -merge -useContext x1 x2 d3
  have h3 : Kept d0 d3 := addDecision_kept h10
  clear_value d3
  refine Kept.ite ?_ ?_
  · exact beginTests_kept h3
  · exact joinFlow_kept h3

theorem setEpoch_kept {d0 d : Device} {e : Nat} {s : EpochSlot} (h : Kept d0 d)
    : Kept d0 (setEpoch d e s) := by
  have h1 : Kept d0 { d with epochs := setAt d.epochs e s } := { h with epochs := (length_setAt _ _ _).trans h.epochs }
  exact Kept.ite (raiseVector_kept (traceRec_kept h1)) (traceRec_kept h1)

theorem activateEpoch_kept {d0 : Device} {a0} {a1} {a2} (h00 : Kept d0 a0)
    : Kept d0 (activateEpoch a0 a1 a2) := by
  unfold activateEpoch
  split
  · exact h00
  · extract_lets -merge -useContext x1 d2
    have h2 : Kept d0 d2 := by
      unfold d2
      split
      · exact setEpoch_kept h00
      · exact h00
    clear_value d2
    exact setEpoch_kept h2

theorem activate_kept {d0 : Device} {a0} {a1} {a2} {a3} {a4} (h00 : Kept d0 a0)
    : Kept d0 (activate a0 a1 a2 a3 a4) := by
  unfold activate
  exact sendXfer_kept (activateEpoch_kept h00)

theorem addBack_kept {d0 : Device} {a0} {a1} (h00 : Kept d0 a0) : Kept d0 (addBack a0 a1) := by
  unfold addBack
  exact Device_modClient_kept h00

theorem admitTrace_kept {d0 : Device} {a0} {a1} {a2} {a3} (h00 : Kept d0 a0)
    : Kept d0 (admitTrace a0 a1 a2 a3) := by
  unfold admitTrace
  extract_lets -merge -useContext x1 d2 d3
  have h2 : Kept d0 d2 := traceRec_kept h00
  clear_value d2
  have h3 : Kept d0 d3 := bump_kept h2
  clear_value d3
  refine Kept.ite ?_ ?_
  · exact bump_kept h3
  · exact h3

theorem flowAdmit_kept {d0 : Device} {a0} {a1} {a2} (h00 : Kept d0 a0)
    : Kept d0 (flowAdmit a0 a1 a2) := by
  unfold flowAdmit
  split
  · exact modFlow_kept h00
  · exact h00

theorem admitted_kept {d0 : Device} {a0} {a1} {a2} {a3} (h00 : Kept d0 a0)
    : Kept d0 (admitted a0 a1 a2 a3) := by
  unfold admitted
  extract_lets -merge -useContext d1 d2 x3 d4
  have h1 : Kept d0 d1 := dropDecision_kept h00
  clear_value d1
  have h2 : Kept d0 d2 := flowAdmit_kept (Device_modTurn_kept h1)
  clear_value d2
  have h4 : Kept d0 d4 := by
    unfold d4
    split
    · exact answer_kept (admitTrace_kept h2)
    · extract_lets -merge -useContext d5
      have h5 : Kept d0 d5 := answer_kept (admitTrace_kept h2)
      clear_value d5
      exact sendXfer_kept h5
    · exact bump_kept h2
  clear_value d4
  exact markPass_kept h4

theorem takeShared_kept {d0 : Device} {a0} {a1} {a2} {a3} (h00 : Kept d0 a0)
    : KeptO d0 (takeShared a0 a1 a2 a3) := by
  unfold takeShared
  split
  · refine KeptO.some ?_
    exact h00
  · refine KeptO.ite ?_ ?_
    · refine KeptO.some ?_
      exact losePage_kept h00
    · exact KeptO.none

theorem putDir2_kept {d0 : Device} {a0} {a1} {a2} (h00 : Kept d0 a0)
    : Kept d0 (putDir2 a0 a1 a2) := by
  unfold putDir2
  refine Device_modCtx_kept ?_ ?_
  · exact h00
  · exact fun c hc => { hc with dir2 := (Map.wf_put _ _ hc.dir2) }

theorem adoptPage_kept {d0 : Device} {a0} {a1} {a2} {a3} (h20 : Kept d0 a2)
    : Kept d0 (adoptPage a0 a1 a2 a3) := by
  unfold adoptPage
  split
  · exact h20
  · extract_lets -merge -useContext x1 x2 x3 x4
    clear_value x3 x4
    subst x2
    split
    · extract_lets -merge -useContext x5
      split
      · rename_i y6_0 heq6
        have h6 : Kept d0 y6_0 := by
          refine KeptO.of_eq ?_ heq6
          exact takeShared_kept h20
        exact modBlk_kept (putDir1_kept h6)
      · exact modBlk_kept h20
    · refine Kept.ite ?_ ?_
      · exact modBlk_kept (putDir2_kept h20)
      · exact modBlk_kept h20
    · exact modBlk_kept h20

theorem adoptPages_kept {d0 : Device} {a0} {a1} {a2} (h00 : Kept d0 a0)
    : Kept d0 (adoptPages a0 a1 a2) := by
  unfold adoptPages
  split
  · exact h00
  · extract_lets -merge -useContext x1 d2 d3
    have h2 : Kept d0 d2 := by
      refine Kept.foldl (fun d4 x4 h4 => ?_) ?_
      · exact adoptPage_kept h4
      · exact h00
    clear_value d2
    have h3 : Kept d0 d3 := by
      refine Kept.foldl (fun d5 x5 h5 => ?_) ?_
      · exact writePtab_kept h5
      · exact h2
    clear_value d3
    split
    · exact h3
    · split
      · exact trimPages_kept (losePage_kept h3)
      · exact h3

theorem modPlan_kept {d0 : Device} {a0} {a1} {a2} (h00 : Kept d0 a0)
    : Kept d0 (modPlan a0 a1 a2) := by
  unfold modPlan
  exact Device_modSeq_kept h00

theorem packPrompt_kept {d0 : Device} {a0} {a1} (h00 : Kept d0 a0) : Kept d0 (packPrompt a0 a1) := by
  unfold packPrompt
  split
  · exact h00
  · exact fabiWrite_kept (modPlan_kept h00)

theorem packEnd_kept {d0 : Device} {a0} {a1} (h00 : Kept d0 a0) : Kept d0 (packEnd a0 a1) := by
  unfold packEnd
  split
  · exact h00
  · refine Kept.ite ?_ ?_
    · extract_lets -merge -useContext d1
      have h1 : Kept d0 d1 := modPlan_kept h00
      clear_value d1
      exact fabiRead_kept h1
    · exact packPrompt_kept h00

theorem packNext_kept {d0 d : Device} {s : Nat} {l : List Nat} (h : Kept d0 d)
    : Kept d0 (packNext d s l) := by
  induction l generalizing d with
  | nil => exact packEnd_kept (modPlan_kept h)
  | cons i l ih =>
    unfold packNext
    split
    · exact h
    · exact Kept.ite (ih (bump_kept (modPlan_kept h))) (fabiRead_kept (modPlan_kept h))

theorem packPassages_kept {d0 : Device} {a0} {a1} (h00 : Kept d0 a0)
    : Kept d0 (packPassages a0 a1) := by
  unfold packPassages
  split
  · exact h00
  · exact packNext_kept h00

theorem packStart_kept {d0 : Device} {a0} {a1} (h00 : Kept d0 a0) : Kept d0 (packStart a0 a1) := by
  unfold packStart
  split
  · exact h00
  · extract_lets -merge -useContext x1 x2 d3
    have h3 : Kept d0 d3 := modPlan_kept h00
    clear_value d3
    refine Kept.ite ?_ ?_
    · exact packPassages_kept h3
    · exact fabiRead_kept h3

theorem enterStage_kept {d0 : Device} {a0} {a1} {a2} (h00 : Kept d0 a0)
    : Kept d0 (enterStage a0 a1 a2) := by
  unfold enterStage
  extract_lets -merge -useContext d1
  have h1 : Kept d0 d1 := Device_modSeq_kept h00
  clear_value d1
  split
  · exact h1
  · extract_lets -merge -useContext x2 d3
    have h3 : Kept d0 d3 := Device_modSeq_kept h1
    clear_value d3
    refine Kept.ite ?_ ?_
    · exact requestClaim_kept h3
    · exact h3

theorem writeStageBlocks_kept {d0 : Device} {a0} {a1} {a2} {a3} (h00
    : Kept d0 a0) : Kept d0 (writeStageBlocks a0 a1 a2 a3) := by
  unfold writeStageBlocks
  refine Kept.ite ?_ ?_
  · refine Kept.foldl (fun d1 x1 h1 => ?_) ?_
    · exact fabiWrite_kept (Device_modSeq_kept h1)
    · exact h00
  · exact h00

theorem adoptStage_kept {d0 : Device} {a0} {a1} (h00 : Kept d0 a0) : Kept d0 (adoptStage a0 a1) := by
  unfold adoptStage
  split
  · exact h00
  · refine Kept.ite ?_ ?_
    · exact h00
    · refine Kept.ite ?_ ?_
      · exact packStart_kept h00
      · refine Kept.ite ?_ ?_
        · exact h00
        · extract_lets -merge -useContext d1
          have h1 : Kept d0 d1 := modPlan_kept (enterStage_kept h00)
          clear_value d1
          split
          · exact writeStageBlocks_kept h1
          · exact h1

theorem adoptTimer_kept {d0 : Device} {a0} {a1} {a2} {a3} (h00 : Kept d0 a0)
    : Kept d0 (adoptTimer a0 a1 a2 a3) := by
  unfold adoptTimer
  split
  · exact armTimer_kept h00
  · exact h00

theorem refuseHeld_kept {d0 : Device} {a0} {a1} (h00 : Kept d0 a0) : Kept d0 (refuseHeld a0 a1) := by
  unfold refuseHeld
  extract_lets -merge -useContext x1 d2
  have h2 : Kept d0 d2 := Device_modFaults_kept h00
  clear_value d2
  refine Kept.foldl (fun d3 x3 h3 => ?_) ?_
  · exact sendXfer_kept h3
  · exact h2

theorem sendHeld_kept {d0 : Device} {a0} {a1} {a2} (h00 : Kept d0 a0)
    : Kept d0 (sendHeld a0 a1 a2) := by
  unfold sendHeld
  extract_lets -merge -useContext x1 x2 d3 d4
  have h3 : Kept d0 d3 := Device_modFaults_kept h00
  clear_value d3
  have h4 : Kept d0 d4 := Device_modTurn_kept h3
  clear_value d4
  refine Kept.foldl (fun d5 x5 h5 => ?_) ?_
  · exact sendHost_kept h5
  · exact h4

theorem keepPair_kept {d0 : Device} {a0} {a1} {a2} {a3} (h00 : Kept d0 a0)
    : Kept d0 (keepPair a0 a1 a2 a3) := by
  unfold keepPair
  extract_lets -merge -useContext x1 d2 d3 d4 d5
  have h2 : Kept d0 d2 := by
    refine Kept.ite ?_ ?_
    · exact Device_modFaults_kept h00
    · exact h00
  clear_value d2
  have h3 : Kept d0 d3 := by
    unfold d3
    split
    · exact Device_modTurn_kept h2
    · exact h2
  clear_value d3
  have h4 : Kept d0 d4 := { h3 with flows := (Map.wf_map _ (fun _ => rfl) h3.flows) }
  clear_value d4
  have h5 : Kept d0 d5 := Device_modTurn_kept h4
  clear_value d5
  refine Kept.ite ?_ ?_
  · exact sendHeld_kept h5
  · exact refuseHeld_kept h5

theorem takePair_kept {d0 : Device} {a0} {a1} {a2} {a3} (h00 : Kept d0 a0)
    : Kept d0 (takePair a0 a1 a2 a3) := by
  unfold takePair
  refine Kept.ite ?_ ?_
  · exact refuseHeld_kept (Device_modFaults_kept h00)
  · refine Kept.ite ?_ ?_
    · exact h00
    · exact keepPair_kept h00

theorem noteGroup_kept {d0 : Device} {a0} {a1} {a2} (h00 : Kept d0 a0)
    : Kept d0 (noteGroup a0 a1 a2) := by
  unfold noteGroup
  exact Device_modTurn_kept h00

theorem leaveFlow_kept {d0 : Device} {a0} {a1} (h00 : Kept d0 a0) : Kept d0 (leaveFlow a0 a1) := by
  unfold leaveFlow
  split
  · exact modTcb_kept h00
  · exact h00

theorem forwardPair_kept {d0 : Device} {a0} {a1} {a2} {a3} {a4} (h00
    : Kept d0 a0) : Kept d0 (forwardPair a0 a1 a2 a3 a4) := by
  unfold forwardPair
  split
  · exact takePair_kept h00
  · exact noteGroup_kept (takePair_kept h00)
  · exact leaveFlow_kept h00
  · exact stripesLost_kept h00

theorem broadcastPair_kept {d0 : Device} {a0} {a1} {a2} {a3} {a4} (h00
    : Kept d0 a0) : Kept d0 (broadcastPair a0 a1 a2 a3 a4) := by
  unfold broadcastPair
  exact tellPair_kept (forwardPair_kept h00)

theorem readTail_kept {d0 : Device} {a0} {a1} (h00 : Kept d0 a0) : Kept d0 (readTail a0 a1) := by
  unfold readTail
  split
  · exact h00
  · extract_lets -merge -useContext x1
    refine Kept.ite ?_ ?_
    · exact h00
    · exact fabiRead_kept (Device_modSeq_kept h00)

theorem completeAgain_kept {d0 : Device} {a0} {a1} {a2} (h00 : Kept d0 a0)
    : Kept d0 (completeAgain a0 a1 a2) := by
  unfold completeAgain
  split
  · exact h00
  · refine Kept.ite ?_ ?_
    · exact tryEnd_kept (Device_modSeq_kept h00)
    · refine Kept.ite ?_ ?_
      · exact faultSeq_kept (bump_kept h00)
      · refine Kept.ite ?_ ?_
        · exact turnStop_kept h00
        · refine Kept.ite ?_ ?_
          · exact sendCompl_kept h00
          · refine Kept.ite ?_ ?_
            · exact sendCompl_kept h00
            · exact h00

theorem adoptStripe_kept {d0 : Device} {a0} {a1} {a2} {a3} {a4} {a5}
    (h00 : Kept d0 a0) : Kept d0 (adoptStripe a0 a1 a2 a3 a4 a5) := by
  unfold adoptStripe
  extract_lets -merge -useContext x1 x2 d3 d4 x5 d6 d7 d8 d9 d10 d11
  have h3 : Kept d0 d3 := wantModel_kept (Device_putSeq_kept h00)
  clear_value d3
  have h4 : Kept d0 d4 := adoptTimer_kept (adoptTimer_kept h3)
  clear_value d4
  have h6 : Kept d0 d6 := by
    refine Kept.ite ?_ ?_
    · exact h4
    · exact fabiWrite_kept h4
  clear_value d6
  have h7 : Kept d0 d7 := adoptPages_kept h6
  clear_value d7
  have h8 : Kept d0 d8 := gapAll_kept h7
  clear_value d8
  have h9 : Kept d0 d9 := traceRec_kept (bump_kept h8)
  clear_value d9
  have h10 : Kept d0 d10 := broadcastPair_kept h9
  clear_value d10
  have h11 : Kept d0 d11 := by
    refine Kept.ite ?_ ?_
    · exact readTail_kept h10
    · exact h10
  clear_value d11
  exact completeAgain_kept (adoptStage_kept h11)

theorem headPasses_kept {d0 d : Device} (h : Kept d0 d) : Kept d0 (headPasses d) := by
  unfold headPasses
  split
  · exact h
  · rename_i r rest heq
    have hr : rest.length ≤ 131072 := by
      have h1 := h.trace
      rw [heq] at h1; simp at h1; omega
    extract_lets -merge -useContext x1 d2
    clear_value x1
    have h2 : Kept d0 d2 := Kept.ite h (cvcPass_kept h)
    clear_value d2
    exact { h2 with trace := hr }

theorem advanceHead_kept {d0 d : Device} {n : Nat} (h : Kept d0 d) : Kept d0 (advanceHead n d) := by
  induction n generalizing d with
  | zero => exact h
  | succ n ih => exact Kept.ite h (ih (headPasses_kept h))

theorem modPub_kept {d0 : Device} {a0} {a1} {a2} (h00 : Kept d0 a0) : Kept d0 (modPub a0 a1 a2) := by
  unfold modPub
  exact { h00 with  }

theorem dropPub_kept {d0 : Device} {a0} {a1} (h00 : Kept d0 a0) : Kept d0 (dropPub a0 a1) := by
  unfold dropPub
  exact { h00 with  }

theorem advancePub_kept {d0 : Device} {a0} {a1} (h00 : Kept d0 a0) : Kept d0 (advancePub a0 a1) := by
  unfold advancePub
  extract_lets -merge -useContext x1 x2 x3 d4
  have h4 : Kept d0 d4 := modPub_kept h00
  clear_value d4
  refine Kept.ite ?_ ?_
  · exact h00
  · refine Kept.ite ?_ ?_
    · refine Kept.foldl (fun d5 x5 h5 => ?_) ?_
      · exact sendXfer_kept h5
      · exact h4
    · refine Kept.ite ?_ ?_
      · exact answer_kept (dropPub_kept h00)
      · exact h00

theorem nopBuilding_kept {d0 : Device} {a0} {a1} (h00 : Kept d0 a0) : Kept d0 (nopBuilding a0 a1) := by
  unfold nopBuilding
  extract_lets -merge -useContext d1
  have h1 : Kept d0 d1 := by
    refine Kept.foldl (fun d2 x2 h2 => ?_) ?_
    · refine Kept.ite ?_ ?_
      · exact nopEntries_kept h2
      · exact h2
    · exact h00
  clear_value d1
  refine Kept.foldl (fun d3 x3 h3 => ?_) ?_
  · exact Device_modGroup_kept h3
  · exact h1

end Sys2Proof.Machine
end

