-- ==== Sys2Proof/Laws/Kept5.lean ====
section
/-! SUPPORT. What each operation keeps (see Sys2Proof/Laws/Kept.lean), in the order in which they call each other: part 5. -/

set_option Elab.async false

namespace Sys2Proof.Machine

theorem giveUpStep_kept {d0 : Device} {a0} {a1} {a2} (h00 : Kept d0 a0)
    : Kept d0 (giveUpStep a0 a1 a2) := by
  unfold giveUpStep
  extract_lets -merge -useContext x1 d2
  have h2 : Kept d0 d2 := nopBuilding_kept h00
  clear_value d2
  refine leaveStep_kept ?_
  refine Kept.ite ?_ ?_
  · exact Device_modSeq_kept h2
  · exact dropStep_kept h2

theorem applyFallback_kept {d0 : Device} {a0} {a1} {a2} {a3} {a4} (h00
    : Kept d0 a0) : Kept d0 (applyFallback a0 a1 a2 a3 a4) := by
  unfold applyFallback
  extract_lets -merge -useContext d1 x2 d3 d4 d5
  have h1 : Kept d0 d1 := traceRec_kept h00
  clear_value d1
  have h3 : Kept d0 d3 := by
    refine Kept.ite ?_ ?_
    · exact bump_kept h1
    · exact h1
  clear_value d3
  have h4 : Kept d0 d4 := by
    refine Kept.ite ?_ ?_
    · exact giveUpStep_kept h3
    · exact h3
  clear_value d4
  have h5 : Kept d0 d5 := Device_modSeq_kept h4
  clear_value d5
  split
  · refine Kept.ite ?_ ?_
    · extract_lets -merge -useContext x6
      exact writeStageBlocks_kept (Device_modSeq_kept h5)
    · exact h5
  · exact h5

theorem monitor_kept {d0 : Device} {a0} {a1} {a2} (h00 : Kept d0 a0)
    : Kept d0 (monitor a0 a1 a2) := by
  unfold monitor
  split
  · exact h00
  · refine Kept.ite ?_ ?_
    · exact h00
    · extract_lets -merge -useContext x1
      refine Kept.ite ?_ ?_
      · split
        · exact applyFallback_kept h00
        · refine Kept.ite ?_ ?_
          · exact abandon_kept h00
          · exact h00
      · exact h00

theorem commitMonitor_kept {d0 : Device} {a0} {a1} {a2} (h00 : Kept d0 a0)
    : Kept d0 (commitMonitor a0 a1 a2) := by
  unfold commitMonitor
  extract_lets -merge -useContext x1 d2
  have h2 : Kept d0 d2 := Device_modSeq_kept h00
  clear_value d2
  split
  · exact h00
  · refine Kept.ite ?_ ?_
    · exact monitor_kept (Device_modSeq_kept h00)
    · refine Kept.ite ?_ ?_
      · exact monitor_kept h2
      · exact h2

theorem writeRequest_kept {d0 : Device} {a0} {a1} {a2} (h00 : Kept d0 a0)
    : Kept d0 (writeRequest a0 a1 a2) := by
  unfold writeRequest
  extract_lets -merge -useContext d1
  have h1 : Kept d0 d1 := modSpec_kept (dropPost_kept h00)
  clear_value d1
  split
  · exact h1
  · extract_lets -merge -useContext d2
    have h2 : Kept d0 d2 := modSpec_kept h1
    clear_value d2
    exact fabiWrite_kept h2

theorem requestDraft_kept {d0 : Device} {a0} {a1} (h00 : Kept d0 a0)
    : Kept d0 (requestDraft a0 a1) := by
  unfold requestDraft
  split
  · exact h00
  · refine Kept.ite ?_ ?_
    · exact h00
    · extract_lets -merge -useContext d1 x2
      have h1 : Kept d0 d1 := writeRequest_kept h00
      clear_value d1
      refine Kept.ite ?_ ?_
      · exact h1
      · exact startWait_kept (armTimer_kept h1)

theorem afterCommit_kept {d0 : Device} {a0} {a1} {a2} (h00 : Kept d0 a0)
    : Kept d0 (afterCommit a0 a1 a2) := by
  unfold afterCommit
  split
  · exact h00
  · extract_lets -merge -useContext d1 d2
    have h1 : Kept d0 d1 := by
      refine Kept.ite ?_ ?_
      · exact parkNow_kept h00
      · exact h00
    clear_value d1
    have h2 : Kept d0 d2 := commitMonitor_kept (requestDraft_kept h1)
    clear_value d2
    exact evictNow_kept (moveIfDue_kept h2)

theorem restoredDone_kept {d0 : Device} {a0} {a1} (h00 : Kept d0 a0)
    : Kept d0 (restoredDone a0 a1) := by
  unfold restoredDone
  split
  · exact h00
  · refine Kept.ite ?_ ?_
    · extract_lets -merge -useContext d1
      have h1 : Kept d0 d1 := Device_modSeq_kept h00
      clear_value d1
      exact sendCompl_kept h1
    · exact h00

theorem pagesArrived_kept {d0 : Device} {a0} {a1} (h00 : Kept d0 a0)
    : Kept d0 (pagesArrived a0 a1) := by
  unfold pagesArrived
  split
  · exact h00
  · refine setIfHolds_kept ?_
    refine Kept.ite ?_ ?_
    · exact modBlk_kept h00
    · exact h00

theorem endExpired_kept {d0 : Device} {a0} {a1} (h00 : Kept d0 a0) : Kept d0 (endExpired a0 a1) := by
  unfold endExpired
  exact finishSeq_kept h00

theorem writeTurn_kept {d0 : Device} {a0} {a1} (h00 : Kept d0 a0) : Kept d0 (writeTurn a0 a1) := by
  unfold writeTurn
  split
  · exact h00
  · split
    · exact h00
    · exact fabiWrite_kept h00

theorem armDeadline_kept {d0 : Device} {a0} {a1} (h00 : Kept d0 a0) : Kept d0 (armDeadline a0 a1) := by
  unfold armDeadline
  split
  · exact h00
  · refine Kept.ite ?_ ?_
    · exact h00
    · exact armTimer_kept h00

theorem startHolds_kept {d0 : Device} {a0} {a1} (h00 : Kept d0 a0) : Kept d0 (startHolds a0 a1) := by
  unfold startHolds
  split
  · exact h00
  · extract_lets -merge -useContext x1
    refine Kept.ite ?_ ?_
    · exact startWait_kept (armTimer_kept h00)
    · refine Kept.ite ?_ ?_
      · exact startWait_kept h00
      · exact h00

theorem contSeq_kept {d0 : Device} {a0} {a1} {a2} {a3} {a4} {a5} (h00
    : Kept d0 a0) : Kept d0 (contSeq a0 a1 a2 a3 a4 a5) := by
  unfold contSeq
  split
  · exact h00
  · refine Kept.ite ?_ ?_
    · exact seqAnswer_kept h00
    · refine Kept.ite ?_ ?_
      · exact endExpired_kept (seqAnswer_kept h00)
      · refine Kept.ite ?_ ?_
        · exact seqAnswer_kept h00
        · refine Kept.ite ?_ ?_
          · exact hostAck_kept h00
          · extract_lets -merge -useContext x1 d2 d3 d4 d5 d6
            have h2 : Kept d0 d2 := cancelTimer_kept (cancelTimer_kept h00)
            clear_value d2
            have h3 : Kept d0 d3 := Device_modSeq_kept h2
            clear_value d3
            have h4 : Kept d0 d4 := enterState_kept h3
            clear_value d4
            have h5 : Kept d0 d5 := seqAnswer_kept (readTail_kept (writeTurn_kept (armDeadline_kept h4)))
            clear_value d5
            have h6 : Kept d0 d6 := wantModel_kept h5
            clear_value d6
            exact makeResident_kept (startHolds_kept h6)

theorem pauseSeq_kept {d0 : Device} {a0} {a1} {a2} (h00 : Kept d0 a0)
    : Kept d0 (pauseSeq a0 a1 a2) := by
  unfold pauseSeq
  split
  · exact h00
  · refine Kept.ite ?_ ?_
    · exact seqAnswer_kept h00
    · extract_lets -merge -useContext d1
      have h1 : Kept d0 d1 := Device_modSeq_kept h00
      clear_value d1
      refine Kept.ite ?_ ?_
      · exact parkNow_kept h1
      · refine Kept.ite ?_ ?_
        · exact parkNow_kept (giveUpStep_kept h1)
        · exact hostAck_kept (modTcb_kept h1)

theorem resumeSeq_kept {d0 : Device} {a0} {a1} {a2} (h00 : Kept d0 a0)
    : Kept d0 (resumeSeq a0 a1 a2) := by
  unfold resumeSeq
  split
  · exact h00
  · refine Kept.ite ?_ ?_
    · exact seqAnswer_kept h00
    · extract_lets -merge -useContext d1 d2
      have h1 : Kept d0 d1 := setFlagBit_kept h00
      clear_value d1
      have h2 : Kept d0 d2 := by
        refine Kept.ite ?_ ?_
        · exact enterState_kept h1
        · exact evalWait_kept (enterState_kept h1)
      clear_value d2
      refine Kept.ite ?_ ?_
      · exact turnStop_kept (seqAnswer_kept h2)
      · exact seqAnswer_kept (makeResident_kept h2)

theorem saveCopies_kept {d0 d : Device} {s a n k : Nat} (h : Kept d0 d)
    : Kept d0 (saveCopies d s a n k) := by
  induction n generalizing d k with
  | zero => exact h
  | succ n ih =>
    unfold saveCopies
    split
    · exact h
    · exact ih (postMove_kept h)

theorem traceImage_kept {d0 : Device} {a0} {a1} {a2} (h00 : Kept d0 a0)
    : Kept d0 (traceImage a0 a1 a2) := by
  unfold traceImage
  extract_lets -merge -useContext x1 x2
  exact traceMove_kept (traceMove_kept h00)

theorem saveTokens_kept {d0 d : Device} {s len n pos : Nat} (h : Kept d0 d)
    : Kept d0 (saveTokens d s len n pos) := by
  induction n generalizing d pos with
  | zero => exact h
  | succ n ih =>
    unfold saveTokens
    split
    · exact h
    · refine Kept.ite h ?_
      dsimp only
      split
      · exact h
      · exact ih (fabiRead_kept (Device_modSeq_kept h))

theorem saveAdvance_kept {d0 : Device} {a0} {a1} (h00 : Kept d0 a0) : Kept d0 (saveAdvance a0 a1) := by
  unfold saveAdvance
  split
  · exact h00
  · split
    · exact h00
    · refine Kept.ite ?_ ?_
      · exact h00
      · extract_lets -merge -useContext d1 d2 d3 d4
        have h1 : Kept d0 d1 := Device_modSeq_kept h00
        clear_value d1
        have h2 : Kept d0 d2 := saveCopies_kept h1
        clear_value d2
        have h3 : Kept d0 d3 := traceImage_kept h2
        clear_value d3
        have h4 : Kept d0 d4 := saveTokens_kept h3
        clear_value d4
        exact h4

theorem saveSeq_kept {d0 : Device} {a0} {a1} {a2} {a3} {a4} (h00 : Kept d0 a0)
    : Kept d0 (saveSeq a0 a1 a2 a3 a4) := by
  unfold saveSeq
  split
  · exact h00
  · refine Kept.ite ?_ ?_
    · exact seqAnswer_kept h00
    · refine Kept.ite ?_ ?_
      · exact endExpired_kept (seqAnswer_kept h00)
      · refine Kept.ite ?_ ?_
        · exact seqAnswer_kept h00
        · extract_lets -merge -useContext d1 d2 x3
          have h1 : Kept d0 d1 := hostAck_kept (Device_modSeq_kept h00)
          clear_value d1
          have h2 : Kept d0 d2 := by
            refine Kept.foldl (fun d4 x4 h4 => ?_) ?_
            · exact writebackPage_kept h4
            · exact h1
          clear_value d2
          exact saveAdvance_kept (traceMove_kept h2)

theorem hostCommandOn_kept {d0 : Device} {a0} {a1} {a2} (h00 : Kept d0 a0)
    : Kept d0 (hostCommandOn a0 a1 a2) := by
  unfold hostCommandOn
  split
  · exact h00
  · extract_lets -merge -useContext x1 x2
    refine Kept.ite ?_ ?_
    · exact hostAck_kept (Device_modSeq_kept h00)
    · split
      · exact contSeq_kept h00
      · exact abortSeq_kept h00
      · exact abortSeq_kept h00
      · exact pauseSeq_kept h00
      · exact resumeSeq_kept h00
      · exact saveSeq_kept h00

theorem hostCommand_kept {d0 : Device} {a0} {a1} (h00 : Kept d0 a0) : Kept d0 (hostCommand a0 a1) := by
  unfold hostCommand
  split
  · exact hostAck_kept h00
  · split
    · exact h00
    · refine Kept.ite ?_ ?_
      · exact hostAck_kept h00
      · exact hostCommandOn_kept h00

theorem runAfterSave_kept {d0 : Device} {a0} {a1} (h00 : Kept d0 a0)
    : Kept d0 (runAfterSave a0 a1) := by
  unfold runAfterSave
  split
  · exact h00
  · refine Kept.foldl (fun d1 x1 h1 => ?_) ?_
    · exact hostCommand_kept h1
    · exact Device_modSeq_kept h00

theorem saveEnd_kept {d0 : Device} {a0} {a1} {a2} (h00 : Kept d0 a0)
    : Kept d0 (saveEnd a0 a1 a2) := by
  unfold saveEnd
  split
  · exact h00
  · split
    · exact h00
    · extract_lets -merge -useContext d1 d2
      have h1 : Kept d0 d1 := Device_modSeq_kept h00
      clear_value d1
      have h2 : Kept d0 d2 := by
        refine Kept.ite ?_ ?_
        · exact setFlag_kept (seqAnswer_kept h1)
        · exact seqAnswer_kept h1
      clear_value d2
      exact runAfterSave_kept h2

theorem saveProgress_kept {d0 : Device} {a0} {a1} (h00 : Kept d0 a0)
    : Kept d0 (saveProgress a0 a1) := by
  unfold saveProgress
  split
  · exact h00
  · split
    · exact h00
    · refine Kept.ite ?_ ?_
      · exact h00
      · refine Kept.ite ?_ ?_
        · exact saveEnd_kept h00
        · refine Kept.ite ?_ ?_
          · extract_lets -merge -useContext x1 d2
            have h2 : Kept d0 d2 := Device_modSeq_kept h00
            clear_value d2
            exact fabiWrite_kept h2
          · refine Kept.ite ?_ ?_
            · extract_lets -merge -useContext x3 d4
              have h4 : Kept d0 d4 := Device_modSeq_kept { h00 with  }
              clear_value d4
              exact fabiWrite_kept h4
            · exact h00

theorem afterMove_kept {d0 : Device} {a0} {a1} (h00 : Kept d0 a0) : Kept d0 (afterMove a0 a1) := by
  unfold afterMove
  extract_lets -merge -useContext d1 d2
  have h1 : Kept d0 d1 := evictNow_kept (clearVictim_kept h00)
  clear_value d1
  have h2 : Kept d0 d2 := setIfHolds_kept (pagesArrived_kept h1)
  clear_value d2
  split
  · exact h1
  · refine Kept.ite ?_ ?_
    · exact tryEnd_kept h1
    · refine Kept.ite ?_ ?_
      · exact restoredDone_kept (releaseAll_kept h1)
      · exact hashStart_kept (restoredDone_kept (saveProgress_kept (saveAdvance_kept h2)))

theorem afterStage_kept {d0 : Device} {a0} {a1} (h00 : Kept d0 a0) : Kept d0 (afterStage a0 a1) := by
  unfold afterStage
  split
  · exact h00
  · extract_lets -merge -useContext x1
    refine Kept.ite ?_ ?_
    · exact packStart_kept h00
    · refine Kept.ite ?_ ?_
      · exact finishSeq_kept h00
      · exact enterStage_kept h00

theorem afterPlanStage_kept {d0 : Device} {a0} {a1} (h00 : Kept d0 a0)
    : Kept d0 (afterPlanStage a0 a1) := by
  unfold afterPlanStage
  split
  · exact h00
  · refine Kept.ite ?_ ?_
    · exact h00
    · extract_lets -merge -useContext d1
      have h1 : Kept d0 d1 := afterStage_kept h00
      clear_value d1
      split
      · exact h1
      · extract_lets -merge -useContext d2
        have h2 : Kept d0 d2 := by
          refine Kept.ite ?_ ?_
          · exact parkNow_kept h1
          · exact h1
        clear_value d2
        exact moveIfDue_kept h2

theorem aggLost_kept {d0 : Device} {a0} (h00 : Kept d0 a0) : Kept d0 (aggLost a0) := by
  unfold aggLost
  split
  · exact h00
  · refine Kept.ite ?_ ?_
    · exact h00
    · extract_lets -merge -useContext d1
      have h1 : Kept d0 d1 := alertLog_kept h00
      clear_value d1
      exact gapAll_kept (Device_modAgg_kept h1)

theorem foldTime_kept {d0 : Device} {a0} {a1} {a2} (h00 : Kept d0 a0)
    : Kept d0 (foldTime a0 a1 a2) := by
  unfold foldTime
  exact Device_modClient_kept h00

theorem applyEntry_kept {d0 : Device} {a0} {a1} (h00 : Kept d0 a0) : Kept d0 (applyEntry a0 a1) := by
  unfold applyEntry
  exact Device_modClient_kept h00

theorem sendAggregate_kept {d0 : Device} {a0} {a1} {a2} (h10 : Kept d0 a1)
    : Kept d0 (sendAggregate a0 a1 a2) := by
  unfold sendAggregate
  extract_lets -merge -useContext x1 x2 x3 d4
  have h4 : Kept d0 d4 := Device_modAgg_kept h10
  clear_value d4
  refine Kept.foldl (fun d5 x5 h5 => ?_) ?_
  · extract_lets -merge -useContext x6
    refine Kept.ite ?_ ?_
    · exact applyEntry_kept h5
    · exact sendXfer_kept h5
  · exact h4

theorem roundApplied_kept {d0 : Device} {a0} {a1} (h00 : Kept d0 a0)
    : Kept d0 (roundApplied a0 a1) := by
  unfold roundApplied
  exact markPass_kept (Device_modAgg_kept h00)

theorem aggRoundClose_kept {d0 : Device} {a0} (h00 : Kept d0 a0) : Kept d0 (aggRoundClose a0) := by
  unfold aggRoundClose
  extract_lets -merge -useContext x1 x2 d3 d4 x5 d6 d7
  have h3 : Kept d0 d3 := by
    refine Kept.foldl (fun d8 x8 h8 => ?_) ?_
    · extract_lets -merge -useContext x9
      refine Kept.ite ?_ ?_
      · exact h8
      · exact foldTime_kept h8
    · exact h00
  clear_value d3
  have h4 : Kept d0 d4 := by
    refine Kept.foldl (fun d10 x10 h10 => ?_) ?_
    · exact Device_modClient_kept h10
    · exact h3
  clear_value d4
  have h6 : Kept d0 d6 := by
    refine Kept.foldl (fun d11 x11 h11 => ?_) ?_
    · exact Device_modClient_kept h11
    · exact h4
  clear_value d6
  have h7 : Kept d0 d7 := by
    refine Kept.foldl (fun d12 x12 h12 => ?_) ?_
    · exact sendAggregate_kept h12
    · exact h6
  clear_value d7
  refine Kept.ite ?_ ?_
  · exact h00
  · exact Device_modAgg_kept (roundApplied_kept h7)

theorem sendDeltaEntry_kept {d0 : Device} {a0} {a1} {a2} {a3} (h20 : Kept d0 a2)
    : Kept d0 (sendDeltaEntry a0 a1 a2 a3) := by
  unfold sendDeltaEntry
  extract_lets -merge -useContext x1 x2 x3 x4 d5 x6
  have h5 : Kept d0 d5 := Device_modClient_kept h20
  clear_value d5
  refine Kept.ite ?_ ?_
  · exact emit_kept h5
  · exact fabiXfer_kept h5

theorem aggRoundOpen_kept {d0 : Device} {a0} {a1} (h00 : Kept d0 a0)
    : Kept d0 (aggRoundOpen a0 a1) := by
  unfold aggRoundOpen
  refine Kept.ite ?_ ?_
  · exact h00
  · extract_lets -merge -useContext x1 d2
    have h2 : Kept d0 d2 := Device_modAgg_kept h00
    clear_value d2
    split
    · exact h2
    · extract_lets -merge -useContext x3 x4
      refine Device_modAgg_kept ?_
      refine Kept.foldl (fun d5 x5 h5 => ?_) ?_
      · exact sendDeltaEntry_kept h5
      · exact h2

theorem aggregateEntry_kept {d0 : Device} {a0} {a1} {a2} (h00 : Kept d0 a0)
    : Kept d0 (aggregateEntry a0 a1 a2) := by
  unfold aggregateEntry
  extract_lets -merge -useContext d1 x2 x3
  have h1 : Kept d0 d1 := Device_modAgg_kept h00
  clear_value d1
  refine Kept.ite ?_ ?_
  · exact h1
  · refine roundApplied_kept ?_
    refine Kept.foldl (fun d4 x4 h4 => ?_) ?_
    · exact applyEntry_kept h4
    · exact h1

theorem applyHeldKey_kept {d0 : Device} {a0} (h00 : Kept d0 a0) : Kept d0 (applyHeldKey a0) := by
  unfold applyHeldKey
  split
  · exact h00
  · refine respondWrite_kept ?_
    refine odSet_kept ?_
    refine Device_modClk_kept ?_ ?_
    · exact h00
    · exact fun c hc => { hc with  }

theorem bringWaiting_kept {d0 : Device} {a0} (h00 : Kept d0 a0) : Kept d0 (bringWaiting a0) := by
  unfold bringWaiting
  refine Kept.foldl (fun d1 x1 h1 => ?_) ?_
  · refine Kept.ite ?_ ?_
    · exact bringAll_kept h1
    · exact h1
  · exact h00

theorem budgetRecord_kept {d0 : Device} {a0} {a1} (h00 : Kept d0 a0)
    : Kept d0 (budgetRecord a0 a1) := by
  unfold budgetRecord
  extract_lets -merge -useContext x1 x2
  refine Kept.ite ?_ ?_
  · exact h00
  · exact Device_modPower_kept h00

theorem ratioUpdate_kept {d0 : Device} {a0} {a1} {a2} (h00 : Kept d0 a0)
    : Kept d0 (ratioUpdate a0 a1 a2) := by
  unfold ratioUpdate
  refine Kept.ite ?_ ?_
  · exact h00
  · extract_lets -merge -useContext x1 x2 x3 x4 x5 x6 x7 x8 x9
    refine Kept.ite ?_ ?_
    · exact Device_modGroup_kept h00
    · exact Device_modGroup_kept h00

theorem spendCredit_kept {d0 : Device} {a0} {a1} (h00 : Kept d0 a0) : Kept d0 (spendCredit a0 a1) := by
  unfold spendCredit
  exact Device_modTile_kept h00

theorem placeTiles_kept {d0 d : Device} {g : Nat} {aff : Bool} {l : List Formed} (h
    : Kept d0 d) :
    KeptP d0 (placeTiles d g aff l) := by
  induction l generalizing d with
  | nil => exact h
  | cons f l ih =>
    unfold placeTiles
    split
    · refine KeptP.ite (KeptP.ite ?_ (ih h)) (ih h)
      exact ih (spendCredit_kept h)
    · refine KeptP.ite (ih h) ?_
      split
      · exact ih (spendCredit_kept h)
      · exact ih h

theorem stageFrames_kept {d0 : Device} {a0} {a1} {a2} {a3} {a4} (h00
    : Kept d0 a0) : KeptP d0 (stageFrames a0 a1 a2 a3 a4) := by
  unfold stageFrames
  extract_lets -merge -useContext x1 x2
  refine KeptP.ite ?_ ?_
  · refine KeptP.mk ?_
    exact h00
  · refine KeptP.ite ?_ ?_
    · refine KeptP.mk ?_
      exact requestRoom_kept h00
    · refine KeptP.mk ?_
      refine Kept.foldl (fun d3 x3 h3 => ?_) ?_
      · exact useRoom_kept h3
      · exact h00

theorem newPage_kept {d0 : Device} {a0} {a1} {a2} {a3} (h00 : Kept d0 a0)
    : Kept d0 (newPage a0 a1 a2 a3) := by
  unfold newPage
  split
  · extract_lets -merge -useContext d1 x2 d3
    have h1 : Kept d0 d1 := putDir1_kept (useRoom_kept h00)
    clear_value d1
    have h3 : Kept d0 d3 := modBlk_kept h1
    clear_value d3
    exact writePtab_kept h3
  · exact h00

theorem retakeFrame_kept {d0 : Device} {a0} {a1} {a2} {a3} (h00 : Kept d0 a0)
    : Kept d0 (retakeFrame a0 a1 a2 a3) := by
  unfold retakeFrame
  split
  · split
    · extract_lets -merge -useContext d1 d2
      have h1 : Kept d0 d1 := modDir1_kept (useRoom_kept h00)
      clear_value d1
      have h2 : Kept d0 d2 := setPage_kept (modBlk_kept h1)
      clear_value d2
      exact writePtab_kept h2
    · exact h00
  · exact h00

theorem ensurePages_kept {d0 d : Device} {s t n k : Nat} (h : Kept d0 d)
    : Kept d0 (ensurePages d s t n k) := by
  induction n generalizing d k with
  | zero => exact h
  | succ n ih =>
    refine ih ?_
    split
    · exact Kept.ite (newPage_kept h) (Kept.ite (retakeFrame_kept h) h)
    · exact h

theorem takeScratch_kept {d0 : Device} {a0} {a1} {a2} (h00 : Kept d0 a0)
    : Kept d0 (takeScratch a0 a1 a2) := by
  unfold takeScratch
  split
  · exact h00
  · extract_lets -merge -useContext x1
    refine Kept.ite ?_ ?_
    · exact h00
    · split
      · refine Kept.foldl (fun d2 x2 h2 => ?_) ?_
        · exact useRoom_kept h2
        · exact modBlk_kept h00
      · exact h00

theorem entryPages_kept {d0 : Device} {a0} {a1} {a2} (h00 : Kept d0 a0)
    : KeptP d0 (entryPages a0 a1 a2) := by
  unfold entryPages
  split
  · refine KeptP.mk ?_
    exact h00
  · extract_lets -merge -useContext d1 x2 x3 x4 x5 x6 x7 d8 d9
    have h1 : Kept d0 d1 := by
      refine Kept.ite ?_ ?_
      · exact modBlk_kept h00
      · exact h00
    clear_value d1
    subst x7
    have h8 : Kept d0 d8 := by
      refine ensurePages_kept ?_
      exact modBlk_kept h1
    clear_value d8
    have h9 : Kept d0 d9 := by
      refine Kept.ite ?_ ?_
      · exact takeScratch_kept h8
      · exact h8
    clear_value d9
    refine KeptP.ite ?_ ?_
    · refine KeptP.mk ?_
      exact startWait_kept (modBlk_kept h1)
    · refine KeptP.ite ?_ ?_
      · refine KeptP.mk ?_
        exact requestRoom_kept h1
      · split
        · refine KeptP.ite ?_ ?_
          · refine KeptP.mk ?_
            exact requestRoom_kept h9
          · refine KeptP.mk ?_
            exact h9
        · refine KeptP.mk ?_
          exact h9

theorem renewRequest_kept {d0 : Device} {a0} {a1} {a2} (h00 : Kept d0 a0)
    : Kept d0 (renewRequest a0 a1 a2) := by
  unfold renewRequest
  refine Kept.ite ?_ ?_
  · exact writeRequest_kept h00
  · exact h00

theorem replayReads_kept {d0 d : Device} {s st n pos : Nat} (h : Kept d0 d)
    : Kept d0 (replayReads d s st n pos) := by
  induction n generalizing d pos with
  | zero => exact h
  | succ n ih =>
    unfold replayReads
    split
    · exact h
    · refine Kept.ite h ?_
      dsimp only
      split
      · exact h
      · exact ih (fabiRead_kept h)

theorem takeReplay_kept {d0 : Device} {a0} {a1} (h00 : Kept d0 a0) : KeptP d0 (takeReplay a0 a1) := by
  unfold takeReplay
  split
  · extract_lets -merge -useContext x1
    refine KeptP.mk ?_
    exact Device_modSeq_kept h00
  · extract_lets -merge -useContext d2 x3 d4 d5
    have h2 : Kept d0 d2 := fabiDrop_kept h00
    clear_value d2
    have h4 : Kept d0 d4 := by
      refine Kept.ite ?_ ?_
      · exact h2
      · exact bump_kept (modBlk_kept h2)
    clear_value d4
    have h5 : Kept d0 d5 := Device_modSeq_kept h4
    clear_value d5
    refine KeptP.mk ?_
    exact replayReads_kept h5

theorem writeSampleBox_kept {d0 : Device} {a0} {a1} {a2} {a3} {a4} {a5}
    (h00 : Kept d0 a0) : Kept d0 (writeSampleBox a0 a1 a2 a3 a4 a5) := by
  unfold writeSampleBox
  extract_lets -merge -useContext x1 x2
  exact fabiWrite_kept (fabiWrite_kept h00)

theorem finishEntry_kept {d0 : Device} {a0} {a1} {a2} {a3} {a4} {a5} {a6} {a7}
    (h00 : Kept d0 a0) : KeptP d0 (finishEntry a0 a1 a2 a3 a4 a5 a6 a7) := by
  unfold finishEntry
  extract_lets -merge -useContext x1
  split
  · refine KeptP.mk ?_
    exact h00
  · extract_lets -merge -useContext x2 x3 x4 d5 x6 d7 d8
    have h5 : KeptP d0 d5 := entryPages_kept (renewRequest_kept h00)
    clear_value d5
    have h7 : KeptP d0 d7 := by
      refine KeptP.ite ?_ ?_
      · exact takeReplay_kept h5
      · refine KeptP.mk ?_
        exact h5
    clear_value d7
    have h8 : Kept d0 d8 := h7
    clear_value d8
    refine KeptP.ite ?_ ?_
    · refine KeptP.mk ?_
      exact Device_modSeq_kept h00
    · refine KeptP.ite ?_ ?_
      · split
        · rename_i y9_0 heq9
          have h9 : Kept d0 y9_0 := by
            refine KeptP.of_eq ?_ heq9
            exact stageFrames_kept h00
          refine KeptP.mk ?_
          exact h9
        · rename_i y10_0 y10_1 heq10
          have h10 : Kept d0 y10_0 := by
            refine KeptP.of_eq ?_ heq10
            exact stageFrames_kept h00
          extract_lets -merge -useContext x11
          refine KeptP.mk ?_
          exact Device_modSeq_kept h10
      · refine KeptP.ite ?_ ?_
        · refine KeptP.mk ?_
          exact h5
        · split
          · extract_lets -merge -useContext x12 x13 d14
            have h14 : Kept d0 d14 := by
              refine Kept.ite ?_ ?_
              · exact writeSampleBox_kept h8
              · exact h8
            clear_value d14
            refine KeptP.mk ?_
            exact Device_modSeq_kept h14
          · refine KeptP.mk ?_
            exact h7

theorem finishEntries_kept {d0 d : Device} {g t i tag st b j : Nat} {taken : List Nat} {l : List WlEntry} (h
    : Kept d0 d) :
    KeptP d0 (finishEntries d g t i tag st b j taken l) := by
  induction l generalizing d j taken with
  | nil => exact h
  | cons e l ih => exact ih (d := writeEntry _ _ _ _) (writeEntry_kept (finishEntry_kept h))

theorem writeSegment_kept {d0 : Device} {a0} {a1} {a2} {a3} {a4} (h00
    : Kept d0 a0) : KeptP d0 (writeSegment a0 a1 a2 a3 a4) := by
  unfold writeSegment
  split
  · refine KeptP.mk ?_
    exact h00
  · extract_lets -merge -useContext x1 x2 d3 x4 x5 x6 d7
    have h3 : KeptP d0 d3 := finishEntries_kept h00
    clear_value d3
    have h7 : Kept d0 d7 := h3
    clear_value d7
    refine KeptP.mk ?_
    exact { h7 with inflight := (Map.wf_put _ _ h3.inflight) }

theorem writeSegments_kept {d0 d : Device} {g m step : Nat} {l : List Formed} (h
    : Kept d0 d) :
    KeptP d0 (writeSegments d g m step l) := by
  induction l generalizing d with
  | nil => exact h
  | cons f l ih =>
    exact ih (d := (writeSegment d g m step f).1) (writeSegment_kept h)

theorem noteSizing_kept {d0 : Device} {a0} {a1} {a2} (h00 : Kept d0 a0)
    : Kept d0 (noteSizing a0 a1 a2) := by
  unfold noteSizing
  exact Device_modGroup_kept (Device_modPower_kept h00)

theorem buildStep_kept {d0 : Device} {a0} {a1} {a2} {a3} (h00 : Kept d0 a0)
    : Kept d0 (buildStep a0 a1 a2 a3) := by
  unfold buildStep
  extract_lets -merge -useContext x1 d2 x3 x4 x5 x6 x7 x8 x9 x10 x11 x12 x13 x14 x15 d16 d17 d18 d19 x20 x21 d22 d23 x24 x25 x26 d27 d28 d29 d30 d31 d32
  have h2 : Kept d0 d2 := ratioUpdate_kept h00
  clear_value d2
  have h16 : KeptP d0 d16 := placeTiles_kept h2
  clear_value d16
  have h17 : KeptP d0 d17 := placeTiles_kept h16
  clear_value d17
  have h18 : Kept d0 d18 := bumpBy_kept h17
  clear_value d18
  have h19 : Kept d0 d19 := bumpBy_kept h18
  clear_value d19
  have h22 : KeptP d0 d22 := writeSegments_kept h19
  clear_value d22
  have h23 : Kept d0 d23 := by
    refine Kept.ite ?_ ?_
    · exact unblock_kept h22
    · exact h22
  clear_value d23
  have h27 : Kept d0 d27 := noteSizing_kept h23
  clear_value d27
  have h28 : Kept d0 d28 := by
    refine Kept.ite ?_ ?_
    · exact bump_kept h27
    · exact h27
  clear_value d28
  have h29 : Kept d0 d29 := by
    refine Kept.ite ?_ ?_
    · exact bump_kept h28
    · exact h28
  clear_value d29
  have h30 : Kept d0 d30 := bumpBy_kept h29
  clear_value d30
  have h31 : Kept d0 d31 := by
    refine Kept.ite ?_ ?_
    · exact raiseVector_kept (bump_kept h30)
    · exact h30
  clear_value d31
  have h32 : Kept d0 d32 := Device_modPower_kept h31
  clear_value d32
  refine Kept.ite ?_ ?_
  · exact h2
  · refine Kept.ite ?_ ?_
    · exact Device_modGroup_kept h19
    · exact Device_modGroup_kept h32

theorem cancelEpoch_kept {d0 : Device} {a0} {a1} {a2} (h00 : Kept d0 a0)
    : Kept d0 (cancelEpoch a0 a1 a2) := by
  unfold cancelEpoch
  split
  · exact setEpoch_kept h00
  · exact h00

theorem refusePub_kept {d0 : Device} {a0} {a1} {a2} (h00 : Kept d0 a0)
    : Kept d0 (refusePub a0 a1 a2) := by
  unfold refusePub
  exact refuse_kept (dropPub_kept h00)

theorem cancelPub_kept {d0 : Device} {a0} {a1} (h00 : Kept d0 a0) : Kept d0 (cancelPub a0 a1) := by
  unfold cancelPub
  extract_lets -merge -useContext x1 x2 d3
  have h3 : Kept d0 d3 := by
    refine Kept.foldl (fun d4 x4 h4 => ?_) ?_
    · exact sendXfer_kept h4
    · exact h00
  clear_value d3
  exact refusePub_kept h3

theorem ceJudge_kept {d0 : Device} {a0} (h00 : Kept d0 a0) : Kept d0 (ceJudge a0) := by
  unfold ceJudge
  refine Kept.ite ?_ ?_
  · exact alertLog_kept (Device_modFaults_kept h00)
  · exact h00

theorem ceWindowEnd_kept {d0 : Device} {a0} (h00 : Kept d0 a0) : Kept d0 (ceWindowEnd a0) := by
  unfold ceWindowEnd
  refine Kept.ite ?_ ?_
  · exact h00
  · extract_lets -merge -useContext d1 x2
    have h1 : Kept d0 d1 := ceJudge_kept h00
    clear_value d1
    exact Device_modFaults_kept h1

theorem chargeFetch_kept {d0 : Device} {a0} {a1} (h00 : Kept d0 a0) : Kept d0 (chargeFetch a0 a1) := by
  unfold chargeFetch
  split
  · exact chargeBytes_kept h00
  · exact h00

theorem chargeTokens_kept {d0 : Device} {a0} {a1} {a2} (h00 : Kept d0 a0)
    : Kept d0 (chargeTokens a0 a1 a2) := by
  unfold chargeTokens
  extract_lets -merge -useContext x1
  exact Device_modClient_kept h00

theorem claimSel_kept {d0 : Device} {a0} {a1} (h00 : Kept d0 a0) : Kept d0 (claimSel a0 a1) := by
  unfold claimSel
  split
  · exact h00
  · refine Kept.ite ?_ ?_
    · extract_lets -merge -useContext d1
      have h1 : Kept d0 d1 := bump_kept (modSel_kept h00)
      clear_value d1
      refine Kept.ite ?_ ?_
      · exact bump_kept h1
      · exact h1
    · exact h00

theorem clearRoot_kept {d0 : Device} {a0} {a1} (h00 : Kept d0 a0) : Kept d0 (clearRoot a0 a1) := by
  unfold clearRoot
  exact ptabWrite_kept h00

theorem fwdAnswer_kept {d0 : Device} {a0} {a1} {a2} {a3} {a4} (h00 : Kept d0 a0)
    : Kept d0 (fwdAnswer a0 a1 a2 a3 a4) := by
  unfold fwdAnswer
  exact answer_kept h00

theorem clientAborted_kept {d0 : Device} {a0} {a1} {a2} {a3} (h00 : Kept d0 a0)
    : Kept d0 (clientAborted a0 a1 a2 a3) := by
  unfold clientAborted
  extract_lets -merge -useContext x1
  refine Kept.ite ?_ ?_
  · exact Device_modTurn_kept h00
  · exact fwdAnswer_kept (Device_modTurn_kept h00)

theorem closeSteps_kept {d0 : Device} {a0} (h00 : Kept d0 a0) : Kept d0 (closeSteps a0) := by
  unfold closeSteps
  refine Kept.foldl (fun d1 x1 h1 => ?_) ?_
  · exact closeBuilding_kept h1
  · exact h00

theorem waitFanOut_kept {d0 : Device} {a0} {a1} (h00 : Kept d0 a0) : Kept d0 (waitFanOut a0 a1) := by
  unfold waitFanOut
  split
  · exact h00
  · refine Kept.ite ?_ ?_
    · exact startWait_kept h00
    · exact h00

theorem readInputs_kept {d0 : Device} {a0} {a1} (h00 : Kept d0 a0) : Kept d0 (readInputs a0 a1) := by
  unfold readInputs
  split
  · exact h00
  · refine Kept.ite ?_ ?_
    · exact h00
    · extract_lets -merge -useContext x1
      refine Kept.foldl (fun d2 x2 h2 => ?_) ?_
      · exact fabiRead_kept h2
      · exact Device_modSeq_kept (dropInputs_kept h00)

theorem issueCmd_kept {d0 : Device} {a0} {a1} {a2} {a3} (h00 : Kept d0 a0)
    : Kept d0 (issueCmd a0 a1 a2 a3) := by
  unfold issueCmd
  extract_lets -merge -useContext x1 d2 d3 x4 d5 d6 x7 d8 d9 x10 d11
  have h2 : Kept d0 d2 := emit_kept h00
  clear_value d2
  have h3 : Kept d0 d3 := traceRec_kept (bump_kept h2)
  clear_value d3
  have h5 : Kept d0 d5 := Device_modInflight_kept h3
  clear_value d5
  have h6 : Kept d0 d6 := by
    refine Kept.foldl (fun d12 x12 h12 => ?_) ?_
    · split
      · refine Kept.ite ?_ ?_
        · exact enterState_kept h12
        · exact h12
      · exact h12
    · exact h5
  clear_value d6
  have h8 : Kept d0 d8 := by
    refine Kept.foldl (fun d13 x13 h13 => ?_) ?_
    · refine Kept.ite ?_ ?_
      · exact Device_modSeq_kept h13
      · exact h13
    · exact h6
  clear_value d8
  have h9 : Kept d0 d9 := by
    refine Kept.foldl (fun d15 x15 h15 => ?_) ?_
    · exact waitFanOut_kept h15
    · refine Kept.foldl (fun d14 x14 h14 => ?_) ?_
      · exact readInputs_kept h14
      · exact h8
  clear_value d9
  have h11 : Kept d0 d11 := Device_modGroup_kept h9
  clear_value d11
  refine Kept.ite ?_ ?_
  · exact dispatchStep_kept h11
  · exact h11

theorem cmdIssue_kept {d0 : Device} {a0} {a1} (h00 : Kept d0 a0) : Kept d0 (cmdIssue a0 a1) := by
  unfold cmdIssue
  split
  · exact h00
  · split
    · exact h00
    · refine Kept.ite ?_ ?_
      · exact issueCmd_kept h00
      · exact h00

theorem cmdTimeout_kept {d0 : Device} {a0} {a1} (h00 : Kept d0 a0) : Kept d0 (cmdTimeout a0 a1) := by
  unfold cmdTimeout
  split
  · exact h00
  · refine Kept.ite ?_ ?_
    · exact commandFailed_kept (bump_kept h00)
    · exact h00

theorem freeDraft_kept {d0 : Device} {a0} {a1} (h00 : Kept d0 a0) : Kept d0 (freeDraft a0 a1) := by
  unfold freeDraft
  exact modSpec_kept h00

theorem commitDraft_kept {d0 : Device} {a0} {a1} {a2} {a3} (h00 : Kept d0 a0)
    : Kept d0 (commitDraft a0 a1 a2 a3) := by
  unfold commitDraft
  split
  · exact h00
  · extract_lets -merge -useContext x1 x2 d3 d4 d5 x6 d7
    have h3 : Kept d0 d3 := bumpBy_kept (bumpBy_kept (bump_kept h00))
    clear_value d3
    have h4 : Kept d0 d4 := by
      refine Kept.ite ?_ ?_
      · exact bump_kept h3
      · exact h3
    clear_value d4
    have h5 : Kept d0 d5 := modSpec_kept h4
    clear_value d5
    have h7 : Kept d0 d7 := by
      refine Kept.ite ?_ ?_
      · exact freeDraft_kept h00
      · exact h00
    clear_value d7
    refine Kept.ite ?_ ?_
    · refine Kept.ite ?_ ?_
      · exact writeRequest_kept (bump_kept (modSpec_kept h5))
      · exact h5
    · refine Kept.ite ?_ ?_
      · exact modSpec_kept h7
      · exact h7

theorem endNoValid_kept {d0 : Device} {a0} {a1} (h00 : Kept d0 a0) : Kept d0 (endNoValid a0 a1) := by
  unfold endNoValid
  exact finishSeq_kept (bump_kept h00)

theorem commitEnds_kept {d0 : Device} {a0} {a1} {a2} {a3} (h00 : Kept d0 a0)
    : Kept d0 (commitEnds a0 a1 a2 a3) := by
  unfold commitEnds
  split
  · exact h00
  · split
    · refine Kept.ite ?_ ?_
      · exact afterCommit_kept (modSpec_kept h00)
      · exact evictNow_kept (turnStop_kept h00)
    · extract_lets -merge -useContext d1
      have h1 : Kept d0 d1 := by
        refine Kept.ite ?_ ?_
        · exact sendCompl_kept h00
        · exact h00
      clear_value d1
      refine Kept.ite ?_ ?_
      · exact endNoValid_kept h1
      · exact afterCommit_kept h1

theorem commitEntry_kept {d0 : Device} {a0} {a1} {a2} (h00 : Kept d0 a0)
    : Kept d0 (commitEntry a0 a1 a2) := by
  unfold commitEntry
  split
  · exact h00
  · extract_lets -merge -useContext x1
    exact odSet_kept { h00 with snaps := (Map.wf_del _ h00.snaps) }

theorem logWrite_kept {d0 : Device} {a0} {a1} {a2} {a3} {a4} {a5} (h00
    : Kept d0 a0) : Kept d0 (logWrite a0 a1 a2 a3 a4 a5) := by
  unfold logWrite
  exact fabiWrite_kept (Device_modSeq_kept h00)

theorem writeTokens_kept {d0 : Device} {a0} {a1} {a2} {a3} (h00 : Kept d0 a0)
    : Kept d0 (writeTokens a0 a1 a2 a3) := by
  unfold writeTokens
  extract_lets -merge -useContext x1 x2 x3 d4 d5
  have h4 : Kept d0 d4 := logWrite_kept h00
  clear_value d4
  have h5 : Kept d0 d5 := by
    refine Kept.ite ?_ ?_
    · exact h4
    · exact logWrite_kept h4
  clear_value d5
  refine Kept.ite ?_ ?_
  · exact h00
  · refine Kept.ite ?_ ?_
    · exact h5
    · exact logWrite_kept h5

theorem fillTo_kept {d0 : Device} {a0} {a1} {a2} {a3} (h00 : Kept d0 a0)
    : Kept d0 (fillTo a0 a1 a2 a3) := by
  unfold fillTo
  split
  · exact h00
  · split
    · split
      · refine Kept.ite ?_ ?_
        · exact modDir1_kept h00
        · exact h00
      · exact h00
    · exact h00

theorem fillBelow_kept {d0 d : Device} {s p len n k : Nat} (h : Kept d0 d)
    : Kept d0 (fillBelow d s p len n k) := by
  induction n generalizing d k with
  | zero => exact h
  | succ n ih => exact ih (Kept.ite (fillTo_kept h) h)

theorem commitRefill_kept {d0 : Device} {a0} {a1} {a2} {a3} (h00 : Kept d0 a0)
    : Kept d0 (commitRefill a0 a1 a2 a3) := by
  unfold commitRefill
  extract_lets -merge -useContext d1
  have h1 : Kept d0 d1 := modBlk_kept h00
  clear_value d1
  split
  · exact h1
  · extract_lets -merge -useContext x2 x3
    exact fillBelow_kept (Device_modSeq_kept h1)

theorem commitLength_kept {d0 : Device} {a0} {a1} {a2} (h00 : Kept d0 a0)
    : Kept d0 (commitLength a0 a1 a2) := by
  unfold commitLength
  extract_lets -merge -useContext d1
  have h1 : Kept d0 d1 := modBlk_kept h00
  clear_value d1
  split
  · exact h1
  · extract_lets -merge -useContext x2
    exact fillBelow_kept h1

theorem loseGone_kept {d0 d : Device} {s : Nat} {l : List Nat} (h : Kept d0 d)
    : Kept d0 (loseGone d s l) := by
  induction l generalizing d with
  | nil => exact h
  | cons k l ih =>
    unfold loseGone
    split
    · exact h
    · exact Kept.ite (losePage_kept h) (ih h)

theorem commitPages_kept {d0 : Device} {a0} {a1} {a2} {a3} (h00 : Kept d0 a0)
    : Kept d0 (commitPages a0 a1 a2 a3) := by
  unfold commitPages
  split
  · exact h00
  · extract_lets -merge -useContext x1 d2 x3 d4 d5
    have h2 : Kept d0 d2 := by
      refine Kept.ite ?_ ?_
      · exact commitRefill_kept h00
      · exact commitLength_kept h00
    clear_value d2
    have h4 : Kept d0 d4 := loseGone_kept h2
    clear_value d4
    have h5 : Kept d0 d5 := writebackFull_kept h4
    clear_value d5
    refine Kept.ite ?_ ?_
    · exact h4
    · exact hashStart_kept h5

theorem commitPath_kept {d0 : Device} {a0} {a1} {a2} {a3} {a4} (h00 : Kept d0 a0)
    : Kept d0 (commitPath a0 a1 a2 a3 a4) := by
  unfold commitPath
  refine Kept.ite ?_ ?_
  · exact h00
  · extract_lets -merge -useContext d1
    have h1 : Kept d0 d1 := modSpec_kept (modBlk_kept h00)
    clear_value d1
    exact fabiWrite_kept h1

theorem commitTokens_kept {d0 : Device} {a0} {a1} {a2} {a3} (h00 : Kept d0 a0)
    : Kept d0 (commitTokens a0 a1 a2 a3) := by
  unfold commitTokens
  extract_lets -merge -useContext d1
  have h1 : Kept d0 d1 := Device_modSeq_kept h00
  clear_value d1
  split
  · exact h1
  · refine Kept.ite ?_ ?_
    · exact h1
    · extract_lets -merge -useContext x2 d3
      have h3 : Kept d0 d3 := writeTurn_kept (modBlk_kept h1)
      clear_value d3
      exact chargeTokens_kept h3

theorem traceSamples_kept {d0 : Device} {a0} {a1} {a2} {a3} (h00 : Kept d0 a0)
    : Kept d0 (traceSamples a0 a1 a2 a3) := by
  unfold traceSamples
  refine Kept.foldl (fun d1 x1 h1 => ?_) ?_
  · extract_lets -merge -useContext x2
    exact traceRec_kept h1
  · exact h00

theorem commitRecord_kept {d0 : Device} {a0} {a1} {a2} (h00 : Kept d0 a0)
    : Kept d0 (commitRecord a0 a1 a2) := by
  unfold commitRecord
  extract_lets -merge -useContext d1 d2
  have h1 : Kept d0 d1 := modTcb_kept h00
  clear_value d1
  have h2 : Kept d0 d2 := Device_modSeq_kept h1
  clear_value d2
  exact dropOutcome_kept (leaveStep_kept (setFlagBit_kept h2))

theorem endPrefill_kept {d0 : Device} {a0} {a1} (h00 : Kept d0 a0) : Kept d0 (endPrefill a0 a1) := by
  unfold endPrefill
  split
  · exact h00
  · refine Kept.ite ?_ ?_
    · exact modTcb_kept h00
    · exact enterState_kept h00

theorem traceCommit_kept {d0 : Device} {a0} {a1} {a2} {a3} {a4} (h00
    : Kept d0 a0) : Kept d0 (traceCommit a0 a1 a2 a3 a4) := by
  unfold traceCommit
  split
  · exact h00
  · exact traceRec_kept h00

theorem commitGen_kept {d0 : Device} {a0} {a1} {a2} {a3} (h00 : Kept d0 a0)
    : Kept d0 (commitGen a0 a1 a2 a3) := by
  unfold commitGen
  extract_lets -merge -useContext x1 x2 d3 d4 d5 d6 d7 d8 d9 d10 d11
  have h3 : Kept d0 d3 := writeTokens_kept h00
  clear_value d3
  have h4 : Kept d0 d4 := commitPages_kept h3
  clear_value d4
  have h5 : Kept d0 d5 := commitPath_kept h4
  clear_value d5
  have h6 : Kept d0 d6 := commitTokens_kept h5
  clear_value d6
  have h7 : Kept d0 d7 := traceSamples_kept (commitDraft_kept h6)
  clear_value d7
  have h8 : Kept d0 d8 := commitRecord_kept h7
  clear_value d8
  have h9 : Kept d0 d9 := by
    refine Kept.ite ?_ ?_
    · exact endPrefill_kept h8
    · exact h8
  clear_value d9
  have h10 : Kept d0 d10 := commitEnds_kept h9
  clear_value d10
  have h11 : Kept d0 d11 := evalWait_kept h10
  clear_value d11
  refine Kept.ite ?_ ?_
  · exact endNoValid_kept h00
  · exact traceCommit_kept h11

theorem resultBodyWritten_kept {d0 : Device} {a0} {a1} (h00 : Kept d0 a0)
    : Kept d0 (resultBodyWritten a0 a1) := by
  unfold resultBodyWritten
  split
  · exact h00
  · exact writeHeader_kept h00

theorem writeVectorHeader_kept {d0 : Device} {a0} {a1} (h00 : Kept d0 a0)
    : Kept d0 (writeVectorHeader a0 a1) := by
  unfold writeVectorHeader
  split
  · exact h00
  · extract_lets -merge -useContext x1
    exact resultBodyWritten_kept (modPlan_kept h00)

theorem nextStageBlocks_kept {d0 : Device} {a0} {a1} {a2} (h00 : Kept d0 a0)
    : Kept d0 (nextStageBlocks a0 a1 a2) := by
  unfold nextStageBlocks
  extract_lets -merge -useContext x1 x2
  exact writeStageBlocks_kept h00

end Sys2Proof.Machine
end

