-- ==== Sys2Proof/Laws/Kept6.lean ====
section
/-! SUPPORT. What each operation keeps (see Sys2Proof/Laws/Kept.lean), in the order in which they call each other: part 6. -/

set_option Elab.async false

namespace Sys2Proof.Machine

theorem stageWrites_kept {d0 : Device} {a0} {a1} {a2} (h00 : Kept d0 a0)
    : Kept d0 (stageWrites a0 a1 a2) := by
  unfold stageWrites
  extract_lets -merge -useContext d1 x2 x3
  have h1 : Kept d0 d1 := nextStageBlocks_kept h00
  clear_value d1
  split
  · exact h1
  · refine Kept.ite ?_ ?_
    · exact h1
    · refine Kept.ite ?_ ?_
      · exact writeResult_kept h1
      · refine Kept.ite ?_ ?_
        · exact h1
        · exact fabiWrite_kept (modPlan_kept h1)

theorem commitStage_kept {d0 : Device} {a0} {a1} {a2} (h00 : Kept d0 a0)
    : Kept d0 (commitStage a0 a1 a2) := by
  unfold commitStage
  extract_lets -merge -useContext x1 x2 d3 d4 d5 d6 d7
  have h3 : Kept d0 d3 := modPlan_kept h00
  clear_value d3
  have h4 : Kept d0 d4 := by
    refine Kept.ite ?_ ?_
    · exact writeVectorHeader_kept h3
    · exact stageWrites_kept h3
  clear_value d4
  have h5 : Kept d0 d5 := commitRecord_kept h4
  clear_value d5
  have h6 : Kept d0 d6 := by
    refine Kept.ite ?_ ?_
    · exact monitor_kept h5
    · exact h5
  clear_value d6
  have h7 : Kept d0 d7 := afterPlanStage_kept h6
  clear_value d7
  exact traceCommit_kept (evalWait_kept h7)

theorem complArrived_kept {d0 : Device} {a0} {a1} (h00 : Kept d0 a0)
    : Kept d0 (complArrived a0 a1) := by
  unfold complArrived
  refine Kept.ite ?_ ?_
  · extract_lets -merge -useContext x1 x2 d3
    clear_value x1
    have h3 : Kept d0 d3 := Device_modTurn_kept h00
    clear_value d3
    exact cqEnqueue_kept h3
  · exact h00

theorem portErr_kept {d0 : Device} {a0} {a1} (h00 : Kept d0 a0) : Kept d0 (portErr a0 a1) := by
  unfold portErr
  exact bump_kept h00

theorem completion_kept {d0 : Device} {a0} {a1} (h00 : Kept d0 a0) : Kept d0 (completion a0 a1) := by
  unfold completion
  split
  · exact portErr_kept h00
  · refine Kept.ite ?_ ?_
    · extract_lets -merge -useContext d1 d2
      have h1 : Kept d0 d1 := portErr_kept h00
      clear_value d1
      have h2 : Kept d0 d2 := returnCredit_kept (bump_kept h1)
      clear_value d2
      refine Kept.ite ?_ ?_
      · exact returnCredit_kept h1
      · refine Kept.ite ?_ ?_
        · exact commandFailed_kept (Device_modInflight_kept h2)
        · exact h1
    · refine Kept.ite ?_ ?_
      · exact returnCredit_kept (portErr_kept h00)
      · refine Kept.ite ?_ ?_
        · exact acceptCompletion_kept h00
        · exact h00

theorem whenReady_kept {d0 : Device} {a0} {a1} (h00 : Kept d0 a0) (h10 : ∀ z0, Kept d0 z0 → Kept d0 (a1 z0))
    : Kept d0 (whenReady a0 a1) := by
  unfold whenReady
  refine Kept.ite ?_ ?_
  · refine h10 _ ?_
    · exact h00
  · exact h00

theorem takeHead_kept {d0 : Device} {a0} {a1} {a2} (h00 : Kept d0 a0)
    : Kept d0 (takeHead a0 a1 a2) := by
  unfold takeHead
  extract_lets -merge -useContext x1 d2 d3 x4
  have h2 : Kept d0 d2 := cvcPass_kept h00
  clear_value d2
  have h3 : Kept d0 d3 := Device_modRing_kept h2
  clear_value d3
  exact sqFetch_kept (Device_modTurn_kept h3)

theorem consume_kept {d0 : Device} {a0} {a1} {a2} {a3} (h00 : Kept d0 a0)
    (h30 : ∀ z0 z1, Kept d0 z0 → Kept d0 (a3 z0 z1)) : Kept d0 (consume a0 a1 a2 a3) := by
  unfold consume
  refine whenReady_kept ?_ ?_
  · exact h00
  · intro y1_0 h1
    split
    · exact h1
    · extract_lets -merge -useContext x2 x3 d4
      have h4 : Kept d0 d4 := takeHead_kept h1
      clear_value d4
      refine Kept.ite ?_ ?_
      · split
        · exact refuse_kept h4
        · refine h30 _ _ ?_
          · exact h4
      · exact h1

theorem contGranted_kept {d0 : Device} {a0} {a1} {a2} (h00 : Kept d0 a0)
    : Kept d0 (contGranted a0 a1 a2) := by
  unfold contGranted
  extract_lets -merge -useContext d1 d2 d3
  have h1 : Kept d0 d1 := dropDecision_kept h00
  clear_value d1
  have h2 : Kept d0 d2 := by
    unfold d2
    split
    · exact modFlow_kept h1
    · exact h1
  clear_value d2
  have h3 : Kept d0 d3 := Device_modTurn_kept h2
  clear_value d3
  exact fwdAnswer_kept (admitTrace_kept h3)

theorem contAnswered_kept {d0 : Device} {a0} {a1} {a2} {a3} {a4} (h00
    : Kept d0 a0) : Kept d0 (contAnswered a0 a1 a2 a3 a4) := by
  unfold contAnswered
  split
  · exact h00
  · refine markPass_kept ?_
    split
    · exact contGranted_kept h00
    · exact refuseDecision_kept h00
    · refine Kept.ite ?_ ?_
      · exact refuseDecision_kept h00
      · exact queueDecision_kept h00
    · exact h00

theorem controlServe_kept {d0 : Device} {a0} {a1} {a2} (h00 : Kept d0 a0)
    (h20 : ∀ z0 z1, Kept d0 z0 → KeptP d0 (a2 z0 z1)) : Kept d0 (controlServe a0 a1 a2) := by
  unfold controlServe
  refine whenPresent_kept ?_ ?_
  · exact h00
  · intro y1_0 h1
    split
    · exact h1
    · refine Kept.ite ?_ ?_
      · extract_lets -merge -useContext d2
        have h2 : KeptP d0 d2 := by
          refine h20 _ _ ?_
          · exact h1
        clear_value d2
        exact mctpAnswer_kept h2
      · exact h1

theorem retireWord_kept {d0 : Device} {a0} {a1} (h00 : Kept d0 a0) : Kept d0 (retireWord a0 a1) := by
  unfold retireWord
  refine Kept.ite ?_ ?_
  · exact Device_modFaults_kept h00
  · extract_lets -merge -useContext d1
    have h1 : Kept d0 d1 := by
      refine bump_kept ?_
      refine Device_modClk_kept ?_ ?_
      · exact h00
      · exact fun c hc => { hc with spareRows := Nat.le_trans (Nat.sub_le _ _) hc.spareRows }
    clear_value d1
    exact Device_modFaults_kept h1

theorem noteBadWord_kept {d0 : Device} {a0} {a1} (h00 : Kept d0 a0) : Kept d0 (noteBadWord a0 a1) := by
  unfold noteBadWord
  extract_lets -merge -useContext x1
  split
  · exact Device_modFaults_kept h00
  · refine Kept.ite ?_ ?_
    · exact retireWord_kept h00
    · exact h00

theorem corrected_kept {d0 : Device} {a0} {a1} (h00 : Kept d0 a0) : Kept d0 (corrected a0 a1) := by
  unfold corrected
  extract_lets -merge -useContext d1 d2
  have h1 : Kept d0 d1 := bump_kept (ceWindowEnd_kept h00)
  clear_value d1
  have h2 : Kept d0 d2 := noteBadWord_kept (ceJudge_kept (Device_modFaults_kept h1))
  clear_value d2
  refine Kept.ite ?_ ?_
  · exact flogWrite_kept h2
  · exact h2

theorem countDist_kept {d0 : Device} {a0} {a1} {a2} {a3} {a4} (h00 : Kept d0 a0)
    : Kept d0 (countDist a0 a1 a2 a3 a4) := by
  unfold countDist
  extract_lets -merge -useContext x1
  exact chargeLanes_kept (bumpBy_kept (bumpBy_kept h00))

theorem countMoved_kept {d0 : Device} {a0} {a1} (h00 : Kept d0 a0) : Kept d0 (countMoved a0 a1) := by
  unfold countMoved
  refine Device_modCtx_kept ?_ ?_
  · exact h00
  · exact fun c hc => { hc with  }

theorem countPosition_kept {d0 : Device} {a0} {a1} {a2} {a3} {a4} {a5}
    (h00 : Kept d0 a0) : Kept d0 (countPosition a0 a1 a2 a3 a4 a5) := by
  unfold countPosition
  exact countDist_kept (bumpBy_kept (bump_kept h00))

theorem fabtRefuse_kept {d0 : Device} {a0} {a1} (h00 : Kept d0 a0) : Kept d0 (fabtRefuse a0 a1) := by
  unfold fabtRefuse
  exact emit_kept (portErr_kept h00)

theorem doorbellErr_kept {d0 : Device} {a0} {a1} (h00 : Kept d0 a0) : Kept d0 (doorbellErr a0 a1) := by
  unfold doorbellErr
  exact Device_modRing_kept h00

theorem doorbell_kept {d0 : Device} {a0} {a1} {a2} (h00 : Kept d0 a0)
    (h20 : ∀ z0, Kept d0 z0 → Kept d0 (a2 z0)) : Kept d0 (doorbell a0 a1 a2) := by
  unfold doorbell
  refine whenPresent_kept ?_ ?_
  · exact h00
  · intro y1_0 h1
    refine Kept.ite ?_ ?_
    · exact portErr_kept h1
    · refine Kept.ite ?_ ?_
      · exact fabtRefuse_kept h1
      · refine Kept.ite ?_ ?_
        · exact doorbellErr_kept h1
        · refine h20 _ ?_
          · exact h1

theorem unstall_kept {d0 : Device} {a0} {a1} (h00 : Kept d0 a0) : Kept d0 (unstall a0 a1) := by
  unfold unstall
  refine Kept.ite ?_ ?_
  · exact Device_modRing_kept h00
  · exact h00

theorem noteFull_kept {d0 : Device} {a0} {a1} (h00 : Kept d0 a0) : Kept d0 (noteFull a0 a1) := by
  unfold noteFull
  extract_lets -merge -useContext x1 x2
  exact Device_modRing_kept h00

theorem cqHeadWrite_kept {d0 : Device} {a0} {a1} {a2} (h00 : Kept d0 a0)
    : Kept d0 (cqHeadWrite a0 a1 a2) := by
  unfold cqHeadWrite
  refine doorbell_kept ?_ ?_
  · exact h00
  · intro y1_0 h1
    refine Kept.ite ?_ ?_
    · exact unstall_kept (noteFull_kept (Device_modRing_kept h1))
    · exact doorbellErr_kept h1

theorem ringIrq_kept {d0 : Device} {a0} {a1} (h00 : Kept d0 a0) : Kept d0 (ringIrq a0 a1) := by
  unfold ringIrq
  extract_lets -merge -useContext x1
  refine Kept.ite ?_ ?_
  · exact h00
  · exact raiseVector_kept (Device_modRing_kept h00)

theorem ringIrqCount_kept {d0 : Device} {a0} {a1} {a2} (h00 : Kept d0 a0)
    : Kept d0 (ringIrqCount a0 a1 a2) := by
  unfold ringIrqCount
  refine Kept.ite ?_ ?_
  · exact h00
  · extract_lets -merge -useContext x1 d2
    have h2 : Kept d0 d2 := Device_modRing_kept h00
    clear_value d2
    refine Kept.ite ?_ ?_
    · exact ringIrq_kept h2
    · exact h2

theorem takeRingUse_kept {d0 : Device} {a0} {a1} (h00 : Kept d0 a0) : Kept d0 (takeRingUse a0 a1) := by
  unfold takeRingUse
  extract_lets -merge -useContext x1 x2 x3 x4
  exact Device_modRing_kept h00

theorem endWrittenHere_kept {d0 : Device} {a0} {a1} (h00 : Kept d0 a0)
    : Kept d0 (endWrittenHere a0 a1) := by
  unfold endWrittenHere
  extract_lets -merge -useContext x1 d2 d3
  have h2 : Kept d0 d2 := Device_modTurn_kept h00
  clear_value d2
  have h3 : Kept d0 d3 := by
    unfold d3
    split
    · exact tidyFlow_kept (modFlow_kept h2)
    · exact h2
  clear_value d3
  exact sendXfer_kept (refuseHeld_kept h3)

theorem flowWritten_kept {d0 : Device} {a0} {a1} (h00 : Kept d0 a0) : Kept d0 (flowWritten a0 a1) := by
  unfold flowWritten
  split
  · exact flowEnd_kept h00
  · exact h00

theorem cqWritten_kept {d0 : Device} {a0} {a1} {a2} (h00 : Kept d0 a0)
    : Kept d0 (cqWritten a0 a1 a2) := by
  unfold cqWritten
  split
  · exact h00
  · refine Kept.ite ?_ ?_
    · exact h00
    · extract_lets -merge -useContext x1 d2 d3 d4
      have h2 : Kept d0 d2 := Device_modRing_kept h00
      clear_value d2
      have h3 : Kept d0 d3 := ringIrqCount_kept (takeRingUse_kept (noteFull_kept (cvcPassAs_kept h2)))
      clear_value d3
      have h4 : Kept d0 d4 := by
        refine Kept.ite ?_ ?_
        · exact endWrittenHere_kept h3
        · exact h3
      clear_value d4
      exact flowWritten_kept h4

theorem prefixEvict_kept {d0 : Device} {a0} {a1} (h00 : Kept d0 a0) : Kept d0 (prefixEvict a0 a1) := by
  unfold prefixEvict
  split
  · exact h00
  · extract_lets -merge -useContext x1 d2
    have h2 : Kept d0 d2 := traceRec_kept (bump_kept h00)
    clear_value d2
    exact prefixRemove_kept h2

theorem reclaimCached_kept {d0 : Device} {a0} {a1} (h00 : Kept d0 a0)
    : Kept d0 (reclaimCached a0 a1) := by
  unfold reclaimCached
  split
  · exact delDir1_kept (prefixEvict_kept h00)
  · exact h00

theorem spillPage_kept {d0 : Device} {a0} {a1} {a2} {a3} (h00 : Kept d0 a0)
    : Kept d0 (spillPage a0 a1 a2 a3) := by
  unfold spillPage
  split
  · exact h00
  · split
    · split
      · extract_lets -merge -useContext d1 d2
        have h1 : Kept d0 d1 := putDir2_kept h00
        clear_value d1
        have h2 : Kept d0 d2 := by
          refine Kept.ite ?_ ?_
          · exact modDir1_kept h1
          · exact h1
        clear_value d2
        exact postMove_kept (bump_kept h2)
      · exact h00
    · exact h00

theorem spillAll_kept {d0 : Device} {a0} {a1} {a2} (h00 : Kept d0 a0)
    : Kept d0 (spillAll a0 a1 a2) := by
  unfold spillAll
  split
  · exact h00
  · extract_lets -merge -useContext x1 d2 d3
    have h2 : Kept d0 d2 := by
      refine Kept.foldl (fun d4 x4 h4 => ?_) ?_
      · refine Kept.ite ?_ ?_
        · exact h4
        · exact spillPage_kept h4
      · exact h00
    clear_value d2
    have h3 : Kept d0 d3 := traceMove_kept h2
    clear_value d3
    exact setIfHolds_kept (modBlk_kept h3)

theorem reclaimLoop_kept {d0 d : Device} {n : Nat} (h : Kept d0 d) : Kept d0 (reclaimLoop d n) := by
  induction n generalizing d with
  | zero => exact h
  | succ n ih =>
    unfold reclaimLoop
    refine Kept.ite h ?_
    split
    · exact ih (reclaimCached_kept h)
    · exact ih (spillAll_kept (dropAllT0_kept h))
    · exact ih (reclaimCached_kept h)
    · exact h

theorem ctxReclaim_kept {d0 : Device} {a0} (h00 : Kept d0 a0) : Kept d0 (ctxReclaim a0) := by
  unfold ctxReclaim
  refine Kept.ite ?_ ?_
  · exact wakePages_kept (leafRetry_kept (reclaimLoop_kept h00))
  · exact h00

theorem currentPass_kept {d0 : Device} {a0} (h00 : Kept d0 a0) : Kept d0 (currentPass a0) := by
  unfold currentPass
  split
  · exact h00
  · extract_lets -merge -useContext x1 x2
    exact Device_modTurn_kept h00

theorem cvcSnapshot_kept {d0 : Device} {a0} {a1} (h00 : Kept d0 a0) : Kept d0 (cvcSnapshot a0 a1) := by
  unfold cvcSnapshot
  extract_lets -merge -useContext x1
  exact Device_modCvc_kept h00

theorem expireTimer_kept {d0 : Device} {a0} {a1} {a2} {a3} (h00 : Kept d0 a0)
    : Kept d0 (expireTimer a0 a1 a2 a3) := by
  unfold expireTimer
  extract_lets -merge -useContext x1 x2 d3
  have h3 : Kept d0 d3 := bump_kept (bumpMax_kept (bump_kept (cancelTimer_kept h00)))
  clear_value d3
  refine Kept.ite ?_ ?_
  · exact alertLog_kept h3
  · exact h3

theorem deadlineExpiry_kept {d0 : Device} {a0} {a1} (h00 : Kept d0 a0)
    : Kept d0 (deadlineExpiry a0 a1) := by
  unfold deadlineExpiry
  split
  · exact monitor_kept (setFlag_kept (expireTimer_kept h00))
  · exact h00

theorem decide7_kept {d0 : Device} {a0} {a1} (h00 : Kept d0 a0) : Kept d0 (decide7 a0 a1) := by
  unfold decide7
  extract_lets -merge -useContext d1
  have h1 : KeptP d0 d1 := decideGroup_kept h00
  clear_value d1
  refine Kept.ite ?_ ?_
  · show KeptP d0 _
    exact beginSix_kept h1
  · exact h1

theorem demoteStage_kept {d0 : Device} {a0} {a1} (h00 : Kept d0 a0) : Kept d0 (demoteStage a0 a1) := by
  unfold demoteStage
  split
  · exact h00
  · refine Kept.ite ?_ ?_
    · extract_lets -merge -useContext d1
      have h1 : Kept d0 d1 := modBlk_kept (dropAllT0_kept h00)
      clear_value d1
      exact armTimer_kept h1
    · refine Kept.ite ?_ ?_
      · exact spillAll_kept h00
      · exact h00

theorem deferredStage_kept {d0 : Device} {a0} {a1} (h00 : Kept d0 a0)
    : Kept d0 (deferredStage a0 a1) := by
  unfold deferredStage
  split
  · exact h00
  · refine Kept.ite ?_ ?_
    · exact demoteStage_kept (modBlk_kept h00)
    · exact h00

theorem dropSel_kept {d0 : Device} {a0} {a1} (h00 : Kept d0 a0) : Kept d0 (dropSel a0 a1) := by
  unfold dropSel
  exact { h00 with  }

theorem deliver_kept {d0 : Device} {a0} {a1} {a2} {a3} (h00 : Kept d0 a0)
    : Kept d0 (deliver a0 a1 a2 a3) := by
  unfold deliver
  extract_lets -merge -useContext x1 x2 x3 d4 d5 d6 d7
  have h4 : Kept d0 d4 := bumpBy_kept h00
  clear_value d4
  have h5 : Kept d0 d5 := by
    refine Kept.ite ?_ ?_
    · exact bump_kept h4
    · exact h4
  clear_value d5
  have h6 : Kept d0 d6 := dropSel_kept h5
  clear_value d6
  have h7 : Kept d0 d7 := Device_modSeq_kept h6
  clear_value d7
  exact monitor_kept h7

theorem deltaEntry_kept {d0 : Device} {a0} {a1} {a2} (h00 : Kept d0 a0)
    : Kept d0 (deltaEntry a0 a1 a2) := by
  unfold deltaEntry
  refine Kept.ite ?_ ?_
  · exact h00
  · extract_lets -merge -useContext x1 x2 d3 d4
    have h3 : Kept d0 d3 := Device_modClient_kept h00
    clear_value d3
    have h4 : Kept d0 d4 := Device_modAgg_kept h3
    clear_value d4
    refine Kept.ite ?_ ?_
    · exact raiseVector_kept (alertLog_kept h4)
    · exact h4

theorem descriptorRead_kept {d0 : Device} {a0} {a1} {a2} (h00 : Kept d0 a0)
    : Kept d0 (descriptorRead a0 a1 a2) := by
  unfold descriptorRead
  split
  · exact h00
  · extract_lets -merge -useContext x1 x2 x3 d4
    have h4 : Kept d0 d4 := modPub_kept h00
    clear_value d4
    refine Kept.ite ?_ ?_
    · exact refusePub_kept h00
    · refine Kept.foldl (fun d5 x5 h5 => ?_) ?_
      · exact sendXfer_kept h5
      · exact h4

theorem flowLost_kept {d0 : Device} {a0} {a1} (h00 : Kept d0 a0) : Kept d0 (flowLost a0 a1) := by
  unfold flowLost
  split
  · exact h00
  · extract_lets -merge -useContext d1 d2 d3 x4 x5
    have h1 : Kept d0 d1 := h00
    clear_value d1
    have h2 : Kept d0 d2 := by
      refine Kept.foldl (fun d6 x6 h6 => ?_) ?_
      · exact refuseDecision_kept h6
      · exact { h1 with flows := (Map.wf_del _ h1.flows) }
    clear_value d2
    have h3 : Kept d0 d3 := Device_modTurn_kept h2
    clear_value d3
    refine Kept.foldl (fun d7 x7 h7 => ?_) ?_
    · exact sendXfer_kept h7
    · exact { h3 with seqs := (Map.wf_map _ (fun _ => rfl) h3.seqs) }

theorem withdrawLane_kept {d0 : Device} {a0} {a1} (h00 : Kept d0 a0)
    : Kept d0 (withdrawLane a0 a1) := by
  unfold withdrawLane
  split
  · exact h00
  · extract_lets -merge -useContext d1
    have h1 : Kept d0 d1 := by
      refine Kept.ite ?_ ?_
      · refine Kept.foldl (fun d2 x2 h2 => ?_) ?_
        · exact killCommand_kept h2
        · exact bump_kept h00
      · exact h00
    clear_value d1
    exact withdrawSeq_kept h1

theorem takeLane_kept {d0 d : Device} {g l : Nat} (h : Kept d0 d) : Kept d0 (takeLane d g l) :=
  bump_kept { h with lanes := (length_modAt _ _ _).trans h.lanes }

theorem laneFault_kept {d0 : Device} {a0} {a1} {a2} {a3} (h00 : Kept d0 a0)
    : Kept d0 (laneFault a0 a1 a2 a3) := by
  unfold laneFault
  refine Kept.foldl (fun d1 x1 h1 => ?_) ?_
  · exact withdrawLane_kept h1
  · exact takeLane_kept h00

theorem tableAgain_kept {d0 : Device} {a0} {a1} (h00 : Kept d0 a0) : Kept d0 (tableAgain a0 a1) := by
  unfold tableAgain
  extract_lets -merge -useContext d1
  have h1 : Kept d0 d1 := noteBadWord_kept (alertLog_kept (bump_kept h00))
  clear_value d1
  refine Device_modClk_kept ?_ ?_
  · exact h1
  · exact fun c hc => { hc with  }

theorem rearm_kept {d0 : Device} {a0} {a1} (h00 : Kept d0 a0) : Kept d0 (rearm a0 a1) := by
  unfold rearm
  extract_lets -merge -useContext x1
  split
  · exact h00
  · extract_lets -merge -useContext x2
    exact { h00 with timers := (Map.wf_put _ _ h00.timers) }

theorem wordLost_kept {d0 : Device} {a0} {a1} {a2} (h00 : Kept d0 a0)
    : Kept d0 (wordLost a0 a1 a2) := by
  unfold wordLost
  split
  · refine Kept.ite ?_ ?_
    · exact h00
    · exact faultSeq_kept h00
  · exact h00
  · exact flowLost_kept h00
  · refine Kept.ite ?_ ?_
    · exact h00
    · exact loseEntry_kept h00
  · split
    · exact losePage_kept h00
    · exact h00
  · exact prefixRemove_kept h00
  · exact laneFault_kept h00
  · exact tableAgain_kept h00
  · refine Kept.ite ?_ ?_
    · exact h00
    · refine Kept.foldl (fun d1 x1 h1 => ?_) ?_
      · exact rearm_kept h1
      · exact h00
  · exact commandFailed_kept h00
  · exact Device_modClient_kept h00
  · exact h00
  · extract_lets -merge -useContext x2 d3
    have h3 : Kept d0 d3 := traceDrop_kept h00
    clear_value d3
    refine Device_modTrace_kept ?_ ?_
    · exact h3
    · exact fun t ht => length_ring_filter _ _ ht
  · refine Device_modClk_kept ?_ ?_
    · exact h00
    · exact fun c hc => { hc with ready := fun h => nomatch h }
  · exact h00

theorem noteLost_kept {d0 : Device} {a0} {a1} {a2} (h00 : Kept d0 a0)
    : Kept d0 (noteLost a0 a1 a2) := by
  unfold noteLost
  split
  · exact h00
  · exact noteBadWord_kept h00

theorem eccUe_kept {d0 : Device} {a0} {a1} {a2} {a3} (h00 : Kept d0 a0)
    : Kept d0 (eccUe a0 a1 a2 a3) := by
  unfold eccUe
  exact alertLog_kept (bump_kept h00)

theorem scrub_kept {d0 : Device} {a0} {a1} {a2} {a3} (h00 : Kept d0 a0)
    : Kept d0 (scrub a0 a1 a2 a3) := by
  unfold scrub
  split
  · exact h00
  · exact corrected_kept h00
  · extract_lets -merge -useContext x1
    exact wordLost_kept (noteLost_kept (eccUe_kept h00))

theorem diagRead_kept {d0 : Device} {a0} {a1} {a2} (h00 : Kept d0 a0)
    : Kept d0 (diagRead a0 a1 a2) := by
  unfold diagRead
  split
  · extract_lets -merge -useContext x1
    refine Kept.ite ?_ ?_
    · exact scrub_kept h00
    · exact h00
  · exact h00

theorem repairRows_kept {d0 : Device} {a0} {a1} (h00 : Kept d0 a0) : KeptO d0 (repairRows a0 a1) := by
  unfold repairRows
  extract_lets -merge -useContext x1
  refine KeptO.ite ?_ ?_
  · exact KeptO.none
  · refine KeptO.some ?_
    refine Device_modClk_kept ?_ ?_
    · exact h00
    · exact fun c hc => { hc with spareRows := Nat.le_trans (Nat.sub_le _ _) hc.spareRows }

theorem noteAsked_kept {d0 : Device} {a0} {a1} {a2} {a3} (h00 : Kept d0 a0)
    : Kept d0 (noteAsked a0 a1 a2 a3) := by
  unfold noteAsked
  exact Device_modInflight_kept h00

theorem writeFetch_kept {d0 : Device} {a0} {a1} {a2} {a3} {a4} {a5} {a6}
    (h00 : Kept d0 a0) : Kept d0 (writeFetch a0 a1 a2 a3 a4 a5 a6) := by
  unfold writeFetch
  extract_lets -merge -useContext x1
  exact fabiWrite_kept h00

theorem setOutcome_kept {d0 : Device} {a0} {a1} {a2} {a3} {a4} {a5} (h00
    : Kept d0 a0) : Kept d0 (setOutcome a0 a1 a2 a3 a4 a5) := by
  unfold setOutcome
  split
  · exact h00
  · extract_lets -merge -useContext x1 x2 x3
    exact Device_modSeq_kept (bumpBy_kept h00)

theorem releaseNode_kept {d0 : Device} {a0} {a1} {a2} (h00 : Kept d0 a0)
    : Kept d0 (releaseNode a0 a1 a2) := by
  unfold releaseNode
  extract_lets -merge -useContext x1 x2 d3
  have h3 : Kept d0 d3 := { h00 with  }
  clear_value d3
  refine Kept.ite ?_ ?_
  · exact h3
  · exact emit_kept h3

theorem digestFinish_kept {d0 : Device} {a0} {a1} {a2} {a3} {a4} {a5} {a6} {a7}
    (h00 : Kept d0 a0) : Kept d0 (digestFinish a0 a1 a2 a3 a4 a5 a6 a7) := by
  unfold digestFinish
  extract_lets -merge -useContext x1 x2 d3 x4 d5 d6 d7 x8
  have h3 : Kept d0 d3 := countPosition_kept h00
  clear_value d3
  have h5 : Kept d0 d5 := bumpBy_kept h3
  clear_value d5
  have h6 : Kept d0 d6 := by
    refine noteAsked_kept ?_
    refine Kept.ite ?_ ?_
    · exact h5
    · exact writeFetch_kept h5
  clear_value d6
  have h7 : Kept d0 d7 := Device_modSeq_kept h6
  clear_value d7
  exact laneIssue_kept (setOutcome_kept (releaseNode_kept h7))

theorem tableError_kept {d0 : Device} {a0} {a1} (h00 : Kept d0 a0) : Kept d0 (tableError a0 a1) := by
  unfold tableError
  exact tableAgain_kept (eccUe_kept h00)

theorem tableRead_kept {d0 : Device} {a0} {a1} {a2} {a3} {a4} (h00 : Kept d0 a0)
    (h40 : ∀ z0, Kept d0 z0 → Kept d0 (a4 z0)) : Kept d0 (tableRead a0 a1 a2 a3 a4) := by
  unfold tableRead
  refine Kept.ite ?_ ?_
  · exact h00
  · split
    · exact tableError_kept h00
    · refine h40 _ ?_
      · exact h00

theorem setDigest_kept {d0 : Device} {a0} {a1} {a2} (h00 : Kept d0 a0)
    : Kept d0 (setDigest a0 a1 a2) := by
  unfold setDigest
  exact Device_modSeq_kept h00

theorem requestFall_kept {d0 : Device} {a0} {a1} {a2} {a3} {a4} (h00
    : Kept d0 a0) : Kept d0 (requestFall a0 a1 a2 a3 a4) := by
  unfold requestFall
  extract_lets -merge -useContext x1 d2
  have h2 : Kept d0 d2 := bumpBy_kept (bump_kept h00)
  clear_value d2
  exact setDigest_kept (noteAsked_kept (writeFetch_kept h2))

theorem requestRound_kept {d0 : Device} {a0} {a1} {a2} {a3} {a4} (h00
    : Kept d0 a0) : Kept d0 (requestRound a0 a1 a2 a3 a4) := by
  unfold requestRound
  extract_lets -merge -useContext d1
  have h1 : Kept d0 d1 := bumpBy_kept (bump_kept h00)
  clear_value d1
  exact setDigest_kept (noteAsked_kept (writeFetch_kept h1))

theorem digestStep_kept {d0 : Device} {a0} {a1} {a2} {a3} {a4} (h00 : Kept d0 a0)
    : Kept d0 (digestStep a0 a1 a2 a3 a4) := by
  unfold digestStep
  extract_lets -merge -useContext x1 x2 x3 x4 x5 x6 x7 x8 d9 x10 x11 x12 x13
  have h9 : Kept d0 d9 := by
    refine Kept.ite ?_ ?_
    · exact bump_kept h00
    · exact h00
  clear_value d9
  refine Kept.ite ?_ ?_
  · exact digestFinish_kept h9
  · refine Kept.ite ?_ ?_
    · exact requestFall_kept h9
    · refine Kept.ite ?_ ?_
      · exact digestFinish_kept h9
      · refine Kept.ite ?_ ?_
        · exact requestFall_kept h9
        · exact requestRound_kept h9

theorem digestRounds_kept {d0 : Device} {a0} {a1} {a2} {a3} (h00 : Kept d0 a0)
    : Kept d0 (digestRounds a0 a1 a2 a3) := by
  unfold digestRounds
  split
  · refine Kept.ite ?_ ?_
    · exact digestStep_kept h00
    · exact h00
  · split
    · exact h00
    · extract_lets -merge -useContext x1
      split
      · exact digestStep_kept h00
      · exact requestRound_kept h00

theorem digestRound_kept {d0 : Device} {a0} {a1} {a2} (h00 : Kept d0 a0)
    : Kept d0 (digestRound a0 a1 a2) := by
  unfold digestRound
  split
  · exact h00
  · split
    · exact h00
    · refine Kept.ite ?_ ?_
      · exact h00
      · split
        · exact laneFault_kept h00
        · refine tableRead_kept ?_ ?_
          · exact h00
          · intro y1_0 h1
            exact digestRounds_kept h1

theorem directLoad_kept {d0 : Device} {a0} {a1} (h00 : Kept d0 a0) : KeptP d0 (directLoad a0 a1) := by
  unfold directLoad
  split
  · refine KeptP.mk ?_
    exact h00
  · refine KeptP.ite ?_ ?_
    · extract_lets -merge -useContext x1 d2
      have h2 : Kept d0 d2 := by
        refine Kept.ite ?_ ?_
        · exact Device_modMgmt_kept h00
        · exact h00
      clear_value d2
      refine KeptP.mk ?_
      exact h2
    · refine KeptP.ite ?_ ?_
      · extract_lets -merge -useContext x3 d4
        have h4 : Kept d0 d4 := by
          refine Kept.ite ?_ ?_
          · exact Device_modMgmt_kept h00
          · exact h00
        clear_value d4
        refine KeptP.mk ?_
        exact h4
      · refine KeptP.mk ?_
        exact h00

theorem directRead_kept {d0 : Device} {a0} {a1} (h00 : Kept d0 a0) : Kept d0 (directRead a0 a1) := by
  unfold directRead
  split
  · extract_lets -merge -useContext d1
    have h1 : KeptP d0 d1 := directLoad_kept h00
    clear_value d1
    exact emit_kept h1
  · exact h00

theorem settleBorrowed_kept {d0 : Device} {a0} {a1} (h00 : Kept d0 a0)
    (h10 : Kept d0 a1) : Kept d0 (settleBorrowed a0 a1) := by
  unfold settleBorrowed
  refine Kept.foldl (fun d1 x1 h1 => ?_) ?_
  · extract_lets -merge -useContext x2 x3
    refine Kept.ite ?_ ?_
    · exact h1
    · refine Kept.ite ?_ ?_
      · exact sendXfer_kept h1
      · refine Kept.ite ?_ ?_
        · exact sendXfer_kept h1
        · exact h1
  · exact h10

theorem numberGated_kept {d0 : Device} {a0} {a1} (h00 : Kept d0 a0) : Kept d0 (numberGated a0 a1) := by
  unfold numberGated
  extract_lets -merge -useContext x1 x2 d3
  have h3 : Kept d0 d3 := Device_modFaults_kept h00
  clear_value d3
  refine Kept.ite ?_ ?_
  · exact h3
  · exact shipGated_kept h3

theorem settleSlot_kept {d0 : Device} {a0} {a1} {a2} (h00 : Kept d0 a0)
    (h10 : Kept d0 a1) : Kept d0 (settleSlot a0 a1 a2) := by
  unfold settleSlot
  extract_lets -merge -useContext x1 x2 d3
  have h3 : Kept d0 d3 := by
    refine Kept.ite ?_ ?_
    · exact h10
    · exact modDelta_kept h10
  clear_value d3
  exact shipAcks_kept (sendDelta_kept (numberGated_kept h3))

theorem settleParity_kept {d0 : Device} {a0} {a1} (h00 : Kept d0 a0)
    (h10 : Kept d0 a1) : Kept d0 (settleParity a0 a1) := by
  unfold settleParity
  refine Kept.ite ?_ ?_
  · exact h10
  · refine Kept.foldl (fun d1 x1 h1 => ?_) ?_
    · refine settleSlot_kept ?_ ?_
      · exact h00
      · exact h1
    · exact h10

theorem dropStrays_kept {d0 : Device} {a0} (h00 : Kept d0 a0) : Kept d0 (dropStrays a0) := by
  unfold dropStrays
  refine Kept.foldl (fun d1 x1 h1 => ?_) ?_
  · exact dropNamed_kept h1
  · exact h00

theorem settle_kept {d0 : Device} {a0} {a1} (h00 : Kept d0 a0) (h10 : Kept d0 a1)
    : Kept d0 (settle a0 a1) := by
  unfold settle
  refine Kept.ite ?_ ?_
  · exact h10
  · refine settleBorrowed_kept ?_ ?_
    · exact h00
    · refine settleMirror_kept ?_ ?_
      · exact h00
      · refine settleParity_kept ?_ ?_
        · exact h00
        · exact wakePages_kept (bringWaiting_kept (dropStrays_kept h10))

theorem KeptR.done {s : State} {d0 d : Device} (h : Kept d0 s.dev) (hd
    : Kept d0 d) :
    KeptR s.pending d0 (Sys2Proof.Machine.done s d) := KeptR.next (settle_kept h hd)

theorem endPost_kept {d0 : Device} {a0} {a1} (h00 : Kept d0 a0) : Kept d0 (endPost a0 a1) := by
  unfold endPost
  exact discardDraft_kept (modSpec_kept h00)

theorem stageDraft_kept {d0 : Device} {a0} {a1} {a2} {a3} (h00 : Kept d0 a0)
    : Kept d0 (stageDraft a0 a1 a2 a3) := by
  unfold stageDraft
  extract_lets -merge -useContext x1 x2 x3 x4 d5
  have h5 : Kept d0 d5 := modSpec_kept h00
  clear_value d5
  refine Kept.ite ?_ ?_
  · exact setIfHolds_kept h5
  · exact endPost_kept h00

theorem draftRead_kept {d0 : Device} {a0} {a1} {a2} {a3} (h00 : Kept d0 a0)
    : Kept d0 (draftRead a0 a1 a2 a3) := by
  unfold draftRead
  split
  · exact discardDraft_kept h00
  · refine Kept.ite ?_ ?_
    · exact discardDraft_kept h00
    · refine Kept.ite ?_ ?_
      · refine Kept.ite ?_ ?_
        · exact fabiRead_kept (modSpec_kept h00)
        · exact endPost_kept h00
      · refine Kept.ite ?_ ?_
        · exact stageDraft_kept h00
        · exact endPost_kept h00

theorem dstError_kept {d0 : Device} {a0} {a1} (h00 : Kept d0 a0) : Kept d0 (dstError a0 a1) := by
  unfold dstError
  refine Kept.ite ?_ ?_
  · exact h00
  · refine Kept.ite ?_ ?_
    · split
      · exact Device_modTile_kept h00
      · refine Device_modCtx_kept ?_ ?_
        · exact h00
        · exact fun c hc => { hc with  }
      · refine Device_modCtx_kept ?_ ?_
        · exact h00
        · exact fun c hc => { hc with  }
    · refine Device_modCtx_kept ?_ ?_
      · exact h00
      · exact fun c hc => { hc with  }

theorem endRetry_kept {d0 : Device} {a0} {a1} (h00 : Kept d0 a0) : Kept d0 (endRetry a0 a1) := by
  unfold endRetry
  split
  · exact h00
  · extract_lets -merge -useContext x1 x2
    refine Kept.ite ?_ ?_
    · exact h00
    · exact shipCompl_kept (Device_modSeq_kept h00)

theorem endStripe_kept {d0 : Device} {a0} {a1} {a2} (h00 : Kept d0 a0)
    : Kept d0 (endStripe a0 a1 a2) := by
  unfold endStripe
  extract_lets -merge -useContext x1 d2
  have h2 : Kept d0 d2 := Device_modFaults_kept (bump_kept h00)
  clear_value d2
  exact shipCompl_kept h2

theorem endTransfer_kept {d0 : Device} {a0} {a1} (h00 : Kept d0 a0) : Kept d0 (endTransfer a0 a1) := by
  unfold endTransfer
  refine Kept.ite ?_ ?_
  · exact sendXfer_kept h00
  · refine Kept.ite ?_ ?_
    · exact cqEnqueue_kept h00
    · refine Kept.ite ?_ ?_
      · extract_lets -merge -useContext x1
        exact sendXfer_kept (Device_modFaults_kept h00)
      · refine Kept.ite ?_ ?_
        · exact h00
        · refine Kept.ite ?_ ?_
          · exact sendXfer_kept h00
          · exact cqEnqueue_kept (Device_modFaults_kept h00)

theorem endWritten_kept {d0 : Device} {a0} {a1} (h00 : Kept d0 a0) : Kept d0 (endWritten a0 a1) := by
  unfold endWritten
  split
  · exact sendXfer_kept (Device_modFaults_kept h00)
  · split
    · exact h00
    · split
      · exact h00
      · refine Kept.ite ?_ ?_
        · exact h00
        · extract_lets -merge -useContext d1
          have h1 : Kept d0 d1 := wakeSlots_kept (freeSlot_kept h00)
          clear_value d1
          refine Kept.ite ?_ ?_
          · exact h1
          · exact Device_modFaults_kept h1

theorem energyCorr_kept {d0 : Device} {a0} (h00 : Kept d0 a0) : Kept d0 (energyCorr a0) := by
  unfold energyCorr
  refine Kept.ite ?_ ?_
  · exact h00
  · exact { h00 with groups := (Map.wf_map _ (fun _ => by (repeat' split) <;> rfl) h00.groups) }

theorem epochAcked_kept {d0 : Device} {a0} {a1} (h00 : Kept d0 a0) : Kept d0 (epochAcked a0 a1) := by
  unfold epochAcked
  split
  · exact h00
  · refine Kept.ite ?_ ?_
    · exact h00
    · refine Kept.ite ?_ ?_
      · exact cancelPub_kept h00
      · refine Kept.ite ?_ ?_
        · exact h00
        · extract_lets -merge -useContext d1
          have h1 : Kept d0 d1 := modPub_kept h00
          clear_value d1
          split
          · exact advancePub_kept h1
          · exact h1

theorem epochGrace_kept {d0 : Device} {a0} {a1} (h00 : Kept d0 a0) : Kept d0 (epochGrace a0 a1) := by
  unfold epochGrace
  extract_lets -merge -useContext x1
  refine Kept.ite ?_ ?_
  · exact setEpoch_kept h00
  · exact h00

theorem fabiPump_kept {d0 d : Device} (h : Kept d0 d) : Kept d0 (fabiPump d) := by
  unfold fabiPump
  split
  · exact h
  · split
    · exact fabiOut_kept (d := { d with fabi := { d.fabi with waiting := _ } }) { h with fabi := h.fabi } (fabiOpen_lt ‹_›)
    · exact h

theorem fabiPumpAll_kept {d0 d : Device} {n : Nat} (h : Kept d0 d) : Kept d0 (fabiPumpAll n d) := by
  induction n generalizing d with
  | zero => exact h
  | succ n ih => exact ih (fabiPump_kept h)

theorem replaceLane_kept {d0 d : Device} {g : Nat} (h : Kept d0 d) : Kept d0 (replaceLane d g) := by
  unfold replaceLane
  split
  · exact h
  · split
    · exact h
    · exact alertLog_kept { h with lanes := (length_setAt _ _ _).trans h.lanes }

theorem retireLane_kept {d0 : Device} {a0} {a1} {a2} (h00 : Kept d0 a0)
    : Kept d0 (retireLane a0 a1 a2) := by
  unfold retireLane
  exact replaceLane_kept (takeLane_kept h00)

theorem sqTailWrite_kept {d0 : Device} {a0} {a1} {a2} (h00 : Kept d0 a0)
    : Kept d0 (sqTailWrite a0 a1 a2) := by
  unfold sqTailWrite
  refine doorbell_kept ?_ ?_
  · exact h00
  · intro y1_0 h1
    refine Kept.ite ?_ ?_
    · exact sqFetch_kept (Device_modRing_kept h1)
    · exact doorbellErr_kept h1

theorem execSqTail_kept {d0 : Device} {a0} {a1} {a2} (h : Kept d0 a2.dev)
    : KeptR a2.pending d0 (execSqTail a0 a1 a2) := by
  unfold execSqTail
  refine KeptR.next ?_
  exact sqTailWrite_kept h

theorem execCqHead_kept {d0 : Device} {a0} {a1} {a2} (h : Kept d0 a2.dev)
    : KeptR a2.pending d0 (execCqHead a0 a1 a2) := by
  unfold execCqHead
  refine KeptR.next ?_
  exact cqHeadWrite_kept h

theorem mbOverrun_kept {d0 : Device} {a0} (h00 : Kept d0 a0) : Kept d0 (mbOverrun a0) := by
  unfold mbOverrun
  exact Device_modMgmt_kept h00

theorem mbAnswer_kept {d0 : Device} {a0} {a1} {a2} (h00 : Kept d0 a0)
    (h20 : ∀ z0, Kept d0 z0 → KeptP d0 (a2 z0)) : Kept d0 (mbAnswer a0 a1 a2) := by
  unfold mbAnswer
  extract_lets -merge -useContext d1
  have h1 : KeptP d0 d1 := by
    refine h20 _ ?_
    · exact tookTurn_kept h00
  clear_value d1
  exact mbRespond_kept h1

theorem latchRead_kept {d0 : Device} {a0} {a1} {a2} {a3} (h00 : Kept d0 a0)
    : Kept d0 (latchRead a0 a1 a2 a3) := by
  unfold latchRead
  refine Kept.ite ?_ ?_
  · exact acctSnapshot_kept h00
  · refine Kept.ite ?_ ?_
    · exact h00
    · refine Kept.ite ?_ ?_
      · exact cvcSnapshot_kept h00
      · refine Kept.ite ?_ ?_
        · exact { h00 with  }
        · refine Kept.ite ?_ ?_
          · exact { h00 with snaps := (Map.wf_put _ _ h00.snaps) }
          · exact h00

end Sys2Proof.Machine
end

