-- ==== Sys2Proof/Laws/Kept7.lean ====
section
/-! SUPPORT. What each operation keeps (see Sys2Proof/Laws/Kept.lean), in the order in which they call each other: part 7. -/

set_option Elab.async false

namespace Sys2Proof.Machine

theorem readEntry_kept {d0 : Device} {a0} {a1} {a2} {a3} (h00 : Kept d0 a0)
    : KeptP d0 (readEntry a0 a1 a2 a3) := by
  unfold readEntry
  split
  · refine KeptP.mk ?_
    exact h00
  · refine KeptP.ite ?_ ?_
    · refine KeptP.mk ?_
      exact h00
    · refine KeptP.mk ?_
      exact latchRead_kept h00

theorem mbCommit_kept {d0 : Device} {a0} {a1} {a2} (h00 : Kept d0 a0)
    : KeptP d0 (mbCommit a0 a1 a2) := by
  unfold mbCommit
  refine KeptP.ite ?_ ?_
  · refine KeptP.mk ?_
    exact commitEntry_kept h00
  · refine KeptP.mk ?_
    exact h00

theorem infoEntry_kept {d0 : Device} {a0} {a1} {a2} (h00 : Kept d0 a0)
    : KeptP d0 (infoEntry a0 a1 a2) := by
  unfold infoEntry
  split
  · refine KeptP.mk ?_
    exact h00
  · refine KeptP.mk ?_
    exact h00

theorem mbRun_kept {d0 : Device} {a0} (h00 : Kept d0 a0) : Kept d0 (mbRun a0) := by
  unfold mbRun
  refine Kept.ite ?_ ?_
  · exact h00
  · extract_lets -merge -useContext x1 x2 x3 x4 x5
    refine Kept.ite ?_ ?_
    · refine mbAnswer_kept ?_ ?_
      · exact h00
      · intro y6_0 h6
        refine KeptP.mk ?_
        exact h6
    · refine Kept.ite ?_ ?_
      · refine mbAnswer_kept ?_ ?_
        · exact h00
        · intro y7_0 h7
          exact readEntry_kept h7
      · refine Kept.ite ?_ ?_
        · refine performWrite_kept ?_ ?_
          · exact tookTurn_kept h00
          · intro y8_0 y8_1 h8
            exact effectOf_kept h8
        · refine Kept.ite ?_ ?_
          · refine mbAnswer_kept ?_ ?_
            · exact h00
            · intro y9_0 h9
              exact mbCommit_kept h9
          · refine Kept.ite ?_ ?_
            · refine mbAnswer_kept ?_ ?_
              · exact h00
              · intro y10_0 h10
                exact infoEntry_kept h10
            · refine mbAnswer_kept ?_ ?_
              · exact h00
              · intro y11_0 h11
                refine KeptP.mk ?_
                exact h11

theorem mbRegister_kept {d0 : Device} {a0} {a1} {a2} {a3} {a4} (h00 : Kept d0 a0)
    : Kept d0 (mbRegister a0 a1 a2 a3 a4) := by
  unfold mbRegister
  refine Kept.ite ?_ ?_
  · exact emit_kept h00
  · refine Kept.ite ?_ ?_
    · exact mbOverrun_kept h00
    · refine Kept.ite ?_ ?_
      · refine Kept.ite ?_ ?_
        · exact mbRun_kept (mbGo_kept h00)
        · exact h00
      · exact Device_modMgmt_kept h00

theorem fabtRefused_kept {d0 : Device} {a0} {a1} (h00 : Kept d0 a0) : Kept d0 (fabtRefused a0 a1) := by
  unfold fabtRefused
  refine whenPresent_kept ?_ ?_
  · exact h00
  · intro y1_0 h1
    refine Kept.ite ?_ ?_
    · exact portErr_kept h1
    · split
      · exact fabtRefuse_kept h1
      · exact h1

theorem fabtAccess_kept {d0 : Device} {a0} {a1} (h00 : Kept d0 a0) : Kept d0 (fabtAccess a0 a1) := by
  unfold fabtAccess
  refine Kept.ite ?_ ?_
  · refine whenPresent_kept ?_ ?_
    · exact h00
    · intro y1_0 h1
      exact mbRegister_kept h1
  · exact fabtRefused_kept h00

theorem execFabtAccessRefused_kept {d0 : Device} {a0} {a1} (h : Kept d0 a1.dev)
    : KeptR a1.pending d0 (execFabtAccessRefused a0 a1) := by
  unfold execFabtAccessRefused
  refine KeptR.done h ?_
  exact fabtAccess_kept h

theorem fabiDone_kept {d0 d : Device} {id : Nat} (h : Kept d0 d) : Kept d0 (fabiDone d id) :=
  fabiPump_kept (d := { d with fabi := { d.fabi with outstanding := removeFirst (fun r => r.id = id) d.fabi.outstanding } })
    { h with fabi := Nat.le_trans (length_removeFirst_le _ _) h.fabi }

theorem sqRecordArrived_kept {d0 : Device} {a0} {a1} {a2} (h00 : Kept d0 a0)
    : Kept d0 (sqRecordArrived a0 a1 a2) := by
  unfold sqRecordArrived
  split
  · exact h00
  · split
    · exact Device_modRing_kept (fabiDone_kept h00)
    · exact fabiDone_kept h00
    · exact h00

theorem execSqRecordRead_kept {d0 : Device} {a0} {a1} {a2} (h : Kept d0 a2.dev)
    : KeptR a2.pending d0 (execSqRecordRead a0 a1 a2) := by
  unfold execSqRecordRead
  refine KeptR.next ?_
  refine whenReady_kept ?_ ?_
  · exact h
  · intro y1_0 h1
    exact sqRecordArrived_kept h1

theorem flushBehind_kept {d0 : Device} {a0} {a1} (h00 : Kept d0 a0) : Kept d0 (flushBehind a0 a1) := by
  unfold flushBehind
  split
  · exact h00
  · refine Kept.ite ?_ ?_
    · refine Kept.foldl (fun d1 x1 h1 => ?_) ?_
      · exact gateOut_kept h1
      · exact Device_modSeq_kept h00
    · exact h00

theorem logReturned_kept {d0 : Device} {a0} {a1} (h00 : Kept d0 a0) : Kept d0 (logReturned a0 a1) := by
  unfold logReturned
  exact flushBehind_kept (Device_modSeq_kept h00)

theorem exportReturned_kept {d0 : Device} {a0} (h00 : Kept d0 a0) : Kept d0 (exportReturned a0) := by
  unfold exportReturned
  extract_lets -merge -useContext x1 d2 x3
  have h2 : Kept d0 d2 := advanceHead_kept h00
  clear_value d2
  refine Kept.ite ?_ ?_
  · exact raiseVector_kept h2
  · exact h2

theorem mirrorAcked_kept {d0 d : Device} {i : Nat} (h : Kept d0 d) : Kept d0 (mirrorAcked d i) :=
  Device_modCtx_kept h (fun c hc => { hc with
    mirrorOut := by
      show Map.wf (match Map.getD c.mirrorOut i [] with | _ :: w :: l => _ | _ => _) = true
      split
      · exact Map.wf_put _ _ hc.mirrorOut
      · exact Map.wf_del _ hc.mirrorOut })

theorem resultWritten_kept {d0 : Device} {a0} {a1} (h00 : Kept d0 a0)
    : Kept d0 (resultWritten a0 a1) := by
  unfold resultWritten
  exact tryEnd_kept (Device_modSeq_kept h00)

theorem packWritten_kept {d0 : Device} {a0} {a1} (h00 : Kept d0 a0) : Kept d0 (packWritten a0 a1) := by
  unfold packWritten
  split
  · exact h00
  · split
    · exact sendXfer_kept (modPlan_kept h00)
    · exact finishSeq_kept (modPlan_kept h00)
    · exact h00

theorem saveReturned_kept {d0 : Device} {a0} {a1} {a2} (h00 : Kept d0 a0)
    : Kept d0 (saveReturned a0 a1 a2) := by
  unfold saveReturned
  split
  · exact h00
  · split
    · exact h00
    · extract_lets -merge -useContext d1
      have h1 : Kept d0 d1 := Device_modSeq_kept h00
      clear_value d1
      refine Kept.ite ?_ ?_
      · exact saveEnd_kept h1
      · exact saveProgress_kept h1

theorem sealAnswered_kept {d0 : Device} {a0} {a1} (h00 : Kept d0 a0)
    : Kept d0 (sealAnswered a0 a1) := by
  unfold sealAnswered
  refine Kept.ite ?_ ?_
  · exact h00
  · refine Kept.ite ?_ ?_
    · exact mbRespond_kept (odSet_kept h00)
    · exact mbRespond_kept h00

theorem shipHeld_kept {d0 : Device} {a0} {a1} (h00 : Kept d0 a0) : Kept d0 (shipHeld a0 a1) := by
  unfold shipHeld
  split
  · exact h00
  · split
    · exact carryCompl_kept (Device_modFaults_kept h00)
    · exact h00

theorem wroteKind_kept {d0 : Device} {a0} {a1} (h00 : Kept d0 a0) : Kept d0 (wroteKind a0 a1) := by
  unfold wroteKind
  split
  · exact cqWritten_kept h00
  · exact logReturned_kept h00
  · exact logReturned_kept h00
  · exact exportReturned_kept h00
  · exact wakePages_kept (mirrorAcked_kept h00)
  · exact pagesArrived_kept (modBlk_kept h00)
  · exact modPlan_kept h00
  · exact modPlan_kept h00
  · exact resultBodyWritten_kept h00
  · exact resultWritten_kept h00
  · exact packWritten_kept h00
  · exact saveReturned_kept h00
  · exact saveReturned_kept h00
  · exact sealAnswered_kept h00
  · exact answerAsks_kept (shipHeld_kept h00)
  · exact h00

theorem fabiWritten_kept {d0 : Device} {a0} {a1} (h00 : Kept d0 a0) : Kept d0 (fabiWritten a0 a1) := by
  unfold fabiWritten
  split
  · exact h00
  · refine Kept.ite ?_ ?_
    · exact wroteKind_kept (fabiDone_kept h00)
    · exact h00

theorem execFabiWriteResponse_kept {d0 : Device} {a0} {a1} (h : Kept d0 a1.dev)
    : KeptR a1.pending d0 (execFabiWriteResponse a0 a1) := by
  unfold execFabiWriteResponse
  refine KeptR.done h ?_
  refine whenPresent_kept ?_ ?_
  · exact h
  · intro y1_0 h1
    exact fabiWritten_kept h1

theorem fabiAgain_kept {d0 d : Device} {id : Nat} (h : Kept d0 d) : Kept d0 (fabiAgain d id) :=
  { h with fabi := Nat.le_trans (Nat.le_of_eq (length_modFirst _ _ _)) h.fabi }

theorem outputLost_kept {d0 : Device} {a0} {a1} (h00 : Kept d0 a0) : Kept d0 (outputLost a0 a1) := by
  unfold outputLost
  split
  · exact h00
  · refine Kept.ite ?_ ?_
    · exact tryEnd_kept (modTcb_kept h00)
    · exact faultSeq_kept h00

theorem logFailed_kept {d0 : Device} {a0} {a1} {a2} (h00 : Kept d0 a0)
    : Kept d0 (logFailed a0 a1 a2) := by
  unfold logFailed
  extract_lets -merge -useContext d1
  have h1 : Kept d0 d1 := Device_modSeq_kept h00
  clear_value d1
  exact flushBehind_kept (outputLost_kept h1)

theorem exportFailed_kept {d0 : Device} {a0} {a1} (h00 : Kept d0 a0)
    : Kept d0 (exportFailed a0 a1) := by
  unfold exportFailed
  refine exportReturned_kept ?_
  refine traceDrop_kept ?_
  refine Device_modTrace_kept ?_ ?_
  · exact h00
  · exact fun _ ht => ht

theorem probesRead_kept {d0 : Device} {a0} {a1} {a2} (h00 : Kept d0 a0)
    : Kept d0 (probesRead a0 a1 a2) := by
  unfold probesRead
  split
  · exact h00
  · extract_lets -merge -useContext x1 x2 x3 x4 x5 x6 d7
    have h7 : KeptP d0 d7 := askCandidates_kept (modDec_kept h00)
    clear_value d7
    refine Kept.ite ?_ ?_
    · show KeptP d0 _
      exact beginSix_kept h7
    · exact h7

theorem finishJoin_kept {d0 : Device} {a0} {a1} (h00 : Kept d0 a0) : Kept d0 (finishJoin a0 a1) := by
  unfold finishJoin
  extract_lets -merge -useContext d1
  have h1 : Kept d0 d1 := ackHandOver_kept h00
  clear_value d1
  exact startHolds_kept (makeResident_kept h1)

theorem takePrefix_kept {d0 : Device} {a0} {a1} {a2} {a3} {a4} (h00 : Kept d0 a0)
    : KeptP d0 (takePrefix a0 a1 a2 a3 a4) := by
  unfold takePrefix
  split
  · refine KeptP.mk ?_
    exact h00
  · extract_lets -merge -useContext x1 x2
    split
    · refine KeptP.mk ?_
      exact h00
    · split
      · refine KeptP.mk ?_
        exact h00
      · extract_lets -merge -useContext d3 d4 d5
        have h3 : Kept d0 d3 := prefixAge_kept h00
        clear_value d3
        have h4 : Kept d0 d4 := modDir1_kept h3
        clear_value d4
        have h5 : Kept d0 d5 := modBlk_kept h4
        clear_value d5
        refine KeptP.ite ?_ ?_
        · refine KeptP.mk ?_
          exact bump_kept h3
        · refine KeptP.ite ?_ ?_
          · refine KeptP.mk ?_
            exact h3
          · refine KeptP.mk ?_
            exact writePtab_kept (bump_kept h5)

theorem takePrefixes_kept {d0 d : Device} {s p n k prev : Nat} {toks : List Nat} (h
    : Kept d0 d) :
    Kept d0 (takePrefixes d s p n k prev toks) := by
  induction n generalizing d k prev toks with
  | zero => exact h
  | succ n ih =>
    have h1 : Kept d0 (takePrefix d s k prev (toks.take p)).1 := takePrefix_kept h
    unfold takePrefixes
    refine Kept.ite h ?_
    dsimp only
    split
    · exact ih h1
    · exact h1

theorem prefixRead_kept {d0 : Device} {a0} {a1} {a2} (h00 : Kept d0 a0)
    : Kept d0 (prefixRead a0 a1 a2) := by
  unfold prefixRead
  split
  · exact h00
  · split
    · exact h00
    · exact finishJoin_kept (takePrefixes_kept h00)

theorem hashEnds_kept {d0 : Device} {a0} {a1} (h00 : Kept d0 a0) : Kept d0 (hashEnds a0 a1) := by
  unfold hashEnds
  exact modBlk_kept h00

theorem resultFailed_kept {d0 : Device} {a0} {a1} (h00 : Kept d0 a0)
    : Kept d0 (resultFailed a0 a1) := by
  unfold resultFailed
  exact outputLost_kept (modPlan_kept h00)

theorem failedKind_kept {d0 : Device} {a0} {a1} (h00 : Kept d0 a0) : Kept d0 (failedKind a0 a1) := by
  unfold failedKind
  split
  · exact Device_modRing_kept h00
  · exact Device_modRing_kept h00
  · exact logFailed_kept h00
  · exact logFailed_kept h00
  · exact exportFailed_kept h00
  · exact addBack_kept h00
  · exact refuseDecision_kept h00
  · exact refuseDecision_kept h00
  · exact probesRead_kept h00
  · split
    · exact refusePub_kept h00
    · exact h00
  · exact prefixRead_kept h00
  · exact hashEnds_kept h00
  · exact endPost_kept h00
  · exact faultSeq_kept h00
  · exact faultSeq_kept h00
  · exact saveReturned_kept h00
  · exact saveReturned_kept h00
  · exact saveReturned_kept h00
  · exact sealAnswered_kept h00
  · exact faultSeq_kept h00
  · exact faultSeq_kept h00
  · exact faultSeq_kept h00
  · exact faultSeq_kept h00
  · exact faultSeq_kept h00
  · exact faultSeq_kept h00
  · exact faultSeq_kept h00
  · exact faultSeq_kept h00
  · exact faultSeq_kept h00
  · exact faultSeq_kept h00
  · exact faultSeq_kept h00
  · exact faultSeq_kept h00
  · exact resultFailed_kept h00
  · exact resultFailed_kept h00
  · extract_lets -merge -useContext x1
    split
    · refine Kept.ite ?_ ?_
      · exact h00
      · exact Device_modFaults_kept h00
    · exact h00
  · exact h00
  · exact h00
  · exact h00

theorem fabiError_kept {d0 : Device} {a0} {a1} (h00 : Kept d0 a0) : Kept d0 (fabiError a0 a1) := by
  unfold fabiError
  split
  · exact h00
  · extract_lets -merge -useContext x1 x2 d3
    have h3 : Kept d0 d3 := alertLog_kept (portErr_kept h00)
    clear_value d3
    refine Kept.ite ?_ ?_
    · exact fabiAgain_kept h3
    · exact failedKind_kept (fabiDone_kept h3)

theorem execFabiErrorResponse_kept {d0 : Device} {a0} {a1} (h : Kept d0 a1.dev)
    : KeptR a1.pending d0 (execFabiErrorResponse a0 a1) := by
  unfold execFabiErrorResponse
  refine KeptR.done h ?_
  refine whenPresent_kept ?_ ?_
  · exact h
  · intro y1_0 h1
    exact fabiError_kept h1

theorem execSubmit_kept {d0 : Device} {a0} {a1} (h : Kept d0 a1.dev)
    : KeptR a1.pending d0 (execSubmit a0 a1) := by
  unfold execSubmit
  refine KeptR.next ?_
  refine consume_kept ?_ ?_
  · exact h
  · intro y1_0 y1_1 h1
    exact actSubmit_kept h1

theorem execCont_kept {d0 : Device} {a0} {a1} (h : Kept d0 a1.dev) : KeptR a1.pending d0 (execCont a0 a1) := by
  unfold execCont
  refine KeptR.next ?_
  refine consume_kept ?_ ?_
  · exact h
  · intro y1_0 y1_1 h1
    exact actContinue_kept h1

theorem execAbort_kept {d0 : Device} {a0} {a1} (h : Kept d0 a1.dev) : KeptR a1.pending d0 (execAbort a0 a1) := by
  unfold execAbort
  refine KeptR.next ?_
  refine consume_kept ?_ ?_
  · exact h
  · intro y1_0 y1_1 h1
    exact actAbort_kept h1

theorem execAbortClient_kept {d0 : Device} {a0} {a1} (h : Kept d0 a1.dev)
    : KeptR a1.pending d0 (execAbortClient a0 a1) := by
  unfold execAbortClient
  refine KeptR.next ?_
  refine consume_kept ?_ ?_
  · exact h
  · intro y1_0 y1_1 h1
    exact actAbortClient_kept h1

theorem execPause_kept {d0 : Device} {a0} {a1} (h : Kept d0 a1.dev) : KeptR a1.pending d0 (execPause a0 a1) := by
  unfold execPause
  refine KeptR.next ?_
  refine consume_kept ?_ ?_
  · exact h
  · intro y1_0 y1_1 h1
    exact actPause_kept h1

theorem execResume_kept {d0 : Device} {a0} {a1} (h : Kept d0 a1.dev)
    : KeptR a1.pending d0 (execResume a0 a1) := by
  unfold execResume
  refine KeptR.next ?_
  refine consume_kept ?_ ?_
  · exact h
  · intro y1_0 y1_1 h1
    exact actResume_kept h1

theorem execSave_kept {d0 : Device} {a0} {a1} (h : Kept d0 a1.dev) : KeptR a1.pending d0 (execSave a0 a1) := by
  unfold execSave
  refine KeptR.next ?_
  refine consume_kept ?_ ?_
  · exact h
  · intro y1_0 y1_1 h1
    exact actSave_kept h1

theorem execRestore_kept {d0 : Device} {a0} {a1} (h : Kept d0 a1.dev)
    : KeptR a1.pending d0 (execRestore a0 a1) := by
  unfold execRestore
  refine KeptR.next ?_
  refine consume_kept ?_ ?_
  · exact h
  · intro y1_0 y1_1 h1
    exact actRestore_kept h1

theorem execEpochPublish_kept {d0 : Device} {a0} {a1} (h : Kept d0 a1.dev)
    : KeptR a1.pending d0 (execEpochPublish a0 a1) := by
  unfold execEpochPublish
  refine KeptR.next ?_
  refine consume_kept ?_ ?_
  · exact h
  · intro y1_0 y1_1 h1
    exact actPublish_kept h1

theorem execSetParam_kept {d0 : Device} {a0} {a1} (h : Kept d0 a1.dev)
    : KeptR a1.pending d0 (execSetParam a0 a1) := by
  unfold execSetParam
  refine KeptR.done h ?_
  refine consume_kept ?_ ?_
  · exact h
  · intro y1_0 y1_1 h1
    exact actSetParam_kept h1

theorem restorePages_kept {d0 d : Device} {s a b n k : Nat} (h : Kept d0 d)
    : Kept d0 (restorePages d s a b n k) := by
  induction n generalizing d k with
  | zero => exact h
  | succ n ih =>
    unfold restorePages
    split
    · exact ih (writePtab_kept (postMove_kept (modBlk_kept (putDir2_kept h))))
    · exact h

theorem handOverRestore_kept {d0 : Device} {a0} {a1} {a2} {a3} (h00 : Kept d0 a0)
    : Kept d0 (handOverRestore a0 a1 a2 a3) := by
  unfold handOverRestore
  extract_lets -merge -useContext d1 x2 d3 d4 d5 d6 d7
  have h1 : Kept d0 d1 := { h00 with  }
  clear_value d1
  have h3 : Kept d0 d3 := Device_putSeq_kept h1
  clear_value d3
  have h4 : Kept d0 d4 := by
    refine Kept.ite ?_ ?_
    · exact bump_kept h3
    · exact h3
  clear_value d4
  have h5 : Kept d0 d5 := writeTurn_kept (armPaused_kept (wantModel_kept (clearRoot_kept h4)))
  clear_value d5
  have h6 : Kept d0 d6 := restorePages_kept h5
  clear_value d6
  have h7 : Kept d0 d7 := by
    unfold d7
    split
    · exact traceMove_kept h6
    · exact h6
  clear_value d7
  exact restoredDone_kept (ackHandOver_kept h7)

theorem handOverSubmit_kept {d0 : Device} {a0} {a1} {a2} (h00 : Kept d0 a0)
    : Kept d0 (handOverSubmit a0 a1 a2) := by
  unfold handOverSubmit
  extract_lets -merge -useContext x1 d2 d3 d4 d5
  have h2 : Kept d0 d2 := Device_putSeq_kept h00
  clear_value d2
  have h3 : Kept d0 d3 := Device_modSeq_kept h2
  clear_value d3
  have h4 : Kept d0 d4 := wantModel_kept (clearRoot_kept h3)
  clear_value d4
  have h5 : Kept d0 d5 := readTail_kept (writeTurn_kept (armDeadline_kept h4))
  clear_value d5
  refine Kept.ite ?_ ?_
  · exact finishJoin_kept h5
  · exact fabiRead_kept h5

theorem handOver_kept {d0 : Device} {a0} {a1} (h00 : Kept d0 a0) : Kept d0 (handOver a0 a1) := by
  unfold handOver
  refine Kept.ite ?_ ?_
  · split
    · split
      · exact handOverRestore_kept h00
      · exact handOverSubmit_kept h00
    · exact h00
  · exact sendXfer_kept h00

theorem execHandOver_kept {d0 : Device} {a0} {a1} (h : Kept d0 a1.dev)
    : KeptR a1.pending d0 (execHandOver a0 a1) := by
  unfold execHandOver
  refine KeptR.done h ?_
  refine whenReady_kept ?_ ?_
  · exact h
  · intro y1_0 h1
    exact handOver_kept h1

theorem packSummary_kept {d0 : Device} {a0} {a1} (h00 : Kept d0 a0) : Kept d0 (packSummary a0 a1) := by
  unfold packSummary
  split
  · exact h00
  · split
    · refine Kept.ite ?_ ?_
      · exact h00
      · exact fabiWrite_kept (modPlan_kept h00)
    · exact h00

theorem spawnAnswered_kept {d0 : Device} {a0} {a1} {a2} (h00 : Kept d0 a0)
    : Kept d0 (spawnAnswered a0 a1 a2) := by
  unfold spawnAnswered
  split
  · extract_lets -merge -useContext d1
    have h1 : Kept d0 d1 := by
      refine Kept.ite ?_ ?_
      · exact h00
      · exact bump_kept h00
    clear_value d1
    exact packSummary_kept (modPlan_kept h1)
  · exact h00

theorem refuseLate_kept {d0 : Device} {a0} {a1} (h00 : Kept d0 a0) : Kept d0 (refuseLate a0 a1) := by
  unfold refuseLate
  exact sendXfer_kept (markPass_kept (Device_modTurn_kept h00))

theorem strike_kept {d0 : Device} {a0} {a1} (h00 : Kept d0 a0) : Kept d0 (strike a0 a1) := by
  unfold strike
  exact modDec_kept h00

theorem handOverAcked_kept {d0 : Device} {a0} {a1} {a2} (h00 : Kept d0 a0)
    : Kept d0 (handOverAcked a0 a1 a2) := by
  unfold handOverAcked
  refine Kept.ite ?_ ?_
  · exact spawnAnswered_kept h00
  · split
    · refine Kept.ite ?_ ?_
      · exact admitted_kept h00
      · exact refuseLate_kept h00
    · exact refuseLate_kept h00
    · exact markPass_kept (decide7_kept (strike_kept h00))
    · exact markPass_kept h00

theorem execHandOverAck_kept {d0 : Device} {a0} {a1} {a2} (h : Kept d0 a2.dev)
    : KeptR a2.pending d0 (execHandOverAck a0 a1 a2) := by
  unfold execHandOverAck
  refine KeptR.done h ?_
  refine whenReady_kept ?_ ?_
  · exact h
  · intro y1_0 h1
    exact handOverAcked_kept h1

theorem suspectSlice_kept {d0 : Device} {a0} {a1} (h00 : Kept d0 a0)
    : Kept d0 (suspectSlice a0 a1) := by
  unfold suspectSlice
  exact alertLog_kept { h00 with  }

theorem suspectOnce_kept {d0 : Device} {a0} {a1} (h00 : Kept d0 a0) : Kept d0 (suspectOnce a0 a1) := by
  unfold suspectOnce
  refine Kept.ite ?_ ?_
  · exact h00
  · exact suspectSlice_kept h00

theorem handOverExpired_kept {d0 : Device} {a0} {a1} (h00 : Kept d0 a0)
    : Kept d0 (handOverExpired a0 a1) := by
  unfold handOverExpired
  split
  · refine Kept.ite ?_ ?_
    · extract_lets -merge -useContext d1
      have h1 : Kept d0 d1 := suspectOnce_kept h00
      clear_value d1
      exact decide7_kept (strike_kept h1)
    · exact h00
  · exact h00

theorem execHandOverTimeout_kept {d0 : Device} {a0} {a1} (h : Kept d0 a1.dev)
    : KeptR a1.pending d0 (execHandOverTimeout a0 a1) := by
  unfold execHandOverTimeout
  refine KeptR.done h ?_
  refine whenReady_kept ?_ ?_
  · exact h
  · intro y1_0 h1
    exact handOverExpired_kept h1

theorem execHostCommandTransfer_kept {d0 : Device} {a0} {a1} (h : Kept d0 a1.dev)
    : KeptR a1.pending d0 (execHostCommandTransfer a0 a1) := by
  unfold execHostCommandTransfer
  refine KeptR.done h ?_
  refine whenReady_kept ?_ ?_
  · exact h
  · intro y1_0 h1
    exact hostCommand_kept h1

theorem fwdRefuse_kept {d0 : Device} {a0} {a1} {a2} {a3} (h00 : Kept d0 a0)
    : Kept d0 (fwdRefuse a0 a1 a2 a3) := by
  unfold fwdRefuse
  exact refuse_kept h00

theorem hostAcked_kept {d0 : Device} {a0} {a1} {a2} {a3} (h00 : Kept d0 a0)
    : Kept d0 (hostAcked a0 a1 a2 a3) := by
  unfold hostAcked
  split
  · exact h00
  · exact Device_modTurn_kept h00
  · extract_lets -merge -useContext d1
    have h1 : Kept d0 d1 := Device_modTurn_kept h00
    clear_value d1
    split
    · exact contAnswered_kept h1
    · exact clientAborted_kept h1
    · split
      · exact fwdAnswer_kept h1
      · exact fwdAnswer_kept h1
      · exact fwdRefuse_kept h1
      · exact h1

theorem execHostCommandAck_kept {d0 : Device} {a0} {a1} {a2} {a3} (h
    : Kept d0 a2.dev) : KeptR a2.pending d0 (execHostCommandAck a0 a1 a2 a3) := by
  unfold execHostCommandAck
  refine KeptR.done h ?_
  refine whenReady_kept ?_ ?_
  · exact h
  · intro y1_0 h1
    exact hostAcked_kept h1

theorem lookupServed_kept {d0 : Device} {a0} {a1} (h00 : Kept d0 a0)
    : KeptP d0 (lookupServed a0 a1) := by
  unfold lookupServed
  exact serveLookup_kept h00

theorem prefixLookup_kept {d0 : Device} {a0} {a1} {a2} (h00 : Kept d0 a0)
    : Kept d0 (prefixLookup a0 a1 a2) := by
  unfold prefixLookup
  extract_lets -merge -useContext d1
  have h1 : KeptP d0 d1 := lookupServed_kept h00
  clear_value d1
  exact sendXfer_kept h1

theorem execPrefixLookup_kept {d0 : Device} {a0} {a1} {a2} (h : Kept d0 a2.dev)
    : KeptR a2.pending d0 (execPrefixLookup a0 a1 a2) := by
  unfold execPrefixLookup
  refine KeptR.done h ?_
  refine whenReady_kept ?_ ?_
  · exact h
  · intro y1_0 h1
    exact prefixLookup_kept h1

theorem lookupsOver_kept {d0 : Device} {a0} {a1} (h00 : Kept d0 a0) : Kept d0 (lookupsOver a0 a1) := by
  unfold lookupsOver
  split
  · refine Kept.ite ?_ ?_
    · exact decide7_kept h00
    · exact h00
  · exact h00

theorem markLookup_kept {d0 : Device} {a0} {a1} {a2} {a3} (h00 : Kept d0 a0)
    : Kept d0 (markLookup a0 a1 a2 a3) := by
  unfold markLookup
  exact modDec_kept h00

theorem lookupAnswered_kept {d0 : Device} {a0} {a1} {a2} {a3} (h00 : Kept d0 a0)
    : Kept d0 (lookupAnswered a0 a1 a2 a3) := by
  unfold lookupAnswered
  extract_lets -merge -useContext x1 d2
  have h2 : Kept d0 d2 := noteAnswer_kept (Device_modTurn_kept h00)
  clear_value d2
  split
  · exact h2
  · refine Kept.ite ?_ ?_
    · exact h2
    · exact lookupsOver_kept (markLookup_kept h2)

theorem execLookupAnswer_kept {d0 : Device} {a0} {a1} {a2} (h : Kept d0 a2.dev)
    : KeptR a2.pending d0 (execLookupAnswer a0 a1 a2) := by
  unfold execLookupAnswer
  refine KeptR.done h ?_
  refine whenReady_kept ?_ ?_
  · exact h
  · intro y1_0 h1
    split
    · refine Kept.ite ?_ ?_
      · exact lookupAnswered_kept h1
      · exact h1
    · exact h1

theorem lookupExpired_kept {d0 : Device} {a0} {a1} (h00 : Kept d0 a0)
    : Kept d0 (lookupExpired a0 a1) := by
  unfold lookupExpired
  split
  · exact h00
  · refine Kept.ite ?_ ?_
    · exact h00
    · exact lookupsOver_kept (markLookup_kept h00)

theorem execLookupTimeout_kept {d0 : Device} {a0} {a1} (h : Kept d0 a1.dev)
    : KeptR a1.pending d0 (execLookupTimeout a0 a1) := by
  unfold execLookupTimeout
  refine KeptR.done h ?_
  refine whenReady_kept ?_ ?_
  · exact h
  · intro y1_0 h1
    exact lookupExpired_kept h1

theorem trimPass_kept {d0 : Device} {a0} (h00 : Kept d0 a0) : Kept d0 (trimPass a0) := by
  unfold trimPass
  extract_lets -merge -useContext x1
  exact Device_modTurn_kept h00

theorem retestDecision_kept {d0 : Device} {a0} {a1} (h00 : Kept d0 a0)
    : Kept d0 (retestDecision a0 a1) := by
  unfold retestDecision
  extract_lets -merge -useContext d1
  have h1 : Kept d0 d1 := modDec_kept h00
  clear_value d1
  split
  · exact queueDecision_kept h1
  · rename_i y2_0 heq2
    have h2 : Kept d0 y2_0 := by
      refine KeptO.of_eq ?_ heq2
      exact testFour_kept h1
    exact testSix_kept h2

theorem queueRetest_kept {d0 : Device} {a0} (h00 : Kept d0 a0) : Kept d0 (queueRetest a0) := by
  unfold queueRetest
  refine Kept.ite ?_ ?_
  · exact h00
  · extract_lets -merge -useContext d1 x2
    have h1 : Kept d0 d1 := trimPass_kept (currentPass_kept h00)
    clear_value d1
    split
    · exact retestDecision_kept (Device_modTurn_kept h1)
    · exact h1

theorem execQueueRetest_kept {d0 : Device} {a0} (h : Kept d0 a0.dev)
    : KeptR a0.pending d0 (execQueueRetest a0) := by
  unfold execQueueRetest
  refine KeptR.done h ?_
  refine whenReady_kept ?_ ?_
  · exact h
  · intro y1_0 h1
    exact queueRetest_kept h1

theorem sweepOne_kept {d0 : Device} {a0} {a1} (h00 : Kept d0 a0) : Kept d0 (sweepOne a0 a1) := by
  unfold sweepOne
  split
  · refine Kept.ite ?_ ?_
    · exact h00
    · exact refuseDecision_kept h00
  · exact h00

theorem queueSweep_kept {d0 : Device} {a0} (h00 : Kept d0 a0) : Kept d0 (queueSweep a0) := by
  unfold queueSweep
  extract_lets -merge -useContext x1 d2
  have h2 : Kept d0 d2 := Device_modTurn_kept h00
  clear_value d2
  refine Kept.ite ?_ ?_
  · exact h00
  · refine Kept.foldl (fun d3 x3 h3 => ?_) ?_
    · exact sweepOne_kept h3
    · exact h2

theorem execQueueSweep_kept {d0 : Device} {a0} (h : Kept d0 a0.dev) : KeptR a0.pending d0 (execQueueSweep a0) := by
  unfold execQueueSweep
  refine KeptR.done h ?_
  refine whenReady_kept ?_ ?_
  · exact h
  · intro y1_0 h1
    exact queueSweep_kept h1

theorem execCompletionTransfer_kept {d0 : Device} {a0} {a1} (h : Kept d0 a1.dev)
    : KeptR a1.pending d0 (execCompletionTransfer a0 a1) := by
  unfold execCompletionTransfer
  refine KeptR.next ?_
  refine whenReady_kept ?_ ?_
  · exact h
  · intro y1_0 h1
    exact complArrived_kept h1

theorem execCompletionWrite_kept {d0 : Device} {a0} {a1} (h : Kept d0 a1.dev)
    : KeptR a1.pending d0 (execCompletionWrite a0 a1) := by
  unfold execCompletionWrite
  refine KeptR.next ?_
  refine whenReady_kept ?_ ?_
  · exact h
  · intro y1_0 h1
    refine Kept.ite ?_ ?_
    · exact cqIssue_kept h1
    · exact h1

theorem execCqStall_kept {d0 : Device} {a0} {a1} (h : Kept d0 a1.dev)
    : KeptR a1.pending d0 (execCqStall a0 a1) := by
  unfold execCqStall
  refine KeptR.next ?_
  refine whenReady_kept ?_ ?_
  · exact h
  · intro y1_0 h1
    refine Kept.ite ?_ ?_
    · exact Device_modRing_kept h1
    · exact h1

theorem execCqIrqTimeout_kept {d0 : Device} {a0} {a1} (h : Kept d0 a1.dev)
    : KeptR a1.pending d0 (execCqIrqTimeout a0 a1) := by
  unfold execCqIrqTimeout
  refine KeptR.next ?_
  refine whenReady_kept ?_ ?_
  · exact h
  · intro y1_0 h1
    refine Kept.ite ?_ ?_
    · exact ringIrq_kept h1
    · exact h1

theorem ringCtrlPath_kept {d0 : Device} {a0} {a1} {a2} {a3} (h00 : Kept d0 a0)
    : Kept d0 (ringCtrlPath a0 a1 a2 a3) := by
  unfold ringCtrlPath
  refine pathWrite_kept ?_ ?_
  · exact h00
  · intro y1_0 y1_1 h1
    exact effRingCtrl_kept h1

theorem execRingEnable_kept {d0 : Device} {a0} {a1} {a2} {a3} (h : Kept d0 a3.dev)
    : KeptR a3.pending d0 (execRingEnable a0 a1 a2 a3) := by
  unfold execRingEnable
  refine KeptR.next ?_
  exact ringCtrlPath_kept h

theorem execRingReset_kept {d0 : Device} {a0} {a1} {a2} {a3} (h : Kept d0 a3.dev)
    : KeptR a3.pending d0 (execRingReset a0 a1 a2 a3) := by
  unfold execRingReset
  refine KeptR.next ?_
  exact ringCtrlPath_kept h

theorem execRingDiscard_kept {d0 : Device} {a0} {a1} {a2} {a3} (h : Kept d0 a3.dev)
    : KeptR a3.pending d0 (execRingDiscard a0 a1 a2 a3) := by
  unfold execRingDiscard
  refine KeptR.next ?_
  exact ringCtrlPath_kept h

theorem execRingClearErr_kept {d0 : Device} {a0} {a1} {a2} {a3} (h : Kept d0 a3.dev)
    : KeptR a3.pending d0 (execRingClearErr a0 a1 a2 a3) := by
  unfold execRingClearErr
  refine KeptR.next ?_
  exact ringCtrlPath_kept h

theorem execSeqQueryHandle_kept {d0 : Device} {a0} {a1} {a2} (h : Kept d0 a2.dev)
    : KeptR a2.pending d0 (execSeqQueryHandle a0 a1 a2) := by
  unfold execSeqQueryHandle
  refine KeptR.next ?_
  refine pathWrite_kept ?_ ?_
  · exact h
  · intro y1_0 y1_1 h1
    exact effSeqQuery_kept h1

theorem execDeadlineExpiry_kept {d0 : Device} {a0} {a1} (h : Kept d0 a1.dev)
    : KeptR a1.pending d0 (execDeadlineExpiry a0 a1) := by
  unfold execDeadlineExpiry
  refine KeptR.done h ?_
  refine whenReady_kept ?_ ?_
  · exact h
  · intro y1_0 h1
    exact deadlineExpiry_kept h1

theorem ttlExpiry_kept {d0 : Device} {a0} {a1} (h00 : Kept d0 a0) : Kept d0 (ttlExpiry a0 a1) := by
  unfold ttlExpiry
  split
  · extract_lets -merge -useContext d1 x2 d3
    have h1 : Kept d0 d1 := setFlag_kept (expireTimer_kept h00)
    clear_value d1
    have h3 : Kept d0 d3 := modTcb_kept (Device_modSeq_kept h1)
    clear_value d3
    refine Kept.ite ?_ ?_
    · exact h1
    · exact wakePages_kept (releaseAll_kept h3)
  · exact h00

theorem execTtlExpiry_kept {d0 : Device} {a0} {a1} (h : Kept d0 a1.dev)
    : KeptR a1.pending d0 (execTtlExpiry a0 a1) := by
  unfold execTtlExpiry
  refine KeptR.done h ?_
  refine whenReady_kept ?_ ?_
  · exact h
  · intro y1_0 h1
    exact ttlExpiry_kept h1

theorem quarantineExpiry_kept {d0 : Device} {a0} {a1} (h00 : Kept d0 a0)
    : Kept d0 (quarantineExpiry a0 a1) := by
  unfold quarantineExpiry
  split
  · extract_lets -merge -useContext d1
    have h1 : Kept d0 d1 := expireTimer_kept h00
    clear_value d1
    exact { h1 with  }
  · exact h00

theorem execQuarantineExpiry_kept {d0 : Device} {a0} {a1} (h : Kept d0 a1.dev)
    : KeptR a1.pending d0 (execQuarantineExpiry a0 a1) := by
  unfold execQuarantineExpiry
  refine KeptR.done h ?_
  refine whenReady_kept ?_ ?_
  · exact h
  · intro y1_0 h1
    exact quarantineExpiry_kept h1

theorem waitExpiry_kept {d0 : Device} {a0} {a1} {a2} (h00 : Kept d0 a0)
    : Kept d0 (waitExpiry a0 a1 a2) := by
  unfold waitExpiry
  split
  · exact setFlag_kept (expireTimer_kept h00)
  · exact h00

theorem execNotBeforeExpiry_kept {d0 : Device} {a0} {a1} (h : Kept d0 a1.dev)
    : KeptR a1.pending d0 (execNotBeforeExpiry a0 a1) := by
  unfold execNotBeforeExpiry
  refine KeptR.done h ?_
  refine whenReady_kept ?_ ?_
  · exact h
  · intro y1_0 h1
    split
    · extract_lets -merge -useContext d2
      have h2 : Kept d0 d2 := waitExpiry_kept h1
      clear_value d2
      refine Kept.ite ?_ ?_
      · exact startWait_kept h2
      · exact h2
    · exact h1

theorem execBackoffExpiry_kept {d0 : Device} {a0} {a1} (h : Kept d0 a1.dev)
    : KeptR a1.pending d0 (execBackoffExpiry a0 a1) := by
  unfold execBackoffExpiry
  refine KeptR.done h ?_
  refine whenReady_kept ?_ ?_
  · exact h
  · intro y1_0 h1
    exact waitExpiry_kept h1

end Sys2Proof.Machine
end

