-- ==== Sys2Proof/Laws/Kept8.lean ====
section
/-! SUPPORT. What each operation keeps (see Sys2Proof/Laws/Kept.lean), in the order in which they call each other: part 8. -/

set_option Elab.async false

namespace Sys2Proof.Machine

theorem idleDemote_kept {d0 : Device} {a0} {a1} (h00 : Kept d0 a0) : Kept d0 (idleDemote a0 a1) := by
  unfold idleDemote
  split
  · extract_lets -merge -useContext d1
    have h1 : Kept d0 d1 := setFlag_kept (expireTimer_kept h00)
    clear_value d1
    refine Kept.ite ?_ ?_
    · exact h1
    · refine Kept.ite ?_ ?_
      · exact modBlk_kept h1
      · exact demoteStage_kept h1
  · exact h00

theorem execIdleDemoteExpiry_kept {d0 : Device} {a0} {a1} (h : Kept d0 a1.dev)
    : KeptR a1.pending d0 (execIdleDemoteExpiry a0 a1) := by
  unfold execIdleDemoteExpiry
  refine KeptR.done h ?_
  refine whenReady_kept ?_ ?_
  · exact h
  · intro y1_0 h1
    exact idleDemote_kept h1

theorem execDemotionStageDeferred_kept {d0 : Device} {a0} {a1} (h : Kept d0 a1.dev)
    : KeptR a1.pending d0 (execDemotionStageDeferred a0 a1) := by
  unfold execDemotionStageDeferred
  refine KeptR.done h ?_
  refine whenReady_kept ?_ ?_
  · exact h
  · intro y1_0 h1
    exact deferredStage_kept h1

theorem slotReclaimLoop_kept {d0 d : Device} {n : Nat} (h : Kept d0 d)
    : Kept d0 (slotReclaimLoop d n) := by
  induction n generalizing d with
  | zero => exact h
  | succ n ih =>
    unfold slotReclaimLoop
    refine Kept.ite h ?_
    split
    · exact ih (endExpired_kept { h with })
    · exact h

theorem execSlotReclaim_kept {d0 : Device} {a0} (h : Kept d0 a0.dev)
    : KeptR a0.pending d0 (execSlotReclaim a0) := by
  unfold execSlotReclaim
  refine KeptR.done h ?_
  refine whenReady_kept ?_ ?_
  · exact h
  · intro y1_0 h1
    exact slotReclaimLoop_kept h1

theorem execEndTransfer_kept {d0 : Device} {a0} {a1} (h : Kept d0 a1.dev)
    : KeptR a1.pending d0 (execEndTransfer a0 a1) := by
  unfold execEndTransfer
  refine KeptR.next ?_
  refine whenReady_kept ?_ ?_
  · exact h
  · intro y1_0 h1
    refine Kept.ite ?_ ?_
    · exact endTransfer_kept h1
    · exact h1

theorem execEndRetry_kept {d0 : Device} {a0} {a1} (h : Kept d0 a1.dev)
    : KeptR a1.pending d0 (execEndRetry a0 a1) := by
  unfold execEndRetry
  refine KeptR.done h ?_
  refine whenReady_kept ?_ ?_
  · exact h
  · intro y1_0 h1
    exact endRetry_kept h1

theorem execEndWrittenReport_kept {d0 : Device} {a0} {a1} (h : Kept d0 a1.dev)
    : KeptR a1.pending d0 (execEndWrittenReport a0 a1) := by
  unfold execEndWrittenReport
  refine KeptR.done h ?_
  refine whenReady_kept ?_ ?_
  · exact h
  · intro y1_0 h1
    exact endWritten_kept h1

theorem release_kept {d0 : Device} {a0} {a1} (h00 : Kept d0 a0) : Kept d0 (release a0 a1) := by
  unfold release
  refine Kept.ite ?_ ?_
  · exact Device_modFaults_kept h00
  · split
    · exact finishSeq_kept (Device_modSeq_kept h00)
    · exact h00

theorem execRelease_kept {d0 : Device} {a0} {a1} (h : Kept d0 a1.dev)
    : KeptR a1.pending d0 (execRelease a0 a1) := by
  unfold execRelease
  refine KeptR.done h ?_
  refine whenReady_kept ?_ ?_
  · exact h
  · intro y1_0 h1
    exact release_kept h1

theorem execAggRoundOpen_kept {d0 : Device} {a0} {a1} (h : Kept d0 a0.dev)
    : KeptR a0.pending d0 (execAggRoundOpen a0 a1) := by
  unfold execAggRoundOpen
  refine KeptR.next ?_
  refine whenReady_kept ?_ ?_
  · exact h
  · intro y1_0 h1
    exact aggRoundOpen_kept h1

theorem execDeltaEntry_kept {d0 : Device} {a0} {a1} {a2} (h : Kept d0 a2.dev)
    : KeptR a2.pending d0 (execDeltaEntry a0 a1 a2) := by
  unfold execDeltaEntry
  refine KeptR.next ?_
  refine whenReady_kept ?_ ?_
  · exact h
  · intro y1_0 h1
    exact deltaEntry_kept h1

theorem execAggRoundClose_kept {d0 : Device} {a0} (h : Kept d0 a0.dev)
    : KeptR a0.pending d0 (execAggRoundClose a0) := by
  unfold execAggRoundClose
  refine KeptR.next ?_
  refine whenReady_kept ?_ ?_
  · exact h
  · intro y1_0 h1
    exact aggRoundClose_kept h1

theorem execAggregateEntry_kept {d0 : Device} {a0} {a1} {a2} (h : Kept d0 a2.dev)
    : KeptR a2.pending d0 (execAggregateEntry a0 a1 a2) := by
  unfold execAggregateEntry
  refine KeptR.next ?_
  refine whenReady_kept ?_ ?_
  · exact h
  · intro y1_0 h1
    exact aggregateEntry_kept h1

theorem execAcctAggLost_kept {d0 : Device} {a0} (h : Kept d0 a0.dev)
    : KeptR a0.pending d0 (execAcctAggLost a0) := by
  unfold execAcctAggLost
  refine KeptR.next ?_
  refine whenReady_kept ?_ ?_
  · exact h
  · intro y1_0 h1
    exact aggLost_kept h1

theorem execAcctReset_kept {d0 : Device} {a0} {a1} {a2} (h : Kept d0 a2.dev)
    : KeptR a2.pending d0 (execAcctReset a0 a1 a2) := by
  unfold execAcctReset
  refine KeptR.next ?_
  refine pathWrite_kept ?_ ?_
  · exact h
  · intro y1_0 y1_1 h1
    exact effAcctReset_kept h1

theorem resetEntry_kept {d0 : Device} {a0} {a1} (h00 : Kept d0 a0) : Kept d0 (resetEntry a0 a1) := by
  unfold resetEntry
  refine Kept.ite ?_ ?_
  · exact h00
  · exact Device_modClient_kept h00

theorem execResetEntry_kept {d0 : Device} {a0} {a1} {a2} (h : Kept d0 a2.dev)
    : KeptR a2.pending d0 (execResetEntry a0 a1 a2) := by
  unfold execResetEntry
  refine KeptR.next ?_
  refine whenReady_kept ?_ ?_
  · exact h
  · intro y1_0 h1
    exact resetEntry_kept h1

theorem stepBuild_kept {d0 : Device} {a0} {a1} (h00 : Kept d0 a0) : Kept d0 (stepBuild a0 a1) := by
  unfold stepBuild
  refine Kept.ite ?_ ?_
  · exact h00
  · extract_lets -merge -useContext d1 d2
    have h1 : Kept d0 d1 := closeBuilding_kept h00
    clear_value d1
    have h2 : Kept d0 d2 := by
      unfold d2
      split
      · refine Kept.ite ?_ ?_
        · exact wantModels_kept (bringMissing_kept h1)
        · exact h1
      · exact h1
    clear_value d2
    split
    · exact buildStep_kept h2
    · exact h2

theorem tellStalled_kept {d0 : Device} {a0} {a1} (h00 : Kept d0 a0) : Kept d0 (tellStalled a0 a1) := by
  unfold tellStalled
  exact { h00 with  }

theorem execStepBuild_kept {d0 : Device} {a0} {a1} {a2} (h : Kept d0 a2.dev)
    : KeptR a2.pending d0 (execStepBuild a0 a1 a2) := by
  unfold execStepBuild
  refine KeptR.done h ?_
  refine whenReady_kept ?_ ?_
  · exact h
  · intro y1_0 h1
    exact stepBuild_kept (tellStalled_kept h1)

theorem execCmdIssue_kept {d0 : Device} {a0} {a1} (h : Kept d0 a1.dev)
    : KeptR a1.pending d0 (execCmdIssue a0 a1) := by
  unfold execCmdIssue
  refine KeptR.done h ?_
  refine whenReady_kept ?_ ?_
  · exact h
  · intro y1_0 h1
    exact cmdIssue_kept h1

theorem execEnergyCorrUpdate_kept {d0 : Device} {a0} (h : Kept d0 a0.dev)
    : KeptR a0.pending d0 (execEnergyCorrUpdate a0) := by
  unfold execEnergyCorrUpdate
  refine KeptR.next ?_
  refine whenReady_kept ?_ ?_
  · exact h
  · intro y1_0 h1
    exact energyCorr_kept h1

theorem rateSample_kept {d0 : Device} {a0} {a1} {a2} {a3} (h00 : Kept d0 a0)
    : Kept d0 (rateSample a0 a1 a2 a3) := by
  unfold rateSample
  refine Kept.ite ?_ ?_
  · exact odSet_kept h00
  · exact h00

theorem switchSample_kept {d0 : Device} {a0} (h00 : Kept d0 a0) : Kept d0 (switchSample a0) := by
  unfold switchSample
  refine Kept.ite ?_ ?_
  · exact h00
  · extract_lets -merge -useContext x1 x2 d3 d4 d5
    have h3 : Kept d0 d3 := rateSample_kept h00
    clear_value d3
    have h4 : Kept d0 d4 := rateSample_kept h3
    clear_value d4
    have h5 : Kept d0 d5 := rateSample_kept h4
    clear_value d5
    refine Device_modCtx_kept ?_ ?_
    · exact h5
    · exact fun c hc => { hc with  }

theorem execSwitchRateSample_kept {d0 : Device} {a0} (h : Kept d0 a0.dev)
    : KeptR a0.pending d0 (execSwitchRateSample a0) := by
  unfold execSwitchRateSample
  refine KeptR.next ?_
  refine whenReady_kept ?_ ?_
  · exact h
  · intro y1_0 h1
    exact switchSample_kept h1

theorem execCompletion_kept {d0 : Device} {a0} {a1} (h : Kept d0 a1.dev)
    : KeptR a1.pending d0 (execCompletion a0 a1) := by
  unfold execCompletion
  refine KeptR.done h ?_
  refine whenReady_kept ?_ ?_
  · exact h
  · intro y1_0 h1
    exact completion_kept h1

theorem killAck_kept {d0 : Device} {a0} {a1} (h00 : Kept d0 a0) : Kept d0 (killAck a0 a1) := by
  unfold killAck
  split
  · exact portErr_kept h00
  · refine Kept.ite ?_ ?_
    · exact portErr_kept h00
    · refine Kept.ite ?_ ?_
      · exact h00
      · extract_lets -merge -useContext d1 d2
        have h1 : Kept d0 d1 := by
          refine Kept.ite ?_ ?_
          · exact returnCredit_kept h00
          · exact h00
        clear_value d1
        have h2 : Kept d0 d2 := by
          refine Kept.ite ?_ ?_
          · exact Device_modTile_kept h1
          · exact h1
        clear_value d2
        exact returned_kept (freeEntry_kept h2)

theorem execKillAck_kept {d0 : Device} {a0} {a1} (h : Kept d0 a1.dev)
    : KeptR a1.pending d0 (execKillAck a0 a1) := by
  unfold execKillAck
  refine KeptR.done h ?_
  refine whenReady_kept ?_ ?_
  · exact h
  · intro y1_0 h1
    exact killAck_kept h1

theorem execCmdTimeout_kept {d0 : Device} {a0} {a1} (h : Kept d0 a1.dev)
    : KeptR a1.pending d0 (execCmdTimeout a0 a1) := by
  unfold execCmdTimeout
  refine KeptR.done h ?_
  refine whenReady_kept ?_ ?_
  · exact h
  · intro y1_0 h1
    exact cmdTimeout_kept h1

theorem killAckTimeout_kept {d0 : Device} {a0} {a1} (h00 : Kept d0 a0)
    : Kept d0 (killAckTimeout a0 a1) := by
  unfold killAckTimeout
  split
  · exact h00
  · refine Kept.ite ?_ ?_
    · extract_lets -merge -useContext d1 d2
      have h1 : Kept d0 d1 := Device_modInflight_kept h00
      clear_value d1
      have h2 : Kept d0 d2 := bump_kept (Device_modTile_kept h1)
      clear_value d2
      exact alertLog_kept h2
    · exact h00

theorem execKillAckTimeout_kept {d0 : Device} {a0} {a1} (h : Kept d0 a1.dev)
    : KeptR a1.pending d0 (execKillAckTimeout a0 a1) := by
  unfold execKillAckTimeout
  refine KeptR.done h ?_
  refine whenReady_kept ?_ ?_
  · exact h
  · intro y1_0 h1
    exact killAckTimeout_kept h1

theorem lgiBeat_kept {d0 : Device} {a0} {a1} {a2} (h00 : Kept d0 a0)
    : Kept d0 (lgiBeat a0 a1 a2) := by
  unfold lgiBeat
  split
  · exact emit_kept (portErr_kept h00)
  · refine Kept.ite ?_ ?_
    · exact emit_kept (portErr_kept h00)
    · refine Kept.ite ?_ ?_
      · exact acceptBeat_kept h00
      · exact commandFailed_kept (emit_kept (portErr_kept h00))

theorem execLgiBeat_kept {d0 : Device} {a0} {a1} {a2} (h : Kept d0 a2.dev)
    : KeptR a2.pending d0 (execLgiBeat a0 a1 a2) := by
  unfold execLgiBeat
  refine KeptR.done h ?_
  refine whenReady_kept ?_ ?_
  · exact h
  · intro y1_0 h1
    exact lgiBeat_kept h1

theorem sampleNode_kept {d0 : Device} {a0} {a1} {a2} {a3} {a4} {a5} (h00
    : Kept d0 a0) : Kept d0 (sampleNode a0 a1 a2 a3 a4 a5) := by
  unfold sampleNode
  extract_lets -merge -useContext x1 x2 x3 x4 d5 x6 d7 d8 x9 x10 x11 d12 d13
  have h5 : Kept d0 d5 := laneIssue_kept (countPosition_kept h00)
  clear_value d5
  have h7 : Kept d0 d7 := bumpBy_kept h5
  clear_value d7
  have h8 : Kept d0 d8 := Device_modSeq_kept h7
  clear_value d8
  have h12 : Kept d0 d12 := by
    refine Kept.ite ?_ ?_
    · exact Device_modSeq_kept (countDist_kept h8)
    · exact h8
  clear_value d12
  have h13 : Kept d0 d13 := releaseNode_kept h12
  clear_value d13
  split
  · refine Kept.ite ?_ ?_
    · exact setOutcome_kept h13
    · exact h13
  · exact h13

theorem samplePosition_kept {d0 : Device} {a0} {a1} {a2} {a3} (h00 : Kept d0 a0)
    : Kept d0 (samplePosition a0 a1 a2 a3) := by
  unfold samplePosition
  split
  · exact h00
  · split
    · exact h00
    · refine Kept.ite ?_ ?_
      · exact h00
      · split
        · exact laneFault_kept h00
        · exact h00
        · refine tableRead_kept ?_ ?_
          · exact h00
          · intro y1_0 h1
            exact sampleNode_kept h1

theorem execSamplePosition_kept {d0 : Device} {a0} {a1} {a2} {a3} (h
    : Kept d0 a3.dev) : KeptR a3.pending d0 (execSamplePosition a0 a1 a2 a3) := by
  unfold execSamplePosition
  refine KeptR.done h ?_
  refine whenReady_kept ?_ ?_
  · exact h
  · intro y1_0 h1
    exact samplePosition_kept h1

theorem execDigestRound_kept {d0 : Device} {a0} {a1} {a2} (h : Kept d0 a1.dev)
    : KeptR a1.pending d0 (execDigestRound a0 a1 a2) := by
  unfold execDigestRound
  refine KeptR.done h ?_
  refine whenReady_kept ?_ ?_
  · exact h
  · intro y1_0 h1
    exact digestRound_kept h1

theorem sequenceCommit_kept {d0 : Device} {a0} {a1} (h00 : Kept d0 a0)
    : Kept d0 (sequenceCommit a0 a1) := by
  unfold sequenceCommit
  split
  · exact h00
  · refine Kept.ite ?_ ?_
    · exact h00
    · split
      · exact commitGen_kept h00
      · exact h00
      · exact commitStage_kept h00

theorem execSequenceCommit_kept {d0 : Device} {a0} {a1} (h : Kept d0 a1.dev)
    : KeptR a1.pending d0 (execSequenceCommit a0 a1) := by
  unfold execSequenceCommit
  refine KeptR.done h ?_
  refine whenReady_kept ?_ ?_
  · exact h
  · intro y1_0 h1
    refine Kept.ite ?_ ?_
    · exact sequenceCommit_kept h1
    · exact h1

theorem execDraftPost_kept {d0 : Device} {a0} {a1} (h : Kept d0 a1.dev)
    : KeptR a1.pending d0 (execDraftPost a0 a1) := by
  unfold execDraftPost
  refine KeptR.done h ?_
  refine whenPresent_kept ?_ ?_
  · exact h
  · intro y1_0 h1
    exact draftPost_kept h1

theorem warmupDone_kept {d0 : Device} {a0} {a1} {a2} (h00 : Kept d0 a0)
    : Kept d0 (warmupDone a0 a1 a2) := by
  unfold warmupDone
  split
  · split
    · refine Kept.ite ?_ ?_
      · exact Device_modGroup_kept h00
      · exact h00
    · exact h00
  · exact h00

theorem execModelWarmupDone_kept {d0 : Device} {a0} {a1} {a2} (h : Kept d0 a2.dev)
    : KeptR a2.pending d0 (execModelWarmupDone a0 a1 a2) := by
  unfold execModelWarmupDone
  refine KeptR.done h ?_
  refine whenReady_kept ?_ ?_
  · exact h
  · intro y1_0 h1
    exact warmupDone_kept h1

theorem execGroupHotMap_kept {d0 : Device} {a0} {a1} {a2} {a3} {a4} (h
    : Kept d0 a4.dev) : KeptR a4.pending d0 (execGroupHotMap a0 a1 a2 a3 a4) := by
  unfold execGroupHotMap
  refine KeptR.done h ?_
  refine pathWrite_kept ?_ ?_
  · exact h
  · intro y1_0 y1_1 h1
    exact effHotMap_kept h1

theorem execGroupCfg_kept {d0 : Device} {a0} {a1} {a2} {a3} (h : Kept d0 a3.dev)
    : KeptR a3.pending d0 (execGroupCfg a0 a1 a2 a3) := by
  unfold execGroupCfg
  refine KeptR.done h ?_
  refine pathWrite_kept ?_ ?_
  · exact h
  · intro y1_0 y1_1 h1
    exact effGroupCfg_kept h1

theorem writtenBack_kept {d0 : Device} {a0} {a1} (h00 : Kept d0 a0) : Kept d0 (writtenBack a0 a1) := by
  unfold writtenBack
  extract_lets -merge -useContext d1 d2 x3 d4
  have h1 : Kept d0 d1 := modDir1_kept h00
  clear_value d1
  have h2 : Kept d0 d2 := grantRoom_kept (unnamePage_kept (dropCopy_kept h1))
  clear_value d2
  have h4 : Kept d0 d4 := spillPage_kept h2
  clear_value d4
  refine Kept.ite ?_ ?_
  · split
    · refine Kept.ite ?_ ?_
      · exact traceMove_kept h4
      · exact h2
    · exact h2
  · exact h1

theorem spilled_kept {d0 : Device} {a0} {a1} (h00 : Kept d0 a0) : Kept d0 (spilled a0 a1) := by
  unfold spilled
  extract_lets -merge -useContext d1 d2
  have h1 : Kept d0 d1 := modDir2_kept h00
  clear_value d1
  have h2 : Kept d0 d2 := modDir1_kept h1
  clear_value d2
  split
  · refine Kept.ite ?_ ?_
    · exact writePtab_kept (setPage_kept (unref_kept h2))
    · exact delDir2_kept h1
  · exact delDir2_kept h1

theorem fillAgain_kept {d0 : Device} {a0} {a1} (h00 : Kept d0 a0) : Kept d0 (fillAgain a0 a1) := by
  unfold fillAgain
  exact bringPage_kept (modDir2_kept (delDir1_kept h00))

theorem filled_kept {d0 : Device} {a0} {a1} (h00 : Kept d0 a0) : Kept d0 (filled a0 a1) := by
  unfold filled
  refine Kept.ite ?_ ?_
  · exact h00
  · split
    · refine Kept.ite ?_ ?_
      · refine Kept.ite ?_ ?_
        · exact fillAgain_kept h00
        · extract_lets -merge -useContext x1 d2
          have h2 : Kept d0 d2 := modDir1_kept h00
          clear_value d2
          exact writePtab_kept (setPage_kept (delDir2_kept h2))
      · exact delDir1_kept h00
    · exact delDir1_kept h00

theorem unshare_kept {d0 : Device} {a0} {a1} {a2} (h00 : Kept d0 a0)
    : Kept d0 (unshare a0 a1 a2) := by
  unfold unshare
  exact delDir1_kept (setPage_kept h00)

theorem sharedAgain_kept {d0 : Device} {a0} {a1} {a2} (h00 : Kept d0 a0)
    : Kept d0 (sharedAgain a0 a1 a2) := by
  unfold sharedAgain
  exact bringPage_kept (unshare_kept h00)

theorem moveDone_kept {d0 : Device} {a0} {a1} (h00 : Kept d0 a0) : Kept d0 (moveDone a0 a1) := by
  unfold moveDone
  split
  · extract_lets -merge -useContext d1
    have h1 : Kept d0 d1 := modDir1_kept h00
    clear_value d1
    split
    · refine Kept.ite ?_ ?_
      · exact h1
      · refine Kept.ite ?_ ?_
        · exact dropCopy_kept h1
        · exact writePtab_kept (setPage_kept h1)
    · exact h1
  · exact writtenBack_kept h00
  · exact spilled_kept h00
  · exact filled_kept h00
  · exact filled_kept h00
  · split
    · refine Kept.ite ?_ ?_
      · exact sharedAgain_kept h00
      · extract_lets -merge -useContext d2
        have h2 : Kept d0 d2 := modDir1_kept h00
        clear_value d2
        exact unref_kept (writePtab_kept (setPage_kept h2))
    · exact h00
  · split
    · exact h00
    · refine Kept.ite ?_ ?_
      · exact loadWritten_kept h00
      · exact Device_modGroup_kept h00
  · exact h00
  · exact modDir2_kept h00

theorem giveUpFill_kept {d0 : Device} {a0} {a1} (h00 : Kept d0 a0) : Kept d0 (giveUpFill a0 a1) := by
  unfold giveUpFill
  refine Kept.ite ?_ ?_
  · exact modDir1_kept h00
  · exact fillAgain_kept h00

theorem KeptOP.map {α β : Type} {d0 : Device} {o : Option α} {f : α → Device × β} (hf : ∀ a, KeptP d0 (f a)) :
    KeptOP d0 (o.map f) := by
  intro x hx
  cases o with
  | none => exact nomatch hx
  | some a => cases hx; exact hf a

theorem newDestination_kept {d0 d : Device} {m : Move} (h : Kept d0 d)
    : KeptOP d0 (newDestination d m) := by
  unfold newDestination
  split
  · exact KeptOP.map (fun _ => modDir1_kept h)
  · exact KeptOP.map (fun _ => modDir1_kept h)
  · exact KeptOP.map (fun _ => modDir1_kept h)
  · exact KeptOP.map (fun _ => modDir1_kept h)
  · exact KeptOP.map (fun _ => modDir1_kept h)
  · exact KeptOP.map (fun _ => modDir2_kept h)
  · exact KeptOP.map (fun _ => modDir2_kept h)
  · exact KeptOP.some h
  · exact KeptOP.some h

theorem homeMoved_kept {d0 : Device} {a0} {a1} (h00 : Kept d0 a0) : Kept d0 (homeMoved a0 a1) := by
  unfold homeMoved
  split
  · exact writePtab_kept h00
  · exact writePtab_kept h00
  · exact h00

theorem moveFailed_kept {d0 : Device} {a0} {a1} {a2} (h00 : Kept d0 a0)
    : Kept d0 (moveFailed a0 a1 a2) := by
  unfold moveFailed
  split
  · extract_lets -merge -useContext d1
    have h1 : Kept d0 d1 := dropCopy_kept h00
    clear_value d1
    refine Kept.ite ?_ ?_
    · exact loseEntry_kept h1
    · exact bringPage_kept h1
  · extract_lets -merge -useContext d2
    have h2 : Kept d0 d2 := modDir1_kept h00
    clear_value d2
    refine Kept.ite ?_ ?_
    · exact loseEntry_kept h2
    · exact writebackPage_kept h2
  · exact modDir1_kept (delDir2_kept h00)
  · extract_lets -merge -useContext x3 d4
    have h4 : Kept d0 d4 := by
      refine Kept.ite ?_ ?_
      · exact losePage_kept h00
      · exact h00
    clear_value d4
    refine Kept.ite ?_ ?_
    · exact giveUpFill_kept h00
    · refine Kept.ite ?_ ?_
      · exact h4
      · exact delDir1_kept h4
  · extract_lets -merge -useContext x5 d6
    have h6 : Kept d0 d6 := by
      refine Kept.ite ?_ ?_
      · exact losePage_kept h00
      · exact h00
    clear_value d6
    refine Kept.ite ?_ ?_
    · exact giveUpFill_kept h00
    · refine Kept.ite ?_ ?_
      · exact h6
      · exact delDir1_kept h6
  · refine Kept.ite ?_ ?_
    · exact loseEntry_kept (unshare_kept h00)
    · exact sharedAgain_kept h00
  · split
    · exact loadFailed_kept h00
    · exact h00
  · exact Device_modSeq_kept h00
  · split
    · rename_i heq
      exact postMove_kept (homeMoved_kept (KeptOP.of_eq (newDestination_kept h00) heq))
    · exact losePage_kept h00

theorem moveError_kept {d0 : Device} {a0} {a1} {a2} (h00 : Kept d0 a0)
    : Kept d0 (moveError a0 a1 a2) := by
  unfold moveError
  extract_lets -merge -useContext d1 d2
  have h1 : Kept d0 d1 := portErr_kept h00
  clear_value d1
  have h2 : Kept d0 d2 := by
    refine Kept.ite ?_ ?_
    · exact dstError_kept h1
    · exact h1
  clear_value d2
  refine Kept.ite ?_ ?_
  · exact moveFailed_kept h2
  · refine Kept.ite ?_ ?_
    · split
      · rename_i y3_0 y3_1 heq3
        have h3 : Kept d0 y3_0 := by
          refine KeptOP.of_eq ?_ heq3
          exact newDestination_kept h2
        exact postMove_kept (homeMoved_kept (bump_kept h3))
      · exact moveFailed_kept h2
    · exact postMove_kept (bump_kept h2)

theorem postWaiting_kept {d0 : Device} {a0} (h00 : Kept d0 a0) : Kept d0 (postWaiting a0) := by
  unfold postWaiting
  split
  · refine Kept.ite ?_ ?_
    · refine postMove_kept ?_
      refine Device_modCtx_kept ?_ ?_
      · exact h00
      · exact fun c hc => { hc with  }
    · exact h00
  · exact h00

theorem pgmStatus_kept {d0 : Device} {a0} {a1} (h00 : Kept d0 a0) : Kept d0 (pgmStatus a0 a1) := by
  unfold pgmStatus
  extract_lets -merge -useContext x1 x2 d3
  have h3 : Kept d0 d3 := by
    refine Device_modCtx_kept ?_ ?_
    · exact h00
    · exact fun c hc => { hc with moves := (Map.wf_del _ hc.moves), descriptors := fun p hp => hc.descriptors p (Map.mem_del hp) }
  clear_value d3
  refine Kept.ite ?_ ?_
  · exact h00
  · split
    · refine Kept.ite ?_ ?_
      · exact h00
      · exact portErr_kept h00
    · extract_lets -merge -useContext d4 d5 d6
      have h4 : Kept d0 d4 := by
        refine Kept.ite ?_ ?_
        · exact moveDone_kept (countMoved_kept h3)
        · exact moveError_kept h3
      clear_value d4
      have h5 : Kept d0 d5 := postWaiting_kept h4
      clear_value d5
      have h6 : Kept d0 d6 := by
        refine Kept.ite ?_ ?_
        · exact clearTile_kept h5
        · exact h5
      clear_value d6
      refine Kept.ite ?_ ?_
      · exact h6
      · exact afterMove_kept (serveFrames_kept h6)

theorem execPgmStatus_kept {d0 : Device} {a0} {a1} (h : Kept d0 a1.dev)
    : KeptR a1.pending d0 (execPgmStatus a0 a1) := by
  unfold execPgmStatus
  refine KeptR.done h ?_
  refine whenReady_kept ?_ ?_
  · exact h
  · intro y1_0 h1
    exact pgmStatus_kept h1

theorem execCtxReclaim_kept {d0 : Device} {a0} (h : Kept d0 a0.dev) : KeptR a0.pending d0 (execCtxReclaim a0) := by
  unfold execCtxReclaim
  refine KeptR.done h ?_
  refine whenReady_kept ?_ ?_
  · exact h
  · intro y1_0 h1
    exact ctxReclaim_kept h1

theorem replayTimeout_kept {d0 : Device} {a0} {a1} (h00 : Kept d0 a0)
    : Kept d0 (replayTimeout a0 a1) := by
  unfold replayTimeout
  split
  · split
    · refine Kept.ite ?_ ?_
      · exact faultSeq_kept h00
      · exact h00
    · exact h00
  · exact h00

theorem execReplayTimeout_kept {d0 : Device} {a0} {a1} (h : Kept d0 a1.dev)
    : KeptR a1.pending d0 (execReplayTimeout a0 a1) := by
  unfold execReplayTimeout
  refine KeptR.done h ?_
  refine whenReady_kept ?_ ?_
  · exact h
  · intro y1_0 h1
    exact replayTimeout_kept h1

theorem mirrorWrite_kept {d0 : Device} {a0} {a1} {a2} {a3} (h00 : Kept d0 a0)
    : Kept d0 (mirrorWrite a0 a1 a2 a3) := by
  unfold mirrorWrite
  refine Kept.ite ?_ ?_
  · refine sendXfer_kept ?_
    refine Device_modCtx_kept ?_ ?_
    · exact h00
    · exact fun c hc => { hc with mirror := (Map.wf_ite (Map.wf_del _ hc.mirror) (Map.wf_put _ _ hc.mirror)) }
  · exact h00

theorem execMirrorWrite_kept {d0 : Device} {a0} {a1} {a2} {a3} (h : Kept d0 a3.dev)
    : KeptR a3.pending d0 (execMirrorWrite a0 a1 a2 a3) := by
  unfold execMirrorWrite
  refine KeptR.next ?_
  refine whenReady_kept ?_ ?_
  · exact h
  · intro y1_0 h1
    exact mirrorWrite_kept h1

theorem mirrorTimeout_kept {d0 : Device} {a0} (h00 : Kept d0 a0) : Kept d0 (mirrorTimeout a0) := by
  unfold mirrorTimeout
  refine Kept.ite ?_ ?_
  · refine suspectOnce_kept ?_
    refine alertLog_kept ?_
    refine Device_modCtx_kept ?_ ?_
    · exact h00
    · exact fun c hc => { hc with mirrorOut := rfl }
  · exact h00

theorem execMirrorTimeout_kept {d0 : Device} {a0} (h : Kept d0 a0.dev)
    : KeptR a0.pending d0 (execMirrorTimeout a0) := by
  unfold execMirrorTimeout
  refine KeptR.next ?_
  refine whenReady_kept ?_ ?_
  · exact h
  · intro y1_0 h1
    exact mirrorTimeout_kept h1

theorem execSelectionClaim_kept {d0 : Device} {a0} {a1} (h : Kept d0 a1.dev)
    : KeptR a1.pending d0 (execSelectionClaim a0 a1) := by
  unfold execSelectionClaim
  refine KeptR.done h ?_
  refine whenReady_kept ?_ ?_
  · exact h
  · intro y1_0 h1
    exact claimSel_kept h1

theorem selectionDelivered_kept {d0 : Device} {a0} {a1} (h00 : Kept d0 a0)
    : Kept d0 (selectionDelivered a0 a1) := by
  unfold selectionDelivered
  split
  · extract_lets -merge -useContext x1 x2 x3
    refine Kept.ite ?_ ?_
    · exact h00
    · refine Kept.ite ?_ ?_
      · exact readLines_kept (modSel_kept h00)
      · refine Kept.ite ?_ ?_
        · exact deliver_kept h00
        · refine Kept.ite ?_ ?_
          · refine Kept.ite ?_ ?_
            · exact deliver_kept h00
            · exact faultSeq_kept h00
          · refine Kept.ite ?_ ?_
            · exact writeStageBlocks_kept (bump_kept (Device_modSeq_kept h00))
            · exact faultSeq_kept h00
  · exact h00

theorem execSelectionDelivered_kept {d0 : Device} {a0} {a1} (h : Kept d0 a1.dev)
    : KeptR a1.pending d0 (execSelectionDelivered a0 a1) := by
  unfold execSelectionDelivered
  refine KeptR.done h ?_
  refine whenReady_kept ?_ ?_
  · exact h
  · intro y1_0 h1
    exact selectionDelivered_kept h1

theorem rnsAccept_kept {d0 : Device} {a0} {a1} (h00 : Kept d0 a0) : Kept d0 (rnsAccept a0 a1) := by
  unfold rnsAccept
  extract_lets -merge -useContext x1 x2 d3 x4 x5
  have h3 : Kept d0 d3 := by
    refine Kept.ite ?_ ?_
    · exact h00
    · exact portErr_kept h00
  clear_value d3
  exact { h3 with  }

theorem rnsRequest_kept {d0 : Device} {a0} {a1} {a2} (h00 : Kept d0 a0)
    : Kept d0 (rnsRequest a0 a1 a2) := by
  unfold rnsRequest
  refine Kept.ite ?_ ?_
  · exact h00
  · extract_lets -merge -useContext d1
    have h1 : Kept d0 d1 := by
      unfold d1
      split
      · refine Kept.ite ?_ ?_
        · exact tableError_kept h00
        · exact h00
      · exact h00
    clear_value d1
    exact rnsAccept_kept h1

theorem execRnsRequest_kept {d0 : Device} {a0} {a1} {a2} (h : Kept d0 a2.dev)
    : KeptR a2.pending d0 (execRnsRequest a0 a1 a2) := by
  unfold execRnsRequest
  refine KeptR.next ?_
  refine whenReady_kept ?_ ?_
  · exact h
  · intro y1_0 h1
    exact rnsRequest_kept h1

theorem execTableKey_kept {d0 : Device} {a0} {a1} {a2} (h : Kept d0 a2.dev)
    : KeptR a2.pending d0 (execTableKey a0 a1 a2) := by
  unfold execTableKey
  refine KeptR.next ?_
  refine pathWrite_kept ?_ ?_
  · exact h
  · intro y1_0 y1_1 h1
    exact effTableKey_kept h1

theorem install_kept {d0 : Device} {a0} {a1} {a2} {a3} {a4} (h00 : Kept d0 a0)
    : Kept d0 (install a0 a1 a2 a3 a4) := by
  unfold install
  extract_lets -merge -useContext x1
  split
  · extract_lets -merge -useContext d2
    have h2 : Kept d0 d2 := setEpoch_kept h00
    clear_value d2
    exact sendXfer_kept h2
  · exact sendXfer_kept h00

theorem execInstall_kept {d0 : Device} {a0} {a1} {a2} {a3} {a4} (h : Kept d0 a4.dev)
    : KeptR a4.pending d0 (execInstall a0 a1 a2 a3 a4) := by
  unfold execInstall
  refine KeptR.next ?_
  refine whenReady_kept ?_ ?_
  · exact h
  · intro y1_0 h1
    exact install_kept h1

theorem installTimeout_kept {d0 : Device} {a0} {a1} (h00 : Kept d0 a0)
    : Kept d0 (installTimeout a0 a1) := by
  unfold installTimeout
  split
  · refine Kept.ite ?_ ?_
    · exact cancelPub_kept h00
    · exact h00
  · exact h00

theorem execInstallTimeout_kept {d0 : Device} {a0} {a1} (h : Kept d0 a1.dev)
    : KeptR a1.pending d0 (execInstallTimeout a0 a1) := by
  unfold execInstallTimeout
  refine KeptR.next ?_
  refine whenReady_kept ?_ ?_
  · exact h
  · intro y1_0 h1
    exact installTimeout_kept h1

theorem execActivate_kept {d0 : Device} {a0} {a1} {a2} {a3} {a4} (h : Kept d0 a4.dev)
    : KeptR a4.pending d0 (execActivate a0 a1 a2 a3 a4) := by
  unfold execActivate
  refine KeptR.next ?_
  refine whenReady_kept ?_ ?_
  · exact h
  · intro y1_0 h1
    exact activate_kept h1

theorem execCancel_kept {d0 : Device} {a0} {a1} {a2} {a3} {a4} (h : Kept d0 a4.dev)
    : KeptR a4.pending d0 (execCancel a0 a1 a2 a3 a4) := by
  unfold execCancel
  refine KeptR.next ?_
  refine whenReady_kept ?_ ?_
  · exact h
  · intro y1_0 h1
    exact cancelEpoch_kept h1

theorem execEpochTransferAck_kept {d0 : Device} {a0} {a1} (h : Kept d0 a1.dev)
    : KeptR a1.pending d0 (execEpochTransferAck a0 a1) := by
  unfold execEpochTransferAck
  refine KeptR.next ?_
  refine whenReady_kept ?_ ?_
  · exact h
  · intro y1_0 h1
    exact epochAcked_kept h1

theorem execEpochGraceExpiry_kept {d0 : Device} {a0} {a1} (h : Kept d0 a1.dev)
    : KeptR a1.pending d0 (execEpochGraceExpiry a0 a1) := by
  unfold execEpochGraceExpiry
  refine KeptR.next ?_
  refine whenReady_kept ?_ ?_
  · exact h
  · intro y1_0 h1
    exact epochGrace_kept h1

theorem spawn_kept {d0 : Device} {a0} {a1} (h00 : Kept d0 a0) : Kept d0 (spawn a0 a1) := by
  unfold spawn
  extract_lets -merge -useContext x1 x2
  refine Kept.ite ?_ ?_
  · exact startDecision_kept (addDecision_kept h00)
  · exact h00

theorem execSpawn_kept {d0 : Device} {a0} {a1} (h : Kept d0 a1.dev) : KeptR a1.pending d0 (execSpawn a0 a1) := by
  unfold execSpawn
  refine KeptR.done h ?_
  refine whenReady_kept ?_ ?_
  · exact h
  · intro y1_0 h1
    exact spawn_kept h1

theorem parityDelta_kept {d0 : Device} {a0} {a1} (h00 : Kept d0 a0) : Kept d0 (parityDelta a0 a1) := by
  unfold parityDelta
  refine Kept.ite ?_ ?_
  · exact h00
  · extract_lets -merge -useContext x1 x2 x3 d4
    have h4 : Kept d0 d4 := by
      refine Kept.ite ?_ ?_
      · exact h00
      · exact Device_modFaults_kept h00
    clear_value d4
    exact sendXfer_kept h4

theorem execParityDelta_kept {d0 : Device} {a0} {a1} (h : Kept d0 a1.dev)
    : KeptR a1.pending d0 (execParityDelta a0 a1) := by
  unfold execParityDelta
  refine KeptR.next ?_
  refine whenReady_kept ?_ ?_
  · exact h
  · intro y1_0 h1
    exact parityDelta_kept h1

theorem parityAck_kept {d0 : Device} {a0} {a1} {a2} {a3} (h00 : Kept d0 a0)
    : Kept d0 (parityAck a0 a1 a2 a3) := by
  unfold parityAck
  refine Kept.ite ?_ ?_
  · split
    · refine Kept.ite ?_ ?_
      · extract_lets -merge -useContext d1
        have h1 : Kept d0 d1 := Device_modFaults_kept h00
        clear_value d1
        exact answerAsks_kept (sendWaiting_kept (shipAcks_kept (sendDelta_kept (shipGated_kept (modDelta_kept h1)))))
      · exact h00
    · exact h00
  · exact Device_modFaults_kept h00

theorem execParityAck_kept {d0 : Device} {a0} {a1} {a2} {a3} (h : Kept d0 a3.dev)
    : KeptR a3.pending d0 (execParityAck a0 a1 a2 a3) := by
  unfold execParityAck
  refine KeptR.next ?_
  refine whenReady_kept ?_ ?_
  · exact h
  · intro y1_0 h1
    exact parityAck_kept h1

theorem sendAgain_kept {d0 : Device} {a0} {a1} (h00 : Kept d0 a0) : Kept d0 (sendAgain a0 a1) := by
  unfold sendAgain
  extract_lets -merge -useContext x1 x2 x3 x4 d6 d7 d8 x9
  have h6 : Kept d0 d6 := { h00 with fabi := by show (a0.fabi.outstanding.map _).length ≤ 512; rw [List.length_map]; exact h00.fabi }
  clear_value d6
  have h7 : Kept d0 d7 := by
    refine Kept.foldl (fun d9 x9 h9 => ?_) ?_
    · split
      · exact sendXfer_kept h9
      · exact h9
    · exact h6
  clear_value d7
  have h8 : Kept d0 d8 := by
    refine Kept.foldl (fun d10 x10 h10 => ?_) ?_
    · exact sendXfer_kept h10
    · exact Device_modFaults_kept h7
  clear_value d8
  refine Kept.foldl (fun d11 x11 h11 => ?_) ?_
  · exact sendXfer_kept (modPub_kept h11)
  · exact h8

theorem resendDelta_kept {d0 : Device} {a0} {a1} (h00 : Kept d0 a0) : Kept d0 (resendDelta a0 a1) := by
  unfold resendDelta
  split
  · exact h00
  · extract_lets -merge -useContext x1
    exact sendXfer_kept (modDelta_kept h00)

theorem sliceSuspect_kept {d0 : Device} {a0} {a1} (h00 : Kept d0 a0)
    : Kept d0 (sliceSuspect a0 a1) := by
  unfold sliceSuspect
  extract_lets -merge -useContext x1 x2 x3 x4 d5 d6 d7 d8 d9
  have h5 : Kept d0 d5 := sendAgain_kept (suspectSlice_kept h00)
  clear_value d5
  have h6 : Kept d0 d6 := by
    refine Kept.foldl (fun d10 x10 h10 => ?_) ?_
    · exact resendDelta_kept h10
    · exact h5
  clear_value d6
  have h7 : Kept d0 d7 := Device_modFaults_kept h6
  clear_value d7
  have h8 : Kept d0 d8 := by
    refine Kept.foldl (fun d11 x11 h11 => ?_) ?_
    · exact sendXfer_kept h11
    · exact h7
  clear_value d8
  have h9 : Kept d0 d9 := Device_modTurn_kept h8
  clear_value d9
  refine Kept.ite ?_ ?_
  · exact h00
  · refine Kept.foldl (fun d12 x12 h12 => ?_) ?_
    · exact sendXfer_kept h12
    · exact h9

theorem execSliceSuspect_kept {d0 : Device} {a0} {a1} (h : Kept d0 a1.dev)
    : KeptR a1.pending d0 (execSliceSuspect a0 a1) := by
  unfold execSliceSuspect
  refine KeptR.next ?_
  refine whenReady_kept ?_ ?_
  · exact h
  · intro y1_0 h1
    exact sliceSuspect_kept h1

theorem execSliceOnline_kept {d0 : Device} {a0} {a1} {a2} (h : Kept d0 a2.dev)
    : KeptR a2.pending d0 (execSliceOnline a0 a1 a2) := by
  unfold execSliceOnline
  refine KeptR.done h ?_
  refine pathWrite_kept ?_ ?_
  · exact h
  · intro y1_0 y1_1 h1
    exact effSliceOnline_kept h1

theorem stripeTwice_kept {d0 : Device} {a0} {a1} {a2} (h00 : Kept d0 a0)
    : Kept d0 (stripeTwice a0 a1 a2) := by
  unfold stripeTwice
  exact rebuildFault_kept h00

theorem removeMember_kept {d0 : Device} {a0} {a1} {a2} {a3} (h00 : Kept d0 a0)
    : Kept d0 (removeMember a0 a1 a2 a3) := by
  unfold removeMember
  extract_lets -merge -useContext x1 x2
  exact sendXfer_kept (Device_modFaults_kept h00)

theorem rebuildStripe_kept {d0 : Device} {a0} {a1} (h00 : Kept d0 a0)
    : Kept d0 (rebuildStripe a0 a1) := by
  unfold rebuildStripe
  refine Kept.ite ?_ ?_
  · exact h00
  · extract_lets -merge -useContext x1 x2 d3 d4
    have h3 : Kept d0 d3 := Device_modFaults_kept h00
    clear_value d3
    have h4 : Kept d0 d4 := removeMember_kept h3
    clear_value d4
    refine Kept.ite ?_ ?_
    · exact stripeTwice_kept h3
    · refine Kept.ite ?_ ?_
      · exact h3
      · split
        · exact adoptStripe_kept h4
        · exact endStripe_kept h4

theorem execRebuildStripe_kept {d0 : Device} {a0} {a1} (h : Kept d0 a1.dev)
    : KeptR a1.pending d0 (execRebuildStripe a0 a1) := by
  unfold execRebuildStripe
  refine KeptR.done h ?_
  refine whenReady_kept ?_ ?_
  · exact h
  · intro y1_0 h1
    exact rebuildStripe_kept h1

theorem execForwardPair_kept {d0 : Device} {a0} {a1} {a2} {a3} {a4} (h
    : Kept d0 a3.dev) : KeptR a3.pending d0 (execForwardPair a0 a1 a2 a3 a4) := by
  unfold execForwardPair
  refine KeptR.done h ?_
  refine whenReady_kept ?_ ?_
  · exact h
  · intro y1_0 h1
    exact forwardPair_kept h1

theorem ownership_kept {d0 : Device} {a0} {a1} {a2} (h00 : Kept d0 a0)
    : Kept d0 (ownership a0 a1 a2) := by
  unfold ownership
  extract_lets -merge -useContext d1 d2 x3 d4
  have h1 : Kept d0 d1 := Device_modRing_kept h00
  clear_value d1
  have h2 : Kept d0 d2 := { h1 with seqs := (Map.wf_map _ (fun _ => rfl) h1.seqs) }
  clear_value d2
  have h4 : Kept d0 d4 := Device_modFaults_kept h2
  clear_value d4
  refine Kept.foldl (fun d5 x5 h5 => ?_) ?_
  · exact shipCompl_kept h5
  · exact h4

theorem execOwnershipAnnouncement_kept {d0 : Device} {a0} {a1} {a2} (h
    : Kept d0 a2.dev) : KeptR a2.pending d0 (execOwnershipAnnouncement a0 a1 a2) := by
  unfold execOwnershipAnnouncement
  refine KeptR.done h ?_
  refine whenReady_kept ?_ ?_
  · exact h
  · intro y1_0 h1
    exact ownership_kept h1

end Sys2Proof.Machine
end

