-- ==== Sys2Proof/Laws/Kept9.lean ====
section
/-! SUPPORT. What each operation keeps (see Sys2Proof/Laws/Kept.lean), in the order in which they call each other: part 9. -/

set_option Elab.async false

namespace Sys2Proof.Machine

theorem frameRequest_kept {d0 : Device} {a0} {a1} (h00 : Kept d0 a0)
    : Kept d0 (frameRequest a0 a1) := by
  unfold frameRequest
  split
  · refine answerAsks_kept ?_
    refine Device_modCtx_kept ?_ ?_
    · exact h00
    · exact fun c hc => { hc with  }
  · refine Device_modCtx_kept ?_ ?_
    · exact h00
    · exact fun c hc => { hc with lent := (Map.wf_ite (Map.wf_del _ hc.lent) (Map.wf_put _ _ hc.lent)) }
  · refine Kept.ite ?_ ?_
    · refine Device_modCtx_kept ?_ ?_
      · exact h00
      · exact fun c hc => { hc with  }
    · exact h00

theorem execFrameRequest_kept {d0 : Device} {a0} {a1} (h : Kept d0 a1.dev)
    : KeptR a1.pending d0 (execFrameRequest a0 a1) := by
  unfold execFrameRequest
  refine KeptR.done h ?_
  refine whenReady_kept ?_ ?_
  · exact h
  · intro y1_0 h1
    exact frameRequest_kept h1

theorem execSliceDrain_kept {d0 : Device} {a0} {a1} {a2} (h : Kept d0 a2.dev)
    : KeptR a2.pending d0 (execSliceDrain a0 a1 a2) := by
  unfold execSliceDrain
  refine KeptR.done h ?_
  refine pathWrite_kept ?_ ?_
  · exact h
  · intro y1_0 y1_1 h1
    exact effSliceDrain_kept h1

theorem sliceQuiesced_kept {d0 : Device} {a0} (h00 : Kept d0 a0) : Kept d0 (sliceQuiesced a0) := by
  unfold sliceQuiesced
  refine Kept.ite ?_ ?_
  · exact h00
  · refine Kept.ite ?_ ?_
    · refine Kept.ite ?_ ?_
      · exact odSet_kept h00
      · exact h00
    · exact writebackAll_kept h00

theorem execSliceQuiesced_kept {d0 : Device} {a0} (h : Kept d0 a0.dev)
    : KeptR a0.pending d0 (execSliceQuiesced a0) := by
  unfold execSliceQuiesced
  refine KeptR.done h ?_
  refine whenReady_kept ?_ ?_
  · exact h
  · intro y1_0 h1
    exact sliceQuiesced_kept h1

theorem execTileOnline_kept {d0 : Device} {a0} {a1} {a2} {a3} (h : Kept d0 a3.dev)
    : KeptR a3.pending d0 (execTileOnline a0 a1 a2 a3) := by
  unfold execTileOnline
  refine KeptR.done h ?_
  refine pathWrite_kept ?_ ?_
  · exact h
  · intro y1_0 y1_1 h1
    exact effTileOnline_kept h1

theorem tileDrainTimeout_kept {d0 : Device} {a0} {a1} (h00 : Kept d0 a0)
    : Kept d0 (tileDrainTimeout a0 a1) := by
  unfold tileDrainTimeout
  split
  · exact h00
  · refine Kept.ite ?_ ?_
    · exact h00
    · exact clearTile_kept (killOffline_kept h00)

theorem execTileDrainTimeout_kept {d0 : Device} {a0} {a1} (h : Kept d0 a1.dev)
    : KeptR a1.pending d0 (execTileDrainTimeout a0 a1) := by
  unfold execTileDrainTimeout
  refine KeptR.done h ?_
  refine whenReady_kept ?_ ?_
  · exact h
  · intro y1_0 h1
    exact tileDrainTimeout_kept h1

theorem execTileLost_kept {d0 : Device} {a0} {a1} {a2} (h : Kept d0 a2.dev)
    : KeptR a2.pending d0 (execTileLost a0 a1 a2) := by
  unfold execTileLost
  refine KeptR.done h ?_
  refine pathWrite_kept ?_ ?_
  · exact h
  · intro y1_0 y1_1 h1
    exact effTileLost_kept h1

theorem execScrub_kept {d0 : Device} {a0} {a1} {a2} {a3} (h : Kept d0 a3.dev)
    : KeptR a3.pending d0 (execScrub a0 a1 a2 a3) := by
  unfold execScrub
  refine KeptR.done h ?_
  refine whenReady_kept ?_ ?_
  · exact h
  · intro y1_0 h1
    exact scrub_kept h1

theorem execEccCeWindow_kept {d0 : Device} {a0} (h : Kept d0 a0.dev)
    : KeptR a0.pending d0 (execEccCeWindow a0) := by
  unfold execEccCeWindow
  refine KeptR.next ?_
  refine whenReady_kept ?_ ?_
  · exact h
  · intro y1_0 h1
    exact ceWindowEnd_kept h1

theorem execLanePatrol_kept {d0 : Device} {a0} {a1} (h : Kept d0 a1.dev)
    : KeptR a1.pending d0 (execLanePatrol a0 a1) := by
  unfold execLanePatrol
  refine KeptR.done h ?_
  refine whenReady_kept ?_ ?_
  · exact h
  · intro y1_0 h1
    refine Kept.foldl (fun d2 x2 h2 => ?_) ?_
    · exact laneFault_kept h2
    · exact h1

theorem laneSubstitution_kept {d0 : Device} {a0} {a1} (h00 : Kept d0 a0)
    : Kept d0 (laneSubstitution a0 a1) := by
  unfold laneSubstitution
  extract_lets -merge -useContext d1
  have h1 : Kept d0 d1 := replaceLane_kept h00
  clear_value d1
  refine Kept.ite ?_ ?_
  · refine Device_modClk_kept ?_ ?_
    · exact h1
    · exact fun c hc => { hc with ready := fun h => nomatch h }
  · exact h1

theorem execLaneSubstitution_kept {d0 : Device} {a0} {a1} (h : Kept d0 a1.dev)
    : KeptR a1.pending d0 (execLaneSubstitution a0 a1) := by
  unfold execLaneSubstitution
  refine KeptR.next ?_
  refine whenReady_kept ?_ ?_
  · exact h
  · intro y1_0 h1
    exact laneSubstitution_kept h1

theorem laneGate_kept {d0 d : Device} {g : Nat} (h : Kept d0 d) : Kept d0 (laneGate d g) :=
  { h with lanes := (length_modAt _ _ _).trans h.lanes }

theorem execLaneGroupGate_kept {d0 : Device} {a0} {a1} (h : Kept d0 a1.dev)
    : KeptR a1.pending d0 (execLaneGroupGate a0 a1) := by
  unfold execLaneGroupGate
  refine KeptR.next ?_
  refine whenReady_kept ?_ ?_
  · exact h
  · intro y1_0 h1
    exact laneGate_kept h1

theorem ungateNext_kept {d0 d : Device} (h : Kept d0 d) : Kept d0 (ungateNext d) := by
  unfold ungateNext
  refine Kept.ite h ?_
  split
  · exact { h with lanes := (length_modAt _ _ _).trans h.lanes }
  · exact h

theorem laneUngate_kept {d0 d : Device} {g : Nat} (h : Kept d0 d) : Kept d0 (laneUngate d g) :=
  ungateNext_kept { h with lanes := (length_modAt _ _ _).trans h.lanes }

theorem execLaneGroupUngate_kept {d0 : Device} {a0} {a1} (h : Kept d0 a1.dev)
    : KeptR a1.pending d0 (execLaneGroupUngate a0 a1) := by
  unfold execLaneGroupUngate
  refine KeptR.next ?_
  refine whenReady_kept ?_ ?_
  · exact h
  · intro y1_0 h1
    exact laneUngate_kept h1

theorem execBudgetRecord_kept {d0 : Device} {a0} {a1} (h : Kept d0 a1.dev)
    : KeptR a1.pending d0 (execBudgetRecord a0 a1) := by
  unfold execBudgetRecord
  refine KeptR.next ?_
  refine whenPresent_kept ?_ ?_
  · exact h
  · intro y1_0 h1
    exact budgetRecord_kept h1

theorem pwrStale_kept {d0 : Device} {a0} (h00 : Kept d0 a0) : Kept d0 (pwrStale a0) := by
  unfold pwrStale
  refine Kept.ite ?_ ?_
  · exact h00
  · exact raiseVector_kept (alertLog_kept (Device_modPower_kept h00))

theorem execPwrStale_kept {d0 : Device} {a0} (h : Kept d0 a0.dev) : KeptR a0.pending d0 (execPwrStale a0) := by
  unfold execPwrStale
  refine KeptR.next ?_
  refine whenPresent_kept ?_ ?_
  · exact h
  · intro y1_0 h1
    exact pwrStale_kept h1

theorem telemetry_kept {d0 : Device} {a0} {a1} {a2} (h00 : Kept d0 a0)
    : Kept d0 (telemetry a0 a1 a2) := by
  unfold telemetry
  refine Kept.ite ?_ ?_
  · exact h00
  · extract_lets -merge -useContext x1 x2 d3 d4
    have h3 : Kept d0 d3 := emit_kept h00
    clear_value d3
    have h4 : Kept d0 d4 := Device_modPower_kept h3
    clear_value d4
    refine Device_modClk_kept ?_ ?_
    · exact h4
    · exact fun c hc => { hc with  }

theorem execTelemetry_kept {d0 : Device} {a0} {a1} {a2} (h : Kept d0 a2.dev)
    : KeptR a2.pending d0 (execTelemetry a0 a1 a2) := by
  unfold execTelemetry
  refine KeptR.next ?_
  refine whenPresent_kept ?_ ?_
  · exact h
  · intro y1_0 h1
    exact telemetry_kept h1

theorem execRootMhz_kept {d0 : Device} {a0} {a1} {a2} (h : Kept d0 a2.dev)
    : KeptR a2.pending d0 (execRootMhz a0 a1 a2) := by
  unfold execRootMhz
  refine KeptR.next ?_
  refine pathWrite_kept ?_ ?_
  · exact h
  · intro y1_0 y1_1 h1
    exact effRootMhz_kept h1

theorem execTickLoad_kept {d0 : Device} {a0} {a1} {a2} (h : Kept d0 a2.dev)
    : KeptR a2.pending d0 (execTickLoad a0 a1 a2) := by
  unfold execTickLoad
  refine KeptR.next ?_
  refine pathWrite_kept ?_ ?_
  · exact h
  · intro y1_0 y1_1 h1
    exact effTickLoad_kept h1

theorem execSealSlice_kept {d0 : Device} {a0} {a1} {a2} (h : Kept d0 a2.dev)
    : KeptR a2.pending d0 (execSealSlice a0 a1 a2) := by
  unfold execSealSlice
  refine KeptR.next ?_
  refine pathWrite_kept ?_ ?_
  · exact h
  · intro y1_0 y1_1 h1
    exact effSeal_kept h1

theorem mbServe_kept {d0 : Device} {a0} {a1} {a2} {a3} {a4} {a5} (h00
    : Kept d0 a0) (h50 : ∀ z0, Kept d0 z0 → KeptP d0 (a5 z0)) : Kept d0 (mbServe a0 a1 a2 a3 a4 a5) := by
  unfold mbServe
  refine whenPresent_kept ?_ ?_
  · exact h00
  · intro y1_0 h1
    refine Kept.ite ?_ ?_
    · exact mbOverrun_kept h1
    · extract_lets -merge -useContext d2
      have h2 : Kept d0 d2 := by
        refine Kept.ite ?_ ?_
        · exact h1
        · exact mbAccept_kept h1
      clear_value d2
      refine Kept.ite ?_ ?_
      · refine mbAnswer_kept ?_ ?_
        · exact h2
        · intro y3_0 h3
          refine h50 _ ?_
          · exact h3
      · exact h2

theorem execMbRead_kept {d0 : Device} {a0} {a1} {a2} {a3} {a4} (h : Kept d0 a3.dev)
    : KeptR a3.pending d0 (execMbRead a0 a1 a2 a3 a4) := by
  unfold execMbRead
  refine KeptR.done h ?_
  refine mbServe_kept ?_ ?_
  · exact h
  · intro y1_0 h1
    exact readEntry_kept (diagRead_kept h1)

theorem execMbWrite_kept {d0 : Device} {a0} {a1} {a2} {a3} {a4} (h : Kept d0 a4.dev)
    : KeptR a4.pending d0 (execMbWrite a0 a1 a2 a3 a4) := by
  unfold execMbWrite
  refine KeptR.done h ?_
  exact entryWrite_kept h

theorem execMbCommit_kept {d0 : Device} {a0} {a1} {a2} {a3} (h : Kept d0 a3.dev)
    : KeptR a3.pending d0 (execMbCommit a0 a1 a2 a3) := by
  unfold execMbCommit
  refine KeptR.next ?_
  refine mbServe_kept ?_ ?_
  · exact h
  · intro y1_0 h1
    exact mbCommit_kept h1

theorem execMbReadInfo_kept {d0 : Device} {a0} {a1} {a2} {a3} (h : Kept d0 a3.dev)
    : KeptR a3.pending d0 (execMbReadInfo a0 a1 a2 a3) := by
  unfold execMbReadInfo
  refine KeptR.next ?_
  refine mbServe_kept ?_ ?_
  · exact h
  · intro y1_0 h1
    exact infoEntry_kept h1

theorem execMailboxOverrun_kept {d0 : Device} {a0} (h : Kept d0 a0.dev)
    : KeptR a0.pending d0 (execMailboxOverrun a0) := by
  unfold execMailboxOverrun
  refine KeptR.next ?_
  refine whenPresent_kept ?_ ?_
  · exact h
  · intro y1_0 h1
    exact mbOverrun_kept h1

theorem mctpDiscard_kept {d0 : Device} {a0} (h00 : Kept d0 a0) : Kept d0 (mctpDiscard a0) := by
  unfold mctpDiscard
  exact bump_kept h00

theorem mctpMessage_kept {d0 : Device} {a0} {a1} (h00 : Kept d0 a0) : Kept d0 (mctpMessage a0 a1) := by
  unfold mctpMessage
  refine Kept.ite ?_ ?_
  · exact mctpRefuse_kept (Device_modMgmt_kept h00)
  · exact mctpDiscard_kept h00

theorem setPart_kept {d0 : Device} {a0} {a1} {a2} (h00 : Kept d0 a0)
    : Kept d0 (setPart a0 a1 a2) := by
  unfold setPart
  exact Device_modMgmt_kept h00

theorem mctpPacket_kept {d0 : Device} {a0} {a1} (h00 : Kept d0 a0) : Kept d0 (mctpPacket a0 a1) := by
  unfold mctpPacket
  refine Kept.ite ?_ ?_
  · exact h00
  · extract_lets -merge -useContext d1 x2
    have h1 : Kept d0 d1 := by
      refine Kept.ite ?_ ?_
      · exact mctpDiscard_kept h00
      · exact h00
    clear_value d1
    refine Kept.ite ?_ ?_
    · exact mctpMessage_kept (setPart_kept h1)
    · exact setPart_kept h1

theorem execMctpPacket_kept {d0 : Device} {a0} {a1} (h : Kept d0 a1.dev)
    : KeptR a1.pending d0 (execMctpPacket a0 a1) := by
  unfold execMctpPacket
  refine KeptR.next ?_
  refine whenPresent_kept ?_ ?_
  · exact h
  · intro y1_0 h1
    exact mctpPacket_kept h1

theorem mctpServe_kept {d0 : Device} {a0} {a1} {a2} (h00 : Kept d0 a0)
    (h20 : ∀ z0 z1, Kept d0 z0 → Kept d0 (a2 z0 z1)) : Kept d0 (mctpServe a0 a1 a2) := by
  unfold mctpServe
  refine whenPresent_kept ?_ ?_
  · exact h00
  · intro y1_0 h1
    split
    · exact h1
    · refine Kept.ite ?_ ?_
      · refine h20 _ _ ?_
        · exact h1
      · exact h1

theorem mctpReply_kept {d0 : Device} {a0} {a1} {a2} (h00 : Kept d0 a0)
    (h20 : ∀ z0 z1, Kept d0 z0 → KeptP d0 (a2 z0 z1)) : Kept d0 (mctpReply a0 a1 a2) := by
  unfold mctpReply
  refine mctpServe_kept ?_ ?_
  · exact h00
  · intro y1_0 y1_1 h1
    extract_lets -merge -useContext d2
    have h2 : KeptP d0 d2 := by
      refine h20 _ _ ?_
      · exact tookTurn_kept h1
    clear_value d2
    exact mctpRespond_kept h2

theorem execMctpRead_kept {d0 : Device} {a0} {a1} (h : Kept d0 a0.dev)
    : KeptR a0.pending d0 (execMctpRead a0 a1) := by
  unfold execMctpRead
  refine KeptR.done h ?_
  refine mctpReply_kept ?_ ?_
  · exact h
  · intro y1_0 y1_1 h1
    exact readEntry_kept (diagRead_kept h1)

theorem execMctpWrite_kept {d0 : Device} {a0} (h : Kept d0 a0.dev) : KeptR a0.pending d0 (execMctpWrite a0) := by
  unfold execMctpWrite
  refine KeptR.done h ?_
  refine mctpServe_kept ?_ ?_
  · exact h
  · intro y1_0 y1_1 h1
    exact entryWrite_kept h1

theorem mctpCommitEntry_kept {d0 : Device} {a0} {a1} {a2} (h00 : Kept d0 a0)
    : KeptP d0 (mctpCommitEntry a0 a1 a2) := by
  unfold mctpCommitEntry
  refine KeptP.ite ?_ ?_
  · refine KeptP.mk ?_
    exact h00
  · refine KeptP.ite ?_ ?_
    · refine KeptP.mk ?_
      exact commitEntry_kept h00
    · refine KeptP.mk ?_
      exact bump_kept h00

theorem execMctpCommit_kept {d0 : Device} {a0} (h : Kept d0 a0.dev) : KeptR a0.pending d0 (execMctpCommit a0) := by
  unfold execMctpCommit
  refine KeptR.next ?_
  refine mctpReply_kept ?_ ?_
  · exact h
  · intro y1_0 y1_1 h1
    exact mctpCommitEntry_kept h1

theorem execMctpReadInfo_kept {d0 : Device} {a0} (h : Kept d0 a0.dev)
    : KeptR a0.pending d0 (execMctpReadInfo a0) := by
  unfold execMctpReadInfo
  refine KeptR.next ?_
  refine mctpReply_kept ?_ ?_
  · exact h
  · intro y1_0 y1_1 h1
    exact infoEntry_kept h1

theorem setEid_kept {d0 : Device} {a0} {a1} (h00 : Kept d0 a0) : KeptP d0 (setEid a0 a1) := by
  unfold setEid
  extract_lets -merge -useContext x1
  refine KeptP.ite ?_ ?_
  · refine KeptP.mk ?_
    exact h00
  · refine KeptP.ite ?_ ?_
    · refine KeptP.mk ?_
      exact odSet_kept h00
    · refine KeptP.mk ?_
      exact h00

theorem execSetEndpointId_kept {d0 : Device} {a0} (h : Kept d0 a0.dev)
    : KeptR a0.pending d0 (execSetEndpointId a0) := by
  unfold execSetEndpointId
  refine KeptR.next ?_
  refine controlServe_kept ?_ ?_
  · exact h
  · intro y1_0 y1_1 h1
    exact setEid_kept h1

theorem execGetEndpointId_kept {d0 : Device} {a0} (h : Kept d0 a0.dev)
    : KeptR a0.pending d0 (execGetEndpointId a0) := by
  unfold execGetEndpointId
  refine KeptR.next ?_
  refine controlServe_kept ?_ ?_
  · exact h
  · intro y1_0 y1_1 h1
    refine KeptP.mk ?_
    exact h1

theorem execGetMctpVersionSupport_kept {d0 : Device} {a0} (h : Kept d0 a0.dev)
    : KeptR a0.pending d0 (execGetMctpVersionSupport a0) := by
  unfold execGetMctpVersionSupport
  refine KeptR.next ?_
  refine controlServe_kept ?_ ?_
  · exact h
  · intro y1_0 y1_1 h1
    refine KeptP.mk ?_
    exact h1

theorem execGetMessageTypeSupport_kept {d0 : Device} {a0} (h : Kept d0 a0.dev)
    : KeptR a0.pending d0 (execGetMessageTypeSupport a0) := by
  unfold execGetMessageTypeSupport
  refine KeptR.next ?_
  refine controlServe_kept ?_ ?_
  · exact h
  · intro y1_0 y1_1 h1
    refine KeptP.mk ?_
    exact h1

theorem vendorSupport_kept {d0 : Device} {a0} {a1} (h00 : Kept d0 a0)
    : KeptP d0 (vendorSupport a0 a1) := by
  unfold vendorSupport
  refine KeptP.ite ?_ ?_
  · refine KeptP.mk ?_
    exact h00
  · refine KeptP.mk ?_
    exact h00

theorem execGetVendorDefinedMessageSupport_kept {d0 : Device} {a0} (h
    : Kept d0 a0.dev) : KeptR a0.pending d0 (execGetVendorDefinedMessageSupport a0) := by
  unfold execGetVendorDefinedMessageSupport
  refine KeptR.next ?_
  refine controlServe_kept ?_ ?_
  · exact h
  · intro y1_0 y1_1 h1
    exact vendorSupport_kept h1

theorem execMsiMask_kept {d0 : Device} {a0} {a1} {a2} (h : Kept d0 a2.dev)
    : KeptR a2.pending d0 (execMsiMask a0 a1 a2) := by
  unfold execMsiMask
  refine KeptR.next ?_
  refine pathWrite_kept ?_ ?_
  · exact h
  · intro y1_0 y1_1 h1
    exact effMsiMask_kept h1

theorem execCvcCfg_kept {d0 : Device} {a0} {a1} {a2} {a3} (h : Kept d0 a3.dev)
    : KeptR a3.pending d0 (execCvcCfg a0 a1 a2 a3) := by
  unfold execCvcCfg
  refine KeptR.next ?_
  refine pathWrite_kept ?_ ?_
  · exact h
  · intro y1_0 y1_1 h1
    exact effCvcCfg_kept h1

theorem execCvcReset_kept {d0 : Device} {a0} {a1} {a2} (h : Kept d0 a2.dev)
    : KeptR a2.pending d0 (execCvcReset a0 a1 a2) := by
  unfold execCvcReset
  refine KeptR.next ?_
  refine pathWrite_kept ?_ ?_
  · exact h
  · intro y1_0 y1_1 h1
    exact effCvcReset_kept h1

theorem execLegacyCtrl_kept {d0 : Device} {a0} {a1} {a2} (h : Kept d0 a2.dev)
    : KeptR a2.pending d0 (execLegacyCtrl a0 a1 a2) := by
  unfold execLegacyCtrl
  refine KeptR.next ?_
  refine pathWrite_kept ?_ ?_
  · exact h
  · intro y1_0 y1_1 h1
    exact effLegacyCtrl_kept h1

theorem execLegacyValue_kept {d0 : Device} {a0} {a1} {a2} (h : Kept d0 a2.dev)
    : KeptR a2.pending d0 (execLegacyValue a0 a1 a2) := by
  unfold execLegacyValue
  refine KeptR.next ?_
  refine pathWrite_kept ?_ ?_
  · exact h
  · intro y1_0 y1_1 h1
    exact effLegacyValue_kept h1

theorem traceExport_kept {d0 : Device} {a0} (h00 : Kept d0 a0) : Kept d0 (traceExport a0) := by
  unfold traceExport
  split
  · exact h00
  · refine Kept.ite ?_ ?_
    · exact h00
    · extract_lets -merge -useContext x1 x2
      refine fabiWrite_kept ?_
      refine Device_modTrace_kept ?_ ?_
      · exact h00
      · exact fun _ ht => ht

theorem execTraceExport_kept {d0 : Device} {a0} (h : Kept d0 a0.dev)
    : KeptR a0.pending d0 (execTraceExport a0) := by
  unfold execTraceExport
  refine KeptR.next ?_
  refine whenReady_kept ?_ ?_
  · exact h
  · intro y1_0 h1
    exact traceExport_kept h1

theorem execTraceTail_kept {d0 : Device} {a0} {a1} {a2} (h : Kept d0 a2.dev)
    : KeptR a2.pending d0 (execTraceTail a0 a1 a2) := by
  unfold execTraceTail
  refine KeptR.next ?_
  refine pathWrite_kept ?_ ?_
  · exact h
  · intro y1_0 y1_1 h1
    exact effTraceTail_kept h1

theorem execTraceHostBase_kept {d0 : Device} {a0} {a1} {a2} (h : Kept d0 a2.dev)
    : KeptR a2.pending d0 (execTraceHostBase a0 a1 a2) := by
  unfold execTraceHostBase
  refine KeptR.next ?_
  refine pathWrite_kept ?_ ?_
  · exact h
  · intro y1_0 y1_1 h1
    exact effTraceBase_kept h1

theorem execDirectWriteRefused_kept {d0 : Device} {a0} {a1} {a2} {a3} (h
    : Kept d0 a3.dev) : KeptR a3.pending d0 (execDirectWriteRefused a0 a1 a2 a3) := by
  unfold execDirectWriteRefused
  refine KeptR.done h ?_
  exact entryWrite_kept h

theorem execRegisterWrite_kept {d0 : Device} {a0} {a1} {a2} {a3} {a4} (h
    : Kept d0 a4.dev) : KeptR a4.pending d0 (execRegisterWrite a0 a1 a2 a3 a4) := by
  unfold execRegisterWrite
  refine KeptR.done h ?_
  exact entryWrite_kept h

theorem paramRead_kept {d0 : Device} {a0} {a1} {a2} {a3} (h00 : Kept d0 a0)
    : Kept d0 (paramRead a0 a1 a2 a3) := by
  unfold paramRead
  split
  · exact h00
  · extract_lets -merge -useContext x1
    split
    · exact paramDecided_kept (modDec_kept h00)
    · exact fabiRead_kept (modDec_kept h00)

theorem imageRead_kept {d0 : Device} {a0} {a1} {a2} (h00 : Kept d0 a0)
    : Kept d0 (imageRead a0 a1 a2) := by
  unfold imageRead
  split
  · exact h00
  · split
    · split
      · exact refuseDecision_kept h00
      · exact testsFrom3_kept (modDec_kept h00)
    · exact h00

theorem tailRead_kept {d0 : Device} {a0} {a1} {a2} (h00 : Kept d0 a0)
    : Kept d0 (tailRead a0 a1 a2) := by
  unfold tailRead
  exact Device_modSeq_kept h00

theorem prefixInsert_kept {d0 : Device} {a0} {a1} {a2} {a3} {a4} (h00
    : Kept d0 a0) : Kept d0 (prefixInsert a0 a1 a2 a3 a4) := by
  unfold prefixInsert
  split
  · exact h00
  · extract_lets -merge -useContext x1 x2 d3 d4 d5
    have h3 : Kept d0 d3 := prefixEvict_kept h00
    clear_value d3
    have h4 : Kept d0 d4 := by
      refine Device_modCtx_kept ?_ ?_
      · exact h3
      · exact fun c hc => { hc with prefixes := (Map.wf_put _ _ hc.prefixes) }
    clear_value d4
    have h5 : Kept d0 d5 := modDir1_kept h4
    clear_value d5
    split
    · exact prefixAge_kept h00
    · exact prefixAge_kept h5

theorem hashTokensRead_kept {d0 : Device} {a0} {a1} {a2} {a3} (h00 : Kept d0 a0)
    : Kept d0 (hashTokensRead a0 a1 a2 a3) := by
  unfold hashTokensRead
  split
  · exact h00
  · refine Kept.ite ?_ ?_
    · exact h00
    · extract_lets -merge -useContext x1 x2 x3 d4 d5
      have h4 : Kept d0 d4 := modBlk_kept h00
      clear_value d4
      have h5 : Kept d0 d5 := by
        unfold d5
        split
        · split
          · refine Kept.ite ?_ ?_
            · exact h4
            · exact prefixInsert_kept h4
          · exact h4
        · exact h4
      clear_value d5
      refine Kept.ite ?_ ?_
      · exact hashFetch_kept (modBlk_kept h00)
      · exact hashStart_kept h5

theorem inputRead_kept {d0 : Device} {a0} {a1} {a2} {a3} (h00 : Kept d0 a0)
    : Kept d0 (inputRead a0 a1 a2 a3) := by
  unfold inputRead
  exact Device_modSeq_kept h00

theorem replayFill_kept {d0 : Device} {a0} {a1} {a2} {a3} (h00 : Kept d0 a0)
    : Kept d0 (replayFill a0 a1 a2 a3) := by
  unfold replayFill
  split
  · exact h00
  · split
    · refine Kept.ite ?_ ?_
      · exact h00
      · exact fabiWrite_kept h00
    · exact h00

theorem lineRead_kept {d0 : Device} {a0} {a1} {a2} {a3} (h00 : Kept d0 a0)
    : Kept d0 (lineRead a0 a1 a2 a3) := by
  unfold lineRead
  split
  · extract_lets -merge -useContext x1 x2 d3
    have h3 : Kept d0 d3 := bumpBy_kept h00
    clear_value d3
    exact modSel_kept (bumpBy_kept h3)
  · exact h00

theorem packRead_kept {d0 : Device} {a0} {a1} {a2} (h00 : Kept d0 a0)
    : Kept d0 (packRead a0 a1 a2) := by
  unfold packRead
  split
  · exact h00
  · extract_lets -merge -useContext x1 x2 x3 d4
    have h4 : Kept d0 d4 := modPlan_kept h00
    clear_value d4
    split
    · exact packPassages_kept (modPlan_kept h00)
    · refine Kept.ite ?_ ?_
      · refine Kept.ite ?_ ?_
        · exact packPassages_kept h4
        · exact fabiRead_kept (modPlan_kept h4)
      · exact packEnd_kept h00
    · exact packPassages_kept (modPlan_kept h00)
    · exact packPrompt_kept (modPlan_kept h00)
    · exact h00

theorem saveTokensRead_kept {d0 : Device} {a0} {a1} {a2} {a3} {a4} (h00
    : Kept d0 a0) : Kept d0 (saveTokensRead a0 a1 a2 a3 a4) := by
  unfold saveTokensRead
  split
  · exact h00
  · split
    · exact h00
    · extract_lets -merge -useContext x1 x2 x3 d4
      have h4 : Kept d0 d4 := Device_modSeq_kept h00
      clear_value d4
      exact fabiWrite_kept h4

theorem readKind_kept {d0 : Device} {a0} {a1} {a2} (h00 : Kept d0 a0)
    : Kept d0 (readKind a0 a1 a2) := by
  unfold readKind
  split
  · exact Device_modRing_kept h00
  · exact paramRead_kept h00
  · exact probesRead_kept h00
  · exact imageRead_kept h00
  · exact descriptorRead_kept h00
  · exact prefixRead_kept h00
  · exact tailRead_kept h00
  · exact hashTokensRead_kept h00
  · exact inputRead_kept h00
  · exact replayFill_kept h00
  · exact draftRead_kept h00
  · exact lineRead_kept h00
  · exact packRead_kept h00
  · exact saveTokensRead_kept h00
  · exact h00

theorem fabiReadBack_kept {d0 : Device} {a0} {a1} {a2} (h00 : Kept d0 a0)
    : Kept d0 (fabiReadBack a0 a1 a2) := by
  unfold fabiReadBack
  split
  · exact h00
  · refine Kept.ite ?_ ?_
    · exact readKind_kept (fabiDone_kept h00)
    · exact h00

theorem execFabiReadResponse_kept {d0 : Device} {a0} {a1} {a2} (h : Kept d0 a2.dev)
    : KeptR a2.pending d0 (execFabiReadResponse a0 a1 a2) := by
  unfold execFabiReadResponse
  refine KeptR.done h ?_
  refine whenPresent_kept ?_ ?_
  · exact h
  · intro y1_0 h1
    exact fabiReadBack_kept h1

theorem workListFetch_kept {d0 : Device} {a0} {a1} {a2} (h00 : Kept d0 a0)
    : Kept d0 (workListFetch a0 a1 a2) := by
  unfold workListFetch
  refine Kept.ite ?_ ?_
  · exact h00
  · extract_lets -merge -useContext x1
    refine emit_kept ?_
    refine whenReady_kept ?_ ?_
    · exact h00
    · intro y2_0 h2
      refine Kept.foldl (fun d3 x3 h3 => ?_) ?_
      · exact chargeFetch_kept h3
      · exact h2

theorem execWorkListFetch_kept {d0 : Device} {a0} {a1} {a2} (h : Kept d0 a2.dev)
    : KeptR a2.pending d0 (execWorkListFetch a0 a1 a2) := by
  unfold execWorkListFetch
  refine KeptR.next ?_
  refine whenPresent_kept ?_ ?_
  · exact h
  · intro y1_0 h1
    exact workListFetch_kept h1

theorem execDirectReadLatch_kept {d0 : Device} {a0} {a1} (h : Kept d0 a1.dev)
    : KeptR a1.pending d0 (execDirectReadLatch a0 a1) := by
  unfold execDirectReadLatch
  refine KeptR.next ?_
  refine whenPresent_kept ?_ ?_
  · exact h
  · intro y1_0 h1
    exact directRead_kept h1

theorem sendBeat_kept {d0 : Device} {a0} {a1} (h00 : Kept d0 a0) : Kept d0 (sendBeat a0 a1) := by
  unfold sendBeat
  split
  · exact h00
  · extract_lets -merge -useContext d1 x2 x3
    have h1 : Kept d0 d1 := bumpBy_kept (emit_kept h00)
    clear_value d1
    exact { h1 with  }

theorem rnsSclk_kept {d0 : Device} {a0} {a1} (h00 : Kept d0 a0) : Kept d0 (rnsSclk a0 a1) := by
  unfold rnsSclk
  refine Kept.ite ?_ ?_
  · exact h00
  · extract_lets -merge -useContext x1 d2
    have h2 : Kept d0 d2 := { h00 with  }
    clear_value d2
    refine Kept.ite ?_ ?_
    · exact sendBeat_kept h2
    · exact sendBeat_kept h2

theorem idleRns_kept {d0 : Device} {a0} (h00 : Kept d0 a0) : Kept d0 (idleRns a0) := by
  unfold idleRns
  refine Kept.foldl (fun d1 x1 h1 => ?_) ?_
  · exact rnsSclk_kept h1
  · exact h00

theorem startBehind_kept {d0 : Device} {a0} (h00 : Kept d0 a0) : Kept d0 (startBehind a0) := by
  unfold startBehind
  split
  · exact sendFwd_kept (Device_modTurn_kept h00)
  · exact h00

theorem startGranted_kept {d0 : Device} {a0} (h00 : Kept d0 a0) : Kept d0 (startGranted a0) := by
  unfold startGranted
  split
  · exact startDecision_kept h00
  · exact h00

theorem idleStart_kept {d0 : Device} {a0} (h00 : Kept d0 a0) : Kept d0 (idleStart a0) := by
  unfold idleStart
  exact startBehind_kept (startGranted_kept h00)

theorem noteMoves_sound {c : Ctx} (first : Bool) (h : Ctx.Sound c) : Ctx.Sound (noteMoves first c) := { h with }

theorem ungateDone_kept {d0 d : Device} (h : Kept d0 d) : Kept d0 (ungateDone d) :=
  ungateNext_kept { h with lanes := (List.length_map _).trans h.lanes }

theorem idleTick_kept {d0 d : Device} (h : Kept d0 d) : Kept d0 (idleTick d) := by
  have h0 : Kept d0 (settle d (mbRun (closeSteps d))) := settle_kept h (mbRun_kept (closeSteps_kept h))
  have h1 : Kept d0 ((settle d (mbRun (closeSteps d))).modClk (fun c => { c with rootcyc := (c.rootcyc + idleCycles) % 2 ^ 64 })) :=
    Device_modClk_kept h0 (fun c hc => { hc with rootcyc := Nat.mod_lt _ (Nat.two_pow_pos 64) })
  exact Kept.ite h (idleStart_kept (idleRns_kept (ungateDone_kept
    (Kept.ite h1 (Device_modCtx_kept h1 (fun c hc => noteMoves_sound _ hc))))))

theorem odSetC_kept {d0 : Device} {a0} {a1} {a2} {a3} (h00 : Kept d0 a0)
    : Kept d0 (odSetC a0 a1 a2 a3) := by
  unfold odSetC
  exact odSet_kept h00

end Sys2Proof.Machine
end

