-- ==== Sys2Proof/Laws/KeptExec.lean ====
section
/-! SUPPORT. Every command but those of resets and start-up keeps the invariant, the levels and the phase. -/

set_option Elab.async false

namespace Sys2Proof.Machine

theorem exec_kept {d0 : Device} {s : State} (i : Instr) (hi : bringUp i = false) (h : Kept d0 s.dev) :
    KeptR s.pending d0 (exec i s) := by
  cases i with
  | porstNAssert => exact nomatch hi
  | porstNRelease => exact nomatch hi
  | wrstNAssert => exact nomatch hi
  | wrstNRelease => exact nomatch hi
  | fySrstNAssert _ => exact nomatch hi
  | fySrstNRelease _ => exact nomatch hi
  | fyIsoNAssert => exact nomatch hi
  | fyIsoNRelease => exact nomatch hi
  | sliceStart => exact nomatch hi
  | dictionaryRegionDone _ => exact nomatch hi
  | grottoTestDone _ => exact nomatch hi
  | laneGroupsDone _ => exact nomatch hi
  | cipherSelfTest _ => exact nomatch hi
  | classTTableDone _ => exact nomatch hi
  | finalChecks => exact nomatch hi
  | sqTail _ _ => exact execSqTail_kept h
  | cqHead _ _ => exact execCqHead_kept h
  | fabtAccessRefused _ => exact execFabtAccessRefused_kept h
  | sqRecordRead _ _ => exact execSqRecordRead_kept h
  | fabiWriteResponse _ => exact execFabiWriteResponse_kept h
  | fabiErrorResponse _ => exact execFabiErrorResponse_kept h
  | submit _ => exact execSubmit_kept h
  | cont _ => exact execCont_kept h
  | abort _ => exact execAbort_kept h
  | abortClient _ => exact execAbortClient_kept h
  | pause _ => exact execPause_kept h
  | resume _ => exact execResume_kept h
  | save _ => exact execSave_kept h
  | restore _ => exact execRestore_kept h
  | epochPublish _ => exact execEpochPublish_kept h
  | setParam _ => exact execSetParam_kept h
  | handOver _ => exact execHandOver_kept h
  | handOverAck _ _ => exact execHandOverAck_kept h
  | handOverTimeout _ => exact execHandOverTimeout_kept h
  | hostCommandTransfer _ => exact execHostCommandTransfer_kept h
  | hostCommandAck _ _ _ => exact execHostCommandAck_kept h
  | prefixLookup _ _ => exact execPrefixLookup_kept h
  | lookupAnswer _ _ => exact execLookupAnswer_kept h
  | lookupTimeout _ => exact execLookupTimeout_kept h
  | queueRetest => exact execQueueRetest_kept h
  | queueSweep => exact execQueueSweep_kept h
  | completionTransfer _ => exact execCompletionTransfer_kept h
  | completionWrite _ => exact execCompletionWrite_kept h
  | cqStall _ => exact execCqStall_kept h
  | cqIrqTimeout _ => exact execCqIrqTimeout_kept h
  | ringEnable _ _ _ => exact execRingEnable_kept h
  | ringReset _ _ _ => exact execRingReset_kept h
  | ringDiscard _ _ _ => exact execRingDiscard_kept h
  | ringClearErr _ _ _ => exact execRingClearErr_kept h
  | seqQueryHandle _ _ => exact execSeqQueryHandle_kept h
  | deadlineExpiry _ => exact execDeadlineExpiry_kept h
  | ttlExpiry _ => exact execTtlExpiry_kept h
  | quarantineExpiry _ => exact execQuarantineExpiry_kept h
  | notBeforeExpiry _ => exact execNotBeforeExpiry_kept h
  | backoffExpiry _ => exact execBackoffExpiry_kept h
  | idleDemoteExpiry _ => exact execIdleDemoteExpiry_kept h
  | demotionStageDeferred _ => exact execDemotionStageDeferred_kept h
  | slotReclaim => exact execSlotReclaim_kept h
  | endTransfer _ => exact execEndTransfer_kept h
  | endRetry _ => exact execEndRetry_kept h
  | endWrittenReport _ => exact execEndWrittenReport_kept h
  | release _ => exact execRelease_kept h
  | aggRoundOpen _ => exact execAggRoundOpen_kept h
  | deltaEntry _ _ => exact execDeltaEntry_kept h
  | aggRoundClose => exact execAggRoundClose_kept h
  | aggregateEntry _ _ => exact execAggregateEntry_kept h
  | acctAggLost => exact execAcctAggLost_kept h
  | acctReset _ _ => exact execAcctReset_kept h
  | resetEntry src e => exact @execResetEntry_kept _ src e _ h
  | stepBuild _ _ => exact execStepBuild_kept h
  | cmdIssue _ => exact execCmdIssue_kept h
  | energyCorrUpdate => exact execEnergyCorrUpdate_kept h
  | switchRateSample => exact execSwitchRateSample_kept h
  | completion _ => exact execCompletion_kept h
  | killAck _ => exact execKillAck_kept h
  | cmdTimeout _ => exact execCmdTimeout_kept h
  | killAckTimeout _ => exact execKillAckTimeout_kept h
  | lgiBeat _ _ => exact execLgiBeat_kept h
  | samplePosition _ _ _ => exact execSamplePosition_kept h
  | digestRound _ _ => exact execDigestRound_kept h
  | sequenceCommit _ => exact execSequenceCommit_kept h
  | draftPost _ => exact execDraftPost_kept h
  | modelWarmupDone _ _ => exact execModelWarmupDone_kept h
  | groupHotMap _ _ _ _ => exact execGroupHotMap_kept h
  | groupCfg _ _ _ => exact execGroupCfg_kept h
  | pgmStatus _ => exact execPgmStatus_kept h
  | ctxReclaim => exact execCtxReclaim_kept h
  | replayTimeout _ => exact execReplayTimeout_kept h
  | mirrorWrite _ _ _ => exact execMirrorWrite_kept h
  | mirrorTimeout => exact execMirrorTimeout_kept h
  | selectionClaim _ => exact execSelectionClaim_kept h
  | selectionDelivered _ => exact execSelectionDelivered_kept h
  | rnsRequest _ _ => exact execRnsRequest_kept h
  | tableKey _ _ => exact execTableKey_kept h
  | install _ _ _ _ => exact execInstall_kept h
  | installTimeout _ => exact execInstallTimeout_kept h
  | activate _ _ _ _ => exact execActivate_kept h
  | cancel a b c e => exact @execCancel_kept _ a b c e _ h
  | epochTransferAck _ => exact execEpochTransferAck_kept h
  | epochGraceExpiry _ => exact execEpochGraceExpiry_kept h
  | spawn _ => exact execSpawn_kept h
  | parityDelta _ => exact execParityDelta_kept h
  | parityAck _ _ _ => exact execParityAck_kept h
  | sliceSuspect _ => exact execSliceSuspect_kept h
  | sliceOnline _ _ => exact execSliceOnline_kept h
  | rebuildStripe _ => exact execRebuildStripe_kept h
  | forwardPair _ _ _ => exact execForwardPair_kept h
  | ownershipAnnouncement _ _ => exact execOwnershipAnnouncement_kept h
  | frameRequest _ => exact execFrameRequest_kept h
  | sliceDrain _ _ => exact execSliceDrain_kept h
  | sliceQuiesced => exact execSliceQuiesced_kept h
  | tileOnline _ _ _ => exact execTileOnline_kept h
  | tileDrainTimeout _ => exact execTileDrainTimeout_kept h
  | tileLost _ _ => exact execTileLost_kept h
  | scrub _ _ _ => exact execScrub_kept h
  | eccCeWindow => exact execEccCeWindow_kept h
  | lanePatrol _ => exact execLanePatrol_kept h
  | laneSubstitution _ => exact execLaneSubstitution_kept h
  | laneGroupGate _ => exact execLaneGroupGate_kept h
  | laneGroupUngate _ => exact execLaneGroupUngate_kept h
  | budgetRecord _ => exact execBudgetRecord_kept h
  | pwrStale => exact execPwrStale_kept h
  | telemetry _ _ => exact execTelemetry_kept h
  | rootMhz _ _ => exact execRootMhz_kept h
  | tickLoad _ _ => exact execTickLoad_kept h
  | sealSlice _ _ => exact execSealSlice_kept h
  | mbRead _ _ _ => exact execMbRead_kept h
  | mbWrite _ _ _ _ => exact execMbWrite_kept h
  | mbCommit _ _ _ => exact execMbCommit_kept h
  | mbReadInfo _ _ _ => exact execMbReadInfo_kept h
  | mailboxOverrun => exact execMailboxOverrun_kept h
  | mctpPacket _ => exact execMctpPacket_kept h
  | mctpRead => exact execMctpRead_kept h
  | mctpWrite => exact execMctpWrite_kept h
  | mctpCommit => exact execMctpCommit_kept h
  | mctpReadInfo => exact execMctpReadInfo_kept h
  | setEndpointId => exact execSetEndpointId_kept h
  | getEndpointId => exact execGetEndpointId_kept h
  | getMctpVersionSupport => exact execGetMctpVersionSupport_kept h
  | getMessageTypeSupport => exact execGetMessageTypeSupport_kept h
  | getVendorDefinedMessageSupport => exact execGetVendorDefinedMessageSupport_kept h
  | msiMask _ _ => exact execMsiMask_kept h
  | cvcCfg _ _ _ => exact execCvcCfg_kept h
  | cvcReset _ _ => exact execCvcReset_kept h
  | legacyCtrl _ _ => exact execLegacyCtrl_kept h
  | legacyValue _ _ => exact execLegacyValue_kept h
  | traceExport => exact execTraceExport_kept h
  | traceTail _ _ => exact execTraceTail_kept h
  | traceHostBase _ _ => exact execTraceHostBase_kept h
  | directWriteRefused _ _ _ => exact execDirectWriteRefused_kept h
  | registerWrite _ _ _ _ => exact execRegisterWrite_kept h
  | fabiReadResponse _ _ => exact execFabiReadResponse_kept h
  | workListFetch _ _ => exact execWorkListFetch_kept h
  | directReadLatch _ => exact execDirectReadLatch_kept h
  | railGating _ => exact nomatch hi

end Sys2Proof.Machine
end

