-- ==== Sys2Proof/Laws/State.lean ====
section
/-! SUPPORT. What each update of the slice leaves in each of its fields: one lemma per field and update. -/

namespace Sys2Proof.Machine

variable (d : Device)

/-! ### modClk -/

@[simp] theorem Device.modClk_ident (f : Clk → Clk) : (d.modClk f).ident = d.ident := rfl
@[simp] theorem Device.modClk_clk (f : Clk → Clk) : (d.modClk f).clk = f d.clk := rfl
@[simp] theorem Device.modClk_lanes (f : Clk → Clk) : (d.modClk f).lanes = d.lanes := rfl
@[simp] theorem Device.modClk_power (f : Clk → Clk) : (d.modClk f).power = d.power := rfl
@[simp] theorem Device.modClk_od (f : Clk → Clk) : (d.modClk f).od = d.od := rfl
@[simp] theorem Device.modClk_snaps (f : Clk → Clk) : (d.modClk f).snaps = d.snaps := rfl
@[simp] theorem Device.modClk_fabi (f : Clk → Clk) : (d.modClk f).fabi = d.fabi := rfl
@[simp] theorem Device.modClk_rings (f : Clk → Clk) : (d.modClk f).rings = d.rings := rfl
@[simp] theorem Device.modClk_seqs (f : Clk → Clk) : (d.modClk f).seqs = d.seqs := rfl
@[simp] theorem Device.modClk_gens (f : Clk → Clk) : (d.modClk f).gens = d.gens := rfl
@[simp] theorem Device.modClk_timers (f : Clk → Clk) : (d.modClk f).timers = d.timers := rfl
@[simp] theorem Device.modClk_flows (f : Clk → Clk) : (d.modClk f).flows = d.flows := rfl
@[simp] theorem Device.modClk_turn (f : Clk → Clk) : (d.modClk f).turn = d.turn := rfl
@[simp] theorem Device.modClk_acct (f : Clk → Clk) : (d.modClk f).acct = d.acct := rfl
@[simp] theorem Device.modClk_agg (f : Clk → Clk) : (d.modClk f).agg = d.agg := rfl
@[simp] theorem Device.modClk_groups (f : Clk → Clk) : (d.modClk f).groups = d.groups := rfl
@[simp] theorem Device.modClk_inflight (f : Clk → Clk) : (d.modClk f).inflight = d.inflight := rfl
@[simp] theorem Device.modClk_tgens (f : Clk → Clk) : (d.modClk f).tgens = d.tgens := rfl
@[simp] theorem Device.modClk_tiles (f : Clk → Clk) : (d.modClk f).tiles = d.tiles := rfl
@[simp] theorem Device.modClk_reclaimed (f : Clk → Clk) : (d.modClk f).reclaimed = d.reclaimed := rfl
@[simp] theorem Device.modClk_window (f : Clk → Clk) : (d.modClk f).window = d.window := rfl
@[simp] theorem Device.modClk_passEnd (f : Clk → Clk) : (d.modClk f).passEnd = d.passEnd := rfl
@[simp] theorem Device.modClk_stalledAway (f : Clk → Clk) : (d.modClk f).stalledAway = d.stalledAway := rfl
@[simp] theorem Device.modClk_units (f : Clk → Clk) : (d.modClk f).units = d.units := rfl
@[simp] theorem Device.modClk_ctx (f : Clk → Clk) : (d.modClk f).ctx = d.ctx := rfl
@[simp] theorem Device.modClk_sels (f : Clk → Clk) : (d.modClk f).sels = d.sels := rfl
@[simp] theorem Device.modClk_epochs (f : Clk → Clk) : (d.modClk f).epochs = d.epochs := rfl
@[simp] theorem Device.modClk_pubs (f : Clk → Clk) : (d.modClk f).pubs = d.pubs := rfl
@[simp] theorem Device.modClk_faults (f : Clk → Clk) : (d.modClk f).faults = d.faults := rfl
@[simp] theorem Device.modClk_cvc (f : Clk → Clk) : (d.modClk f).cvc = d.cvc := rfl
@[simp] theorem Device.modClk_trace (f : Clk → Clk) : (d.modClk f).trace = d.trace := rfl
@[simp] theorem Device.modClk_mgmt (f : Clk → Clk) : (d.modClk f).mgmt = d.mgmt := rfl
@[simp] theorem Device.modClk_rns (f : Clk → Clk) : (d.modClk f).rns = d.rns := rfl
@[simp] theorem Device.modClk_out (f : Clk → Clk) : (d.modClk f).out = d.out := rfl
@[simp] theorem Device.modClk_freeCtr (f : Clk → Clk) : (d.modClk f).freeCtr = d.freeCtr := rfl

/-! ### modPower -/

@[simp] theorem Device.modPower_ident (f : Power → Power) : (d.modPower f).ident = d.ident := rfl
@[simp] theorem Device.modPower_clk (f : Power → Power) : (d.modPower f).clk = d.clk := rfl
@[simp] theorem Device.modPower_lanes (f : Power → Power) : (d.modPower f).lanes = d.lanes := rfl
@[simp] theorem Device.modPower_power (f : Power → Power) : (d.modPower f).power = f d.power := rfl
@[simp] theorem Device.modPower_od (f : Power → Power) : (d.modPower f).od = d.od := rfl
@[simp] theorem Device.modPower_snaps (f : Power → Power) : (d.modPower f).snaps = d.snaps := rfl
@[simp] theorem Device.modPower_fabi (f : Power → Power) : (d.modPower f).fabi = d.fabi := rfl
@[simp] theorem Device.modPower_rings (f : Power → Power) : (d.modPower f).rings = d.rings := rfl
@[simp] theorem Device.modPower_seqs (f : Power → Power) : (d.modPower f).seqs = d.seqs := rfl
@[simp] theorem Device.modPower_gens (f : Power → Power) : (d.modPower f).gens = d.gens := rfl
@[simp] theorem Device.modPower_timers (f : Power → Power) : (d.modPower f).timers = d.timers := rfl
@[simp] theorem Device.modPower_flows (f : Power → Power) : (d.modPower f).flows = d.flows := rfl
@[simp] theorem Device.modPower_turn (f : Power → Power) : (d.modPower f).turn = d.turn := rfl
@[simp] theorem Device.modPower_acct (f : Power → Power) : (d.modPower f).acct = d.acct := rfl
@[simp] theorem Device.modPower_agg (f : Power → Power) : (d.modPower f).agg = d.agg := rfl
@[simp] theorem Device.modPower_groups (f : Power → Power) : (d.modPower f).groups = d.groups := rfl
@[simp] theorem Device.modPower_inflight (f : Power → Power) : (d.modPower f).inflight = d.inflight := rfl
@[simp] theorem Device.modPower_tgens (f : Power → Power) : (d.modPower f).tgens = d.tgens := rfl
@[simp] theorem Device.modPower_tiles (f : Power → Power) : (d.modPower f).tiles = d.tiles := rfl
@[simp] theorem Device.modPower_reclaimed (f : Power → Power) : (d.modPower f).reclaimed = d.reclaimed := rfl
@[simp] theorem Device.modPower_window (f : Power → Power) : (d.modPower f).window = d.window := rfl
@[simp] theorem Device.modPower_passEnd (f : Power → Power) : (d.modPower f).passEnd = d.passEnd := rfl
@[simp] theorem Device.modPower_stalledAway (f : Power → Power) : (d.modPower f).stalledAway = d.stalledAway := rfl
@[simp] theorem Device.modPower_units (f : Power → Power) : (d.modPower f).units = d.units := rfl
@[simp] theorem Device.modPower_ctx (f : Power → Power) : (d.modPower f).ctx = d.ctx := rfl
@[simp] theorem Device.modPower_sels (f : Power → Power) : (d.modPower f).sels = d.sels := rfl
@[simp] theorem Device.modPower_epochs (f : Power → Power) : (d.modPower f).epochs = d.epochs := rfl
@[simp] theorem Device.modPower_pubs (f : Power → Power) : (d.modPower f).pubs = d.pubs := rfl
@[simp] theorem Device.modPower_faults (f : Power → Power) : (d.modPower f).faults = d.faults := rfl
@[simp] theorem Device.modPower_cvc (f : Power → Power) : (d.modPower f).cvc = d.cvc := rfl
@[simp] theorem Device.modPower_trace (f : Power → Power) : (d.modPower f).trace = d.trace := rfl
@[simp] theorem Device.modPower_mgmt (f : Power → Power) : (d.modPower f).mgmt = d.mgmt := rfl
@[simp] theorem Device.modPower_rns (f : Power → Power) : (d.modPower f).rns = d.rns := rfl
@[simp] theorem Device.modPower_out (f : Power → Power) : (d.modPower f).out = d.out := rfl
@[simp] theorem Device.modPower_freeCtr (f : Power → Power) : (d.modPower f).freeCtr = d.freeCtr := rfl

/-! ### modTurn -/

@[simp] theorem Device.modTurn_ident (f : Turnstile → Turnstile) : (d.modTurn f).ident = d.ident := rfl
@[simp] theorem Device.modTurn_clk (f : Turnstile → Turnstile) : (d.modTurn f).clk = d.clk := rfl
@[simp] theorem Device.modTurn_lanes (f : Turnstile → Turnstile) : (d.modTurn f).lanes = d.lanes := rfl
@[simp] theorem Device.modTurn_power (f : Turnstile → Turnstile) : (d.modTurn f).power = d.power := rfl
@[simp] theorem Device.modTurn_od (f : Turnstile → Turnstile) : (d.modTurn f).od = d.od := rfl
@[simp] theorem Device.modTurn_snaps (f : Turnstile → Turnstile) : (d.modTurn f).snaps = d.snaps := rfl
@[simp] theorem Device.modTurn_fabi (f : Turnstile → Turnstile) : (d.modTurn f).fabi = d.fabi := rfl
@[simp] theorem Device.modTurn_rings (f : Turnstile → Turnstile) : (d.modTurn f).rings = d.rings := rfl
@[simp] theorem Device.modTurn_seqs (f : Turnstile → Turnstile) : (d.modTurn f).seqs = d.seqs := rfl
@[simp] theorem Device.modTurn_gens (f : Turnstile → Turnstile) : (d.modTurn f).gens = d.gens := rfl
@[simp] theorem Device.modTurn_timers (f : Turnstile → Turnstile) : (d.modTurn f).timers = d.timers := rfl
@[simp] theorem Device.modTurn_flows (f : Turnstile → Turnstile) : (d.modTurn f).flows = d.flows := rfl
@[simp] theorem Device.modTurn_turn (f : Turnstile → Turnstile) : (d.modTurn f).turn = f d.turn := rfl
@[simp] theorem Device.modTurn_acct (f : Turnstile → Turnstile) : (d.modTurn f).acct = d.acct := rfl
@[simp] theorem Device.modTurn_agg (f : Turnstile → Turnstile) : (d.modTurn f).agg = d.agg := rfl
@[simp] theorem Device.modTurn_groups (f : Turnstile → Turnstile) : (d.modTurn f).groups = d.groups := rfl
@[simp] theorem Device.modTurn_inflight (f : Turnstile → Turnstile) : (d.modTurn f).inflight = d.inflight := rfl
@[simp] theorem Device.modTurn_tgens (f : Turnstile → Turnstile) : (d.modTurn f).tgens = d.tgens := rfl
@[simp] theorem Device.modTurn_tiles (f : Turnstile → Turnstile) : (d.modTurn f).tiles = d.tiles := rfl
@[simp] theorem Device.modTurn_reclaimed (f : Turnstile → Turnstile) : (d.modTurn f).reclaimed = d.reclaimed := rfl
@[simp] theorem Device.modTurn_window (f : Turnstile → Turnstile) : (d.modTurn f).window = d.window := rfl
@[simp] theorem Device.modTurn_passEnd (f : Turnstile → Turnstile) : (d.modTurn f).passEnd = d.passEnd := rfl
@[simp] theorem Device.modTurn_stalledAway (f : Turnstile → Turnstile) : (d.modTurn f).stalledAway = d.stalledAway := rfl
@[simp] theorem Device.modTurn_units (f : Turnstile → Turnstile) : (d.modTurn f).units = d.units := rfl
@[simp] theorem Device.modTurn_ctx (f : Turnstile → Turnstile) : (d.modTurn f).ctx = d.ctx := rfl
@[simp] theorem Device.modTurn_sels (f : Turnstile → Turnstile) : (d.modTurn f).sels = d.sels := rfl
@[simp] theorem Device.modTurn_epochs (f : Turnstile → Turnstile) : (d.modTurn f).epochs = d.epochs := rfl
@[simp] theorem Device.modTurn_pubs (f : Turnstile → Turnstile) : (d.modTurn f).pubs = d.pubs := rfl
@[simp] theorem Device.modTurn_faults (f : Turnstile → Turnstile) : (d.modTurn f).faults = d.faults := rfl
@[simp] theorem Device.modTurn_cvc (f : Turnstile → Turnstile) : (d.modTurn f).cvc = d.cvc := rfl
@[simp] theorem Device.modTurn_trace (f : Turnstile → Turnstile) : (d.modTurn f).trace = d.trace := rfl
@[simp] theorem Device.modTurn_mgmt (f : Turnstile → Turnstile) : (d.modTurn f).mgmt = d.mgmt := rfl
@[simp] theorem Device.modTurn_rns (f : Turnstile → Turnstile) : (d.modTurn f).rns = d.rns := rfl
@[simp] theorem Device.modTurn_out (f : Turnstile → Turnstile) : (d.modTurn f).out = d.out := rfl
@[simp] theorem Device.modTurn_freeCtr (f : Turnstile → Turnstile) : (d.modTurn f).freeCtr = d.freeCtr := rfl

/-! ### modAgg -/

@[simp] theorem Device.modAgg_ident (f : Aggregation → Aggregation) : (d.modAgg f).ident = d.ident := rfl
@[simp] theorem Device.modAgg_clk (f : Aggregation → Aggregation) : (d.modAgg f).clk = d.clk := rfl
@[simp] theorem Device.modAgg_lanes (f : Aggregation → Aggregation) : (d.modAgg f).lanes = d.lanes := rfl
@[simp] theorem Device.modAgg_power (f : Aggregation → Aggregation) : (d.modAgg f).power = d.power := rfl
@[simp] theorem Device.modAgg_od (f : Aggregation → Aggregation) : (d.modAgg f).od = d.od := rfl
@[simp] theorem Device.modAgg_snaps (f : Aggregation → Aggregation) : (d.modAgg f).snaps = d.snaps := rfl
@[simp] theorem Device.modAgg_fabi (f : Aggregation → Aggregation) : (d.modAgg f).fabi = d.fabi := rfl
@[simp] theorem Device.modAgg_rings (f : Aggregation → Aggregation) : (d.modAgg f).rings = d.rings := rfl
@[simp] theorem Device.modAgg_seqs (f : Aggregation → Aggregation) : (d.modAgg f).seqs = d.seqs := rfl
@[simp] theorem Device.modAgg_gens (f : Aggregation → Aggregation) : (d.modAgg f).gens = d.gens := rfl
@[simp] theorem Device.modAgg_timers (f : Aggregation → Aggregation) : (d.modAgg f).timers = d.timers := rfl
@[simp] theorem Device.modAgg_flows (f : Aggregation → Aggregation) : (d.modAgg f).flows = d.flows := rfl
@[simp] theorem Device.modAgg_turn (f : Aggregation → Aggregation) : (d.modAgg f).turn = d.turn := rfl
@[simp] theorem Device.modAgg_acct (f : Aggregation → Aggregation) : (d.modAgg f).acct = d.acct := rfl
@[simp] theorem Device.modAgg_agg (f : Aggregation → Aggregation) : (d.modAgg f).agg = f d.agg := rfl
@[simp] theorem Device.modAgg_groups (f : Aggregation → Aggregation) : (d.modAgg f).groups = d.groups := rfl
@[simp] theorem Device.modAgg_inflight (f : Aggregation → Aggregation) : (d.modAgg f).inflight = d.inflight := rfl
@[simp] theorem Device.modAgg_tgens (f : Aggregation → Aggregation) : (d.modAgg f).tgens = d.tgens := rfl
@[simp] theorem Device.modAgg_tiles (f : Aggregation → Aggregation) : (d.modAgg f).tiles = d.tiles := rfl
@[simp] theorem Device.modAgg_reclaimed (f : Aggregation → Aggregation) : (d.modAgg f).reclaimed = d.reclaimed := rfl
@[simp] theorem Device.modAgg_window (f : Aggregation → Aggregation) : (d.modAgg f).window = d.window := rfl
@[simp] theorem Device.modAgg_passEnd (f : Aggregation → Aggregation) : (d.modAgg f).passEnd = d.passEnd := rfl
@[simp] theorem Device.modAgg_stalledAway (f : Aggregation → Aggregation) : (d.modAgg f).stalledAway = d.stalledAway := rfl
@[simp] theorem Device.modAgg_units (f : Aggregation → Aggregation) : (d.modAgg f).units = d.units := rfl
@[simp] theorem Device.modAgg_ctx (f : Aggregation → Aggregation) : (d.modAgg f).ctx = d.ctx := rfl
@[simp] theorem Device.modAgg_sels (f : Aggregation → Aggregation) : (d.modAgg f).sels = d.sels := rfl
@[simp] theorem Device.modAgg_epochs (f : Aggregation → Aggregation) : (d.modAgg f).epochs = d.epochs := rfl
@[simp] theorem Device.modAgg_pubs (f : Aggregation → Aggregation) : (d.modAgg f).pubs = d.pubs := rfl
@[simp] theorem Device.modAgg_faults (f : Aggregation → Aggregation) : (d.modAgg f).faults = d.faults := rfl
@[simp] theorem Device.modAgg_cvc (f : Aggregation → Aggregation) : (d.modAgg f).cvc = d.cvc := rfl
@[simp] theorem Device.modAgg_trace (f : Aggregation → Aggregation) : (d.modAgg f).trace = d.trace := rfl
@[simp] theorem Device.modAgg_mgmt (f : Aggregation → Aggregation) : (d.modAgg f).mgmt = d.mgmt := rfl
@[simp] theorem Device.modAgg_rns (f : Aggregation → Aggregation) : (d.modAgg f).rns = d.rns := rfl
@[simp] theorem Device.modAgg_out (f : Aggregation → Aggregation) : (d.modAgg f).out = d.out := rfl
@[simp] theorem Device.modAgg_freeCtr (f : Aggregation → Aggregation) : (d.modAgg f).freeCtr = d.freeCtr := rfl

/-! ### modCtx -/

@[simp] theorem Device.modCtx_ident (f : Ctx → Ctx) : (d.modCtx f).ident = d.ident := rfl
@[simp] theorem Device.modCtx_clk (f : Ctx → Ctx) : (d.modCtx f).clk = d.clk := rfl
@[simp] theorem Device.modCtx_lanes (f : Ctx → Ctx) : (d.modCtx f).lanes = d.lanes := rfl
@[simp] theorem Device.modCtx_power (f : Ctx → Ctx) : (d.modCtx f).power = d.power := rfl
@[simp] theorem Device.modCtx_od (f : Ctx → Ctx) : (d.modCtx f).od = d.od := rfl
@[simp] theorem Device.modCtx_snaps (f : Ctx → Ctx) : (d.modCtx f).snaps = d.snaps := rfl
@[simp] theorem Device.modCtx_fabi (f : Ctx → Ctx) : (d.modCtx f).fabi = d.fabi := rfl
@[simp] theorem Device.modCtx_rings (f : Ctx → Ctx) : (d.modCtx f).rings = d.rings := rfl
@[simp] theorem Device.modCtx_seqs (f : Ctx → Ctx) : (d.modCtx f).seqs = d.seqs := rfl
@[simp] theorem Device.modCtx_gens (f : Ctx → Ctx) : (d.modCtx f).gens = d.gens := rfl
@[simp] theorem Device.modCtx_timers (f : Ctx → Ctx) : (d.modCtx f).timers = d.timers := rfl
@[simp] theorem Device.modCtx_flows (f : Ctx → Ctx) : (d.modCtx f).flows = d.flows := rfl
@[simp] theorem Device.modCtx_turn (f : Ctx → Ctx) : (d.modCtx f).turn = d.turn := rfl
@[simp] theorem Device.modCtx_acct (f : Ctx → Ctx) : (d.modCtx f).acct = d.acct := rfl
@[simp] theorem Device.modCtx_agg (f : Ctx → Ctx) : (d.modCtx f).agg = d.agg := rfl
@[simp] theorem Device.modCtx_groups (f : Ctx → Ctx) : (d.modCtx f).groups = d.groups := rfl
@[simp] theorem Device.modCtx_inflight (f : Ctx → Ctx) : (d.modCtx f).inflight = d.inflight := rfl
@[simp] theorem Device.modCtx_tgens (f : Ctx → Ctx) : (d.modCtx f).tgens = d.tgens := rfl
@[simp] theorem Device.modCtx_tiles (f : Ctx → Ctx) : (d.modCtx f).tiles = d.tiles := rfl
@[simp] theorem Device.modCtx_reclaimed (f : Ctx → Ctx) : (d.modCtx f).reclaimed = d.reclaimed := rfl
@[simp] theorem Device.modCtx_window (f : Ctx → Ctx) : (d.modCtx f).window = d.window := rfl
@[simp] theorem Device.modCtx_passEnd (f : Ctx → Ctx) : (d.modCtx f).passEnd = d.passEnd := rfl
@[simp] theorem Device.modCtx_stalledAway (f : Ctx → Ctx) : (d.modCtx f).stalledAway = d.stalledAway := rfl
@[simp] theorem Device.modCtx_units (f : Ctx → Ctx) : (d.modCtx f).units = d.units := rfl
@[simp] theorem Device.modCtx_ctx (f : Ctx → Ctx) : (d.modCtx f).ctx = f d.ctx := rfl
@[simp] theorem Device.modCtx_sels (f : Ctx → Ctx) : (d.modCtx f).sels = d.sels := rfl
@[simp] theorem Device.modCtx_epochs (f : Ctx → Ctx) : (d.modCtx f).epochs = d.epochs := rfl
@[simp] theorem Device.modCtx_pubs (f : Ctx → Ctx) : (d.modCtx f).pubs = d.pubs := rfl
@[simp] theorem Device.modCtx_faults (f : Ctx → Ctx) : (d.modCtx f).faults = d.faults := rfl
@[simp] theorem Device.modCtx_cvc (f : Ctx → Ctx) : (d.modCtx f).cvc = d.cvc := rfl
@[simp] theorem Device.modCtx_trace (f : Ctx → Ctx) : (d.modCtx f).trace = d.trace := rfl
@[simp] theorem Device.modCtx_mgmt (f : Ctx → Ctx) : (d.modCtx f).mgmt = d.mgmt := rfl
@[simp] theorem Device.modCtx_rns (f : Ctx → Ctx) : (d.modCtx f).rns = d.rns := rfl
@[simp] theorem Device.modCtx_out (f : Ctx → Ctx) : (d.modCtx f).out = d.out := rfl
@[simp] theorem Device.modCtx_freeCtr (f : Ctx → Ctx) : (d.modCtx f).freeCtr = d.freeCtr := rfl

/-! ### modFaults -/

@[simp] theorem Device.modFaults_ident (f : Faults → Faults) : (d.modFaults f).ident = d.ident := rfl
@[simp] theorem Device.modFaults_clk (f : Faults → Faults) : (d.modFaults f).clk = d.clk := rfl
@[simp] theorem Device.modFaults_lanes (f : Faults → Faults) : (d.modFaults f).lanes = d.lanes := rfl
@[simp] theorem Device.modFaults_power (f : Faults → Faults) : (d.modFaults f).power = d.power := rfl
@[simp] theorem Device.modFaults_od (f : Faults → Faults) : (d.modFaults f).od = d.od := rfl
@[simp] theorem Device.modFaults_snaps (f : Faults → Faults) : (d.modFaults f).snaps = d.snaps := rfl
@[simp] theorem Device.modFaults_fabi (f : Faults → Faults) : (d.modFaults f).fabi = d.fabi := rfl
@[simp] theorem Device.modFaults_rings (f : Faults → Faults) : (d.modFaults f).rings = d.rings := rfl
@[simp] theorem Device.modFaults_seqs (f : Faults → Faults) : (d.modFaults f).seqs = d.seqs := rfl
@[simp] theorem Device.modFaults_gens (f : Faults → Faults) : (d.modFaults f).gens = d.gens := rfl
@[simp] theorem Device.modFaults_timers (f : Faults → Faults) : (d.modFaults f).timers = d.timers := rfl
@[simp] theorem Device.modFaults_flows (f : Faults → Faults) : (d.modFaults f).flows = d.flows := rfl
@[simp] theorem Device.modFaults_turn (f : Faults → Faults) : (d.modFaults f).turn = d.turn := rfl
@[simp] theorem Device.modFaults_acct (f : Faults → Faults) : (d.modFaults f).acct = d.acct := rfl
@[simp] theorem Device.modFaults_agg (f : Faults → Faults) : (d.modFaults f).agg = d.agg := rfl
@[simp] theorem Device.modFaults_groups (f : Faults → Faults) : (d.modFaults f).groups = d.groups := rfl
@[simp] theorem Device.modFaults_inflight (f : Faults → Faults) : (d.modFaults f).inflight = d.inflight := rfl
@[simp] theorem Device.modFaults_tgens (f : Faults → Faults) : (d.modFaults f).tgens = d.tgens := rfl
@[simp] theorem Device.modFaults_tiles (f : Faults → Faults) : (d.modFaults f).tiles = d.tiles := rfl
@[simp] theorem Device.modFaults_reclaimed (f : Faults → Faults) : (d.modFaults f).reclaimed = d.reclaimed := rfl
@[simp] theorem Device.modFaults_window (f : Faults → Faults) : (d.modFaults f).window = d.window := rfl
@[simp] theorem Device.modFaults_passEnd (f : Faults → Faults) : (d.modFaults f).passEnd = d.passEnd := rfl
@[simp] theorem Device.modFaults_stalledAway (f : Faults → Faults) : (d.modFaults f).stalledAway = d.stalledAway := rfl
@[simp] theorem Device.modFaults_units (f : Faults → Faults) : (d.modFaults f).units = d.units := rfl
@[simp] theorem Device.modFaults_ctx (f : Faults → Faults) : (d.modFaults f).ctx = d.ctx := rfl
@[simp] theorem Device.modFaults_sels (f : Faults → Faults) : (d.modFaults f).sels = d.sels := rfl
@[simp] theorem Device.modFaults_epochs (f : Faults → Faults) : (d.modFaults f).epochs = d.epochs := rfl
@[simp] theorem Device.modFaults_pubs (f : Faults → Faults) : (d.modFaults f).pubs = d.pubs := rfl
@[simp] theorem Device.modFaults_faults (f : Faults → Faults) : (d.modFaults f).faults = f d.faults := rfl
@[simp] theorem Device.modFaults_cvc (f : Faults → Faults) : (d.modFaults f).cvc = d.cvc := rfl
@[simp] theorem Device.modFaults_trace (f : Faults → Faults) : (d.modFaults f).trace = d.trace := rfl
@[simp] theorem Device.modFaults_mgmt (f : Faults → Faults) : (d.modFaults f).mgmt = d.mgmt := rfl
@[simp] theorem Device.modFaults_rns (f : Faults → Faults) : (d.modFaults f).rns = d.rns := rfl
@[simp] theorem Device.modFaults_out (f : Faults → Faults) : (d.modFaults f).out = d.out := rfl
@[simp] theorem Device.modFaults_freeCtr (f : Faults → Faults) : (d.modFaults f).freeCtr = d.freeCtr := rfl

/-! ### modTrace -/

@[simp] theorem Device.modTrace_ident (f : Trace → Trace) : (d.modTrace f).ident = d.ident := rfl
@[simp] theorem Device.modTrace_clk (f : Trace → Trace) : (d.modTrace f).clk = d.clk := rfl
@[simp] theorem Device.modTrace_lanes (f : Trace → Trace) : (d.modTrace f).lanes = d.lanes := rfl
@[simp] theorem Device.modTrace_power (f : Trace → Trace) : (d.modTrace f).power = d.power := rfl
@[simp] theorem Device.modTrace_od (f : Trace → Trace) : (d.modTrace f).od = d.od := rfl
@[simp] theorem Device.modTrace_snaps (f : Trace → Trace) : (d.modTrace f).snaps = d.snaps := rfl
@[simp] theorem Device.modTrace_fabi (f : Trace → Trace) : (d.modTrace f).fabi = d.fabi := rfl
@[simp] theorem Device.modTrace_rings (f : Trace → Trace) : (d.modTrace f).rings = d.rings := rfl
@[simp] theorem Device.modTrace_seqs (f : Trace → Trace) : (d.modTrace f).seqs = d.seqs := rfl
@[simp] theorem Device.modTrace_gens (f : Trace → Trace) : (d.modTrace f).gens = d.gens := rfl
@[simp] theorem Device.modTrace_timers (f : Trace → Trace) : (d.modTrace f).timers = d.timers := rfl
@[simp] theorem Device.modTrace_flows (f : Trace → Trace) : (d.modTrace f).flows = d.flows := rfl
@[simp] theorem Device.modTrace_turn (f : Trace → Trace) : (d.modTrace f).turn = d.turn := rfl
@[simp] theorem Device.modTrace_acct (f : Trace → Trace) : (d.modTrace f).acct = d.acct := rfl
@[simp] theorem Device.modTrace_agg (f : Trace → Trace) : (d.modTrace f).agg = d.agg := rfl
@[simp] theorem Device.modTrace_groups (f : Trace → Trace) : (d.modTrace f).groups = d.groups := rfl
@[simp] theorem Device.modTrace_inflight (f : Trace → Trace) : (d.modTrace f).inflight = d.inflight := rfl
@[simp] theorem Device.modTrace_tgens (f : Trace → Trace) : (d.modTrace f).tgens = d.tgens := rfl
@[simp] theorem Device.modTrace_tiles (f : Trace → Trace) : (d.modTrace f).tiles = d.tiles := rfl
@[simp] theorem Device.modTrace_reclaimed (f : Trace → Trace) : (d.modTrace f).reclaimed = d.reclaimed := rfl
@[simp] theorem Device.modTrace_window (f : Trace → Trace) : (d.modTrace f).window = d.window := rfl
@[simp] theorem Device.modTrace_passEnd (f : Trace → Trace) : (d.modTrace f).passEnd = d.passEnd := rfl
@[simp] theorem Device.modTrace_stalledAway (f : Trace → Trace) : (d.modTrace f).stalledAway = d.stalledAway := rfl
@[simp] theorem Device.modTrace_units (f : Trace → Trace) : (d.modTrace f).units = d.units := rfl
@[simp] theorem Device.modTrace_ctx (f : Trace → Trace) : (d.modTrace f).ctx = d.ctx := rfl
@[simp] theorem Device.modTrace_sels (f : Trace → Trace) : (d.modTrace f).sels = d.sels := rfl
@[simp] theorem Device.modTrace_epochs (f : Trace → Trace) : (d.modTrace f).epochs = d.epochs := rfl
@[simp] theorem Device.modTrace_pubs (f : Trace → Trace) : (d.modTrace f).pubs = d.pubs := rfl
@[simp] theorem Device.modTrace_faults (f : Trace → Trace) : (d.modTrace f).faults = d.faults := rfl
@[simp] theorem Device.modTrace_cvc (f : Trace → Trace) : (d.modTrace f).cvc = d.cvc := rfl
@[simp] theorem Device.modTrace_trace (f : Trace → Trace) : (d.modTrace f).trace = f d.trace := rfl
@[simp] theorem Device.modTrace_mgmt (f : Trace → Trace) : (d.modTrace f).mgmt = d.mgmt := rfl
@[simp] theorem Device.modTrace_rns (f : Trace → Trace) : (d.modTrace f).rns = d.rns := rfl
@[simp] theorem Device.modTrace_out (f : Trace → Trace) : (d.modTrace f).out = d.out := rfl
@[simp] theorem Device.modTrace_freeCtr (f : Trace → Trace) : (d.modTrace f).freeCtr = d.freeCtr := rfl

/-! ### modMgmt -/

@[simp] theorem Device.modMgmt_ident (f : Mgmt → Mgmt) : (d.modMgmt f).ident = d.ident := rfl
@[simp] theorem Device.modMgmt_clk (f : Mgmt → Mgmt) : (d.modMgmt f).clk = d.clk := rfl
@[simp] theorem Device.modMgmt_lanes (f : Mgmt → Mgmt) : (d.modMgmt f).lanes = d.lanes := rfl
@[simp] theorem Device.modMgmt_power (f : Mgmt → Mgmt) : (d.modMgmt f).power = d.power := rfl
@[simp] theorem Device.modMgmt_od (f : Mgmt → Mgmt) : (d.modMgmt f).od = d.od := rfl
@[simp] theorem Device.modMgmt_snaps (f : Mgmt → Mgmt) : (d.modMgmt f).snaps = d.snaps := rfl
@[simp] theorem Device.modMgmt_fabi (f : Mgmt → Mgmt) : (d.modMgmt f).fabi = d.fabi := rfl
@[simp] theorem Device.modMgmt_rings (f : Mgmt → Mgmt) : (d.modMgmt f).rings = d.rings := rfl
@[simp] theorem Device.modMgmt_seqs (f : Mgmt → Mgmt) : (d.modMgmt f).seqs = d.seqs := rfl
@[simp] theorem Device.modMgmt_gens (f : Mgmt → Mgmt) : (d.modMgmt f).gens = d.gens := rfl
@[simp] theorem Device.modMgmt_timers (f : Mgmt → Mgmt) : (d.modMgmt f).timers = d.timers := rfl
@[simp] theorem Device.modMgmt_flows (f : Mgmt → Mgmt) : (d.modMgmt f).flows = d.flows := rfl
@[simp] theorem Device.modMgmt_turn (f : Mgmt → Mgmt) : (d.modMgmt f).turn = d.turn := rfl
@[simp] theorem Device.modMgmt_acct (f : Mgmt → Mgmt) : (d.modMgmt f).acct = d.acct := rfl
@[simp] theorem Device.modMgmt_agg (f : Mgmt → Mgmt) : (d.modMgmt f).agg = d.agg := rfl
@[simp] theorem Device.modMgmt_groups (f : Mgmt → Mgmt) : (d.modMgmt f).groups = d.groups := rfl
@[simp] theorem Device.modMgmt_inflight (f : Mgmt → Mgmt) : (d.modMgmt f).inflight = d.inflight := rfl
@[simp] theorem Device.modMgmt_tgens (f : Mgmt → Mgmt) : (d.modMgmt f).tgens = d.tgens := rfl
@[simp] theorem Device.modMgmt_tiles (f : Mgmt → Mgmt) : (d.modMgmt f).tiles = d.tiles := rfl
@[simp] theorem Device.modMgmt_reclaimed (f : Mgmt → Mgmt) : (d.modMgmt f).reclaimed = d.reclaimed := rfl
@[simp] theorem Device.modMgmt_window (f : Mgmt → Mgmt) : (d.modMgmt f).window = d.window := rfl
@[simp] theorem Device.modMgmt_passEnd (f : Mgmt → Mgmt) : (d.modMgmt f).passEnd = d.passEnd := rfl
@[simp] theorem Device.modMgmt_stalledAway (f : Mgmt → Mgmt) : (d.modMgmt f).stalledAway = d.stalledAway := rfl
@[simp] theorem Device.modMgmt_units (f : Mgmt → Mgmt) : (d.modMgmt f).units = d.units := rfl
@[simp] theorem Device.modMgmt_ctx (f : Mgmt → Mgmt) : (d.modMgmt f).ctx = d.ctx := rfl
@[simp] theorem Device.modMgmt_sels (f : Mgmt → Mgmt) : (d.modMgmt f).sels = d.sels := rfl
@[simp] theorem Device.modMgmt_epochs (f : Mgmt → Mgmt) : (d.modMgmt f).epochs = d.epochs := rfl
@[simp] theorem Device.modMgmt_pubs (f : Mgmt → Mgmt) : (d.modMgmt f).pubs = d.pubs := rfl
@[simp] theorem Device.modMgmt_faults (f : Mgmt → Mgmt) : (d.modMgmt f).faults = d.faults := rfl
@[simp] theorem Device.modMgmt_cvc (f : Mgmt → Mgmt) : (d.modMgmt f).cvc = d.cvc := rfl
@[simp] theorem Device.modMgmt_trace (f : Mgmt → Mgmt) : (d.modMgmt f).trace = d.trace := rfl
@[simp] theorem Device.modMgmt_mgmt (f : Mgmt → Mgmt) : (d.modMgmt f).mgmt = f d.mgmt := rfl
@[simp] theorem Device.modMgmt_rns (f : Mgmt → Mgmt) : (d.modMgmt f).rns = d.rns := rfl
@[simp] theorem Device.modMgmt_out (f : Mgmt → Mgmt) : (d.modMgmt f).out = d.out := rfl
@[simp] theorem Device.modMgmt_freeCtr (f : Mgmt → Mgmt) : (d.modMgmt f).freeCtr = d.freeCtr := rfl

/-! ### modCvc -/

@[simp] theorem Device.modCvc_ident (f : Cvc → Cvc) : (d.modCvc f).ident = d.ident := rfl
@[simp] theorem Device.modCvc_clk (f : Cvc → Cvc) : (d.modCvc f).clk = d.clk := rfl
@[simp] theorem Device.modCvc_lanes (f : Cvc → Cvc) : (d.modCvc f).lanes = d.lanes := rfl
@[simp] theorem Device.modCvc_power (f : Cvc → Cvc) : (d.modCvc f).power = d.power := rfl
@[simp] theorem Device.modCvc_od (f : Cvc → Cvc) : (d.modCvc f).od = d.od := rfl
@[simp] theorem Device.modCvc_snaps (f : Cvc → Cvc) : (d.modCvc f).snaps = d.snaps := rfl
@[simp] theorem Device.modCvc_fabi (f : Cvc → Cvc) : (d.modCvc f).fabi = d.fabi := rfl
@[simp] theorem Device.modCvc_rings (f : Cvc → Cvc) : (d.modCvc f).rings = d.rings := rfl
@[simp] theorem Device.modCvc_seqs (f : Cvc → Cvc) : (d.modCvc f).seqs = d.seqs := rfl
@[simp] theorem Device.modCvc_gens (f : Cvc → Cvc) : (d.modCvc f).gens = d.gens := rfl
@[simp] theorem Device.modCvc_timers (f : Cvc → Cvc) : (d.modCvc f).timers = d.timers := rfl
@[simp] theorem Device.modCvc_flows (f : Cvc → Cvc) : (d.modCvc f).flows = d.flows := rfl
@[simp] theorem Device.modCvc_turn (f : Cvc → Cvc) : (d.modCvc f).turn = d.turn := rfl
@[simp] theorem Device.modCvc_acct (f : Cvc → Cvc) : (d.modCvc f).acct = d.acct := rfl
@[simp] theorem Device.modCvc_agg (f : Cvc → Cvc) : (d.modCvc f).agg = d.agg := rfl
@[simp] theorem Device.modCvc_groups (f : Cvc → Cvc) : (d.modCvc f).groups = d.groups := rfl
@[simp] theorem Device.modCvc_inflight (f : Cvc → Cvc) : (d.modCvc f).inflight = d.inflight := rfl
@[simp] theorem Device.modCvc_tgens (f : Cvc → Cvc) : (d.modCvc f).tgens = d.tgens := rfl
@[simp] theorem Device.modCvc_tiles (f : Cvc → Cvc) : (d.modCvc f).tiles = d.tiles := rfl
@[simp] theorem Device.modCvc_reclaimed (f : Cvc → Cvc) : (d.modCvc f).reclaimed = d.reclaimed := rfl
@[simp] theorem Device.modCvc_window (f : Cvc → Cvc) : (d.modCvc f).window = d.window := rfl
@[simp] theorem Device.modCvc_passEnd (f : Cvc → Cvc) : (d.modCvc f).passEnd = d.passEnd := rfl
@[simp] theorem Device.modCvc_stalledAway (f : Cvc → Cvc) : (d.modCvc f).stalledAway = d.stalledAway := rfl
@[simp] theorem Device.modCvc_units (f : Cvc → Cvc) : (d.modCvc f).units = d.units := rfl
@[simp] theorem Device.modCvc_ctx (f : Cvc → Cvc) : (d.modCvc f).ctx = d.ctx := rfl
@[simp] theorem Device.modCvc_sels (f : Cvc → Cvc) : (d.modCvc f).sels = d.sels := rfl
@[simp] theorem Device.modCvc_epochs (f : Cvc → Cvc) : (d.modCvc f).epochs = d.epochs := rfl
@[simp] theorem Device.modCvc_pubs (f : Cvc → Cvc) : (d.modCvc f).pubs = d.pubs := rfl
@[simp] theorem Device.modCvc_faults (f : Cvc → Cvc) : (d.modCvc f).faults = d.faults := rfl
@[simp] theorem Device.modCvc_cvc (f : Cvc → Cvc) : (d.modCvc f).cvc = f d.cvc := rfl
@[simp] theorem Device.modCvc_trace (f : Cvc → Cvc) : (d.modCvc f).trace = d.trace := rfl
@[simp] theorem Device.modCvc_mgmt (f : Cvc → Cvc) : (d.modCvc f).mgmt = d.mgmt := rfl
@[simp] theorem Device.modCvc_rns (f : Cvc → Cvc) : (d.modCvc f).rns = d.rns := rfl
@[simp] theorem Device.modCvc_out (f : Cvc → Cvc) : (d.modCvc f).out = d.out := rfl
@[simp] theorem Device.modCvc_freeCtr (f : Cvc → Cvc) : (d.modCvc f).freeCtr = d.freeCtr := rfl

/-! ### modRing -/

@[simp] theorem Device.modRing_ident (p : Nat) (f : Ring → Ring) : (d.modRing p f).ident = d.ident := rfl
@[simp] theorem Device.modRing_clk (p : Nat) (f : Ring → Ring) : (d.modRing p f).clk = d.clk := rfl
@[simp] theorem Device.modRing_lanes (p : Nat) (f : Ring → Ring) : (d.modRing p f).lanes = d.lanes := rfl
@[simp] theorem Device.modRing_power (p : Nat) (f : Ring → Ring) : (d.modRing p f).power = d.power := rfl
@[simp] theorem Device.modRing_od (p : Nat) (f : Ring → Ring) : (d.modRing p f).od = d.od := rfl
@[simp] theorem Device.modRing_snaps (p : Nat) (f : Ring → Ring) : (d.modRing p f).snaps = d.snaps := rfl
@[simp] theorem Device.modRing_fabi (p : Nat) (f : Ring → Ring) : (d.modRing p f).fabi = d.fabi := rfl
@[simp] theorem Device.modRing_rings (p : Nat) (f : Ring → Ring) : (d.modRing p f).rings = Map.put d.rings p (f (d.ring p)) := rfl
@[simp] theorem Device.modRing_seqs (p : Nat) (f : Ring → Ring) : (d.modRing p f).seqs = d.seqs := rfl
@[simp] theorem Device.modRing_gens (p : Nat) (f : Ring → Ring) : (d.modRing p f).gens = d.gens := rfl
@[simp] theorem Device.modRing_timers (p : Nat) (f : Ring → Ring) : (d.modRing p f).timers = d.timers := rfl
@[simp] theorem Device.modRing_flows (p : Nat) (f : Ring → Ring) : (d.modRing p f).flows = d.flows := rfl
@[simp] theorem Device.modRing_turn (p : Nat) (f : Ring → Ring) : (d.modRing p f).turn = d.turn := rfl
@[simp] theorem Device.modRing_acct (p : Nat) (f : Ring → Ring) : (d.modRing p f).acct = d.acct := rfl
@[simp] theorem Device.modRing_agg (p : Nat) (f : Ring → Ring) : (d.modRing p f).agg = d.agg := rfl
@[simp] theorem Device.modRing_groups (p : Nat) (f : Ring → Ring) : (d.modRing p f).groups = d.groups := rfl
@[simp] theorem Device.modRing_inflight (p : Nat) (f : Ring → Ring) : (d.modRing p f).inflight = d.inflight := rfl
@[simp] theorem Device.modRing_tgens (p : Nat) (f : Ring → Ring) : (d.modRing p f).tgens = d.tgens := rfl
@[simp] theorem Device.modRing_tiles (p : Nat) (f : Ring → Ring) : (d.modRing p f).tiles = d.tiles := rfl
@[simp] theorem Device.modRing_reclaimed (p : Nat) (f : Ring → Ring) : (d.modRing p f).reclaimed = d.reclaimed := rfl
@[simp] theorem Device.modRing_window (p : Nat) (f : Ring → Ring) : (d.modRing p f).window = d.window := rfl
@[simp] theorem Device.modRing_passEnd (p : Nat) (f : Ring → Ring) : (d.modRing p f).passEnd = d.passEnd := rfl
@[simp] theorem Device.modRing_stalledAway (p : Nat) (f : Ring → Ring) : (d.modRing p f).stalledAway = d.stalledAway := rfl
@[simp] theorem Device.modRing_units (p : Nat) (f : Ring → Ring) : (d.modRing p f).units = d.units := rfl
@[simp] theorem Device.modRing_ctx (p : Nat) (f : Ring → Ring) : (d.modRing p f).ctx = d.ctx := rfl
@[simp] theorem Device.modRing_sels (p : Nat) (f : Ring → Ring) : (d.modRing p f).sels = d.sels := rfl
@[simp] theorem Device.modRing_epochs (p : Nat) (f : Ring → Ring) : (d.modRing p f).epochs = d.epochs := rfl
@[simp] theorem Device.modRing_pubs (p : Nat) (f : Ring → Ring) : (d.modRing p f).pubs = d.pubs := rfl
@[simp] theorem Device.modRing_faults (p : Nat) (f : Ring → Ring) : (d.modRing p f).faults = d.faults := rfl
@[simp] theorem Device.modRing_cvc (p : Nat) (f : Ring → Ring) : (d.modRing p f).cvc = d.cvc := rfl
@[simp] theorem Device.modRing_trace (p : Nat) (f : Ring → Ring) : (d.modRing p f).trace = d.trace := rfl
@[simp] theorem Device.modRing_mgmt (p : Nat) (f : Ring → Ring) : (d.modRing p f).mgmt = d.mgmt := rfl
@[simp] theorem Device.modRing_rns (p : Nat) (f : Ring → Ring) : (d.modRing p f).rns = d.rns := rfl
@[simp] theorem Device.modRing_out (p : Nat) (f : Ring → Ring) : (d.modRing p f).out = d.out := rfl
@[simp] theorem Device.modRing_freeCtr (p : Nat) (f : Ring → Ring) : (d.modRing p f).freeCtr = d.freeCtr := rfl

/-! ### modSeq -/

@[simp] theorem Device.modSeq_ident (i : Nat) (f : Seq → Seq) : (d.modSeq i f).ident = d.ident := rfl
@[simp] theorem Device.modSeq_clk (i : Nat) (f : Seq → Seq) : (d.modSeq i f).clk = d.clk := rfl
@[simp] theorem Device.modSeq_lanes (i : Nat) (f : Seq → Seq) : (d.modSeq i f).lanes = d.lanes := rfl
@[simp] theorem Device.modSeq_power (i : Nat) (f : Seq → Seq) : (d.modSeq i f).power = d.power := rfl
@[simp] theorem Device.modSeq_od (i : Nat) (f : Seq → Seq) : (d.modSeq i f).od = d.od := rfl
@[simp] theorem Device.modSeq_snaps (i : Nat) (f : Seq → Seq) : (d.modSeq i f).snaps = d.snaps := rfl
@[simp] theorem Device.modSeq_fabi (i : Nat) (f : Seq → Seq) : (d.modSeq i f).fabi = d.fabi := rfl
@[simp] theorem Device.modSeq_rings (i : Nat) (f : Seq → Seq) : (d.modSeq i f).rings = d.rings := rfl
@[simp] theorem Device.modSeq_seqs (i : Nat) (f : Seq → Seq) : (d.modSeq i f).seqs = Map.mod d.seqs i f := rfl
@[simp] theorem Device.modSeq_gens (i : Nat) (f : Seq → Seq) : (d.modSeq i f).gens = d.gens := rfl
@[simp] theorem Device.modSeq_timers (i : Nat) (f : Seq → Seq) : (d.modSeq i f).timers = d.timers := rfl
@[simp] theorem Device.modSeq_flows (i : Nat) (f : Seq → Seq) : (d.modSeq i f).flows = d.flows := rfl
@[simp] theorem Device.modSeq_turn (i : Nat) (f : Seq → Seq) : (d.modSeq i f).turn = d.turn := rfl
@[simp] theorem Device.modSeq_acct (i : Nat) (f : Seq → Seq) : (d.modSeq i f).acct = d.acct := rfl
@[simp] theorem Device.modSeq_agg (i : Nat) (f : Seq → Seq) : (d.modSeq i f).agg = d.agg := rfl
@[simp] theorem Device.modSeq_groups (i : Nat) (f : Seq → Seq) : (d.modSeq i f).groups = d.groups := rfl
@[simp] theorem Device.modSeq_inflight (i : Nat) (f : Seq → Seq) : (d.modSeq i f).inflight = d.inflight := rfl
@[simp] theorem Device.modSeq_tgens (i : Nat) (f : Seq → Seq) : (d.modSeq i f).tgens = d.tgens := rfl
@[simp] theorem Device.modSeq_tiles (i : Nat) (f : Seq → Seq) : (d.modSeq i f).tiles = d.tiles := rfl
@[simp] theorem Device.modSeq_reclaimed (i : Nat) (f : Seq → Seq) : (d.modSeq i f).reclaimed = d.reclaimed := rfl
@[simp] theorem Device.modSeq_window (i : Nat) (f : Seq → Seq) : (d.modSeq i f).window = d.window := rfl
@[simp] theorem Device.modSeq_passEnd (i : Nat) (f : Seq → Seq) : (d.modSeq i f).passEnd = d.passEnd := rfl
@[simp] theorem Device.modSeq_stalledAway (i : Nat) (f : Seq → Seq) : (d.modSeq i f).stalledAway = d.stalledAway := rfl
@[simp] theorem Device.modSeq_units (i : Nat) (f : Seq → Seq) : (d.modSeq i f).units = d.units := rfl
@[simp] theorem Device.modSeq_ctx (i : Nat) (f : Seq → Seq) : (d.modSeq i f).ctx = d.ctx := rfl
@[simp] theorem Device.modSeq_sels (i : Nat) (f : Seq → Seq) : (d.modSeq i f).sels = d.sels := rfl
@[simp] theorem Device.modSeq_epochs (i : Nat) (f : Seq → Seq) : (d.modSeq i f).epochs = d.epochs := rfl
@[simp] theorem Device.modSeq_pubs (i : Nat) (f : Seq → Seq) : (d.modSeq i f).pubs = d.pubs := rfl
@[simp] theorem Device.modSeq_faults (i : Nat) (f : Seq → Seq) : (d.modSeq i f).faults = d.faults := rfl
@[simp] theorem Device.modSeq_cvc (i : Nat) (f : Seq → Seq) : (d.modSeq i f).cvc = d.cvc := rfl
@[simp] theorem Device.modSeq_trace (i : Nat) (f : Seq → Seq) : (d.modSeq i f).trace = d.trace := rfl
@[simp] theorem Device.modSeq_mgmt (i : Nat) (f : Seq → Seq) : (d.modSeq i f).mgmt = d.mgmt := rfl
@[simp] theorem Device.modSeq_rns (i : Nat) (f : Seq → Seq) : (d.modSeq i f).rns = d.rns := rfl
@[simp] theorem Device.modSeq_out (i : Nat) (f : Seq → Seq) : (d.modSeq i f).out = d.out := rfl
@[simp] theorem Device.modSeq_freeCtr (i : Nat) (f : Seq → Seq) : (d.modSeq i f).freeCtr = d.freeCtr := rfl

/-! ### putSeq -/

@[simp] theorem Device.putSeq_ident (i : Nat) (q : Seq) : (d.putSeq i q).ident = d.ident := rfl
@[simp] theorem Device.putSeq_clk (i : Nat) (q : Seq) : (d.putSeq i q).clk = d.clk := rfl
@[simp] theorem Device.putSeq_lanes (i : Nat) (q : Seq) : (d.putSeq i q).lanes = d.lanes := rfl
@[simp] theorem Device.putSeq_power (i : Nat) (q : Seq) : (d.putSeq i q).power = d.power := rfl
@[simp] theorem Device.putSeq_od (i : Nat) (q : Seq) : (d.putSeq i q).od = d.od := rfl
@[simp] theorem Device.putSeq_snaps (i : Nat) (q : Seq) : (d.putSeq i q).snaps = d.snaps := rfl
@[simp] theorem Device.putSeq_fabi (i : Nat) (q : Seq) : (d.putSeq i q).fabi = d.fabi := rfl
@[simp] theorem Device.putSeq_rings (i : Nat) (q : Seq) : (d.putSeq i q).rings = d.rings := rfl
@[simp] theorem Device.putSeq_seqs (i : Nat) (q : Seq) : (d.putSeq i q).seqs = Map.put d.seqs i q := rfl
@[simp] theorem Device.putSeq_gens (i : Nat) (q : Seq) : (d.putSeq i q).gens = d.gens := rfl
@[simp] theorem Device.putSeq_timers (i : Nat) (q : Seq) : (d.putSeq i q).timers = d.timers := rfl
@[simp] theorem Device.putSeq_flows (i : Nat) (q : Seq) : (d.putSeq i q).flows = d.flows := rfl
@[simp] theorem Device.putSeq_turn (i : Nat) (q : Seq) : (d.putSeq i q).turn = d.turn := rfl
@[simp] theorem Device.putSeq_acct (i : Nat) (q : Seq) : (d.putSeq i q).acct = d.acct := rfl
@[simp] theorem Device.putSeq_agg (i : Nat) (q : Seq) : (d.putSeq i q).agg = d.agg := rfl
@[simp] theorem Device.putSeq_groups (i : Nat) (q : Seq) : (d.putSeq i q).groups = d.groups := rfl
@[simp] theorem Device.putSeq_inflight (i : Nat) (q : Seq) : (d.putSeq i q).inflight = d.inflight := rfl
@[simp] theorem Device.putSeq_tgens (i : Nat) (q : Seq) : (d.putSeq i q).tgens = d.tgens := rfl
@[simp] theorem Device.putSeq_tiles (i : Nat) (q : Seq) : (d.putSeq i q).tiles = d.tiles := rfl
@[simp] theorem Device.putSeq_reclaimed (i : Nat) (q : Seq) : (d.putSeq i q).reclaimed = d.reclaimed := rfl
@[simp] theorem Device.putSeq_window (i : Nat) (q : Seq) : (d.putSeq i q).window = d.window := rfl
@[simp] theorem Device.putSeq_passEnd (i : Nat) (q : Seq) : (d.putSeq i q).passEnd = d.passEnd := rfl
@[simp] theorem Device.putSeq_stalledAway (i : Nat) (q : Seq) : (d.putSeq i q).stalledAway = d.stalledAway := rfl
@[simp] theorem Device.putSeq_units (i : Nat) (q : Seq) : (d.putSeq i q).units = d.units := rfl
@[simp] theorem Device.putSeq_ctx (i : Nat) (q : Seq) : (d.putSeq i q).ctx = d.ctx := rfl
@[simp] theorem Device.putSeq_sels (i : Nat) (q : Seq) : (d.putSeq i q).sels = d.sels := rfl
@[simp] theorem Device.putSeq_epochs (i : Nat) (q : Seq) : (d.putSeq i q).epochs = d.epochs := rfl
@[simp] theorem Device.putSeq_pubs (i : Nat) (q : Seq) : (d.putSeq i q).pubs = d.pubs := rfl
@[simp] theorem Device.putSeq_faults (i : Nat) (q : Seq) : (d.putSeq i q).faults = d.faults := rfl
@[simp] theorem Device.putSeq_cvc (i : Nat) (q : Seq) : (d.putSeq i q).cvc = d.cvc := rfl
@[simp] theorem Device.putSeq_trace (i : Nat) (q : Seq) : (d.putSeq i q).trace = d.trace := rfl
@[simp] theorem Device.putSeq_mgmt (i : Nat) (q : Seq) : (d.putSeq i q).mgmt = d.mgmt := rfl
@[simp] theorem Device.putSeq_rns (i : Nat) (q : Seq) : (d.putSeq i q).rns = d.rns := rfl
@[simp] theorem Device.putSeq_out (i : Nat) (q : Seq) : (d.putSeq i q).out = d.out := rfl
@[simp] theorem Device.putSeq_freeCtr (i : Nat) (q : Seq) : (d.putSeq i q).freeCtr = d.freeCtr := rfl

/-! ### modGroup -/

@[simp] theorem Device.modGroup_ident (g : Nat) (f : Group → Group) : (d.modGroup g f).ident = d.ident := rfl
@[simp] theorem Device.modGroup_clk (g : Nat) (f : Group → Group) : (d.modGroup g f).clk = d.clk := rfl
@[simp] theorem Device.modGroup_lanes (g : Nat) (f : Group → Group) : (d.modGroup g f).lanes = d.lanes := rfl
@[simp] theorem Device.modGroup_power (g : Nat) (f : Group → Group) : (d.modGroup g f).power = d.power := rfl
@[simp] theorem Device.modGroup_od (g : Nat) (f : Group → Group) : (d.modGroup g f).od = d.od := rfl
@[simp] theorem Device.modGroup_snaps (g : Nat) (f : Group → Group) : (d.modGroup g f).snaps = d.snaps := rfl
@[simp] theorem Device.modGroup_fabi (g : Nat) (f : Group → Group) : (d.modGroup g f).fabi = d.fabi := rfl
@[simp] theorem Device.modGroup_rings (g : Nat) (f : Group → Group) : (d.modGroup g f).rings = d.rings := rfl
@[simp] theorem Device.modGroup_seqs (g : Nat) (f : Group → Group) : (d.modGroup g f).seqs = d.seqs := rfl
@[simp] theorem Device.modGroup_gens (g : Nat) (f : Group → Group) : (d.modGroup g f).gens = d.gens := rfl
@[simp] theorem Device.modGroup_timers (g : Nat) (f : Group → Group) : (d.modGroup g f).timers = d.timers := rfl
@[simp] theorem Device.modGroup_flows (g : Nat) (f : Group → Group) : (d.modGroup g f).flows = d.flows := rfl
@[simp] theorem Device.modGroup_turn (g : Nat) (f : Group → Group) : (d.modGroup g f).turn = d.turn := rfl
@[simp] theorem Device.modGroup_acct (g : Nat) (f : Group → Group) : (d.modGroup g f).acct = d.acct := rfl
@[simp] theorem Device.modGroup_agg (g : Nat) (f : Group → Group) : (d.modGroup g f).agg = d.agg := rfl
@[simp] theorem Device.modGroup_groups (g : Nat) (f : Group → Group) : (d.modGroup g f).groups = Map.put d.groups g (f (d.group g)) := rfl
@[simp] theorem Device.modGroup_inflight (g : Nat) (f : Group → Group) : (d.modGroup g f).inflight = d.inflight := rfl
@[simp] theorem Device.modGroup_tgens (g : Nat) (f : Group → Group) : (d.modGroup g f).tgens = d.tgens := rfl
@[simp] theorem Device.modGroup_tiles (g : Nat) (f : Group → Group) : (d.modGroup g f).tiles = d.tiles := rfl
@[simp] theorem Device.modGroup_reclaimed (g : Nat) (f : Group → Group) : (d.modGroup g f).reclaimed = d.reclaimed := rfl
@[simp] theorem Device.modGroup_window (g : Nat) (f : Group → Group) : (d.modGroup g f).window = d.window := rfl
@[simp] theorem Device.modGroup_passEnd (g : Nat) (f : Group → Group) : (d.modGroup g f).passEnd = d.passEnd := rfl
@[simp] theorem Device.modGroup_stalledAway (g : Nat) (f : Group → Group) : (d.modGroup g f).stalledAway = d.stalledAway := rfl
@[simp] theorem Device.modGroup_units (g : Nat) (f : Group → Group) : (d.modGroup g f).units = d.units := rfl
@[simp] theorem Device.modGroup_ctx (g : Nat) (f : Group → Group) : (d.modGroup g f).ctx = d.ctx := rfl
@[simp] theorem Device.modGroup_sels (g : Nat) (f : Group → Group) : (d.modGroup g f).sels = d.sels := rfl
@[simp] theorem Device.modGroup_epochs (g : Nat) (f : Group → Group) : (d.modGroup g f).epochs = d.epochs := rfl
@[simp] theorem Device.modGroup_pubs (g : Nat) (f : Group → Group) : (d.modGroup g f).pubs = d.pubs := rfl
@[simp] theorem Device.modGroup_faults (g : Nat) (f : Group → Group) : (d.modGroup g f).faults = d.faults := rfl
@[simp] theorem Device.modGroup_cvc (g : Nat) (f : Group → Group) : (d.modGroup g f).cvc = d.cvc := rfl
@[simp] theorem Device.modGroup_trace (g : Nat) (f : Group → Group) : (d.modGroup g f).trace = d.trace := rfl
@[simp] theorem Device.modGroup_mgmt (g : Nat) (f : Group → Group) : (d.modGroup g f).mgmt = d.mgmt := rfl
@[simp] theorem Device.modGroup_rns (g : Nat) (f : Group → Group) : (d.modGroup g f).rns = d.rns := rfl
@[simp] theorem Device.modGroup_out (g : Nat) (f : Group → Group) : (d.modGroup g f).out = d.out := rfl
@[simp] theorem Device.modGroup_freeCtr (g : Nat) (f : Group → Group) : (d.modGroup g f).freeCtr = d.freeCtr := rfl

/-! ### modTile -/

@[simp] theorem Device.modTile_ident (i : Nat) (f : Tile → Tile) : (d.modTile i f).ident = d.ident := rfl
@[simp] theorem Device.modTile_clk (i : Nat) (f : Tile → Tile) : (d.modTile i f).clk = d.clk := rfl
@[simp] theorem Device.modTile_lanes (i : Nat) (f : Tile → Tile) : (d.modTile i f).lanes = d.lanes := rfl
@[simp] theorem Device.modTile_power (i : Nat) (f : Tile → Tile) : (d.modTile i f).power = d.power := rfl
@[simp] theorem Device.modTile_od (i : Nat) (f : Tile → Tile) : (d.modTile i f).od = d.od := rfl
@[simp] theorem Device.modTile_snaps (i : Nat) (f : Tile → Tile) : (d.modTile i f).snaps = d.snaps := rfl
@[simp] theorem Device.modTile_fabi (i : Nat) (f : Tile → Tile) : (d.modTile i f).fabi = d.fabi := rfl
@[simp] theorem Device.modTile_rings (i : Nat) (f : Tile → Tile) : (d.modTile i f).rings = d.rings := rfl
@[simp] theorem Device.modTile_seqs (i : Nat) (f : Tile → Tile) : (d.modTile i f).seqs = d.seqs := rfl
@[simp] theorem Device.modTile_gens (i : Nat) (f : Tile → Tile) : (d.modTile i f).gens = d.gens := rfl
@[simp] theorem Device.modTile_timers (i : Nat) (f : Tile → Tile) : (d.modTile i f).timers = d.timers := rfl
@[simp] theorem Device.modTile_flows (i : Nat) (f : Tile → Tile) : (d.modTile i f).flows = d.flows := rfl
@[simp] theorem Device.modTile_turn (i : Nat) (f : Tile → Tile) : (d.modTile i f).turn = d.turn := rfl
@[simp] theorem Device.modTile_acct (i : Nat) (f : Tile → Tile) : (d.modTile i f).acct = d.acct := rfl
@[simp] theorem Device.modTile_agg (i : Nat) (f : Tile → Tile) : (d.modTile i f).agg = d.agg := rfl
@[simp] theorem Device.modTile_groups (i : Nat) (f : Tile → Tile) : (d.modTile i f).groups = d.groups := rfl
@[simp] theorem Device.modTile_inflight (i : Nat) (f : Tile → Tile) : (d.modTile i f).inflight = d.inflight := rfl
@[simp] theorem Device.modTile_tgens (i : Nat) (f : Tile → Tile) : (d.modTile i f).tgens = d.tgens := rfl
@[simp] theorem Device.modTile_tiles (i : Nat) (f : Tile → Tile) : (d.modTile i f).tiles = Map.put d.tiles i (f (d.tile i)) := rfl
@[simp] theorem Device.modTile_reclaimed (i : Nat) (f : Tile → Tile) : (d.modTile i f).reclaimed = d.reclaimed := rfl
@[simp] theorem Device.modTile_window (i : Nat) (f : Tile → Tile) : (d.modTile i f).window = d.window := rfl
@[simp] theorem Device.modTile_passEnd (i : Nat) (f : Tile → Tile) : (d.modTile i f).passEnd = d.passEnd := rfl
@[simp] theorem Device.modTile_stalledAway (i : Nat) (f : Tile → Tile) : (d.modTile i f).stalledAway = d.stalledAway := rfl
@[simp] theorem Device.modTile_units (i : Nat) (f : Tile → Tile) : (d.modTile i f).units = d.units := rfl
@[simp] theorem Device.modTile_ctx (i : Nat) (f : Tile → Tile) : (d.modTile i f).ctx = d.ctx := rfl
@[simp] theorem Device.modTile_sels (i : Nat) (f : Tile → Tile) : (d.modTile i f).sels = d.sels := rfl
@[simp] theorem Device.modTile_epochs (i : Nat) (f : Tile → Tile) : (d.modTile i f).epochs = d.epochs := rfl
@[simp] theorem Device.modTile_pubs (i : Nat) (f : Tile → Tile) : (d.modTile i f).pubs = d.pubs := rfl
@[simp] theorem Device.modTile_faults (i : Nat) (f : Tile → Tile) : (d.modTile i f).faults = d.faults := rfl
@[simp] theorem Device.modTile_cvc (i : Nat) (f : Tile → Tile) : (d.modTile i f).cvc = d.cvc := rfl
@[simp] theorem Device.modTile_trace (i : Nat) (f : Tile → Tile) : (d.modTile i f).trace = d.trace := rfl
@[simp] theorem Device.modTile_mgmt (i : Nat) (f : Tile → Tile) : (d.modTile i f).mgmt = d.mgmt := rfl
@[simp] theorem Device.modTile_rns (i : Nat) (f : Tile → Tile) : (d.modTile i f).rns = d.rns := rfl
@[simp] theorem Device.modTile_out (i : Nat) (f : Tile → Tile) : (d.modTile i f).out = d.out := rfl
@[simp] theorem Device.modTile_freeCtr (i : Nat) (f : Tile → Tile) : (d.modTile i f).freeCtr = d.freeCtr := rfl

/-! ### modClient -/

@[simp] theorem Device.modClient_ident (c : Nat) (f : Acct → Acct) : (d.modClient c f).ident = d.ident := rfl
@[simp] theorem Device.modClient_clk (c : Nat) (f : Acct → Acct) : (d.modClient c f).clk = d.clk := rfl
@[simp] theorem Device.modClient_lanes (c : Nat) (f : Acct → Acct) : (d.modClient c f).lanes = d.lanes := rfl
@[simp] theorem Device.modClient_power (c : Nat) (f : Acct → Acct) : (d.modClient c f).power = d.power := rfl
@[simp] theorem Device.modClient_od (c : Nat) (f : Acct → Acct) : (d.modClient c f).od = d.od := rfl
@[simp] theorem Device.modClient_snaps (c : Nat) (f : Acct → Acct) : (d.modClient c f).snaps = d.snaps := rfl
@[simp] theorem Device.modClient_fabi (c : Nat) (f : Acct → Acct) : (d.modClient c f).fabi = d.fabi := rfl
@[simp] theorem Device.modClient_rings (c : Nat) (f : Acct → Acct) : (d.modClient c f).rings = d.rings := rfl
@[simp] theorem Device.modClient_seqs (c : Nat) (f : Acct → Acct) : (d.modClient c f).seqs = d.seqs := rfl
@[simp] theorem Device.modClient_gens (c : Nat) (f : Acct → Acct) : (d.modClient c f).gens = d.gens := rfl
@[simp] theorem Device.modClient_timers (c : Nat) (f : Acct → Acct) : (d.modClient c f).timers = d.timers := rfl
@[simp] theorem Device.modClient_flows (c : Nat) (f : Acct → Acct) : (d.modClient c f).flows = d.flows := rfl
@[simp] theorem Device.modClient_turn (c : Nat) (f : Acct → Acct) : (d.modClient c f).turn = d.turn := rfl
@[simp] theorem Device.modClient_acct (c : Nat) (f : Acct → Acct) : (d.modClient c f).acct = Map.put d.acct c (f (d.client c)) := rfl
@[simp] theorem Device.modClient_agg (c : Nat) (f : Acct → Acct) : (d.modClient c f).agg = d.agg := rfl
@[simp] theorem Device.modClient_groups (c : Nat) (f : Acct → Acct) : (d.modClient c f).groups = d.groups := rfl
@[simp] theorem Device.modClient_inflight (c : Nat) (f : Acct → Acct) : (d.modClient c f).inflight = d.inflight := rfl
@[simp] theorem Device.modClient_tgens (c : Nat) (f : Acct → Acct) : (d.modClient c f).tgens = d.tgens := rfl
@[simp] theorem Device.modClient_tiles (c : Nat) (f : Acct → Acct) : (d.modClient c f).tiles = d.tiles := rfl
@[simp] theorem Device.modClient_reclaimed (c : Nat) (f : Acct → Acct) : (d.modClient c f).reclaimed = d.reclaimed := rfl
@[simp] theorem Device.modClient_window (c : Nat) (f : Acct → Acct) : (d.modClient c f).window = d.window := rfl
@[simp] theorem Device.modClient_passEnd (c : Nat) (f : Acct → Acct) : (d.modClient c f).passEnd = d.passEnd := rfl
@[simp] theorem Device.modClient_stalledAway (c : Nat) (f : Acct → Acct) : (d.modClient c f).stalledAway = d.stalledAway := rfl
@[simp] theorem Device.modClient_units (c : Nat) (f : Acct → Acct) : (d.modClient c f).units = d.units := rfl
@[simp] theorem Device.modClient_ctx (c : Nat) (f : Acct → Acct) : (d.modClient c f).ctx = d.ctx := rfl
@[simp] theorem Device.modClient_sels (c : Nat) (f : Acct → Acct) : (d.modClient c f).sels = d.sels := rfl
@[simp] theorem Device.modClient_epochs (c : Nat) (f : Acct → Acct) : (d.modClient c f).epochs = d.epochs := rfl
@[simp] theorem Device.modClient_pubs (c : Nat) (f : Acct → Acct) : (d.modClient c f).pubs = d.pubs := rfl
@[simp] theorem Device.modClient_faults (c : Nat) (f : Acct → Acct) : (d.modClient c f).faults = d.faults := rfl
@[simp] theorem Device.modClient_cvc (c : Nat) (f : Acct → Acct) : (d.modClient c f).cvc = d.cvc := rfl
@[simp] theorem Device.modClient_trace (c : Nat) (f : Acct → Acct) : (d.modClient c f).trace = d.trace := rfl
@[simp] theorem Device.modClient_mgmt (c : Nat) (f : Acct → Acct) : (d.modClient c f).mgmt = d.mgmt := rfl
@[simp] theorem Device.modClient_rns (c : Nat) (f : Acct → Acct) : (d.modClient c f).rns = d.rns := rfl
@[simp] theorem Device.modClient_out (c : Nat) (f : Acct → Acct) : (d.modClient c f).out = d.out := rfl
@[simp] theorem Device.modClient_freeCtr (c : Nat) (f : Acct → Acct) : (d.modClient c f).freeCtr = d.freeCtr := rfl

/-! ### modInflight -/

@[simp] theorem Device.modInflight_ident (i : Nat) (f : InFlight → InFlight) : (d.modInflight i f).ident = d.ident := rfl
@[simp] theorem Device.modInflight_clk (i : Nat) (f : InFlight → InFlight) : (d.modInflight i f).clk = d.clk := rfl
@[simp] theorem Device.modInflight_lanes (i : Nat) (f : InFlight → InFlight) : (d.modInflight i f).lanes = d.lanes := rfl
@[simp] theorem Device.modInflight_power (i : Nat) (f : InFlight → InFlight) : (d.modInflight i f).power = d.power := rfl
@[simp] theorem Device.modInflight_od (i : Nat) (f : InFlight → InFlight) : (d.modInflight i f).od = d.od := rfl
@[simp] theorem Device.modInflight_snaps (i : Nat) (f : InFlight → InFlight) : (d.modInflight i f).snaps = d.snaps := rfl
@[simp] theorem Device.modInflight_fabi (i : Nat) (f : InFlight → InFlight) : (d.modInflight i f).fabi = d.fabi := rfl
@[simp] theorem Device.modInflight_rings (i : Nat) (f : InFlight → InFlight) : (d.modInflight i f).rings = d.rings := rfl
@[simp] theorem Device.modInflight_seqs (i : Nat) (f : InFlight → InFlight) : (d.modInflight i f).seqs = d.seqs := rfl
@[simp] theorem Device.modInflight_gens (i : Nat) (f : InFlight → InFlight) : (d.modInflight i f).gens = d.gens := rfl
@[simp] theorem Device.modInflight_timers (i : Nat) (f : InFlight → InFlight) : (d.modInflight i f).timers = d.timers := rfl
@[simp] theorem Device.modInflight_flows (i : Nat) (f : InFlight → InFlight) : (d.modInflight i f).flows = d.flows := rfl
@[simp] theorem Device.modInflight_turn (i : Nat) (f : InFlight → InFlight) : (d.modInflight i f).turn = d.turn := rfl
@[simp] theorem Device.modInflight_acct (i : Nat) (f : InFlight → InFlight) : (d.modInflight i f).acct = d.acct := rfl
@[simp] theorem Device.modInflight_agg (i : Nat) (f : InFlight → InFlight) : (d.modInflight i f).agg = d.agg := rfl
@[simp] theorem Device.modInflight_groups (i : Nat) (f : InFlight → InFlight) : (d.modInflight i f).groups = d.groups := rfl
@[simp] theorem Device.modInflight_inflight (i : Nat) (f : InFlight → InFlight) : (d.modInflight i f).inflight = Map.mod d.inflight i f := rfl
@[simp] theorem Device.modInflight_tgens (i : Nat) (f : InFlight → InFlight) : (d.modInflight i f).tgens = d.tgens := rfl
@[simp] theorem Device.modInflight_tiles (i : Nat) (f : InFlight → InFlight) : (d.modInflight i f).tiles = d.tiles := rfl
@[simp] theorem Device.modInflight_reclaimed (i : Nat) (f : InFlight → InFlight) : (d.modInflight i f).reclaimed = d.reclaimed := rfl
@[simp] theorem Device.modInflight_window (i : Nat) (f : InFlight → InFlight) : (d.modInflight i f).window = d.window := rfl
@[simp] theorem Device.modInflight_passEnd (i : Nat) (f : InFlight → InFlight) : (d.modInflight i f).passEnd = d.passEnd := rfl
@[simp] theorem Device.modInflight_stalledAway (i : Nat) (f : InFlight → InFlight) : (d.modInflight i f).stalledAway = d.stalledAway := rfl
@[simp] theorem Device.modInflight_units (i : Nat) (f : InFlight → InFlight) : (d.modInflight i f).units = d.units := rfl
@[simp] theorem Device.modInflight_ctx (i : Nat) (f : InFlight → InFlight) : (d.modInflight i f).ctx = d.ctx := rfl
@[simp] theorem Device.modInflight_sels (i : Nat) (f : InFlight → InFlight) : (d.modInflight i f).sels = d.sels := rfl
@[simp] theorem Device.modInflight_epochs (i : Nat) (f : InFlight → InFlight) : (d.modInflight i f).epochs = d.epochs := rfl
@[simp] theorem Device.modInflight_pubs (i : Nat) (f : InFlight → InFlight) : (d.modInflight i f).pubs = d.pubs := rfl
@[simp] theorem Device.modInflight_faults (i : Nat) (f : InFlight → InFlight) : (d.modInflight i f).faults = d.faults := rfl
@[simp] theorem Device.modInflight_cvc (i : Nat) (f : InFlight → InFlight) : (d.modInflight i f).cvc = d.cvc := rfl
@[simp] theorem Device.modInflight_trace (i : Nat) (f : InFlight → InFlight) : (d.modInflight i f).trace = d.trace := rfl
@[simp] theorem Device.modInflight_mgmt (i : Nat) (f : InFlight → InFlight) : (d.modInflight i f).mgmt = d.mgmt := rfl
@[simp] theorem Device.modInflight_rns (i : Nat) (f : InFlight → InFlight) : (d.modInflight i f).rns = d.rns := rfl
@[simp] theorem Device.modInflight_out (i : Nat) (f : InFlight → InFlight) : (d.modInflight i f).out = d.out := rfl
@[simp] theorem Device.modInflight_freeCtr (i : Nat) (f : InFlight → InFlight) : (d.modInflight i f).freeCtr = d.freeCtr := rfl

/-! ### odSet -/

@[simp] theorem odSet_ident (i j v : Nat) : (odSet d i j v).ident = d.ident := rfl
@[simp] theorem odSet_clk (i j v : Nat) : (odSet d i j v).clk = d.clk := rfl
@[simp] theorem odSet_lanes (i j v : Nat) : (odSet d i j v).lanes = d.lanes := rfl
@[simp] theorem odSet_power (i j v : Nat) : (odSet d i j v).power = d.power := rfl
@[simp] theorem odSet_snaps (i j v : Nat) : (odSet d i j v).snaps = d.snaps := rfl
@[simp] theorem odSet_fabi (i j v : Nat) : (odSet d i j v).fabi = d.fabi := rfl
@[simp] theorem odSet_rings (i j v : Nat) : (odSet d i j v).rings = d.rings := rfl
@[simp] theorem odSet_seqs (i j v : Nat) : (odSet d i j v).seqs = d.seqs := rfl
@[simp] theorem odSet_gens (i j v : Nat) : (odSet d i j v).gens = d.gens := rfl
@[simp] theorem odSet_timers (i j v : Nat) : (odSet d i j v).timers = d.timers := rfl
@[simp] theorem odSet_flows (i j v : Nat) : (odSet d i j v).flows = d.flows := rfl
@[simp] theorem odSet_turn (i j v : Nat) : (odSet d i j v).turn = d.turn := rfl
@[simp] theorem odSet_acct (i j v : Nat) : (odSet d i j v).acct = d.acct := rfl
@[simp] theorem odSet_agg (i j v : Nat) : (odSet d i j v).agg = d.agg := rfl
@[simp] theorem odSet_groups (i j v : Nat) : (odSet d i j v).groups = d.groups := rfl
@[simp] theorem odSet_inflight (i j v : Nat) : (odSet d i j v).inflight = d.inflight := rfl
@[simp] theorem odSet_tgens (i j v : Nat) : (odSet d i j v).tgens = d.tgens := rfl
@[simp] theorem odSet_tiles (i j v : Nat) : (odSet d i j v).tiles = d.tiles := rfl
@[simp] theorem odSet_reclaimed (i j v : Nat) : (odSet d i j v).reclaimed = d.reclaimed := rfl
@[simp] theorem odSet_window (i j v : Nat) : (odSet d i j v).window = d.window := rfl
@[simp] theorem odSet_passEnd (i j v : Nat) : (odSet d i j v).passEnd = d.passEnd := rfl
@[simp] theorem odSet_stalledAway (i j v : Nat) : (odSet d i j v).stalledAway = d.stalledAway := rfl
@[simp] theorem odSet_units (i j v : Nat) : (odSet d i j v).units = d.units := rfl
@[simp] theorem odSet_ctx (i j v : Nat) : (odSet d i j v).ctx = d.ctx := rfl
@[simp] theorem odSet_sels (i j v : Nat) : (odSet d i j v).sels = d.sels := rfl
@[simp] theorem odSet_epochs (i j v : Nat) : (odSet d i j v).epochs = d.epochs := rfl
@[simp] theorem odSet_pubs (i j v : Nat) : (odSet d i j v).pubs = d.pubs := rfl
@[simp] theorem odSet_faults (i j v : Nat) : (odSet d i j v).faults = d.faults := rfl
@[simp] theorem odSet_cvc (i j v : Nat) : (odSet d i j v).cvc = d.cvc := rfl
@[simp] theorem odSet_trace (i j v : Nat) : (odSet d i j v).trace = d.trace := rfl
@[simp] theorem odSet_mgmt (i j v : Nat) : (odSet d i j v).mgmt = d.mgmt := rfl
@[simp] theorem odSet_rns (i j v : Nat) : (odSet d i j v).rns = d.rns := rfl
@[simp] theorem odSet_out (i j v : Nat) : (odSet d i j v).out = d.out := rfl
@[simp] theorem odSet_freeCtr (i j v : Nat) : (odSet d i j v).freeCtr = d.freeCtr := rfl

/-! ### sinceSnap -/

@[simp] theorem sinceSnap_ident (i j n : Nat) : (sinceSnap d i j n).ident = d.ident := rfl
@[simp] theorem sinceSnap_clk (i j n : Nat) : (sinceSnap d i j n).clk = d.clk := rfl
@[simp] theorem sinceSnap_lanes (i j n : Nat) : (sinceSnap d i j n).lanes = d.lanes := rfl
@[simp] theorem sinceSnap_power (i j n : Nat) : (sinceSnap d i j n).power = d.power := rfl
@[simp] theorem sinceSnap_od (i j n : Nat) : (sinceSnap d i j n).od = d.od := rfl
@[simp] theorem sinceSnap_fabi (i j n : Nat) : (sinceSnap d i j n).fabi = d.fabi := rfl
@[simp] theorem sinceSnap_rings (i j n : Nat) : (sinceSnap d i j n).rings = d.rings := rfl
@[simp] theorem sinceSnap_seqs (i j n : Nat) : (sinceSnap d i j n).seqs = d.seqs := rfl
@[simp] theorem sinceSnap_gens (i j n : Nat) : (sinceSnap d i j n).gens = d.gens := rfl
@[simp] theorem sinceSnap_timers (i j n : Nat) : (sinceSnap d i j n).timers = d.timers := rfl
@[simp] theorem sinceSnap_flows (i j n : Nat) : (sinceSnap d i j n).flows = d.flows := rfl
@[simp] theorem sinceSnap_turn (i j n : Nat) : (sinceSnap d i j n).turn = d.turn := rfl
@[simp] theorem sinceSnap_acct (i j n : Nat) : (sinceSnap d i j n).acct = d.acct := rfl
@[simp] theorem sinceSnap_agg (i j n : Nat) : (sinceSnap d i j n).agg = d.agg := rfl
@[simp] theorem sinceSnap_groups (i j n : Nat) : (sinceSnap d i j n).groups = d.groups := rfl
@[simp] theorem sinceSnap_inflight (i j n : Nat) : (sinceSnap d i j n).inflight = d.inflight := rfl
@[simp] theorem sinceSnap_tgens (i j n : Nat) : (sinceSnap d i j n).tgens = d.tgens := rfl
@[simp] theorem sinceSnap_tiles (i j n : Nat) : (sinceSnap d i j n).tiles = d.tiles := rfl
@[simp] theorem sinceSnap_reclaimed (i j n : Nat) : (sinceSnap d i j n).reclaimed = d.reclaimed := rfl
@[simp] theorem sinceSnap_window (i j n : Nat) : (sinceSnap d i j n).window = d.window := rfl
@[simp] theorem sinceSnap_passEnd (i j n : Nat) : (sinceSnap d i j n).passEnd = d.passEnd := rfl
@[simp] theorem sinceSnap_stalledAway (i j n : Nat) : (sinceSnap d i j n).stalledAway = d.stalledAway := rfl
@[simp] theorem sinceSnap_units (i j n : Nat) : (sinceSnap d i j n).units = d.units := rfl
@[simp] theorem sinceSnap_ctx (i j n : Nat) : (sinceSnap d i j n).ctx = d.ctx := rfl
@[simp] theorem sinceSnap_sels (i j n : Nat) : (sinceSnap d i j n).sels = d.sels := rfl
@[simp] theorem sinceSnap_epochs (i j n : Nat) : (sinceSnap d i j n).epochs = d.epochs := rfl
@[simp] theorem sinceSnap_pubs (i j n : Nat) : (sinceSnap d i j n).pubs = d.pubs := rfl
@[simp] theorem sinceSnap_faults (i j n : Nat) : (sinceSnap d i j n).faults = d.faults := rfl
@[simp] theorem sinceSnap_cvc (i j n : Nat) : (sinceSnap d i j n).cvc = d.cvc := rfl
@[simp] theorem sinceSnap_trace (i j n : Nat) : (sinceSnap d i j n).trace = d.trace := rfl
@[simp] theorem sinceSnap_mgmt (i j n : Nat) : (sinceSnap d i j n).mgmt = d.mgmt := rfl
@[simp] theorem sinceSnap_rns (i j n : Nat) : (sinceSnap d i j n).rns = d.rns := rfl
@[simp] theorem sinceSnap_out (i j n : Nat) : (sinceSnap d i j n).out = d.out := rfl
@[simp] theorem sinceSnap_freeCtr (i j n : Nat) : (sinceSnap d i j n).freeCtr = d.freeCtr := rfl

/-! ### bumpBy -/

@[simp] theorem bumpBy_ident (i j n : Nat) : (bumpBy d i j n).ident = d.ident := rfl
@[simp] theorem bumpBy_clk (i j n : Nat) : (bumpBy d i j n).clk = d.clk := rfl
@[simp] theorem bumpBy_lanes (i j n : Nat) : (bumpBy d i j n).lanes = d.lanes := rfl
@[simp] theorem bumpBy_power (i j n : Nat) : (bumpBy d i j n).power = d.power := rfl
@[simp] theorem bumpBy_fabi (i j n : Nat) : (bumpBy d i j n).fabi = d.fabi := rfl
@[simp] theorem bumpBy_rings (i j n : Nat) : (bumpBy d i j n).rings = d.rings := rfl
@[simp] theorem bumpBy_seqs (i j n : Nat) : (bumpBy d i j n).seqs = d.seqs := rfl
@[simp] theorem bumpBy_gens (i j n : Nat) : (bumpBy d i j n).gens = d.gens := rfl
@[simp] theorem bumpBy_timers (i j n : Nat) : (bumpBy d i j n).timers = d.timers := rfl
@[simp] theorem bumpBy_flows (i j n : Nat) : (bumpBy d i j n).flows = d.flows := rfl
@[simp] theorem bumpBy_turn (i j n : Nat) : (bumpBy d i j n).turn = d.turn := rfl
@[simp] theorem bumpBy_acct (i j n : Nat) : (bumpBy d i j n).acct = d.acct := rfl
@[simp] theorem bumpBy_agg (i j n : Nat) : (bumpBy d i j n).agg = d.agg := rfl
@[simp] theorem bumpBy_groups (i j n : Nat) : (bumpBy d i j n).groups = d.groups := rfl
@[simp] theorem bumpBy_inflight (i j n : Nat) : (bumpBy d i j n).inflight = d.inflight := rfl
@[simp] theorem bumpBy_tgens (i j n : Nat) : (bumpBy d i j n).tgens = d.tgens := rfl
@[simp] theorem bumpBy_tiles (i j n : Nat) : (bumpBy d i j n).tiles = d.tiles := rfl
@[simp] theorem bumpBy_reclaimed (i j n : Nat) : (bumpBy d i j n).reclaimed = d.reclaimed := rfl
@[simp] theorem bumpBy_window (i j n : Nat) : (bumpBy d i j n).window = d.window := rfl
@[simp] theorem bumpBy_passEnd (i j n : Nat) : (bumpBy d i j n).passEnd = d.passEnd := rfl
@[simp] theorem bumpBy_stalledAway (i j n : Nat) : (bumpBy d i j n).stalledAway = d.stalledAway := rfl
@[simp] theorem bumpBy_units (i j n : Nat) : (bumpBy d i j n).units = d.units := rfl
@[simp] theorem bumpBy_ctx (i j n : Nat) : (bumpBy d i j n).ctx = d.ctx := rfl
@[simp] theorem bumpBy_sels (i j n : Nat) : (bumpBy d i j n).sels = d.sels := rfl
@[simp] theorem bumpBy_epochs (i j n : Nat) : (bumpBy d i j n).epochs = d.epochs := rfl
@[simp] theorem bumpBy_pubs (i j n : Nat) : (bumpBy d i j n).pubs = d.pubs := rfl
@[simp] theorem bumpBy_faults (i j n : Nat) : (bumpBy d i j n).faults = d.faults := rfl
@[simp] theorem bumpBy_cvc (i j n : Nat) : (bumpBy d i j n).cvc = d.cvc := rfl
@[simp] theorem bumpBy_trace (i j n : Nat) : (bumpBy d i j n).trace = d.trace := rfl
@[simp] theorem bumpBy_mgmt (i j n : Nat) : (bumpBy d i j n).mgmt = d.mgmt := rfl
@[simp] theorem bumpBy_rns (i j n : Nat) : (bumpBy d i j n).rns = d.rns := rfl
@[simp] theorem bumpBy_out (i j n : Nat) : (bumpBy d i j n).out = d.out := rfl
@[simp] theorem bumpBy_freeCtr (i j n : Nat) : (bumpBy d i j n).freeCtr = d.freeCtr := rfl

/-! ### emit -/

@[simp] theorem emit_ident (o : Out) : (emit d o).ident = d.ident := rfl
@[simp] theorem emit_clk (o : Out) : (emit d o).clk = d.clk := rfl
@[simp] theorem emit_lanes (o : Out) : (emit d o).lanes = d.lanes := rfl
@[simp] theorem emit_power (o : Out) : (emit d o).power = d.power := rfl
@[simp] theorem emit_od (o : Out) : (emit d o).od = d.od := rfl
@[simp] theorem emit_snaps (o : Out) : (emit d o).snaps = d.snaps := rfl
@[simp] theorem emit_fabi (o : Out) : (emit d o).fabi = d.fabi := rfl
@[simp] theorem emit_rings (o : Out) : (emit d o).rings = d.rings := rfl
@[simp] theorem emit_seqs (o : Out) : (emit d o).seqs = d.seqs := rfl
@[simp] theorem emit_gens (o : Out) : (emit d o).gens = d.gens := rfl
@[simp] theorem emit_timers (o : Out) : (emit d o).timers = d.timers := rfl
@[simp] theorem emit_flows (o : Out) : (emit d o).flows = d.flows := rfl
@[simp] theorem emit_turn (o : Out) : (emit d o).turn = d.turn := rfl
@[simp] theorem emit_acct (o : Out) : (emit d o).acct = d.acct := rfl
@[simp] theorem emit_agg (o : Out) : (emit d o).agg = d.agg := rfl
@[simp] theorem emit_groups (o : Out) : (emit d o).groups = d.groups := rfl
@[simp] theorem emit_inflight (o : Out) : (emit d o).inflight = d.inflight := rfl
@[simp] theorem emit_tgens (o : Out) : (emit d o).tgens = d.tgens := rfl
@[simp] theorem emit_tiles (o : Out) : (emit d o).tiles = d.tiles := rfl
@[simp] theorem emit_reclaimed (o : Out) : (emit d o).reclaimed = d.reclaimed := rfl
@[simp] theorem emit_window (o : Out) : (emit d o).window = d.window := rfl
@[simp] theorem emit_passEnd (o : Out) : (emit d o).passEnd = d.passEnd := rfl
@[simp] theorem emit_stalledAway (o : Out) : (emit d o).stalledAway = d.stalledAway := rfl
@[simp] theorem emit_units (o : Out) : (emit d o).units = d.units := rfl
@[simp] theorem emit_ctx (o : Out) : (emit d o).ctx = d.ctx := rfl
@[simp] theorem emit_sels (o : Out) : (emit d o).sels = d.sels := rfl
@[simp] theorem emit_epochs (o : Out) : (emit d o).epochs = d.epochs := rfl
@[simp] theorem emit_pubs (o : Out) : (emit d o).pubs = d.pubs := rfl
@[simp] theorem emit_faults (o : Out) : (emit d o).faults = d.faults := rfl
@[simp] theorem emit_cvc (o : Out) : (emit d o).cvc = d.cvc := rfl
@[simp] theorem emit_trace (o : Out) : (emit d o).trace = d.trace := rfl
@[simp] theorem emit_mgmt (o : Out) : (emit d o).mgmt = d.mgmt := rfl
@[simp] theorem emit_rns (o : Out) : (emit d o).rns = d.rns := rfl
@[simp] theorem emit_out (o : Out) : (emit d o).out = d.out ++ [o] := rfl
@[simp] theorem emit_freeCtr (o : Out) : (emit d o).freeCtr = d.freeCtr := rfl

/-! ### fabiOut -/

@[simp] theorem fabiOut_ident (r : FabiReq) : (fabiOut d r).ident = d.ident := rfl
@[simp] theorem fabiOut_clk (r : FabiReq) : (fabiOut d r).clk = d.clk := rfl
@[simp] theorem fabiOut_lanes (r : FabiReq) : (fabiOut d r).lanes = d.lanes := rfl
@[simp] theorem fabiOut_power (r : FabiReq) : (fabiOut d r).power = d.power := rfl
@[simp] theorem fabiOut_od (r : FabiReq) : (fabiOut d r).od = d.od := rfl
@[simp] theorem fabiOut_snaps (r : FabiReq) : (fabiOut d r).snaps = d.snaps := rfl
@[simp] theorem fabiOut_rings (r : FabiReq) : (fabiOut d r).rings = d.rings := rfl
@[simp] theorem fabiOut_seqs (r : FabiReq) : (fabiOut d r).seqs = d.seqs := rfl
@[simp] theorem fabiOut_gens (r : FabiReq) : (fabiOut d r).gens = d.gens := rfl
@[simp] theorem fabiOut_timers (r : FabiReq) : (fabiOut d r).timers = d.timers := rfl
@[simp] theorem fabiOut_flows (r : FabiReq) : (fabiOut d r).flows = d.flows := rfl
@[simp] theorem fabiOut_turn (r : FabiReq) : (fabiOut d r).turn = d.turn := rfl
@[simp] theorem fabiOut_acct (r : FabiReq) : (fabiOut d r).acct = d.acct := rfl
@[simp] theorem fabiOut_agg (r : FabiReq) : (fabiOut d r).agg = d.agg := rfl
@[simp] theorem fabiOut_groups (r : FabiReq) : (fabiOut d r).groups = d.groups := rfl
@[simp] theorem fabiOut_inflight (r : FabiReq) : (fabiOut d r).inflight = d.inflight := rfl
@[simp] theorem fabiOut_tgens (r : FabiReq) : (fabiOut d r).tgens = d.tgens := rfl
@[simp] theorem fabiOut_tiles (r : FabiReq) : (fabiOut d r).tiles = d.tiles := rfl
@[simp] theorem fabiOut_reclaimed (r : FabiReq) : (fabiOut d r).reclaimed = d.reclaimed := rfl
@[simp] theorem fabiOut_window (r : FabiReq) : (fabiOut d r).window = d.window := rfl
@[simp] theorem fabiOut_passEnd (r : FabiReq) : (fabiOut d r).passEnd = d.passEnd := rfl
@[simp] theorem fabiOut_stalledAway (r : FabiReq) : (fabiOut d r).stalledAway = d.stalledAway := rfl
@[simp] theorem fabiOut_units (r : FabiReq) : (fabiOut d r).units = d.units := rfl
@[simp] theorem fabiOut_ctx (r : FabiReq) : (fabiOut d r).ctx = d.ctx := rfl
@[simp] theorem fabiOut_sels (r : FabiReq) : (fabiOut d r).sels = d.sels := rfl
@[simp] theorem fabiOut_epochs (r : FabiReq) : (fabiOut d r).epochs = d.epochs := rfl
@[simp] theorem fabiOut_pubs (r : FabiReq) : (fabiOut d r).pubs = d.pubs := rfl
@[simp] theorem fabiOut_faults (r : FabiReq) : (fabiOut d r).faults = d.faults := rfl
@[simp] theorem fabiOut_cvc (r : FabiReq) : (fabiOut d r).cvc = d.cvc := rfl
@[simp] theorem fabiOut_trace (r : FabiReq) : (fabiOut d r).trace = d.trace := rfl
@[simp] theorem fabiOut_mgmt (r : FabiReq) : (fabiOut d r).mgmt = d.mgmt := rfl
@[simp] theorem fabiOut_rns (r : FabiReq) : (fabiOut d r).rns = d.rns := rfl
@[simp] theorem fabiOut_out (r : FabiReq) : (fabiOut d r).out = d.out ++ (r.xfer.map (fun x => Out.xfer x.1 x.2)).toList := rfl
@[simp] theorem fabiOut_freeCtr (r : FabiReq) : (fabiOut d r).freeCtr = d.freeCtr := rfl

/-! ### fabiIssue -/

@[simp] theorem fabiIssue_ident (r : FabiReq) : (fabiIssue d r).ident = d.ident := by unfold fabiIssue; split <;> rfl
@[simp] theorem fabiIssue_clk (r : FabiReq) : (fabiIssue d r).clk = d.clk := by unfold fabiIssue; split <;> rfl
@[simp] theorem fabiIssue_lanes (r : FabiReq) : (fabiIssue d r).lanes = d.lanes := by unfold fabiIssue; split <;> rfl
@[simp] theorem fabiIssue_power (r : FabiReq) : (fabiIssue d r).power = d.power := by unfold fabiIssue; split <;> rfl
@[simp] theorem fabiIssue_od (r : FabiReq) : (fabiIssue d r).od = d.od := by unfold fabiIssue; split <;> rfl
@[simp] theorem fabiIssue_snaps (r : FabiReq) : (fabiIssue d r).snaps = d.snaps := by unfold fabiIssue; split <;> rfl
@[simp] theorem fabiIssue_rings (r : FabiReq) : (fabiIssue d r).rings = d.rings := by unfold fabiIssue; split <;> rfl
@[simp] theorem fabiIssue_seqs (r : FabiReq) : (fabiIssue d r).seqs = d.seqs := by unfold fabiIssue; split <;> rfl
@[simp] theorem fabiIssue_gens (r : FabiReq) : (fabiIssue d r).gens = d.gens := by unfold fabiIssue; split <;> rfl
@[simp] theorem fabiIssue_timers (r : FabiReq) : (fabiIssue d r).timers = d.timers := by unfold fabiIssue; split <;> rfl
@[simp] theorem fabiIssue_flows (r : FabiReq) : (fabiIssue d r).flows = d.flows := by unfold fabiIssue; split <;> rfl
@[simp] theorem fabiIssue_turn (r : FabiReq) : (fabiIssue d r).turn = d.turn := by unfold fabiIssue; split <;> rfl
@[simp] theorem fabiIssue_acct (r : FabiReq) : (fabiIssue d r).acct = d.acct := by unfold fabiIssue; split <;> rfl
@[simp] theorem fabiIssue_agg (r : FabiReq) : (fabiIssue d r).agg = d.agg := by unfold fabiIssue; split <;> rfl
@[simp] theorem fabiIssue_groups (r : FabiReq) : (fabiIssue d r).groups = d.groups := by unfold fabiIssue; split <;> rfl
@[simp] theorem fabiIssue_inflight (r : FabiReq) : (fabiIssue d r).inflight = d.inflight := by unfold fabiIssue; split <;> rfl
@[simp] theorem fabiIssue_tgens (r : FabiReq) : (fabiIssue d r).tgens = d.tgens := by unfold fabiIssue; split <;> rfl
@[simp] theorem fabiIssue_tiles (r : FabiReq) : (fabiIssue d r).tiles = d.tiles := by unfold fabiIssue; split <;> rfl
@[simp] theorem fabiIssue_reclaimed (r : FabiReq) : (fabiIssue d r).reclaimed = d.reclaimed := by unfold fabiIssue; split <;> rfl
@[simp] theorem fabiIssue_window (r : FabiReq) : (fabiIssue d r).window = d.window := by unfold fabiIssue; split <;> rfl
@[simp] theorem fabiIssue_passEnd (r : FabiReq) : (fabiIssue d r).passEnd = d.passEnd := by unfold fabiIssue; split <;> rfl
@[simp] theorem fabiIssue_stalledAway (r : FabiReq) : (fabiIssue d r).stalledAway = d.stalledAway := by unfold fabiIssue; split <;> rfl
@[simp] theorem fabiIssue_units (r : FabiReq) : (fabiIssue d r).units = d.units := by unfold fabiIssue; split <;> rfl
@[simp] theorem fabiIssue_ctx (r : FabiReq) : (fabiIssue d r).ctx = d.ctx := by unfold fabiIssue; split <;> rfl
@[simp] theorem fabiIssue_sels (r : FabiReq) : (fabiIssue d r).sels = d.sels := by unfold fabiIssue; split <;> rfl
@[simp] theorem fabiIssue_epochs (r : FabiReq) : (fabiIssue d r).epochs = d.epochs := by unfold fabiIssue; split <;> rfl
@[simp] theorem fabiIssue_pubs (r : FabiReq) : (fabiIssue d r).pubs = d.pubs := by unfold fabiIssue; split <;> rfl
@[simp] theorem fabiIssue_faults (r : FabiReq) : (fabiIssue d r).faults = d.faults := by unfold fabiIssue; split <;> rfl
@[simp] theorem fabiIssue_cvc (r : FabiReq) : (fabiIssue d r).cvc = d.cvc := by unfold fabiIssue; split <;> rfl
@[simp] theorem fabiIssue_trace (r : FabiReq) : (fabiIssue d r).trace = d.trace := by unfold fabiIssue; split <;> rfl
@[simp] theorem fabiIssue_mgmt (r : FabiReq) : (fabiIssue d r).mgmt = d.mgmt := by unfold fabiIssue; split <;> rfl
@[simp] theorem fabiIssue_rns (r : FabiReq) : (fabiIssue d r).rns = d.rns := by unfold fabiIssue; split <;> rfl
@[simp] theorem fabiIssue_freeCtr (r : FabiReq) : (fabiIssue d r).freeCtr = d.freeCtr := by unfold fabiIssue; split <;> rfl

/-! ### fabiNew -/

@[simp] theorem fabiNew_ident (k : FabiKind) (w : Bool) (a n x : Nat) (o : Option (Nat × Xfer)) : (fabiNew d k w a n x o).ident = d.ident := fabiIssue_ident _ _
@[simp] theorem fabiNew_clk (k : FabiKind) (w : Bool) (a n x : Nat) (o : Option (Nat × Xfer)) : (fabiNew d k w a n x o).clk = d.clk := fabiIssue_clk _ _
@[simp] theorem fabiNew_lanes (k : FabiKind) (w : Bool) (a n x : Nat) (o : Option (Nat × Xfer)) : (fabiNew d k w a n x o).lanes = d.lanes := fabiIssue_lanes _ _
@[simp] theorem fabiNew_power (k : FabiKind) (w : Bool) (a n x : Nat) (o : Option (Nat × Xfer)) : (fabiNew d k w a n x o).power = d.power := fabiIssue_power _ _
@[simp] theorem fabiNew_od (k : FabiKind) (w : Bool) (a n x : Nat) (o : Option (Nat × Xfer)) : (fabiNew d k w a n x o).od = d.od := fabiIssue_od _ _
@[simp] theorem fabiNew_snaps (k : FabiKind) (w : Bool) (a n x : Nat) (o : Option (Nat × Xfer)) : (fabiNew d k w a n x o).snaps = d.snaps := fabiIssue_snaps _ _
@[simp] theorem fabiNew_rings (k : FabiKind) (w : Bool) (a n x : Nat) (o : Option (Nat × Xfer)) : (fabiNew d k w a n x o).rings = d.rings := fabiIssue_rings _ _
@[simp] theorem fabiNew_seqs (k : FabiKind) (w : Bool) (a n x : Nat) (o : Option (Nat × Xfer)) : (fabiNew d k w a n x o).seqs = d.seqs := fabiIssue_seqs _ _
@[simp] theorem fabiNew_gens (k : FabiKind) (w : Bool) (a n x : Nat) (o : Option (Nat × Xfer)) : (fabiNew d k w a n x o).gens = d.gens := fabiIssue_gens _ _
@[simp] theorem fabiNew_timers (k : FabiKind) (w : Bool) (a n x : Nat) (o : Option (Nat × Xfer)) : (fabiNew d k w a n x o).timers = d.timers := fabiIssue_timers _ _
@[simp] theorem fabiNew_flows (k : FabiKind) (w : Bool) (a n x : Nat) (o : Option (Nat × Xfer)) : (fabiNew d k w a n x o).flows = d.flows := fabiIssue_flows _ _
@[simp] theorem fabiNew_turn (k : FabiKind) (w : Bool) (a n x : Nat) (o : Option (Nat × Xfer)) : (fabiNew d k w a n x o).turn = d.turn := fabiIssue_turn _ _
@[simp] theorem fabiNew_acct (k : FabiKind) (w : Bool) (a n x : Nat) (o : Option (Nat × Xfer)) : (fabiNew d k w a n x o).acct = d.acct := fabiIssue_acct _ _
@[simp] theorem fabiNew_agg (k : FabiKind) (w : Bool) (a n x : Nat) (o : Option (Nat × Xfer)) : (fabiNew d k w a n x o).agg = d.agg := fabiIssue_agg _ _
@[simp] theorem fabiNew_groups (k : FabiKind) (w : Bool) (a n x : Nat) (o : Option (Nat × Xfer)) : (fabiNew d k w a n x o).groups = d.groups := fabiIssue_groups _ _
@[simp] theorem fabiNew_inflight (k : FabiKind) (w : Bool) (a n x : Nat) (o : Option (Nat × Xfer)) : (fabiNew d k w a n x o).inflight = d.inflight := fabiIssue_inflight _ _
@[simp] theorem fabiNew_tgens (k : FabiKind) (w : Bool) (a n x : Nat) (o : Option (Nat × Xfer)) : (fabiNew d k w a n x o).tgens = d.tgens := fabiIssue_tgens _ _
@[simp] theorem fabiNew_tiles (k : FabiKind) (w : Bool) (a n x : Nat) (o : Option (Nat × Xfer)) : (fabiNew d k w a n x o).tiles = d.tiles := fabiIssue_tiles _ _
@[simp] theorem fabiNew_reclaimed (k : FabiKind) (w : Bool) (a n x : Nat) (o : Option (Nat × Xfer)) : (fabiNew d k w a n x o).reclaimed = d.reclaimed := fabiIssue_reclaimed _ _
@[simp] theorem fabiNew_window (k : FabiKind) (w : Bool) (a n x : Nat) (o : Option (Nat × Xfer)) : (fabiNew d k w a n x o).window = d.window := fabiIssue_window _ _
@[simp] theorem fabiNew_passEnd (k : FabiKind) (w : Bool) (a n x : Nat) (o : Option (Nat × Xfer)) : (fabiNew d k w a n x o).passEnd = d.passEnd := fabiIssue_passEnd _ _
@[simp] theorem fabiNew_stalledAway (k : FabiKind) (w : Bool) (a n x : Nat) (o : Option (Nat × Xfer)) : (fabiNew d k w a n x o).stalledAway = d.stalledAway := fabiIssue_stalledAway _ _
@[simp] theorem fabiNew_units (k : FabiKind) (w : Bool) (a n x : Nat) (o : Option (Nat × Xfer)) : (fabiNew d k w a n x o).units = d.units := fabiIssue_units _ _
@[simp] theorem fabiNew_ctx (k : FabiKind) (w : Bool) (a n x : Nat) (o : Option (Nat × Xfer)) : (fabiNew d k w a n x o).ctx = d.ctx := fabiIssue_ctx _ _
@[simp] theorem fabiNew_sels (k : FabiKind) (w : Bool) (a n x : Nat) (o : Option (Nat × Xfer)) : (fabiNew d k w a n x o).sels = d.sels := fabiIssue_sels _ _
@[simp] theorem fabiNew_epochs (k : FabiKind) (w : Bool) (a n x : Nat) (o : Option (Nat × Xfer)) : (fabiNew d k w a n x o).epochs = d.epochs := fabiIssue_epochs _ _
@[simp] theorem fabiNew_pubs (k : FabiKind) (w : Bool) (a n x : Nat) (o : Option (Nat × Xfer)) : (fabiNew d k w a n x o).pubs = d.pubs := fabiIssue_pubs _ _
@[simp] theorem fabiNew_faults (k : FabiKind) (w : Bool) (a n x : Nat) (o : Option (Nat × Xfer)) : (fabiNew d k w a n x o).faults = d.faults := fabiIssue_faults _ _
@[simp] theorem fabiNew_cvc (k : FabiKind) (w : Bool) (a n x : Nat) (o : Option (Nat × Xfer)) : (fabiNew d k w a n x o).cvc = d.cvc := fabiIssue_cvc _ _
@[simp] theorem fabiNew_trace (k : FabiKind) (w : Bool) (a n x : Nat) (o : Option (Nat × Xfer)) : (fabiNew d k w a n x o).trace = d.trace := fabiIssue_trace _ _
@[simp] theorem fabiNew_mgmt (k : FabiKind) (w : Bool) (a n x : Nat) (o : Option (Nat × Xfer)) : (fabiNew d k w a n x o).mgmt = d.mgmt := fabiIssue_mgmt _ _
@[simp] theorem fabiNew_rns (k : FabiKind) (w : Bool) (a n x : Nat) (o : Option (Nat × Xfer)) : (fabiNew d k w a n x o).rns = d.rns := fabiIssue_rns _ _
@[simp] theorem fabiNew_freeCtr (k : FabiKind) (w : Bool) (a n x : Nat) (o : Option (Nat × Xfer)) : (fabiNew d k w a n x o).freeCtr = d.freeCtr := fabiIssue_freeCtr _ _

/-! ### fabiPump -/

@[simp] theorem fabiPump_ident : (fabiPump d).ident = d.ident := by unfold fabiPump; split <;> (try split) <;> rfl
@[simp] theorem fabiPump_clk : (fabiPump d).clk = d.clk := by unfold fabiPump; split <;> (try split) <;> rfl
@[simp] theorem fabiPump_lanes : (fabiPump d).lanes = d.lanes := by unfold fabiPump; split <;> (try split) <;> rfl
@[simp] theorem fabiPump_power : (fabiPump d).power = d.power := by unfold fabiPump; split <;> (try split) <;> rfl
@[simp] theorem fabiPump_od : (fabiPump d).od = d.od := by unfold fabiPump; split <;> (try split) <;> rfl
@[simp] theorem fabiPump_snaps : (fabiPump d).snaps = d.snaps := by unfold fabiPump; split <;> (try split) <;> rfl
@[simp] theorem fabiPump_rings : (fabiPump d).rings = d.rings := by unfold fabiPump; split <;> (try split) <;> rfl
@[simp] theorem fabiPump_seqs : (fabiPump d).seqs = d.seqs := by unfold fabiPump; split <;> (try split) <;> rfl
@[simp] theorem fabiPump_gens : (fabiPump d).gens = d.gens := by unfold fabiPump; split <;> (try split) <;> rfl
@[simp] theorem fabiPump_timers : (fabiPump d).timers = d.timers := by unfold fabiPump; split <;> (try split) <;> rfl
@[simp] theorem fabiPump_flows : (fabiPump d).flows = d.flows := by unfold fabiPump; split <;> (try split) <;> rfl
@[simp] theorem fabiPump_turn : (fabiPump d).turn = d.turn := by unfold fabiPump; split <;> (try split) <;> rfl
@[simp] theorem fabiPump_acct : (fabiPump d).acct = d.acct := by unfold fabiPump; split <;> (try split) <;> rfl
@[simp] theorem fabiPump_agg : (fabiPump d).agg = d.agg := by unfold fabiPump; split <;> (try split) <;> rfl
@[simp] theorem fabiPump_groups : (fabiPump d).groups = d.groups := by unfold fabiPump; split <;> (try split) <;> rfl
@[simp] theorem fabiPump_inflight : (fabiPump d).inflight = d.inflight := by unfold fabiPump; split <;> (try split) <;> rfl
@[simp] theorem fabiPump_tgens : (fabiPump d).tgens = d.tgens := by unfold fabiPump; split <;> (try split) <;> rfl
@[simp] theorem fabiPump_tiles : (fabiPump d).tiles = d.tiles := by unfold fabiPump; split <;> (try split) <;> rfl
@[simp] theorem fabiPump_reclaimed : (fabiPump d).reclaimed = d.reclaimed := by unfold fabiPump; split <;> (try split) <;> rfl
@[simp] theorem fabiPump_window : (fabiPump d).window = d.window := by unfold fabiPump; split <;> (try split) <;> rfl
@[simp] theorem fabiPump_passEnd : (fabiPump d).passEnd = d.passEnd := by unfold fabiPump; split <;> (try split) <;> rfl
@[simp] theorem fabiPump_stalledAway : (fabiPump d).stalledAway = d.stalledAway := by unfold fabiPump; split <;> (try split) <;> rfl
@[simp] theorem fabiPump_units : (fabiPump d).units = d.units := by unfold fabiPump; split <;> (try split) <;> rfl
@[simp] theorem fabiPump_ctx : (fabiPump d).ctx = d.ctx := by unfold fabiPump; split <;> (try split) <;> rfl
@[simp] theorem fabiPump_sels : (fabiPump d).sels = d.sels := by unfold fabiPump; split <;> (try split) <;> rfl
@[simp] theorem fabiPump_epochs : (fabiPump d).epochs = d.epochs := by unfold fabiPump; split <;> (try split) <;> rfl
@[simp] theorem fabiPump_pubs : (fabiPump d).pubs = d.pubs := by unfold fabiPump; split <;> (try split) <;> rfl
@[simp] theorem fabiPump_faults : (fabiPump d).faults = d.faults := by unfold fabiPump; split <;> (try split) <;> rfl
@[simp] theorem fabiPump_cvc : (fabiPump d).cvc = d.cvc := by unfold fabiPump; split <;> (try split) <;> rfl
@[simp] theorem fabiPump_trace : (fabiPump d).trace = d.trace := by unfold fabiPump; split <;> (try split) <;> rfl
@[simp] theorem fabiPump_mgmt : (fabiPump d).mgmt = d.mgmt := by unfold fabiPump; split <;> (try split) <;> rfl
@[simp] theorem fabiPump_rns : (fabiPump d).rns = d.rns := by unfold fabiPump; split <;> (try split) <;> rfl
@[simp] theorem fabiPump_freeCtr : (fabiPump d).freeCtr = d.freeCtr := by unfold fabiPump; split <;> (try split) <;> rfl

/-! ### fabiDone -/

@[simp] theorem fabiDone_ident (i : Nat) : (fabiDone d i).ident = d.ident := fabiPump_ident _
@[simp] theorem fabiDone_clk (i : Nat) : (fabiDone d i).clk = d.clk := fabiPump_clk _
@[simp] theorem fabiDone_lanes (i : Nat) : (fabiDone d i).lanes = d.lanes := fabiPump_lanes _
@[simp] theorem fabiDone_power (i : Nat) : (fabiDone d i).power = d.power := fabiPump_power _
@[simp] theorem fabiDone_od (i : Nat) : (fabiDone d i).od = d.od := fabiPump_od _
@[simp] theorem fabiDone_snaps (i : Nat) : (fabiDone d i).snaps = d.snaps := fabiPump_snaps _
@[simp] theorem fabiDone_rings (i : Nat) : (fabiDone d i).rings = d.rings := fabiPump_rings _
@[simp] theorem fabiDone_seqs (i : Nat) : (fabiDone d i).seqs = d.seqs := fabiPump_seqs _
@[simp] theorem fabiDone_gens (i : Nat) : (fabiDone d i).gens = d.gens := fabiPump_gens _
@[simp] theorem fabiDone_timers (i : Nat) : (fabiDone d i).timers = d.timers := fabiPump_timers _
@[simp] theorem fabiDone_flows (i : Nat) : (fabiDone d i).flows = d.flows := fabiPump_flows _
@[simp] theorem fabiDone_turn (i : Nat) : (fabiDone d i).turn = d.turn := fabiPump_turn _
@[simp] theorem fabiDone_acct (i : Nat) : (fabiDone d i).acct = d.acct := fabiPump_acct _
@[simp] theorem fabiDone_agg (i : Nat) : (fabiDone d i).agg = d.agg := fabiPump_agg _
@[simp] theorem fabiDone_groups (i : Nat) : (fabiDone d i).groups = d.groups := fabiPump_groups _
@[simp] theorem fabiDone_inflight (i : Nat) : (fabiDone d i).inflight = d.inflight := fabiPump_inflight _
@[simp] theorem fabiDone_tgens (i : Nat) : (fabiDone d i).tgens = d.tgens := fabiPump_tgens _
@[simp] theorem fabiDone_tiles (i : Nat) : (fabiDone d i).tiles = d.tiles := fabiPump_tiles _
@[simp] theorem fabiDone_reclaimed (i : Nat) : (fabiDone d i).reclaimed = d.reclaimed := fabiPump_reclaimed _
@[simp] theorem fabiDone_window (i : Nat) : (fabiDone d i).window = d.window := fabiPump_window _
@[simp] theorem fabiDone_passEnd (i : Nat) : (fabiDone d i).passEnd = d.passEnd := fabiPump_passEnd _
@[simp] theorem fabiDone_stalledAway (i : Nat) : (fabiDone d i).stalledAway = d.stalledAway := fabiPump_stalledAway _
@[simp] theorem fabiDone_units (i : Nat) : (fabiDone d i).units = d.units := fabiPump_units _
@[simp] theorem fabiDone_ctx (i : Nat) : (fabiDone d i).ctx = d.ctx := fabiPump_ctx _
@[simp] theorem fabiDone_sels (i : Nat) : (fabiDone d i).sels = d.sels := fabiPump_sels _
@[simp] theorem fabiDone_epochs (i : Nat) : (fabiDone d i).epochs = d.epochs := fabiPump_epochs _
@[simp] theorem fabiDone_pubs (i : Nat) : (fabiDone d i).pubs = d.pubs := fabiPump_pubs _
@[simp] theorem fabiDone_faults (i : Nat) : (fabiDone d i).faults = d.faults := fabiPump_faults _
@[simp] theorem fabiDone_cvc (i : Nat) : (fabiDone d i).cvc = d.cvc := fabiPump_cvc _
@[simp] theorem fabiDone_trace (i : Nat) : (fabiDone d i).trace = d.trace := fabiPump_trace _
@[simp] theorem fabiDone_mgmt (i : Nat) : (fabiDone d i).mgmt = d.mgmt := fabiPump_mgmt _
@[simp] theorem fabiDone_rns (i : Nat) : (fabiDone d i).rns = d.rns := fabiPump_rns _
@[simp] theorem fabiDone_freeCtr (i : Nat) : (fabiDone d i).freeCtr = d.freeCtr := fabiPump_freeCtr _

/-! ### fabiDrop -/

@[simp] theorem fabiDrop_ident (p : FabiKind → Bool) : (fabiDrop d p).ident = d.ident := rfl
@[simp] theorem fabiDrop_clk (p : FabiKind → Bool) : (fabiDrop d p).clk = d.clk := rfl
@[simp] theorem fabiDrop_lanes (p : FabiKind → Bool) : (fabiDrop d p).lanes = d.lanes := rfl
@[simp] theorem fabiDrop_power (p : FabiKind → Bool) : (fabiDrop d p).power = d.power := rfl
@[simp] theorem fabiDrop_od (p : FabiKind → Bool) : (fabiDrop d p).od = d.od := rfl
@[simp] theorem fabiDrop_snaps (p : FabiKind → Bool) : (fabiDrop d p).snaps = d.snaps := rfl
@[simp] theorem fabiDrop_rings (p : FabiKind → Bool) : (fabiDrop d p).rings = d.rings := rfl
@[simp] theorem fabiDrop_seqs (p : FabiKind → Bool) : (fabiDrop d p).seqs = d.seqs := rfl
@[simp] theorem fabiDrop_gens (p : FabiKind → Bool) : (fabiDrop d p).gens = d.gens := rfl
@[simp] theorem fabiDrop_timers (p : FabiKind → Bool) : (fabiDrop d p).timers = d.timers := rfl
@[simp] theorem fabiDrop_flows (p : FabiKind → Bool) : (fabiDrop d p).flows = d.flows := rfl
@[simp] theorem fabiDrop_turn (p : FabiKind → Bool) : (fabiDrop d p).turn = d.turn := rfl
@[simp] theorem fabiDrop_acct (p : FabiKind → Bool) : (fabiDrop d p).acct = d.acct := rfl
@[simp] theorem fabiDrop_agg (p : FabiKind → Bool) : (fabiDrop d p).agg = d.agg := rfl
@[simp] theorem fabiDrop_groups (p : FabiKind → Bool) : (fabiDrop d p).groups = d.groups := rfl
@[simp] theorem fabiDrop_inflight (p : FabiKind → Bool) : (fabiDrop d p).inflight = d.inflight := rfl
@[simp] theorem fabiDrop_tgens (p : FabiKind → Bool) : (fabiDrop d p).tgens = d.tgens := rfl
@[simp] theorem fabiDrop_tiles (p : FabiKind → Bool) : (fabiDrop d p).tiles = d.tiles := rfl
@[simp] theorem fabiDrop_reclaimed (p : FabiKind → Bool) : (fabiDrop d p).reclaimed = d.reclaimed := rfl
@[simp] theorem fabiDrop_window (p : FabiKind → Bool) : (fabiDrop d p).window = d.window := rfl
@[simp] theorem fabiDrop_passEnd (p : FabiKind → Bool) : (fabiDrop d p).passEnd = d.passEnd := rfl
@[simp] theorem fabiDrop_stalledAway (p : FabiKind → Bool) : (fabiDrop d p).stalledAway = d.stalledAway := rfl
@[simp] theorem fabiDrop_units (p : FabiKind → Bool) : (fabiDrop d p).units = d.units := rfl
@[simp] theorem fabiDrop_ctx (p : FabiKind → Bool) : (fabiDrop d p).ctx = d.ctx := rfl
@[simp] theorem fabiDrop_sels (p : FabiKind → Bool) : (fabiDrop d p).sels = d.sels := rfl
@[simp] theorem fabiDrop_epochs (p : FabiKind → Bool) : (fabiDrop d p).epochs = d.epochs := rfl
@[simp] theorem fabiDrop_pubs (p : FabiKind → Bool) : (fabiDrop d p).pubs = d.pubs := rfl
@[simp] theorem fabiDrop_faults (p : FabiKind → Bool) : (fabiDrop d p).faults = d.faults := rfl
@[simp] theorem fabiDrop_cvc (p : FabiKind → Bool) : (fabiDrop d p).cvc = d.cvc := rfl
@[simp] theorem fabiDrop_trace (p : FabiKind → Bool) : (fabiDrop d p).trace = d.trace := rfl
@[simp] theorem fabiDrop_mgmt (p : FabiKind → Bool) : (fabiDrop d p).mgmt = d.mgmt := rfl
@[simp] theorem fabiDrop_rns (p : FabiKind → Bool) : (fabiDrop d p).rns = d.rns := rfl
@[simp] theorem fabiDrop_out (p : FabiKind → Bool) : (fabiDrop d p).out = d.out := rfl
@[simp] theorem fabiDrop_freeCtr (p : FabiKind → Bool) : (fabiDrop d p).freeCtr = d.freeCtr := rfl

/-! ### chanMod -/

@[simp] theorem chanMod_ident (c : Nat) (f : Channel → Channel) : (chanMod d c f).ident = d.ident := rfl
@[simp] theorem chanMod_clk (c : Nat) (f : Channel → Channel) : (chanMod d c f).clk = d.clk := rfl
@[simp] theorem chanMod_lanes (c : Nat) (f : Channel → Channel) : (chanMod d c f).lanes = d.lanes := rfl
@[simp] theorem chanMod_power (c : Nat) (f : Channel → Channel) : (chanMod d c f).power = d.power := rfl
@[simp] theorem chanMod_od (c : Nat) (f : Channel → Channel) : (chanMod d c f).od = d.od := rfl
@[simp] theorem chanMod_snaps (c : Nat) (f : Channel → Channel) : (chanMod d c f).snaps = d.snaps := rfl
@[simp] theorem chanMod_fabi (c : Nat) (f : Channel → Channel) : (chanMod d c f).fabi = d.fabi := rfl
@[simp] theorem chanMod_rings (c : Nat) (f : Channel → Channel) : (chanMod d c f).rings = d.rings := rfl
@[simp] theorem chanMod_seqs (c : Nat) (f : Channel → Channel) : (chanMod d c f).seqs = d.seqs := rfl
@[simp] theorem chanMod_gens (c : Nat) (f : Channel → Channel) : (chanMod d c f).gens = d.gens := rfl
@[simp] theorem chanMod_timers (c : Nat) (f : Channel → Channel) : (chanMod d c f).timers = d.timers := rfl
@[simp] theorem chanMod_flows (c : Nat) (f : Channel → Channel) : (chanMod d c f).flows = d.flows := rfl
@[simp] theorem chanMod_turn (c : Nat) (f : Channel → Channel) : (chanMod d c f).turn = d.turn := rfl
@[simp] theorem chanMod_acct (c : Nat) (f : Channel → Channel) : (chanMod d c f).acct = d.acct := rfl
@[simp] theorem chanMod_agg (c : Nat) (f : Channel → Channel) : (chanMod d c f).agg = d.agg := rfl
@[simp] theorem chanMod_groups (c : Nat) (f : Channel → Channel) : (chanMod d c f).groups = d.groups := rfl
@[simp] theorem chanMod_inflight (c : Nat) (f : Channel → Channel) : (chanMod d c f).inflight = d.inflight := rfl
@[simp] theorem chanMod_tgens (c : Nat) (f : Channel → Channel) : (chanMod d c f).tgens = d.tgens := rfl
@[simp] theorem chanMod_tiles (c : Nat) (f : Channel → Channel) : (chanMod d c f).tiles = d.tiles := rfl
@[simp] theorem chanMod_reclaimed (c : Nat) (f : Channel → Channel) : (chanMod d c f).reclaimed = d.reclaimed := rfl
@[simp] theorem chanMod_window (c : Nat) (f : Channel → Channel) : (chanMod d c f).window = d.window := rfl
@[simp] theorem chanMod_passEnd (c : Nat) (f : Channel → Channel) : (chanMod d c f).passEnd = d.passEnd := rfl
@[simp] theorem chanMod_stalledAway (c : Nat) (f : Channel → Channel) : (chanMod d c f).stalledAway = d.stalledAway := rfl
@[simp] theorem chanMod_units (c : Nat) (f : Channel → Channel) : (chanMod d c f).units = d.units := rfl
@[simp] theorem chanMod_ctx (c : Nat) (f : Channel → Channel) : (chanMod d c f).ctx = d.ctx := rfl
@[simp] theorem chanMod_sels (c : Nat) (f : Channel → Channel) : (chanMod d c f).sels = d.sels := rfl
@[simp] theorem chanMod_epochs (c : Nat) (f : Channel → Channel) : (chanMod d c f).epochs = d.epochs := rfl
@[simp] theorem chanMod_pubs (c : Nat) (f : Channel → Channel) : (chanMod d c f).pubs = d.pubs := rfl
@[simp] theorem chanMod_faults (c : Nat) (f : Channel → Channel) : (chanMod d c f).faults = d.faults := rfl
@[simp] theorem chanMod_trace (c : Nat) (f : Channel → Channel) : (chanMod d c f).trace = d.trace := rfl
@[simp] theorem chanMod_mgmt (c : Nat) (f : Channel → Channel) : (chanMod d c f).mgmt = d.mgmt := rfl
@[simp] theorem chanMod_rns (c : Nat) (f : Channel → Channel) : (chanMod d c f).rns = d.rns := rfl
@[simp] theorem chanMod_out (c : Nat) (f : Channel → Channel) : (chanMod d c f).out = d.out := rfl
@[simp] theorem chanMod_freeCtr (c : Nat) (f : Channel → Channel) : (chanMod d c f).freeCtr = d.freeCtr := rfl

end Sys2Proof.Machine
end

