-- ==== Sys2Proof/Laws/Frames.lean ====
section
/-! SUPPORT. What the shared operations change and what they leave: dictionary entries and their counters, vectors,
causes, trace records, the fault log. -/

set_option Elab.async false

open Sys2Proof Sys2Proof.Machine

namespace Sys2Proof.Machine
theorem whenReady_true {d : Device} {f : Device → Device} (h : fyReady d = true) : whenReady d f = f d := by unfold whenReady; rw [if_pos h]
theorem whenPresent_true {d : Device} {f : Device → Device} (h : fyPresent d = true) : whenPresent d f = f d := by unfold whenPresent; rw [if_pos h]
theorem settle_self (d : Device) : settle d d = d := by unfold settle; simp
theorem settle_same {d0 d : Device} (h1 : d.seqs = d0.seqs) (h2 : d.timers = d0.timers) (h3 : d.ctx = d0.ctx)
    (h4 : d.inflight = d0.inflight) (h5 : d.faults.gated = d0.faults.gated) (h6 : d.faults.releases = d0.faults.releases)
    (h7 : d.faults.gatedAcks = d0.faults.gatedAcks) : settle d0 d = d := by unfold settle; simp [h1, h2, h3, h4, h5, h6, h7]
theorem odGet_odSet_ne (d : Device) {i j i' j' v : Nat} (h : odKey i j ≠ odKey i' j') : odGet (odSet d i j v) i' j' = odGet d i' j' := by
  unfold odGet odSet Map.getD
  show (Map.find (if _ then _ else _) _).getD (odDefault d i' j') = _
  split
  · rw [Map.find_del_ne _ (Ne.symm h)]
  · rw [Map.find_put_ne _ _ (Ne.symm h)]
theorem odGet_odSet (d : Device) {i j v : Nat} (h : Map.wf d.od = true) : odGet (odSet d i j v) i j = v := by
  unfold odGet odSet Map.getD
  show (Map.find (if _ then _ else _) _).getD (odDefault d i j) = _
  split
  · rw [Map.find_del_same _ h]; simp [*]
  · rw [Map.find_put_same]; rfl
theorem odGet_od {d e : Device} (i j : Nat) (h : e.od = d.od) (hi : e.ident = d.ident) : odGet e i j = odGet d i j := by
  have : odDefault e i j = odDefault d i j := by unfold odDefault; simp [hi]
  unfold odGet; rw [this, h]
theorem odSet_wf {d : Device} {i j v : Nat} (h : Map.wf d.od = true) : Map.wf (odSet d i j v).od = true := by
  unfold odSet; exact Map.wf_ite (Map.wf_del _ h) (Map.wf_put _ _ h)
theorem bumpBy_wf {d : Device} {i j v : Nat} (h : Map.wf d.od = true) : Map.wf (bumpBy d i j v).od = true := by unfold bumpBy sinceSnap; exact odSet_wf h
theorem bump_wf {d : Device} {i j : Nat} (h : Map.wf d.od = true) : Map.wf (bump d i j).od = true := bumpBy_wf h
theorem bumpMax_wf {d : Device} {i j v : Nat} (h : Map.wf d.od = true) : Map.wf (bumpMax d i j v).od = true := odSet_wf h
theorem bump_od (d : Device) (i j n : Nat) : (bumpBy d i j n).od = (odSet d i j (satAdd statMax (odGet d i j) n)).od := rfl
theorem odGet_bump (d : Device) {i j n : Nat} (h : Map.wf d.od = true) : odGet (bumpBy d i j n) i j = min (2 ^ 48 - 1) (odGet d i j + n) := by
  exact (odGet_od (d := odSet d i j (satAdd statMax (odGet d i j) n)) (e := bumpBy d i j n) i j rfl rfl).trans (odGet_odSet _ h)
theorem odGet_bump_ne (d : Device) {i j n i' j' : Nat} (h : odKey i j ≠ odKey i' j') : odGet (bumpBy d i j n) i' j' = odGet d i' j' := by
  exact (odGet_od (d := odSet d i j (satAdd statMax (odGet d i j) n)) (e := bumpBy d i j n) i' j' rfl rfl).trans (odGet_odSet_ne _ h)

theorem od_bump_same (d : Device) {i j : Nat} (h : Map.wf d.od = true) : odGet (bump d i j) i j = min (2 ^ 48 - 1) (odGet d i j + 1) := odGet_bump d h
theorem od_bump_ne (d : Device) {i j i' j' : Nat} (h : odKey i j ≠ odKey i' j') : odGet (bump d i j) i' j' = odGet d i' j' := odGet_bump_ne d h
theorem od_bumpMax_same (d : Device) {i j n : Nat} (h : Map.wf d.od = true) : odGet (bumpMax d i j n) i j = max (odGet d i j) (min (2 ^ 48 - 1) n) := odGet_odSet d h
theorem od_bumpMax_ne (d : Device) {i j n i' j' : Nat} (h : odKey i j ≠ odKey i' j') : odGet (bumpMax d i j n) i' j' = odGet d i' j' := odGet_odSet_ne d h
/-- raiseVector -/
theorem raiseVector_frame (d : Device) (v : Nat) : raiseVector d v = { d with od := (raiseVector d v).od, fabi := (raiseVector d v).fabi, out := (raiseVector d v).out } := by
  unfold raiseVector fabiWrite
  split
  · rfl
  · split <;> (try unfold fabiNew fabiIssue) <;> (try split) <;> rfl
theorem raiseVector_odne (d : Device) (v : Nat) {i j : Nat} (h : odKey Od.MSI_PENDING 0 ≠ odKey i j) : odGet (raiseVector d v) i j = odGet d i j := by
  unfold raiseVector; split
  · exact odGet_odSet_ne _ h
  · split
    · rfl
    · exact odGet_od _ _ (fabiNew_od ..) (fabiNew_ident ..)

theorem raiseCause_def (d : Device) (b : Nat) : raiseCause d b =
    if bit (odGet (odSet (noteRaised d b) Od.ALERT_CAUSE 0 (odGet d Od.ALERT_CAUSE 0 ||| 2 ^ b)) Od.ALERT_MASK 0) b
    then raiseVector (odSet (noteRaised d b) Od.ALERT_CAUSE 0 (odGet d Od.ALERT_CAUSE 0 ||| 2 ^ b)) 0
    else odSet (noteRaised d b) Od.ALERT_CAUSE 0 (odGet d Od.ALERT_CAUSE 0 ||| 2 ^ b) := rfl
theorem raiseCause_frame (d : Device) (b : Nat) : raiseCause d b = { d with
    od := (raiseCause d b).od, fabi := (raiseCause d b).fabi, out := (raiseCause d b).out
    faults := { d.faults with raised := (raiseCause d b).faults.raised, raisedMclk := (raiseCause d b).faults.raisedMclk } } := by
  rw [raiseCause_def]; split
  · rw [raiseVector_frame]; rfl
  · rfl
theorem raiseCause_odne (d : Device) (b : Nat) {i j : Nat} (h : odKey Od.MSI_PENDING 0 ≠ odKey i j) (h2 : odKey Od.ALERT_CAUSE 0 ≠ odKey i j) :
    odGet (raiseCause d b) i j = odGet d i j := by
  rw [raiseCause_def]; split
  · rw [raiseVector_odne _ _ h, odGet_odSet_ne _ h2]; rfl
  · rw [odGet_odSet_ne _ h2]; rfl
theorem raiseCause_cause (d : Device) (b : Nat) (hw : Map.wf d.od = true) : odGet (raiseCause d b) Od.ALERT_CAUSE 0 = odGet d Od.ALERT_CAUSE 0 ||| 2 ^ b := by
  have hw' : Map.wf (noteRaised d b).od = true := hw
  rw [raiseCause_def]; split
  · rw [raiseVector_odne _ _ (by decide), odGet_odSet _ hw']
  · exact odGet_odSet _ hw'
theorem raiseVector_wf (d : Device) (v : Nat) (hw : Map.wf d.od = true) : Map.wf (raiseVector d v).od = true := by
  unfold raiseVector; split
  · exact odSet_wf hw
  · split
    · exact hw
    · unfold fabiWrite; rw [fabiNew_od]; exact hw
theorem raiseCause_wf (d : Device) (v : Nat) (hw : Map.wf d.od = true) : Map.wf (raiseCause d v).od = true := by
  have hw' : Map.wf (noteRaised d v).od = true := hw
  rw [raiseCause_def]; split
  · exact raiseVector_wf _ _ (odSet_wf hw')
  · exact odSet_wf hw'
theorem traceDrop_frame (d : Device) (k n : Nat) : traceDrop d k n = { d with od := (traceDrop d k n).od, snaps := (traceDrop d k n).snaps, trace := (traceDrop d k n).trace } := by
  unfold traceDrop; dsimp only; split <;> rfl
theorem traceRec_frame (d : Device) (a b c e f : Nat) : traceRec d a b c e f = { d with od := (traceRec d a b c e f).od, snaps := (traceRec d a b c e f).snaps, trace := (traceRec d a b c e f).trace } := by
  unfold traceRec; dsimp only
  repeat' split
  all_goals rfl
theorem traceDrop_odne (d : Device) (k n : Nat) (hk : k < 2) {i j : Nat} (h : ∀ k, k < 2 → odKey Od.TRACE_DROPS k ≠ odKey i j) : odGet (traceDrop d k n) i j = odGet d i j := by
  unfold traceDrop; dsimp only
  split
  · rfl
  · exact (odGet_od _ _ rfl rfl).trans (odGet_bump_ne d (h k hk))
theorem traceDrop_wf (d : Device) (k n : Nat) (hw : Map.wf d.od = true) : Map.wf (traceDrop d k n).od = true := by
  unfold traceDrop; dsimp only; split
  · exact hw
  · exact odSet_wf hw
theorem traceRec_odne (d : Device) (a b c e f : Nat) {i j : Nat} (h : ∀ k, k < 2 → odKey Od.TRACE_DROPS k ≠ odKey i j) : odGet (traceRec d a b c e f) i j = odGet d i j := by
  unfold traceRec; dsimp only
  repeat' split
  all_goals first | exact traceDrop_odne _ _ _ (by decide) h | exact odGet_od _ _ rfl rfl
theorem traceRec_wf (d : Device) (a b c e f : Nat) (hw : Map.wf d.od = true) : Map.wf (traceRec d a b c e f).od = true := by
  unfold traceRec; dsimp only
  repeat' split
  all_goals first | exact traceDrop_wf _ _ _ hw | exact hw
theorem flogWrite_frame (d : Device) (a b c e f : Nat) : flogWrite d a b c e f = { d with
    od := (flogWrite d a b c e f).od, snaps := (flogWrite d a b c e f).snaps, trace := (flogWrite d a b c e f).trace, fabi := (flogWrite d a b c e f).fabi, out := (flogWrite d a b c e f).out
    faults := { d.faults with
      flog := (flogWrite d a b c e f).faults.flog, flogHead := (flogWrite d a b c e f).faults.flogHead
      raised := (flogWrite d a b c e f).faults.raised, raisedMclk := (flogWrite d a b c e f).faults.raisedMclk } } := by
  unfold flogWrite; dsimp only
  repeat' split
  all_goals first | rfl | rw [raiseCause_frame, traceRec_frame] | rw [traceRec_frame]
theorem flogWrite_wf (d : Device) (a b c e f : Nat) (hw : Map.wf d.od = true) : Map.wf (flogWrite d a b c e f).od = true := by
  unfold flogWrite; dsimp only
  repeat' split
  all_goals first | exact hw | exact raiseCause_wf _ _ (traceRec_wf _ _ _ _ _ _ hw) | exact traceRec_wf _ _ _ _ _ _ hw
theorem flogWrite_odne (d : Device) (a b c e f : Nat) {i j : Nat} (h : ∀ k, k < 2 → odKey Od.TRACE_DROPS k ≠ odKey i j) (h1 : odKey Od.MSI_PENDING 0 ≠ odKey i j) (h2 : odKey Od.ALERT_CAUSE 0 ≠ odKey i j) :
   odGet (flogWrite d a b c e f) i j = odGet d i j := by
  unfold flogWrite; dsimp only
  repeat' split
  all_goals first | exact odGet_od _ _ rfl rfl | (rw [raiseCause_odne _ _ h1 h2, traceRec_odne _ _ _ _ _ _ h]; exact odGet_od _ _ rfl rfl) | (rw [traceRec_odne _ _ _ _ _ _ h]; exact odGet_od _ _ rfl rfl)
theorem testBit_lor_pow (x b c : Nat) : bit (x ||| 2 ^ b) c = (bit x c || decide (b = c)) := by
  unfold bit; simp [Nat.testBit_or, Nat.testBit_two_pow]
theorem flogWrite_cause (d : Device) (a b c e f : Nat) (k : Nat) (hw : Map.wf d.od = true) (hk : k ≠ ALERT_FLOG_OVERRUN) :
   bit (odGet (flogWrite d a b c e f) Od.ALERT_CAUSE 0) k = bit (odGet d Od.ALERT_CAUSE 0) k := by
  unfold flogWrite; dsimp only
  have nd : ∀ k, k < 2 → odKey Od.TRACE_DROPS k ≠ odKey Od.ALERT_CAUSE 0 := by intro k hk; unfold odKey Od.TRACE_DROPS Od.ALERT_CAUSE; omega
  repeat' split
  · rfl
  · rw [raiseCause_cause _ _ (by apply traceRec_wf; exact hw), testBit_lor_pow, traceRec_odne _ _ _ _ _ _ nd]; simp [Ne.symm hk]; rfl
  · rw [traceRec_odne _ _ _ _ _ _ nd]; rfl
  · contradiction
  · rw [raiseCause_cause _ _ (by apply traceRec_wf; exact hw), testBit_lor_pow, traceRec_odne _ _ _ _ _ _ nd]; simp [Ne.symm hk]; rfl
  · rw [traceRec_odne _ _ _ _ _ _ nd]; rfl
theorem alertLog_frame (d : Device) (a b c e f : Nat) : alertLog d a b c e f = { d with
    od := (alertLog d a b c e f).od, snaps := (alertLog d a b c e f).snaps, trace := (alertLog d a b c e f).trace, fabi := (alertLog d a b c e f).fabi, out := (alertLog d a b c e f).out
    faults := { d.faults with
      flog := (alertLog d a b c e f).faults.flog, flogHead := (alertLog d a b c e f).faults.flogHead
      raised := (alertLog d a b c e f).faults.raised, raisedMclk := (alertLog d a b c e f).faults.raisedMclk } } := by
  unfold alertLog
  rw [flogWrite_frame, raiseCause_frame]
theorem alertLog_odne (d : Device) (a b c e f : Nat) {i j : Nat} (h : ∀ k, k < 2 → odKey Od.TRACE_DROPS k ≠ odKey i j) (h1 : odKey Od.MSI_PENDING 0 ≠ odKey i j) (h2 : odKey Od.ALERT_CAUSE 0 ≠ odKey i j) :
   odGet (alertLog d a b c e f) i j = odGet d i j := by
  unfold alertLog; rw [flogWrite_odne _ _ _ _ _ _ h h1 h2, raiseCause_odne _ _ h1 h2]
theorem alertLog_cause (d : Device) (a b c e f : Nat) (k : Nat) (hw : Map.wf d.od = true) (hk : k ≠ ALERT_FLOG_OVERRUN) :
   bit (odGet (alertLog d a b c e f) Od.ALERT_CAUSE 0) k = (bit (odGet d Od.ALERT_CAUSE 0) k || decide (a = k)) := by
  unfold alertLog; rw [flogWrite_cause _ _ _ _ _ _ _ (raiseCause_wf _ _ hw) hk, raiseCause_cause _ _ hw, testBit_lor_pow]
@[simp] theorem alertLog_ident (d : Device) (a b c e g : Nat) : (alertLog d a b c e g).ident = d.ident := by rw [alertLog_frame]
@[simp] theorem bump_ident (d : Device) (a b : Nat) : (bump d a b).ident = d.ident := rfl
@[simp] theorem bumpMax_ident (d : Device) (a b c : Nat) : (bumpMax d a b c).ident = d.ident := rfl
@[simp] theorem raiseVector_ident (d : Device) (a : Nat) : (raiseVector d a).ident = d.ident := by rw [raiseVector_frame]
@[simp] theorem raiseCause_ident (d : Device) (a : Nat) : (raiseCause d a).ident = d.ident := by rw [raiseCause_frame]
@[simp] theorem traceRec_ident (d : Device) (a b c e g : Nat) : (traceRec d a b c e g).ident = d.ident := by rw [traceRec_frame]
@[simp] theorem alertLog_clk (d : Device) (a b c e g : Nat) : (alertLog d a b c e g).clk = d.clk := by rw [alertLog_frame]
@[simp] theorem bump_clk (d : Device) (a b : Nat) : (bump d a b).clk = d.clk := rfl
@[simp] theorem bumpMax_clk (d : Device) (a b c : Nat) : (bumpMax d a b c).clk = d.clk := rfl
@[simp] theorem raiseVector_clk (d : Device) (a : Nat) : (raiseVector d a).clk = d.clk := by rw [raiseVector_frame]
@[simp] theorem raiseCause_clk (d : Device) (a : Nat) : (raiseCause d a).clk = d.clk := by rw [raiseCause_frame]
@[simp] theorem traceRec_clk (d : Device) (a b c e g : Nat) : (traceRec d a b c e g).clk = d.clk := by rw [traceRec_frame]
@[simp] theorem alertLog_lanes (d : Device) (a b c e g : Nat) : (alertLog d a b c e g).lanes = d.lanes := by rw [alertLog_frame]
@[simp] theorem bump_lanes (d : Device) (a b : Nat) : (bump d a b).lanes = d.lanes := rfl
@[simp] theorem bumpMax_lanes (d : Device) (a b c : Nat) : (bumpMax d a b c).lanes = d.lanes := rfl
@[simp] theorem raiseVector_lanes (d : Device) (a : Nat) : (raiseVector d a).lanes = d.lanes := by rw [raiseVector_frame]
@[simp] theorem raiseCause_lanes (d : Device) (a : Nat) : (raiseCause d a).lanes = d.lanes := by rw [raiseCause_frame]
@[simp] theorem traceRec_lanes (d : Device) (a b c e g : Nat) : (traceRec d a b c e g).lanes = d.lanes := by rw [traceRec_frame]
@[simp] theorem alertLog_power (d : Device) (a b c e g : Nat) : (alertLog d a b c e g).power = d.power := by rw [alertLog_frame]
@[simp] theorem bump_power (d : Device) (a b : Nat) : (bump d a b).power = d.power := rfl
@[simp] theorem bumpMax_power (d : Device) (a b c : Nat) : (bumpMax d a b c).power = d.power := rfl
@[simp] theorem raiseVector_power (d : Device) (a : Nat) : (raiseVector d a).power = d.power := by rw [raiseVector_frame]
@[simp] theorem raiseCause_power (d : Device) (a : Nat) : (raiseCause d a).power = d.power := by rw [raiseCause_frame]
@[simp] theorem traceRec_power (d : Device) (a b c e g : Nat) : (traceRec d a b c e g).power = d.power := by rw [traceRec_frame]
@[simp] theorem alertLog_rings (d : Device) (a b c e g : Nat) : (alertLog d a b c e g).rings = d.rings := by rw [alertLog_frame]
@[simp] theorem bump_rings (d : Device) (a b : Nat) : (bump d a b).rings = d.rings := rfl
@[simp] theorem bumpMax_rings (d : Device) (a b c : Nat) : (bumpMax d a b c).rings = d.rings := rfl
@[simp] theorem raiseVector_rings (d : Device) (a : Nat) : (raiseVector d a).rings = d.rings := by rw [raiseVector_frame]
@[simp] theorem raiseCause_rings (d : Device) (a : Nat) : (raiseCause d a).rings = d.rings := by rw [raiseCause_frame]
@[simp] theorem traceRec_rings (d : Device) (a b c e g : Nat) : (traceRec d a b c e g).rings = d.rings := by rw [traceRec_frame]
@[simp] theorem alertLog_seqs (d : Device) (a b c e g : Nat) : (alertLog d a b c e g).seqs = d.seqs := by rw [alertLog_frame]
@[simp] theorem bump_seqs (d : Device) (a b : Nat) : (bump d a b).seqs = d.seqs := rfl
@[simp] theorem bumpMax_seqs (d : Device) (a b c : Nat) : (bumpMax d a b c).seqs = d.seqs := rfl
@[simp] theorem raiseVector_seqs (d : Device) (a : Nat) : (raiseVector d a).seqs = d.seqs := by rw [raiseVector_frame]
@[simp] theorem raiseCause_seqs (d : Device) (a : Nat) : (raiseCause d a).seqs = d.seqs := by rw [raiseCause_frame]
@[simp] theorem traceRec_seqs (d : Device) (a b c e g : Nat) : (traceRec d a b c e g).seqs = d.seqs := by rw [traceRec_frame]
@[simp] theorem alertLog_gens (d : Device) (a b c e g : Nat) : (alertLog d a b c e g).gens = d.gens := by rw [alertLog_frame]
@[simp] theorem bump_gens (d : Device) (a b : Nat) : (bump d a b).gens = d.gens := rfl
@[simp] theorem bumpMax_gens (d : Device) (a b c : Nat) : (bumpMax d a b c).gens = d.gens := rfl
@[simp] theorem raiseVector_gens (d : Device) (a : Nat) : (raiseVector d a).gens = d.gens := by rw [raiseVector_frame]
@[simp] theorem raiseCause_gens (d : Device) (a : Nat) : (raiseCause d a).gens = d.gens := by rw [raiseCause_frame]
@[simp] theorem traceRec_gens (d : Device) (a b c e g : Nat) : (traceRec d a b c e g).gens = d.gens := by rw [traceRec_frame]
@[simp] theorem alertLog_timers (d : Device) (a b c e g : Nat) : (alertLog d a b c e g).timers = d.timers := by rw [alertLog_frame]
@[simp] theorem bump_timers (d : Device) (a b : Nat) : (bump d a b).timers = d.timers := rfl
@[simp] theorem bumpMax_timers (d : Device) (a b c : Nat) : (bumpMax d a b c).timers = d.timers := rfl
@[simp] theorem raiseVector_timers (d : Device) (a : Nat) : (raiseVector d a).timers = d.timers := by rw [raiseVector_frame]
@[simp] theorem raiseCause_timers (d : Device) (a : Nat) : (raiseCause d a).timers = d.timers := by rw [raiseCause_frame]
@[simp] theorem traceRec_timers (d : Device) (a b c e g : Nat) : (traceRec d a b c e g).timers = d.timers := by rw [traceRec_frame]
@[simp] theorem alertLog_flows (d : Device) (a b c e g : Nat) : (alertLog d a b c e g).flows = d.flows := by rw [alertLog_frame]
@[simp] theorem bump_flows (d : Device) (a b : Nat) : (bump d a b).flows = d.flows := rfl
@[simp] theorem bumpMax_flows (d : Device) (a b c : Nat) : (bumpMax d a b c).flows = d.flows := rfl
@[simp] theorem raiseVector_flows (d : Device) (a : Nat) : (raiseVector d a).flows = d.flows := by rw [raiseVector_frame]
@[simp] theorem raiseCause_flows (d : Device) (a : Nat) : (raiseCause d a).flows = d.flows := by rw [raiseCause_frame]
@[simp] theorem traceRec_flows (d : Device) (a b c e g : Nat) : (traceRec d a b c e g).flows = d.flows := by rw [traceRec_frame]
@[simp] theorem alertLog_turn (d : Device) (a b c e g : Nat) : (alertLog d a b c e g).turn = d.turn := by rw [alertLog_frame]
@[simp] theorem bump_turn (d : Device) (a b : Nat) : (bump d a b).turn = d.turn := rfl
@[simp] theorem bumpMax_turn (d : Device) (a b c : Nat) : (bumpMax d a b c).turn = d.turn := rfl
@[simp] theorem raiseVector_turn (d : Device) (a : Nat) : (raiseVector d a).turn = d.turn := by rw [raiseVector_frame]
@[simp] theorem raiseCause_turn (d : Device) (a : Nat) : (raiseCause d a).turn = d.turn := by rw [raiseCause_frame]
@[simp] theorem traceRec_turn (d : Device) (a b c e g : Nat) : (traceRec d a b c e g).turn = d.turn := by rw [traceRec_frame]
@[simp] theorem alertLog_acct (d : Device) (a b c e g : Nat) : (alertLog d a b c e g).acct = d.acct := by rw [alertLog_frame]
@[simp] theorem bump_acct (d : Device) (a b : Nat) : (bump d a b).acct = d.acct := rfl
@[simp] theorem bumpMax_acct (d : Device) (a b c : Nat) : (bumpMax d a b c).acct = d.acct := rfl
@[simp] theorem raiseVector_acct (d : Device) (a : Nat) : (raiseVector d a).acct = d.acct := by rw [raiseVector_frame]
@[simp] theorem raiseCause_acct (d : Device) (a : Nat) : (raiseCause d a).acct = d.acct := by rw [raiseCause_frame]
@[simp] theorem traceRec_acct (d : Device) (a b c e g : Nat) : (traceRec d a b c e g).acct = d.acct := by rw [traceRec_frame]
@[simp] theorem alertLog_agg (d : Device) (a b c e g : Nat) : (alertLog d a b c e g).agg = d.agg := by rw [alertLog_frame]
@[simp] theorem bump_agg (d : Device) (a b : Nat) : (bump d a b).agg = d.agg := rfl
@[simp] theorem bumpMax_agg (d : Device) (a b c : Nat) : (bumpMax d a b c).agg = d.agg := rfl
@[simp] theorem raiseVector_agg (d : Device) (a : Nat) : (raiseVector d a).agg = d.agg := by rw [raiseVector_frame]
@[simp] theorem raiseCause_agg (d : Device) (a : Nat) : (raiseCause d a).agg = d.agg := by rw [raiseCause_frame]
@[simp] theorem traceRec_agg (d : Device) (a b c e g : Nat) : (traceRec d a b c e g).agg = d.agg := by rw [traceRec_frame]
@[simp] theorem alertLog_groups (d : Device) (a b c e g : Nat) : (alertLog d a b c e g).groups = d.groups := by rw [alertLog_frame]
@[simp] theorem bump_groups (d : Device) (a b : Nat) : (bump d a b).groups = d.groups := rfl
@[simp] theorem bumpMax_groups (d : Device) (a b c : Nat) : (bumpMax d a b c).groups = d.groups := rfl
@[simp] theorem raiseVector_groups (d : Device) (a : Nat) : (raiseVector d a).groups = d.groups := by rw [raiseVector_frame]
@[simp] theorem raiseCause_groups (d : Device) (a : Nat) : (raiseCause d a).groups = d.groups := by rw [raiseCause_frame]
@[simp] theorem traceRec_groups (d : Device) (a b c e g : Nat) : (traceRec d a b c e g).groups = d.groups := by rw [traceRec_frame]
@[simp] theorem alertLog_inflight (d : Device) (a b c e g : Nat) : (alertLog d a b c e g).inflight = d.inflight := by rw [alertLog_frame]
@[simp] theorem bump_inflight (d : Device) (a b : Nat) : (bump d a b).inflight = d.inflight := rfl
@[simp] theorem bumpMax_inflight (d : Device) (a b c : Nat) : (bumpMax d a b c).inflight = d.inflight := rfl
@[simp] theorem raiseVector_inflight (d : Device) (a : Nat) : (raiseVector d a).inflight = d.inflight := by rw [raiseVector_frame]
@[simp] theorem raiseCause_inflight (d : Device) (a : Nat) : (raiseCause d a).inflight = d.inflight := by rw [raiseCause_frame]
@[simp] theorem traceRec_inflight (d : Device) (a b c e g : Nat) : (traceRec d a b c e g).inflight = d.inflight := by rw [traceRec_frame]
@[simp] theorem alertLog_tgens (d : Device) (a b c e g : Nat) : (alertLog d a b c e g).tgens = d.tgens := by rw [alertLog_frame]
@[simp] theorem bump_tgens (d : Device) (a b : Nat) : (bump d a b).tgens = d.tgens := rfl
@[simp] theorem bumpMax_tgens (d : Device) (a b c : Nat) : (bumpMax d a b c).tgens = d.tgens := rfl
@[simp] theorem raiseVector_tgens (d : Device) (a : Nat) : (raiseVector d a).tgens = d.tgens := by rw [raiseVector_frame]
@[simp] theorem raiseCause_tgens (d : Device) (a : Nat) : (raiseCause d a).tgens = d.tgens := by rw [raiseCause_frame]
@[simp] theorem traceRec_tgens (d : Device) (a b c e g : Nat) : (traceRec d a b c e g).tgens = d.tgens := by rw [traceRec_frame]
@[simp] theorem alertLog_tiles (d : Device) (a b c e g : Nat) : (alertLog d a b c e g).tiles = d.tiles := by rw [alertLog_frame]
@[simp] theorem bump_tiles (d : Device) (a b : Nat) : (bump d a b).tiles = d.tiles := rfl
@[simp] theorem bumpMax_tiles (d : Device) (a b c : Nat) : (bumpMax d a b c).tiles = d.tiles := rfl
@[simp] theorem raiseVector_tiles (d : Device) (a : Nat) : (raiseVector d a).tiles = d.tiles := by rw [raiseVector_frame]
@[simp] theorem raiseCause_tiles (d : Device) (a : Nat) : (raiseCause d a).tiles = d.tiles := by rw [raiseCause_frame]
@[simp] theorem traceRec_tiles (d : Device) (a b c e g : Nat) : (traceRec d a b c e g).tiles = d.tiles := by rw [traceRec_frame]
@[simp] theorem alertLog_reclaimed (d : Device) (a b c e g : Nat) : (alertLog d a b c e g).reclaimed = d.reclaimed := by rw [alertLog_frame]
@[simp] theorem bump_reclaimed (d : Device) (a b : Nat) : (bump d a b).reclaimed = d.reclaimed := rfl
@[simp] theorem bumpMax_reclaimed (d : Device) (a b c : Nat) : (bumpMax d a b c).reclaimed = d.reclaimed := rfl
@[simp] theorem raiseVector_reclaimed (d : Device) (a : Nat) : (raiseVector d a).reclaimed = d.reclaimed := by rw [raiseVector_frame]
@[simp] theorem raiseCause_reclaimed (d : Device) (a : Nat) : (raiseCause d a).reclaimed = d.reclaimed := by rw [raiseCause_frame]
@[simp] theorem traceRec_reclaimed (d : Device) (a b c e g : Nat) : (traceRec d a b c e g).reclaimed = d.reclaimed := by rw [traceRec_frame]
@[simp] theorem alertLog_window (d : Device) (a b c e g : Nat) : (alertLog d a b c e g).window = d.window := by rw [alertLog_frame]
@[simp] theorem bump_window (d : Device) (a b : Nat) : (bump d a b).window = d.window := rfl
@[simp] theorem bumpMax_window (d : Device) (a b c : Nat) : (bumpMax d a b c).window = d.window := rfl
@[simp] theorem raiseVector_window (d : Device) (a : Nat) : (raiseVector d a).window = d.window := by rw [raiseVector_frame]
@[simp] theorem raiseCause_window (d : Device) (a : Nat) : (raiseCause d a).window = d.window := by rw [raiseCause_frame]
@[simp] theorem traceRec_window (d : Device) (a b c e g : Nat) : (traceRec d a b c e g).window = d.window := by rw [traceRec_frame]
@[simp] theorem alertLog_passEnd (d : Device) (a b c e g : Nat) : (alertLog d a b c e g).passEnd = d.passEnd := by rw [alertLog_frame]
@[simp] theorem bump_passEnd (d : Device) (a b : Nat) : (bump d a b).passEnd = d.passEnd := rfl
@[simp] theorem bumpMax_passEnd (d : Device) (a b c : Nat) : (bumpMax d a b c).passEnd = d.passEnd := rfl
@[simp] theorem raiseVector_passEnd (d : Device) (a : Nat) : (raiseVector d a).passEnd = d.passEnd := by rw [raiseVector_frame]
@[simp] theorem raiseCause_passEnd (d : Device) (a : Nat) : (raiseCause d a).passEnd = d.passEnd := by rw [raiseCause_frame]
@[simp] theorem traceRec_passEnd (d : Device) (a b c e g : Nat) : (traceRec d a b c e g).passEnd = d.passEnd := by rw [traceRec_frame]
@[simp] theorem alertLog_units (d : Device) (a b c e g : Nat) : (alertLog d a b c e g).units = d.units := by rw [alertLog_frame]
@[simp] theorem bump_units (d : Device) (a b : Nat) : (bump d a b).units = d.units := rfl
@[simp] theorem bumpMax_units (d : Device) (a b c : Nat) : (bumpMax d a b c).units = d.units := rfl
@[simp] theorem raiseVector_units (d : Device) (a : Nat) : (raiseVector d a).units = d.units := by rw [raiseVector_frame]
@[simp] theorem raiseCause_units (d : Device) (a : Nat) : (raiseCause d a).units = d.units := by rw [raiseCause_frame]
@[simp] theorem traceRec_units (d : Device) (a b c e g : Nat) : (traceRec d a b c e g).units = d.units := by rw [traceRec_frame]
@[simp] theorem alertLog_ctx (d : Device) (a b c e g : Nat) : (alertLog d a b c e g).ctx = d.ctx := by rw [alertLog_frame]
@[simp] theorem bump_ctx (d : Device) (a b : Nat) : (bump d a b).ctx = d.ctx := rfl
@[simp] theorem bumpMax_ctx (d : Device) (a b c : Nat) : (bumpMax d a b c).ctx = d.ctx := rfl
@[simp] theorem raiseVector_ctx (d : Device) (a : Nat) : (raiseVector d a).ctx = d.ctx := by rw [raiseVector_frame]
@[simp] theorem raiseCause_ctx (d : Device) (a : Nat) : (raiseCause d a).ctx = d.ctx := by rw [raiseCause_frame]
@[simp] theorem traceRec_ctx (d : Device) (a b c e g : Nat) : (traceRec d a b c e g).ctx = d.ctx := by rw [traceRec_frame]
@[simp] theorem alertLog_sels (d : Device) (a b c e g : Nat) : (alertLog d a b c e g).sels = d.sels := by rw [alertLog_frame]
@[simp] theorem bump_sels (d : Device) (a b : Nat) : (bump d a b).sels = d.sels := rfl
@[simp] theorem bumpMax_sels (d : Device) (a b c : Nat) : (bumpMax d a b c).sels = d.sels := rfl
@[simp] theorem raiseVector_sels (d : Device) (a : Nat) : (raiseVector d a).sels = d.sels := by rw [raiseVector_frame]
@[simp] theorem raiseCause_sels (d : Device) (a : Nat) : (raiseCause d a).sels = d.sels := by rw [raiseCause_frame]
@[simp] theorem traceRec_sels (d : Device) (a b c e g : Nat) : (traceRec d a b c e g).sels = d.sels := by rw [traceRec_frame]
@[simp] theorem alertLog_epochs (d : Device) (a b c e g : Nat) : (alertLog d a b c e g).epochs = d.epochs := by rw [alertLog_frame]
@[simp] theorem bump_epochs (d : Device) (a b : Nat) : (bump d a b).epochs = d.epochs := rfl
@[simp] theorem bumpMax_epochs (d : Device) (a b c : Nat) : (bumpMax d a b c).epochs = d.epochs := rfl
@[simp] theorem raiseVector_epochs (d : Device) (a : Nat) : (raiseVector d a).epochs = d.epochs := by rw [raiseVector_frame]
@[simp] theorem raiseCause_epochs (d : Device) (a : Nat) : (raiseCause d a).epochs = d.epochs := by rw [raiseCause_frame]
@[simp] theorem traceRec_epochs (d : Device) (a b c e g : Nat) : (traceRec d a b c e g).epochs = d.epochs := by rw [traceRec_frame]
@[simp] theorem alertLog_pubs (d : Device) (a b c e g : Nat) : (alertLog d a b c e g).pubs = d.pubs := by rw [alertLog_frame]
@[simp] theorem bump_pubs (d : Device) (a b : Nat) : (bump d a b).pubs = d.pubs := rfl
@[simp] theorem bumpMax_pubs (d : Device) (a b c : Nat) : (bumpMax d a b c).pubs = d.pubs := rfl
@[simp] theorem raiseVector_pubs (d : Device) (a : Nat) : (raiseVector d a).pubs = d.pubs := by rw [raiseVector_frame]
@[simp] theorem raiseCause_pubs (d : Device) (a : Nat) : (raiseCause d a).pubs = d.pubs := by rw [raiseCause_frame]
@[simp] theorem traceRec_pubs (d : Device) (a b c e g : Nat) : (traceRec d a b c e g).pubs = d.pubs := by rw [traceRec_frame]
@[simp] theorem alertLog_cvc (d : Device) (a b c e g : Nat) : (alertLog d a b c e g).cvc = d.cvc := by rw [alertLog_frame]
@[simp] theorem bump_cvc (d : Device) (a b : Nat) : (bump d a b).cvc = d.cvc := rfl
@[simp] theorem bumpMax_cvc (d : Device) (a b c : Nat) : (bumpMax d a b c).cvc = d.cvc := rfl
@[simp] theorem raiseVector_cvc (d : Device) (a : Nat) : (raiseVector d a).cvc = d.cvc := by rw [raiseVector_frame]
@[simp] theorem raiseCause_cvc (d : Device) (a : Nat) : (raiseCause d a).cvc = d.cvc := by rw [raiseCause_frame]
@[simp] theorem traceRec_cvc (d : Device) (a b c e g : Nat) : (traceRec d a b c e g).cvc = d.cvc := by rw [traceRec_frame]
@[simp] theorem alertLog_mgmt (d : Device) (a b c e g : Nat) : (alertLog d a b c e g).mgmt = d.mgmt := by rw [alertLog_frame]
@[simp] theorem bump_mgmt (d : Device) (a b : Nat) : (bump d a b).mgmt = d.mgmt := rfl
@[simp] theorem bumpMax_mgmt (d : Device) (a b c : Nat) : (bumpMax d a b c).mgmt = d.mgmt := rfl
@[simp] theorem raiseVector_mgmt (d : Device) (a : Nat) : (raiseVector d a).mgmt = d.mgmt := by rw [raiseVector_frame]
@[simp] theorem raiseCause_mgmt (d : Device) (a : Nat) : (raiseCause d a).mgmt = d.mgmt := by rw [raiseCause_frame]
@[simp] theorem traceRec_mgmt (d : Device) (a b c e g : Nat) : (traceRec d a b c e g).mgmt = d.mgmt := by rw [traceRec_frame]
@[simp] theorem alertLog_rns (d : Device) (a b c e g : Nat) : (alertLog d a b c e g).rns = d.rns := by rw [alertLog_frame]
@[simp] theorem bump_rns (d : Device) (a b : Nat) : (bump d a b).rns = d.rns := rfl
@[simp] theorem bumpMax_rns (d : Device) (a b c : Nat) : (bumpMax d a b c).rns = d.rns := rfl
@[simp] theorem raiseVector_rns (d : Device) (a : Nat) : (raiseVector d a).rns = d.rns := by rw [raiseVector_frame]
@[simp] theorem raiseCause_rns (d : Device) (a : Nat) : (raiseCause d a).rns = d.rns := by rw [raiseCause_frame]
@[simp] theorem traceRec_rns (d : Device) (a b c e g : Nat) : (traceRec d a b c e g).rns = d.rns := by rw [traceRec_frame]
@[simp] theorem alertLog_freeCtr (d : Device) (a b c e g : Nat) : (alertLog d a b c e g).freeCtr = d.freeCtr := by rw [alertLog_frame]
@[simp] theorem bump_freeCtr (d : Device) (a b : Nat) : (bump d a b).freeCtr = d.freeCtr := rfl
@[simp] theorem bumpMax_freeCtr (d : Device) (a b c : Nat) : (bumpMax d a b c).freeCtr = d.freeCtr := rfl
@[simp] theorem raiseVector_freeCtr (d : Device) (a : Nat) : (raiseVector d a).freeCtr = d.freeCtr := by rw [raiseVector_frame]
@[simp] theorem raiseCause_freeCtr (d : Device) (a : Nat) : (raiseCause d a).freeCtr = d.freeCtr := by rw [raiseCause_frame]
@[simp] theorem traceRec_freeCtr (d : Device) (a b c e g : Nat) : (traceRec d a b c e g).freeCtr = d.freeCtr := by rw [traceRec_frame]
theorem alertLog_wf (d : Device) (a b c e f : Nat) (hw : Map.wf d.od = true) : Map.wf (alertLog d a b c e f).od = true := flogWrite_wf _ _ _ _ _ _ (raiseCause_wf _ _ hw)
end Sys2Proof.Machine
end

