-- ==== Sys2Proof/WellFormed.lean ====
section
/-! DEFINITION. Operand ranges of the commands: what a port or a record can carry. -/

namespace Sys2Proof

/-- Ring pair numbers (R70). -/
def ringOk (p : Nat) : Bool := p < 256

/-- Values of a 4-byte register. -/
def u32Ok (v : Nat) : Bool := v < 2 ^ 32

/-- A write by SET_PARAM names a ring pair; the identifiers of other paths fit their fields (R445, R453). -/
def Path.ok : Path → Bool
  | .mailbox r => r < 2 ^ 16
  | .mctp src tag r => src < 256 && tag < 8 && r < 2 ^ 16
  | .setParam ring => ringOk ring
  | .direct => true

/-- Lanes of a lane group, spares included (R18, R19). -/
def laneOk (p : Nat × Nat) : Bool := p.1 < 4 && p.2 < 34

/-- A word of a lane group's staging was read by one of its lanes (R375). -/
def GrottoLoc.ok : GrottoLoc → Bool
  | .staging g lane => laneOk (g, lane)
  | _ => true

/-- A note of a FORWARD_PAIR names groups and stripes that exist (R21, R378). -/
def PairNote.ok : PairNote → Bool
  | .group g => g < 256
  | .lostStripes js => js.all (· < 65536)
  | _ => true

/-- A record slot that a handle can name (R103). -/
def slotOk (s : Nat) : Bool := s < 65536

def sliceOk (s : Nat) : Bool := s < 32
def groupOk (g : Nat) : Bool := g < 256
def entryOk (idx sub : Nat) : Bool := idx < 65536 && sub < 256

/-- A hazard names a lane and a grotto address that the slice has (R19, R375). -/
def Hazard.ok (h : Hazard) : Bool := h.lane.all laneOk && h.table.all (· < 2 ^ 27)

/-- A command whose operands are in range. -/
def Instr.wf : Instr → Bool
  | .porstNAssert | .porstNRelease | .wrstNAssert | .wrstNRelease
  | .fyIsoNAssert | .fyIsoNRelease | .sliceStart => true
  | .fySrstNAssert _ | .fySrstNRelease _ => true
  | .dictionaryRegionDone n => n < 262144
  | .grottoTestDone n => n < 262144
  | .laneGroupsDone l => l.all laneOk
  | .cipherSelfTest l => l.length = 8
  | .classTTableDone a => a.all (· < 2 ^ 27)
  | .finalChecks => true
  | .sqTail p v => ringOk p && u32Ok v
  | .cqHead p v => ringOk p && u32Ok v
  | .fabtAccessRefused a => a.offset < 2 ^ 24
  | .sqRecordRead _ _ | .fabiWriteResponse _ | .fabiErrorResponse _ => true
  | .submit p | .cont p | .abort p | .abortClient p | .pause p | .resume p | .save p | .restore p
  | .epochPublish p | .setParam p => ringOk p
  | .handOver h => ringOk h.ring && sliceOk h.src && groupOk h.group
  | .handOverAck _ _ | .handOverTimeout _ => true
  | .hostCommandTransfer c => ringOk c.ring && sliceOk c.src
  | .hostCommandAck _ _ n => n < 2 ^ 23
  | .prefixLookup src _ => sliceOk src
  | .lookupAnswer src _ => sliceOk src
  | .lookupTimeout _ | .queueRetest | .queueSweep => true
  | .completionTransfer c => ringOk c.ring && sliceOk c.home
  | .completionWrite p | .cqStall p | .cqIrqTimeout p => ringOk p
  | .ringEnable path p v => path.ok && ringOk p && v < 256
  | .ringReset path p v => path.ok && ringOk p && v < 256
  | .ringDiscard path p v => path.ok && ringOk p && v < 256
  | .ringClearErr path p v => path.ok && ringOk p && v < 256
  | .seqQueryHandle path h => path.ok && u32Ok h
  | .deadlineExpiry s | .ttlExpiry s | .quarantineExpiry s | .notBeforeExpiry s | .backoffExpiry s
  | .idleDemoteExpiry s | .demotionStageDeferred s => slotOk s
  | .slotReclaim => true
  | .endTransfer c => ringOk c.ring && sliceOk c.home
  | .endRetry s => slotOk s
  | .endWrittenReport h => u32Ok h
  | .release h => u32Ok h
  | .aggRoundOpen _ => true
  | .deltaEntry src _ => sliceOk src
  | .aggRoundClose => true
  | .aggregateEntry _ _ | .acctAggLost => true
  | .acctReset path v => path.ok && v < 65536
  | .resetEntry src _ => sliceOk src
  | .stepBuild g away => groupOk g && away.all ringOk
  | .cmdIssue i => i < 4096
  | .energyCorrUpdate | .switchRateSample => true
  | .completion _ | .killAck _ => true
  | .cmdTimeout i | .killAckTimeout i => i < 4096
  | .lgiBeat _ _ => true
  | .samplePosition s n h => slotOk s && n ≤ 64 && h.ok
  | .digestRound s h => slotOk s && h.ok
  | .sequenceCommit s => slotOk s
  | .draftPost v => v < 2 ^ 64
  | .modelWarmupDone g s => groupOk g && s < 8
  | .groupHotMap path g s v => path.ok && groupOk g && s < 8 && v < 65536
  | .groupCfg path g v => path.ok && groupOk g && u32Ok v
  | .pgmStatus _ | .ctxReclaim => true
  | .replayTimeout s => slotOk s
  | .mirrorWrite src i _ => sliceOk src && i < 131072
  | .mirrorTimeout => true
  | .selectionClaim s | .selectionDelivered s => slotOk s
  | .rnsRequest _ h => h.ok
  | .tableKey path _ => path.ok
  | .install src _ _ _ => sliceOk src
  | .installTimeout _ => true
  | .activate src _ e i => sliceOk src && u32Ok e && i < 16
  | .cancel src _ e i => sliceOk src && u32Ok e && i < 16
  | .epochTransferAck a => sliceOk a.src
  | .epochGraceExpiry e => e < 8
  | .spawn r => ringOk r.ring && sliceOk r.src
  | .parityDelta d => sliceOk d.src && sliceOk d.member && slotOk d.slot && d.updNo < 65536
  | .parityAck k s n => sliceOk k && slotOk s && n < 65536
  | .sliceSuspect k => sliceOk k
  | .sliceOnline path v => path.ok && u32Ok v
  | .rebuildStripe r => sliceOk r.lost && slotOk r.stripe
  | .forwardPair l o n x => sliceOk l && u32Ok o && u32Ok n && x.ok
  | .ownershipAnnouncement r k => ringOk r && sliceOk k
  | .frameRequest (.ask k) => sliceOk k
  | .frameRequest (.answer k _) => sliceOk k
  | .frameRequest (.released l _) => sliceOk l
  | .sliceDrain path v => path.ok && v < 256
  | .sliceQuiesced => true
  | .tileOnline path x v => path.ok && x < 2 && v < 2 ^ 64
  | .tileDrainTimeout t => t < 4096
  | .tileLost path t => path.ok && t < 4096
  | .scrub a loc _ => a < 2 ^ 27 && loc.ok
  | .eccCeWindow => true
  | .lanePatrol l => l.all laneOk
  | .laneSubstitution g | .laneGroupGate g | .laneGroupUngate g => g < 4
  | .budgetRecord _ | .pwrStale => true
  | .telemetry p b => p < 65536 && b < 65536
  | .rootMhz path v => path.ok && v < 65536
  | .tickLoad path v => path.ok && v < 2 ^ 64
  | .sealSlice path _ => path.ok
  | .mbRead r i k found => r < 65536 && entryOk i k && found.all (·.1.ok)
  | .mbCommit r i k | .mbReadInfo r i k => r < 65536 && entryOk i k
  | .mbWrite r i k data => r < 65536 && entryOk i k && data.length ≤ 256
  | .mailboxOverrun => true
  | .mctpPacket p => p.dest < 256 && p.src < 256 && p.tag < 8 && p.seqNo < 4 && p.payload.length ≤ 64
  | .mctpRead found => found.all (·.1.ok)
  | .mctpWrite | .mctpCommit | .mctpReadInfo | .setEndpointId | .getEndpointId
  | .getMctpVersionSupport | .getMessageTypeSupport | .getVendorDefinedMessageSupport => true
  | .msiMask path _ => path.ok
  | .cvcCfg path c _ => path.ok && c < 64
  | .cvcReset path v => path.ok && v < 256
  | .legacyCtrl path v => path.ok && u32Ok v
  | .legacyValue path _ => path.ok
  | .traceExport => true
  | .traceTail path v => path.ok && u32Ok v
  | .traceHostBase path v => path.ok && v < 2 ^ 64
  | .directWriteRefused i k data => entryOk i k && data.length ≤ 8
  | .registerWrite path i k data => path.ok && entryOk i k && data.length ≤ 256
  | .fabiReadResponse _ _ => true
  | .workListFetch o n => o < 2 ^ 22 && n ≤ 4096
  | .directReadLatch o => o < 65536
  | .railGating _ => true

end Sys2Proof
end

