-- ==== Sys2Proof/Tests/Slice0.lean ====
section
/-! SUPPORT. Tests: an ill-formed term for each check of WellFormed; single steps with results that the manual gives; and,
for each statement, operands and a state that meet the hypotheses of each of its clauses. -/

set_option Elab.async false

namespace Sys2Proof.Tests
open Sys2Proof.Machine

/-! ### States -/

/-- The slice after a start-up, at TICK 1,000, with ring pair 0 owned and enabled. -/
def readyDev : Device :=
  odSet (odSet { State.reset.dev with clk := { State.reset.dev.clk with
    phase := .ready, present := true, ready := true, mapLost := false, tickOffset := 1000 } } Od.RING_OWNER 0 1) Od.RING_CTRL 0 1

/-- A state with that slice changed by `f` and an empty queue. -/
def stateOf (f : Device → Device) : State := { dev := f readyDev, pending := [] }

def s0 : State := stateOf id

/-- The slice at a phase of start-up, `c` cycles after its release. -/
def startingAt (p : Phase) (c : Nat) : State :=
  { State.reset with dev := { State.reset.dev with clk := { State.reset.dev.clk with phase := p, rootcyc := c, present := p.afterDict } } }

/-- A live class G sequence in record slot 5, of client 7 on ring pair 0, in state `st`. -/
def seq5 (st : SeqState) : Seq :=
  { tcb := { handle := mkHandle 0 5 1, state := st, ring := 0, client := 7, cls := .g } }

def withSeq (q : Seq) (d : Device) : Device := { d with seqs := Map.put d.seqs 5 q }

def nextOf : Host.Outcome State Fault Refusal → Option State
  | .next t => some t
  | _ => none

/-! ### Operands out of range, one for each check -/

theorem test_ill_formed_ring : ringOk 256 = false ∧ (Instr.sqTail 256 0).wf = false ∧ (Instr.submit 256).wf = false ∧
    (Instr.completionWrite 256).wf = false ∧ (Instr.ringEnable .direct 256 1).wf = false ∧ (Instr.ringEnable .direct 0 256).wf = false ∧
    (Instr.ringReset .direct 0 256).wf = false ∧ (Instr.ringDiscard .direct 0 256).wf = false ∧ (Instr.ringClearErr .direct 0 256).wf = false ∧
    (Instr.ownershipAnnouncement 256 0).wf = false ∧ (Instr.ownershipAnnouncement 0 32).wf = false := by decide

theorem test_ill_formed_word : u32Ok (2 ^ 32) = false ∧ (Instr.cqHead 0 (2 ^ 32)).wf = false ∧
    (Instr.endWrittenReport (2 ^ 32)).wf = false ∧ (Instr.release (2 ^ 32)).wf = false ∧ (Instr.seqQueryHandle .direct (2 ^ 32)).wf = false ∧
    (Instr.groupCfg .direct 0 (2 ^ 32)).wf = false ∧ (Instr.legacyCtrl .direct (2 ^ 32)).wf = false ∧ (Instr.traceTail .direct (2 ^ 32)).wf = false ∧
    (Instr.sliceOnline .direct (2 ^ 32)).wf = false ∧ (Instr.forwardPair 0 (2 ^ 32) 0).wf = false ∧
    (Instr.activate 0 0 (2 ^ 32) 0).wf = false ∧ (Instr.cancel 0 0 0 16).wf = false := by decide

theorem test_ill_formed_path : (Path.mailbox (2 ^ 16)).ok = false ∧ (Path.mctp 256 0 0).ok = false ∧ (Path.mctp 0 8 0).ok = false ∧
    (Path.mctp 0 0 65536).ok = false ∧ (Path.setParam 256).ok = false ∧ (Instr.tableKey (.mailbox 65536) 0).wf = false ∧
    (Instr.sealSlice (.mctp 256 0 0) 0).wf = false ∧ (Instr.msiMask (.setParam 256) 0).wf = false ∧
    (Instr.cvcReset (.setParam 256) 0).wf = false ∧ (Instr.legacyValue (.setParam 256) 0).wf = false := by decide

/-- No fault is met. -/
def noHazard : Hazard := { lane := none, table := none }

theorem test_ill_formed_start : (Instr.dictionaryRegionDone 262144).wf = false ∧ (Instr.grottoTestDone 262144).wf = false ∧
    (Instr.classTTableDone (some (2 ^ 27))).wf = false ∧ (Instr.laneGroupsDone [(4, 0)]).wf = false ∧ (Instr.laneGroupsDone [(0, 34)]).wf = false ∧ (Instr.cipherSelfTest []).wf = false ∧
    (Instr.lanePatrol [(4, 0)]).wf = false ∧ (Instr.laneSubstitution 4).wf = false := by decide

theorem test_ill_formed_slot : slotOk 65536 = false ∧ (Instr.deadlineExpiry 65536).wf = false ∧
    (Instr.samplePosition 65536 0 noHazard).wf = false ∧ (Instr.samplePosition 0 65 noHazard).wf = false ∧
    (Instr.replayTimeout 65536).wf = false ∧ (Instr.parityAck 0 65536 0).wf = false ∧ (Instr.parityAck 0 0 65536).wf = false ∧
    (Instr.digestRound 65536 noHazard).wf = false := by decide

theorem test_ill_formed_hazard : (Instr.samplePosition 0 0 { noHazard with lane := some (4, 0) }).wf = false ∧
    (Instr.digestRound 0 { noHazard with table := some (2 ^ 27) }).wf = false ∧
    (Instr.rnsRequest 0 { noHazard with table := some (2 ^ 27) }).wf = false := by decide

theorem test_ill_formed_slice : sliceOk 32 = false ∧ (Instr.prefixLookup 32 0).wf = false ∧ (Instr.sliceSuspect 32).wf = false ∧
    (Instr.deltaEntry 32 0).wf = false ∧ (Instr.install 32 0 0 0).wf = false ∧ (Instr.mirrorWrite 32 0 0).wf = false ∧
    (Instr.mirrorWrite 0 131072 0).wf = false ∧ (Instr.frameRequest (.ask 32)).wf = false ∧ (Instr.frameRequest (.answer 32 [])).wf = false ∧
    (Instr.frameRequest (.released 32 [])).wf = false ∧ (Instr.hostCommandAck 0 (.ack 0) (2 ^ 23)).wf = false ∧
    (Instr.epochTransferAck { src := 32, pub := 0, accepted := true }).wf = false := by decide

theorem test_ill_formed_group : groupOk 256 = false ∧ (Instr.stepBuild 256 []).wf = false ∧ (Instr.stepBuild 0 [256]).wf = false ∧ (Instr.modelWarmupDone 0 8).wf = false ∧
    (Instr.groupHotMap .direct 0 8 0).wf = false ∧ (Instr.groupHotMap .direct 0 0 65536).wf = false ∧ (Instr.cmdIssue 4096).wf = false ∧
    (Instr.killAckTimeout 4096).wf = false ∧ (Instr.epochGraceExpiry 8).wf = false := by decide

theorem test_ill_formed_entry : entryOk 65536 0 = false ∧ entryOk 0 256 = false ∧ (Instr.mbRead 65536 0 0).wf = false ∧
    (Instr.mbRead 0 65536 0).wf = false ∧ (Instr.mbWrite 0 0 0 (List.replicate 257 0)).wf = false ∧
    (Instr.registerWrite .direct 0 0 (List.replicate 257 0)).wf = false ∧ (Instr.directWriteRefused 0 0 (List.replicate 9 0)).wf = false ∧
    (Instr.cvcCfg .direct 64 0).wf = false ∧ (Instr.cvcReset .direct 256).wf = false ∧ (Instr.tickLoad .direct (2 ^ 64)).wf = false ∧
    (Instr.rootMhz .direct 65536).wf = false ∧ (Instr.traceHostBase .direct (2 ^ 64)).wf = false ∧ (Instr.acctReset .direct 65536).wf = false ∧
    (Instr.sliceDrain .direct 256).wf = false ∧ (Instr.tileOnline .direct 2 0).wf = false ∧ (Instr.tileOnline .direct 0 (2 ^ 64)).wf = false ∧
    (Instr.tileLost .direct 4096).wf = false := by decide +kernel

theorem test_ill_formed_ports : (Instr.fabtAccessRefused { offset := 2 ^ 24, size := 4, write := true, fromSlice := false }).wf = false ∧
    (Instr.workListFetch (2 ^ 22) 64).wf = false ∧ (Instr.workListFetch 0 4097).wf = false ∧ (Instr.directReadLatch 65536).wf = false ∧
    (Instr.draftPost (2 ^ 64)).wf = false ∧ (Instr.tileDrainTimeout 4096).wf = false ∧ (Instr.scrub (2 ^ 27) .idle .clean).wf = false ∧
    (Instr.telemetry 65536 0).wf = false ∧ (Instr.telemetry 0 65536).wf = false ∧
    (let p : MctpPacket := { dest := 0, src := 0, som := true, eom := true, seqNo := 0, tagOwner := true, tag := 0, payload := [] }
     (Instr.mctpPacket { p with dest := 256 }).wf = false ∧ (Instr.mctpPacket { p with src := 256 }).wf = false ∧
     (Instr.mctpPacket { p with seqNo := 4 }).wf = false ∧ (Instr.mctpPacket { p with tag := 8 }).wf = false ∧
     (Instr.mctpPacket { p with payload := List.replicate 65 0 }).wf = false) ∧
    (Instr.frameRequest (.ask 31)).wf = true := by decide

/-! ### Worked values of the manual -/

/-- Table 16.1: the check values of the ASCII string 123456789. -/
theorem test_crc_checks :
    let b : List Byte := [0x31, 0x32, 0x33, 0x34, 0x35, 0x36, 0x37, 0x38, 0x39]
    (List.range 4).map (fun k => crcOf (crcOfPoly k) b) = [0xE3069283, 0xCBF43926, 0x6C40DF5F0B497347, 0x29B1] := by decide +kernel

/-- R307 and its example: the words of class C for the two counters. -/
theorem test_class_c_words :
    let key := 0x0F0E0D0C0B0A09080706050403020100
    classC key 0xFFEEDDCCBBAA99887766554433221100 = 0x30047B6AD8E0C469 ∧
    classC key 0xFFEEDDCCBBAA99887766554433221101 = 0x5AC5B47080B7CDD8 := by decide +kernel

/-- The example of R299: the counter of the draw for position 2,048. -/
theorem test_counter : rngCounter 0x01 2048 0 0 = 0x01000000080000000000000000000000 := by decide

/-- The example of R103: handle 0xB01F_4003 is slot 1,000 of slice 22. -/
theorem test_handle : handleSlice 0xB01F4003 = 22 ∧ handleSlot 0xB01F4003 = 1000 ∧ mkHandle 22 1000 3 = 0xB01F4003 := by decide

/-- V1 of chapter 9: eight fp32 logits in one block (Table 9.8); `ps` are fields of the parameter header. -/
def v1 (ps : List (Nat × Nat × Nat)) (u : Nat) : Dist × Option Nat :=
  let p : PosIn := { hdr := fields ([(895, 864, 0x3FB8AA3B), (863, 832, 0x3F800000)] ++ ps), vocab := 8, bias := [], mask := none, window := [] }
  let xs := [0x40400000, 0x3F800000, 0x40400000, 0x7FC00000, 0, 0xFF800000, 0x40000000, 0xC28C0000]
  let d := xs.reverse.foldl (fun acc x => acc * 2 ^ 32 + x) 0
  resolve p [exactBlk p { tag := 0, slot := 0, entry := 0, node := 0, unit := 0, kind := LK_LOGITS, format := 0, data := d }] u

/-- Case A of Table 9.9: no cut. -/
theorem test_v1_case_a :
    let r := v1 [(735, 719, 65536)] 0x8000000000000000
    r.1.kept = [(0, 8 * 2 ^ 101), (1, 2 * 2 ^ 101), (2, 8 * 2 ^ 101), (4, 2 ^ 101), (6, 4 * 2 ^ 101), (7, 0)] ∧
    r.1.s = 23 * 2 ^ 101 ∧ r.2 = some 2 ∧ r.1.nan = 1 ∧ r.1.masked = 1 ∧ r.1.underflow = 1 := by decide +kernel

/-- Cases B, C and D: TOP_K 2, TOP_P 50,000, MIN_P 20,000. -/
theorem test_v1_case_b :
    let r := v1 [(735, 719, 65536), (767, 736, 2)] 0x8000000000000000
    r.1.kept.map Prod.fst = [0, 2] ∧ r.1.ssel = 16 * 2 ^ 101 ∧ r.2 = some 2 := by decide +kernel

theorem test_v1_case_c :
    let r := v1 [(735, 719, 50000)] 0xE000000000000000
    r.1.kept.map Prod.fst = [0, 2, 6] ∧ r.1.ssel = 20 * 2 ^ 101 ∧ r.2 = some 6 := by decide +kernel

theorem test_v1_case_d :
    let r := v1 [(735, 719, 65536), (718, 703, 20000)] 0x4000000000000000
    r.1.kept.map Prod.fst = [0, 2, 6] ∧ r.1.ssel = 20 * 2 ^ 101 ∧ r.2 = some 0 := by decide +kernel

/-- The example of R190: 16 GiB at 5,000,000 MB/s. -/
theorem test_t_model :
    tModel (stateOf (fun d => odSet (odSet d Od.MODEL_WEIGHT_BYTES 3 17179869184) Od.SWITCH_B_WEIGHTS_MBPS 0 5000000)).dev 3
      = 3475974 := by decide +kernel

/-- The example of R444: 1,000 read, seven more counted, so a COMMIT leaves 7. -/
theorem test_commit_leaves_later_counts :
    let d := odSet { s0.dev with snaps := [(odKey Od.DISPATCH_STATS 1, (1000, 7))] } Od.DISPATCH_STATS 1 1007
    (nextOf (exec (.mbCommit 1 Od.DISPATCH_STATS 1) { dev := d, pending := [] })).map
      (fun t => (odGet t.dev Od.DISPATCH_STATS 1, t.dev.mgmt.respStatus)) = some (7, .ok) := by decide +kernel

/-- The example of R454: no mask bit, so a write of CLIENT_WEIGHT gets STATUS 0x15 and the weight stays. -/
theorem test_masked_mctp_write :
    writeCheck s0.dev (.mctp 9 1 5) Od.CLIENT_WEIGHT 0 2 16 = some .rejSealedWrite ∧ Status.rejSealedWrite.code = 0x15 ∧
    odGet (countMasked s0.dev (.mctp 9 1 5) Od.CLIENT_WEIGHT 0 true) Od.MCTP_STATS 1 = 1 := by decide +kernel

/-- The bins of R117: an expiry one TICK late counts at sub-index 1. -/
theorem test_timer_late_bin :
    let e := expireTimer s0.dev 5 false { due := 999, kind := TK_QUARANTINE }
    odGet e Od.TIMER_LATE_HIST 1 = 1 ∧ odGet e Od.TIMER_LATE_MAX 0 = 1 ∧ odGet e Od.TIMER_EXPIRED 0 = 1 := by decide +kernel

/-- The ADMIT record of the example of R433, as the words it gives. -/
theorem test_admit_record :
    let d := (stateOf (fun d => { d with ident := { index := 5 }, clk := { d.clk with tickOffset := 1200000, rootcyc := 592 } })).dev
    traceRecord d TR_ADMIT 0xB01F4003 33 2 (fields [(127, 96, 850), (95, 88, 17), (87, 80, 40), (79, 72, 0), (71, 49, 96), (48, 17, noSlack)])
      = 0x000000124F80128510B01F4003021080000003521128000000C0FFFFFFFE0000 := by decide +kernel

/-! ### Hypotheses that are met, statement by statement -/

theorem test_witness_ResetsClearTheSlice :
    (∃ i b, (i = Instr.porstNAssert ∨ i = .railGating b)) ∧ (∃ i, (i = Instr.wrstNAssert ∨ i = .fySrstNAssert true)) ∧
    s0.dev.clk.mapLost = false := ⟨⟨.porstNAssert, true, .inl rfl⟩, ⟨.wrstNAssert, .inl rfl⟩, rfl⟩

theorem test_witness_LevelsHoldAndReleaseTheSlice :
    let c : Clk := { phase := .held }
    let low : List Clk :=
      [{ c with porstN := false }, { c with wrstN := false }, { c with srstN := false }, { c with rootLock := false }]
    low.map (fun x => (x.porstN, x.wrstN, x.srstN, x.rootLock)) =
      [(false, true, true, true), (true, false, true, true), (true, true, false, true), (true, true, true, false)] ∧
    ({ c with wrstN := false, porstN := false } : Clk).phase = .held ∧ s0.dev.clk.isoN = true := by decide

theorem test_witness_StartUpRunsOrFails :
    (startingAt .waiting 0).dev.clk.phase = .waiting ∧
    ((startingAt .dict 21600).dev.clk.phase = .dict ∧ (startingAt .dict 21600).dev.clk.bist = true ∧
      10752 ≤ (startingAt .dict 21600).dev.clk.spareRows ∧ (startingAt .dict 21600).dev.clk.spareRows < 10753) ∧
    (startingAt .grotto 7128000).dev.clk.phase = .grotto ∧
    ((startingAt .lanes 37800).dev.clk.phase = .lanes ∧ (startingAt .lanes 37800).dev.lanes.any (fun l => l.active ≠ 0) = true) ∧
    ([{ active := 0 }, { active := 0 }] : List LaneGroup).all (fun l => l.active = 0) = true ∧
    (startingAt .cipher 5400).dev.clk.phase = .cipher ∧
    (∃ x ∈ [0#128], x ≠ 0x5AC5B47080B7CDD830047B6AD8E0C469#128) ∧
    (startingAt .table 131072).dev.clk.heldKey = none ∧
    (let c (t : Nat) (p : Option Path) : Clk := { s0.dev.clk with tableBusy := some t, tablePath := p }
     (c 0 none).phase = .ready ∧ (c 0 none).tableBusy = some 0 ∧ 0 ≤ (c 0 none).rootcyc ∧ (c 1 none).rootcyc < 1 ∧
     (c 0 (some .direct)).tablePath = some .direct) ∧
    (startingAt .final 5400).dev.clk.phaseCyc + 5400 ≤ (startingAt .final 5400).dev.clk.rootcyc := by
  refine ⟨by decide, by decide, by decide, by decide, by decide, by decide, ⟨0#128, by decide, by decide⟩, by decide, by decide, by decide⟩

/-- SQ_LOG2 is 8 at reset, so 256 records fit and 257 do not; a value behind the last accepted one is refused. -/
theorem test_witness_DoorbellsMoveRingCounts :
    fyReady s0.dev = true ∧ fyPresent s0.dev = true ∧ ringOwned s0.dev 0 = true ∧ ringEnabled s0.dev 0 = true ∧
    (seqDiff 256 (s0.dev.ring 0).sqHead ≤ 2 ^ odGet s0.dev Od.SQ_LOG2 0 ∧ seqAfter (s0.dev.ring 0).sqTail 256 = false) ∧
    ¬(seqDiff 257 (s0.dev.ring 0).sqHead ≤ 2 ^ odGet s0.dev Od.SQ_LOG2 0) ∧
    ((s0.dev.ring 0).fetchNext = 0 ∧ 0 ≠ 256 ∧ seqDiff 0 (s0.dev.ring 0).sqHead < 8 ∧ (s0.dev.ring 0).errSq = false) ∧
    seqAfter (s0.dev.ring 0).sqTail (2 ^ 32 - 1) = true ∧
    (seqAfter (s0.dev.ring 0).cqHead 0 = false ∧ seqAfter 0 (s0.dev.ring 0).cqTail = false) ∧
    seqAfter 1 (s0.dev.ring 0).cqTail = true ∧
    (fyReady (startingAt .table 0).dev = false ∧ fyPresent (startingAt .table 0).dev = true) ∧
    ringOwned s0.dev 255 = false ∧
    (let d := odSet s0.dev Od.RING_CTRL 0 0; ringOwned d 0 = true ∧ ringEnabled d 0 = false) := by decide

/-- A write of 4 bytes to a register of the mailbox, of value `v`. -/
def mbAccess (off v : Nat) : FabtAccess :=
  { offset := 0x100000 + off, size := 4, write := true, fromSlice := false, value := BitVec.ofNat 64 v }

theorem test_witness_MailboxAccesses :
    (∀ off ∈ [0x000, 0x008, 0x010, 0x1FC], fabtCase s0.dev (mbAccess off 1) = none) ∧
    fabtCase s0.dev { mbAccess 0x018 0 with write := false } = none ∧ s0.dev.mgmt.busy = false ∧
    (let d := (stateOf mbGo).dev; d.mgmt.busy = true ∧ fabtCase d (mbAccess 0x000 1) = none) ∧
    ((mbAccess 0x010 1).offset = 0x100010 ∧ (mbAccess 0x010 1).value.toNat % 2 ^ 32 = 1 ∧
      (mbAccess 0x010 0).value.toNat % 2 ^ 32 ≠ 1) := by decide +kernel

/-- R445, Table 18.3: bytes written to MB_CMD read back there, and MB_GO makes the request wait, so an OPCODE outside
Table 18.4 is answered REJ_FORMAT (R447). -/
theorem test_mailbox_opcode_refused :
    let s (d : Device) : State := { dev := d, pending := [] }
    ((nextOf (exec (.fabtAccessRefused { mbAccess 0x004 (9 * 2 ^ 24) with size := 4 }) s0)).bind (fun t =>
      nextOf (exec (.fabtAccessRefused (mbAccess 0x010 1)) (s t.dev)))).map (fun u =>
        (u.dev.mgmt.respStatus, u.dev.mgmt.busy, u.dev.mgmt.done)) = some (.rejFormat, false, true) := by decide +kernel

theorem test_witness_RefusedAccessesOnlyCount :
    let rd (o : Nat) (w sl : Bool) (sz : Nat) : FabtAccess := { offset := o, write := w, size := sz, fromSlice := sl }
    fabtCase s0.dev (rd 0xFF000 true false 4) = some 0x01 ∧ ringOwned s0.dev (0xFF000 / 4096) = false ∧
    fabtCase s0.dev (rd 0x400000 true false 4) = some 0x01 ∧ fabtCase s0.dev (rd 0x800000 true false 4) = some 0x02 ∧
    fabtCase s0.dev (rd 0x114008 true false 4) = some 0x09 ∧ isDoorbell (rd 0x400000 true false 4) = false ∧
    (isDoorbell (rd 0xFF000 true false 4) = true ∧ fyReady (startingAt .table 0).dev = false ∧
      fyPresent (startingAt .table 0).dev = true) ∧
    fabtCase s0.dev (rd 0x4 true false 4) = none ∧
    (∃ st, st ≠ .ok ∧ directlyWritten Od.TRACE_TAIL = true ∧
      writeCheck s0.dev .direct Od.TRACE_TAIL 1 (directData Od.TRACE_TAIL (List.replicate 4 0)).length
        (ofLe (directData Od.TRACE_TAIL (List.replicate 4 0))) = some st) ∧ Map.wf s0.dev.od = true := by
  refine ⟨by decide, by decide, by decide, by decide, by decide, by decide, by decide, by decide, ⟨.rejFormat, by decide, by decide, by decide +kernel⟩, by decide⟩

/-- A FAB_I access `r` outstanding under identifier 9. -/
def withAccess (k : FabiKind) (w : Bool) (len : Nat) (again : Bool) (d : Device) : Device :=
  { d with fabi := { d.fabi with outstanding :=
    [{ id := 9, kind := k, write := w, addr := 0x1000, len := len, data := 0, again := again }] } }

theorem test_witness_FabiResponsesServeTheirAccess :
    let w := (stateOf (withAccess (.cqWrite 0) true 64 false)).dev
    let r := (stateOf (withAccess (.sqRead 0 0) false 4 false)).dev
    fyPresent w = true ∧ fyReady r = true ∧ (fabiFind w 9).map FabiReq.write = some true ∧
    ((fabiFind r 9).map FabiReq.write = some false ∧ ([0, 0, 0, 0] : List Byte).length = 4) ∧
    ((fabiFind w 9).map (fun x => x.again) = some false ∧ (FabiKind.resultBody 5).onceMore = true ∧
      (FabiKind.sqRead 0 0).onceMore = false) ∧
    (fabiFind r 9).map FabiReq.kind = some (.sqRead 0 0) := by decide

/-- A waiting END of seq5's handle on ring pair 0. -/
def complOf (ct : Nat) : Compl :=
  { ring := 0, ctype := ct, status := .ok, handle := mkHandle 0 5 1, client := 7, userTag := 0, tokenEnd := 0,
    hseqOf := 0, arg0 := 0, arg1 := 0, arg2 := 0, noIrq := false, home := 0 }

theorem test_witness_CompletionRingIsWrittenAndSignalled :
    let d := (stateOf (fun d => d.modRing 0 (fun r => { r with waiting := [complOf CT_END] }))).dev
    let full := (stateOf (fun d => d.modRing 0 (fun r => { r with cqTail := 1024, fullSince := some 0 }))).dev
    let irq := (stateOf (fun d => d.modRing 0 (fun r => { r with irqOldest := some 950, useVector := 16, useCount := 8, useTicks := 50 }))).dev
    ((d.ring 0).waiting = [complOf CT_END] ∧ (d.ring 0).writing = false ∧ (d.ring 0).errCq = false ∧ cqFull d 0 = false ∧
      ringOwned d 0 = true ∧ fyReady d = true) ∧
    ((full.ring 0).fullSince = some 0 ∧ cqFull full 0 = true ∧ 0 + (full.ring 0).useStall ≤ full.tick) ∧
    ((irq.ring 0).irqOldest = some 950 ∧ 950 + (irq.ring 0).useTicks = irq.tick ∧ (irq.ring 0).useVector ≠ 0 ∧
      (irq.ring 0).useCount ≠ 0) ∧
    ((complOf CT_TOKENS).ctype = CT_TOKENS ∧ (complOf CT_TURN_END).ctype = CT_TURN_END ∧ (complOf CT_SAVED).ctype = CT_SAVED ∧
      (complOf CT_RESTORED).ctype = CT_RESTORED ∧ (complOf CT_SPAWNED).ctype = CT_SPAWNED ∧
      (complOf CT_REFUSED).ctype = CT_REFUSED ∧ ringOwned d 9 = false) ∧
    (let o := d.modTurn (fun t => { t with owned := [(mkHandle 0 5 1, { ring := 0, client := 7, hseq := 0 })] })
     (Map.find o.turn.owned (complOf CT_TURN_END).handle).isSome = true) ∧
    complRefused d (complOf CT_TOKENS) = false ∧
    complRefused (d.modTurn (fun t => { t with refused := [mkHandle 0 5 1] })) (complOf CT_TOKENS) = true := by decide

/-- A dictionary write that is taken on the direct path, or by the mailbox. -/
def taken (d0 : Device) (path : Path) (idx sub n v : Nat) : Prop := ∃ d, WriteTaken d0 path idx sub (leBytes v n) d

theorem taken_direct {d : Device} {idx sub n v : Nat} (hp : fyPresent d = true) (hd : directlyWritten idx = true)
    (hc : writeCheck d .direct idx sub (leBytes v n).length (ofLe (leBytes v n)) = none) : taken d .direct idx sub n v :=
  ⟨d, hp, by rw [← hd]; rfl, rfl, hc⟩

/-- The management unit is free and no request waits for it. -/
abbrev unitFree (d : Device) : Prop :=
  d.mgmt.busy = false ∧ d.mgmt.job = none ∧ d.mgmt.queue = [] ∧ d.mgmt.setParams = []

theorem cvcOnes_mgmt (point sel r n seq : Nat) : ∀ (l : Map Nat) (d : Device),
    (l.foldl (fun d p => cvcOne d p.1 p.2 point sel r n seq) d).mgmt = d.mgmt
  | [], _ => rfl
  | p :: l, d => by
    refine (cvcOnes_mgmt point sel r n seq l (cvcOne d p.1 p.2 point sel r n seq)).trans ?_
    unfold cvcOne
    repeat (first | rfl | split)

theorem cvcPass_mgmt (d : Device) (point sel r n seq : Nat) : (cvcPass d point sel r n seq).mgmt = d.mgmt := by
  refine Eq.trans ?_ (cvcOnes_mgmt point sel r n seq (cvcView d).chans d)
  unfold cvcPass cvcPassAs cvcLegacy
  dsimp only
  repeat (first | rfl | split)

theorem unitTurn_mbAccept {d : Device} (h : unitFree d) (op reqId idx sub : Nat) (v : List Byte) :
    unitTurn (mbAccept d op reqId idx sub v) .mailbox = true := by
  obtain ⟨-, hj, hq, hs⟩ := h
  unfold unitTurn mbAccept mbGo
  rw [cvcPass_mgmt]
  simp only [Device.modMgmt, hj, turnsAfter]
  cases d.mgmt.lastSource <;> simp [sourceWaits, hq, hs]

theorem taken_mailbox {d : Device} {idx sub n v : Nat} (hp : fyPresent d = true) (hb : unitFree d)
    (hc : writeCheck (tookTurn (mbAccept d OP_WRITE 1 idx sub (leBytes v n)) (.mailbox 1)) (.mailbox 1) idx sub (leBytes v n).length
      (ofLe (leBytes v n)) = none) : taken d (.mailbox 1) idx sub n v := by
  have h : acceptWrite d (.mailbox 1) idx sub (leBytes v n) = (mbAccept d OP_WRITE 1 idx sub (leBytes v n), true) := by
    unfold acceptWrite
    simp only [hb.1]
    exact Prod.ext rfl (unitTurn_mbAccept hb ..)
  exact ⟨_, hp, by rw [h], by rw [h], hc⟩

theorem test_witness_RingControlActsAsOneWrite :
    taken s0.dev (.mailbox 1) Od.RING_CTRL 0 1 8 ∧ taken s0.dev (.mailbox 1) Od.RING_CTRL 0 1 2 ∧
    (ringResetOk s0.dev 0 = false ∧ bit 2 1 = true ∧ bit 8 1 = false ∧ bit 8 2 = false ∧ bit 8 0 = false) :=
  ⟨taken_mailbox (by decide) (by decide) (by decide), taken_mailbox (by decide) (by decide) (by decide), by decide⟩

/-- A submission record of an opcode whose other fields are zero, held at the head of ring pair 0 in a decision slot. -/
def withRecord (op : Nat) (d : Device) : Device :=
  d.modRing 0 (fun r => { r with sqTail := 1, fetchNext := 1, held := [(0, BitVec.ofNat 1024 (op * 2 ^ 984))] })

theorem test_witness_ConsumptionTakesTheHeadRecord :
    (∀ op ∈ [1, 2, 3, 4, 5, 6, 7, 8, 9, 10], let d := (stateOf (withRecord op)).dev
      (Map.find (d.ring 0).held (d.ring 0).sqHead).isSome = true ∧ rrPick d = some 0 ∧ slotForConsume d = true ∧
      Sq.opcode (op * 2 ^ 984) = op) ∧
    (formatError (stateOf (withRecord 2)).dev 0 0 (2 * 2 ^ 984)).isSome = true ∧
    formatError (stateOf (withRecord 4)).dev 0 0 (4 * 2 ^ 984) = none ∧
    Map.wf ((stateOf (withRecord 1)).dev.ring 0).held = true := by decide +kernel

/-- The pair's turn has not come, and a decision slot has been taken. -/
theorem test_witness_ConsumptionWaits : rrPick s0.dev ≠ some 0 ∧
    slotForConsume (s0.dev.modTurn (fun t => { t with lastSlot := some (decisionSlot s0.dev) })) = false := by decide +kernel

def turn0 : TurnReq :=
  { promptAddr := 0, promptLen := 0, toklogAddr := 0, maxTokens := 1, deadline := 0, consumeTick := 0, hseq := 0, stream := false,
    paramAddr := 0, paramLen := 0, biasTokens := [] }

/-- A hand-over of a class G request to group 3, which is online on this slice with tiles 0 to 15. -/
def handOver3 (k : HandOverKind) (im : Option ImageRef) : HandOver :=
  { id := 1, src := 1, kind := k, ring := 0, client := 7, userTag := 0, cls := .g, singleTurn := false, version := 1,
    adapter := 0, group := 3, turn := turn0, resultAddr := 0, resultLen := 0, header := 0, plan := 0, cachedPages := 0,
    fellBack := false, fbUsed := 0, epoch := none, flow := none, image := im }

def withGroup3 (d : Device) : Device := odSet d Od.GROUP_CFG 3 (2 ^ 20 + 16 * 2 ^ 7)

def image0 : ImageRef := { addr := 0, len := 512, record := 0, clen := 0, npages := 0, pageOff := 512, forced := false }

/-- A request handed over at TICK `t` under identifier 2. -/
def handedOver (t : Nat) (d : Device) : Device :=
  d.modTurn (fun x => { x with decisions := [{ did := 4, turn := turn0, phase := .handOver 2 t }] })

def spawn0 : SpawnReq :=
  { id := 0, src := 0, parent := 0, ring := 0, client := 7, userTag := 0, model := 1, adapter := 0, singleTurn := true,
    turn := turn0, paramAddr := 0, paramLen := 0, flow := none }

theorem test_witness_HandOverAdmitsOrStrikes :
    (handOverOk (stateOf withGroup3).dev (handOver3 .submit none) = true ∧ allocSlot (stateOf withGroup3).dev = some 0) ∧
    ((handOver3 .restore (some image0)).kind = .restore ∧ (handOver3 .restore (some image0)).image = some image0) ∧
    handOverOk s0.dev (handOver3 .submit none) = false ∧
    ((handOverDec (stateOf (handedOver 990)).dev 2).map Prod.snd = some 990 ∧ s0.dev.tick = 990 + 10) ∧
    ((handOverDec (stateOf (handedOver 989)).dev 2).map Prod.snd = some 989 ∧ 989 + 10 < s0.dev.tick) ∧
    ringOwned s0.dev spawn0.ring = true ∧ ringOwned s0.dev ({ spawn0 with ring := 9 } : SpawnReq).ring = false ∧
    (let d := s0.dev.modTurn (fun t => { t with owned := [(0, { ring := 0, client := 7, hseq := 0, aborted := true })] })
     ((Map.find d.turn.owned spawn0.parent).map (fun o => o.aborted)) = some true) := by decide +kernel

def cmd0 (ring : Nat) : HostCmd := { id := 3, src := 1, ring := ring, client := 7, handle := mkHandle 0 5 1, op := .pause }

def fwd0 (k : FwdKind) : Fwd :=
  { id := 3, kind := k, ring := 0, hseq := 0, userTag := 0, client := 7, handle := mkHandle 0 5 1, named := mkHandle 0 5 1,
    noIrq := false, cmd := cmd0 0, tick := 0 }

theorem test_witness_HostCommandsReachLiveSequences :
    let d := (stateOf (withSeq (seq5 .decode))).dev
    (liveSlot d (forwarded d (cmd0 0).handle) = some 5 ∧ (d.seq? 5).isSome = true ∧
      (seq5 .decode).tcb.ring = (cmd0 0).ring ∧ (seq5 .decode).tcb.client = (cmd0 0).client) ∧
    (seq5 .decode).tcb.ring ≠ (cmd0 1).ring ∧
    liveSlot s0.dev (forwarded s0.dev (cmd0 0).handle) = none ∧
    (∀ k ∈ [FwdKind.abort, .pause, .resume, .save],
      ([fwd0 k].find? (fun x => x.id = 3)).map (fun f => f.kind) = some k) := by decide

/-- A decision whose lookup 8 of group 3 went out at TICK `t`. -/
def lookedUp (t : Nat) (d : Device) : Device :=
  withGroup3 (d.modTurn (fun x => { x with decisions :=
    [{ did := 4, turn := turn0, phase := .lookups, lookups := [{ id := 8, group := 3, tick := t }] }] }))

def queued4 (d : Device) : Device :=
  d.modTurn (fun x => { x with decisions := [{ did := 4, turn := turn0, phase := .queued }] })

theorem test_witness_LookupsAndQueueWork :
    (bf (8 * 2 ^ 240) 255 240 = 8 ∧ ((lookupOf (stateOf (lookedUp 998)).dev 8).map (fun x => x.2.answered)) = some false ∧
      groupHome (stateOf (lookedUp 998)).dev 3 = 0 ∧ 998 + 2 = s0.dev.tick) ∧
    (let d := (stateOf (fun d => (lookedUp 998 d).modTurn (fun t => { t with asked := [(8, (3, 1))] }))).dev
     Map.find d.turn.asked 8 = some (3, 1) ∧ groupHome d 3 = 0 ∧ groupHome d 3 ≠ 1 ∧
     ((lookupOf (noteAnswer (d.modTurn (fun t => { t with asked := Map.del t.asked 8 })) 3 1 0) 8).map (fun x => x.2.answered))
       = some false) ∧
    (retestWaits (stateOf queued4).dev = true ∧ slotForRetest (stateOf queued4).dev = true ∧
      (trimPass (currentPass (stateOf queued4).dev)).turn.pass = some [4]) ∧
    s0.dev.tick / 100 ≠ s0.dev.turn.lastSweep := by decide +kernel

/-- CVC_CFG of an enabled channel on ring pair 0's completions, without a trailer. -/
def cvc0 : Nat := 2 ^ 63 + 2 * 2 ^ 56

theorem test_witness_ChannelEntriesTakeTheirValues :
    taken s0.dev (.mailbox 1) Od.CVC_CFG 63 8 cvc0 ∧ cvcCfgOk s0.dev 63 (cvc0 &&& 0xFFFFFF8000000000) = true ∧
    taken s0.dev (.mailbox 1) Od.CVC_RESET 0 1 63 ∧ taken s0.dev (.mailbox 1) Od.CVC_RESET 0 1 0xFF ∧
    taken s0.dev (.mailbox 1) Od.LEGACY_CTRL 0 4 1 ∧ taken s0.dev (.mailbox 1) Od.LEGACY_VALUE 0 8 5 ∧
    ((odStored s0.dev Od.CVC_CFG).all (fun p => !cvcSees p.2 PT_CQ_WRITE 0) = true ∧
      bit (odGet s0.dev Od.LEGACY_CFG 0) 31 = false) :=
  ⟨taken_mailbox (by decide) (by decide) (by decide +kernel), by decide +kernel,
   taken_mailbox (by decide) (by decide) (by decide +kernel), taken_mailbox (by decide) (by decide) (by decide +kernel),
   taken_mailbox (by decide) (by decide) (by decide +kernel), taken_mailbox (by decide) (by decide) (by decide +kernel),
   by decide +kernel⟩

/-- A vendor-defined request at the head of the queue. -/
def withRequest (op idx sub : Nat) (data : List Byte) (d : Device) : Device :=
  { d with mgmt := { d.mgmt with queue := [{ src := 9, tag := 1, body := mctpRequest op 1 idx sub data }] } }

/-- The mailbox went last, and a SET_PARAM waits. -/
def mailboxLast (d : Device) : Device :=
  { d with mgmt := { d.mgmt with lastSource := .mailbox, setParams := [(0, 0)] } }

theorem test_witness_RegisterWritesHaveTheirEntrysEffect :
    taken s0.dev .direct Od.TRACE_TAIL 0 4 0 ∧ taken s0.dev (.mailbox 1) Od.CQ_VECTOR 0 1 16 ∧
    (effectOf (.mailbox 1) Od.CQ_VECTOR 0 s0.dev 16).2 = some .ok ∧
    (effectOf (.mailbox 1) Od.RING_CTRL 0 s0.dev 2).2 = some .rejFormat ∧
    (effectOf (.mailbox 1) Od.TABLE_KEY 0 (odSet s0.dev Od.RING_CTRL 0 0) 2).2 = none ∧
    (let m : MctpMsg := { src := 9, tag := 1, body := mctpRequest OP_WRITE 1 Od.CQ_VECTOR 0 [16] }
     m.control = false ∧ m.formatOk = true ∧ m.op = OP_WRITE ∧ m.idx = Od.CQ_VECTOR ∧ m.sub = 0 ∧ m.data = [16] ∧
     (let d := (stateOf (withRequest OP_WRITE Od.CQ_VECTOR 0 [16])).dev
      d.mgmt.queue = [m] ∧ d.mgmt.job = none ∧ unitTurn d .mctp = true)) ∧
    (unitTurn (mbAccept s0.dev OP_WRITE 1 Od.CQ_VECTOR 0 [16, 0]) .mailbox = true ∧
      (writeCheck (tookTurn (mbAccept s0.dev OP_WRITE 1 Od.CQ_VECTOR 0 [16, 0]) (.mailbox 1)) (.mailbox 1) Od.CQ_VECTOR 0 2 16).isSome
        = true) ∧
    unitTurn (mbAccept (stateOf mailboxLast).dev OP_WRITE 1 Od.CQ_VECTOR 0 [16]) .mailbox = false ∧
    (let d := (stateOf mbGo).dev; d.mgmt.busy = true ∧ mbHolds d OP_WRITE 1 Od.CQ_VECTOR 0 = false) :=
  ⟨taken_direct (by decide) (by decide) (by decide +kernel), taken_mailbox (by decide) (by decide) (by decide +kernel),
   by decide +kernel, by decide +kernel, by decide +kernel,
   ⟨rfl, rfl, rfl, rfl, rfl, rfl, rfl, by decide, by decide⟩,
   ⟨unitTurn_mbAccept (by decide) .., by decide +kernel⟩, by decide +kernel, by decide +kernel⟩

theorem test_witness_TimeEntriesSetTick :
    let off := odSet s0.dev Od.RING_CTRL 0 0
    taken s0.dev (.mailbox 1) Od.ROOT_MHZ 0 2 3600 ∧
    (taken off (.mailbox 1) Od.TICK_LOAD 0 8 (2 ^ 64 - 1) ∧ off.timers = [] ∧ anyRingEnabled off = false) ∧
    (taken s0.dev (.mailbox 1) Od.TICK_LOAD 0 8 7 ∧ anyRingEnabled s0.dev = true) :=
  ⟨taken_mailbox (by decide) (by decide) (by decide +kernel),
   ⟨taken_mailbox (by decide) (by decide) (by decide +kernel), rfl, by decide +kernel⟩,
   taken_mailbox (by decide) (by decide) (by decide +kernel), by decide +kernel⟩

/-- A trace record waits, and the host ring is open. -/
def withTrace (d : Device) : Device :=
  odSet (d.modTrace (fun t => { t with ring := [0] })) Od.TRACE_HOST_BASE 0 0x10000

theorem test_witness_TraceIsKeptAndExported :
    taken s0.dev (.mailbox 1) Od.MSI_MASK 0 32 0 ∧ taken s0.dev .direct Od.TRACE_TAIL 0 4 0 ∧
    taken s0.dev (.mailbox 1) Od.TRACE_HOST_BASE 0 8 0x10000 ∧
    (let d := (stateOf withTrace).dev
     d.trace.ring[d.trace.issued]? = some 0 ∧ odGet d Od.TRACE_HOST_BASE 0 ≠ 0 ∧
     seqDiff ((d.trace.head + d.trace.issued) % 2 ^ 32) d.trace.tail < 2 ^ odGet d Od.TRACE_HOST_LOG2 0 ∧
     d.fabi.outstanding.length < 448) ∧
    s0.dev.trace.ring.length ≤ s0.dev.trace.issued ∧
    (let d := (stateOf (fun d => (withTrace d).modTrace (fun t => { t with head := 2 ^ 32 - 1 }))).dev
     2 ^ odGet d Od.TRACE_HOST_LOG2 0 ≤ seqDiff ((d.trace.head + d.trace.issued) % 2 ^ 32) d.trace.tail) :=
  ⟨taken_mailbox (by decide) (by decide) (by decide +kernel), taken_direct (by decide) (by decide) (by decide +kernel),
   taken_mailbox (by decide) (by decide) (by decide +kernel), by decide +kernel, by decide, by decide +kernel⟩

theorem crcBits_lt {k : CrcKind} (h : k.refl = false) : ∀ n r, r < 2 ^ k.width → crcBits k n r < 2 ^ k.width
  | 0, _, hr => hr
  | n + 1, r, hr => by
    unfold crcBits
    refine crcBits_lt h n _ ?_
    simp only [h, Bool.false_eq_true, if_false]
    split <;> exact Nat.mod_lt _ (Nat.two_pow_pos _)

theorem crcByte_lt {r : Nat} (b : Byte) (hr : r < 2 ^ 64) : crcByte crc64 r b < 2 ^ 64 := by
  have hb : b.toNat <<< 56 < 2 ^ 64 := by have := b.isLt; rw [Nat.shiftLeft_eq]; omega
  exact crcBits_lt (k := crc64) rfl 8 _ (Nat.xor_lt_two_pow hr hb)

theorem crcRaw_lt : ∀ (l : List Byte) r, r < 2 ^ 64 → crcRaw crc64 r l < 2 ^ 64
  | [], _, h => h
  | b :: l, _, h => crcRaw_lt l _ (crcByte_lt b h)

theorem crcOf_lt (l : List Byte) : crcOf crc64 l < 2 ^ 64 := by
  have h := crcRaw_lt l 0 (Nat.two_pow_pos _)
  have h0 : crcOf crc64 l = crcRaw crc64 0 l := Nat.xor_zero _
  rw [h0]; exact h

theorem setupFp_lt (d : Device) : setupFp d < 2 ^ 64 := crcOf_lt _

theorem ofLe_lt : ∀ (n v : Nat), ofLe (leBytes v n) < 256 ^ n ∧ (leBytes v n).length = n
  | 0, _ => by simp [leBytes, ofLe]
  | n + 1, v => by
    have := ofLe_lt n (v >>> 8)
    have hb := (BitVec.ofNat 8 v).isLt
    simp only [leBytes, ofLe, List.length_cons, pow_succ]
    omega

theorem taken_seal {d : Device} (hp : fyPresent d = true) (hb : unitFree d) (v : Nat) :
    taken d (.mailbox 1) Od.SEAL 0 8 v := by
  refine taken_mailbox hp hb ?_
  obtain ⟨h1, h2⟩ := ofLe_lt 8 v
  have hrow : odRow Od.SEAL 0 = some ⟨0x2000, 0x2000, 0, 0, 4, 8, 3, 0, 0, 0, 2 ^ 64 - 1, 1⟩ := by decide +kernel
  have hk : ∀ d, keptBits d Od.SEAL = 2 ^ 256 - 1 := fun _ => rfl
  have hm : ofLe (leBytes v 8) &&& (2 ^ 256 - 1) = ofLe (leBytes v 8) := by
    rw [Nat.and_two_pow_sub_one_eq_mod]; exact Nat.mod_eq_of_lt (by omega)
  have hr : ∀ d x, rangeOk d Od.SEAL x = true := fun _ _ => rfl
  simp only [writeCheck, hrow, hk, hm, pathRefusal, valueOk, hr, h2]
  simp [Nat.mod_one]; omega

theorem test_witness_KeyAndSealActOnce :
    let early := (startingAt .dict 0).dev
    let off := odSet s0.dev Od.RING_CTRL 0 0
    (taken { early with clk := { early.clk with present := true } } (.mailbox 1) Od.TABLE_KEY 0 16 5 ∧
      early.clk.phase.beforeTable = true ∧ anyRingEnabled early = false ∧ early.seqs = []) ∧
    (taken off (.mailbox 1) Od.TABLE_KEY 0 16 (2 ^ 128 - 1) ∧ off.clk.phase.beforeTable = false ∧ anyRingEnabled off = false ∧
      off.seqs = []) ∧
    anyRingEnabled s0.dev = true ∧
    (∀ d ∈ [s0.dev, odSet s0.dev Od.PART_MASK_ADDR 0 512, odSet s0.dev Od.SEALED 0 1],
      (∀ v : BitVec 64, taken d (.mailbox 1) Od.SEAL 0 8 v.toNat) ∧ setupFp d < 2 ^ 64) ∧
    (odGet s0.dev Od.SEALED 0 ≠ 1 ∧ odGet s0.dev Od.PART_MASK_ADDR 0 = 0) ∧
    odGet (odSet s0.dev Od.PART_MASK_ADDR 0 512) Od.PART_MASK_ADDR 0 ≠ 0 ∧ odGet (odSet s0.dev Od.SEALED 0 1) Od.SEALED 0 = 1 :=
  ⟨⟨taken_mailbox (by decide) (by decide) (by decide +kernel), by decide, by decide +kernel, rfl⟩,
   ⟨taken_mailbox (by decide) (by decide) (by decide +kernel), by decide, by decide +kernel, rfl⟩, by decide +kernel,
   by
     intro d hd
     refine ⟨fun v => taken_seal ?_ ?_ _, setupFp_lt d⟩ <;>
       (simp only [List.mem_cons, List.not_mem_nil, or_false] at hd; rcases hd with rfl | rfl | rfl <;> decide),
   by decide +kernel, by decide +kernel, by decide +kernel⟩

/-- The member has 8 slices. -/
def member8 (d : Device) : Device := { d with ident := { n := 8 } }

/-- Model 1 is registered, and group 3 has one hot slot that holds it. -/
def withModel (d : Device) : Device :=
  odSet (odSet (odSet (withGroup3 d) Od.GROUP_HOT_SLOTS 3 1) Od.GROUP_HOT_MAP 3 1) Od.MODEL_STATE 1 1

theorem test_witness_GroupEntriesTakeTheirValues :
    let v := 2 ^ 20 + 16 * 2 ^ 7
    let d := (stateOf withModel).dev
    (taken s0.dev (.mailbox 1) Od.GROUP_CFG 255 4 v ∧ groupCfgOk s0.dev 255 v = true) ∧
    (taken d (.mailbox 1) Od.GROUP_HOT_MAP 3 2 0xFFFF ∧ hotMapOk d 3 0 0xFFFF = true ∧ hotMapOk d 3 0 1 = true) ∧
    (taken s0.dev (.mailbox 1) Od.SEQ_QUERY_HANDLE 0 4 (mkHandle 0 65535 2047) ∧ handleSlice (mkHandle 0 65535 2047) = 0) ∧
    (taken s0.dev (.mailbox 1) Od.SEQ_QUERY_HANDLE 0 4 (mkHandle 1 0 1) ∧ handleSlice (mkHandle 1 0 1) ≠ s0.dev.ident.index) :=
  ⟨⟨taken_mailbox (by decide) (by decide) (by decide +kernel), by decide +kernel⟩,
   ⟨taken_mailbox (by decide) (by decide) (by decide +kernel), by decide +kernel, by decide +kernel⟩,
   ⟨taken_mailbox (by decide) (by decide) (by decide +kernel), by decide⟩,
   taken_mailbox (by decide) (by decide) (by decide +kernel), by decide⟩

/-- The slice drains; a dirty T0 copy is left where `b` is set. -/
def draining (b : Bool) (d : Device) : Device :=
  odSet { d with ctx := { d.ctx with dir1 := if b then [(0, { t0 := .dirty })] else [] } } Od.SLICE_DRAIN 0 1

theorem test_witness_CapacityChangesComeToRest :
    (taken s0.dev (.mailbox 1) Od.SLICE_ONLINE 0 4 (2 ^ 32 - 2) ∧ taken s0.dev (.mailbox 1) Od.SLICE_DRAIN 0 1 1 ∧
      taken s0.dev (.mailbox 1) Od.TILE_ONLINE 1 8 (2 ^ 64 - 2) ∧ taken s0.dev (.mailbox 1) Od.TILE_LOST 0 2 127 ∧
      taken s0.dev (.mailbox 1) Od.ACCT_RESET 0 2 4095 ∧ taken s0.dev (.mailbox 1) Od.ACCT_RESET 0 2 0xFFFF ∧
      taken s0.dev (.mailbox 1) Od.SLICE_DRAIN 0 1 0 ∧ 127 / 128 = s0.dev.ident.index) ∧
    (let d := (stateOf (fun d => odSet (draining false d) Od.RING_CTRL 0 0)).dev; drained d = true ∧ quiet d = true) ∧
    (drained (stateOf (draining false)).dev = true ∧ quiet (stateOf (draining false)).dev = false) ∧
    drained (stateOf (draining true)).dev = false ∧ odGet s0.dev Od.SLICE_DRAIN 0 = 0 ∧ (s0.dev.tile 0).drainTick = none ∧
    (let t (k : Nat) := (stateOf (fun d => { d with tiles := [(0, { drainTick := some k })] })).dev
     t 0 |>.tile 0 |>.drainTick |>.map (fun k => k + odGet (t 0) Od.TILE_DRAIN_US 0 ≤ (t 0).tick) |>.isSome) := by
  refine ⟨⟨taken_mailbox (by decide) (by decide) (by decide +kernel), taken_mailbox (by decide) (by decide) (by decide +kernel),
    taken_mailbox (by decide) (by decide) (by decide +kernel), taken_mailbox (by decide) (by decide) (by decide +kernel),
    taken_mailbox (by decide) (by decide) (by decide +kernel), taken_mailbox (by decide) (by decide) (by decide +kernel),
    taken_mailbox (by decide) (by decide) (by decide +kernel), by decide⟩, ?_⟩
  decide +kernel

theorem test_witness_MailboxServesRequests :
    (fyPresent s0.dev = true ∧ s0.dev.mgmt.busy = false) ∧
    ((odRow Od.CLIENT_WEIGHT 255).map (fun e => e.acc ≠ 3 ∧ e.size ≤ 256) = some True) ∧
    ((odRow Od.SEAL 0).map OdRow.acc = some 3 ∧ odRow Od.SEAL 1 = none) ∧
    (commitOk Od.SEAL 0 = false ∧ commitOk Od.PORT_ERR_COUNTS 10 = true ∧
      Map.find s0.dev.snaps (odKey Od.PORT_ERR_COUNTS 10) = none ∧ commitOk Od.ALERT_CAUSE 0 = true) ∧
    Map.find [(odKey Od.PORT_ERR_COUNTS 10, (3, 1))] (odKey Od.PORT_ERR_COUNTS 10) = some (3, 1) ∧
    (∀ op ∈ [OP_READ, OP_COMMIT, OP_INFO], let m (d : Device) := mbAccept d op 1 Od.MCTP_STATS 0 []
      unitTurn (m s0.dev) .mailbox = true ∧ unitTurn (m (stateOf mailboxLast).dev) .mailbox = false ∧
      (m s0.dev).mgmt.busy = true ∧ mbHolds (m s0.dev) op 1 Od.MCTP_STATS 0 = true ∧
      mbHolds (m s0.dev) op 2 Od.MCTP_STATS 0 = false ∧ commitOk Od.MCTP_STATS 0 = true) ∧
    (odRow Od.MCTP_STATS 0).map (fun e => (decide (e.acc ≠ 3 ∧ e.size ≤ 256))) = some true ∧
    (odRow Od.DIAG_DATA 0).map (fun e => (decide (e.acc ≠ 3 ∧ e.size ≤ 128))) = some true := by
  refine ⟨by decide, ?_, by decide +kernel, by decide +kernel, by decide +kernel, by decide +kernel, by decide +kernel, by decide +kernel⟩
  rw [show odRow Od.CLIENT_WEIGHT 255 = some ⟨0x3000, 0x300F, 0, 255, 2, 2, 2, 1, 1, 0, 65535, 1⟩ from by decide +kernel]
  simp

theorem test_witness_DirectReadsLatchWords : fyPresent s0.dev = true ∧ 255 < 256 ∧ 1 ≤ 3 ∧ 3 < 4 := by decide

/-- A DECODE entry of sequence 5, and the command at in-flight entry 4,095 that holds it in state `st`. -/
def entry0 : WlEntry := { slot := 5, kind := K_DECODE, logitMode := 1, client := 7 }
def inFlight0 (st : IState) : InFlight := { istate := st, group := 3, model := 1, entries := [entry0], block := 0, blocks := 1 }
def withCommand (st : IState) (d : Device) : Device := { d with inflight := [(4095, inFlight0 st)] }
def tag0 : Nat := mkTag 0 4095 1

theorem test_witness_WorkListsAreWrittenAndRead :
    Memory.wf s0.dev.window = true ∧ (0x3FF000 % 64 = 0 ∧ 4096 % 64 = 0 ∧ 0x3FF000 + 4096 ≤ 0x400000) ∧
    (fyReady s0.dev = true ∧ entryAt s0.dev 0 = none) ∧ entryAt (stateOf (withCommand .issued)).dev 0 = some entry0 := by decide

def packet0 (som eom : Bool) (body : List Byte) : MctpPacket :=
  { dest := 0, src := 9, som := som, eom := eom, seqNo := 3, tagOwner := true, tag := 7, payload := body }

/-- A vendor-defined request in one packet is taken. -/
theorem vendor_acceptable (op reqId idx sub : Nat) (data : List Byte) :
    acceptable (joinPacket s0.dev (packet0 true true (mctpRequest op reqId idx sub data))) = true := by
  have j : joinPacket s0.dev (packet0 true true (mctpRequest op reqId idx sub data)) =
      { src := 9, tag := 7, tagOwner := true, nextSeq := 0, packets := 1, body := mctpRequest op reqId idx sub data } := by
    simp [joinPacket, packet0, packetFull]
  rw [j]
  simp [acceptable, mctpRequest, vendorBytes, MctpMsg.byte]

theorem test_witness_MctpPacketsAssemble :
    let m : MctpMsg := { src := 1, tag := 0, body := [] }
    4 ≤ [m, m, m, m].length ∧ s0.dev.mgmt.queue.length < 4 ∧ mgtBuffered s0.dev < 4 ∧ (packet0 true false []).eom = false ∧
    ({ packet0 true true [] with dest := 1 } : MctpPacket).dest ≠ odGet s0.dev Od.MCTP_EID 0 ∧
    (let p := packet0 true true [0x00, 0x80, 0x02]
     acceptable (joinPacket s0.dev p) = true ∧ s0.dev.mgmt.queue.head? = none ∧
     ({ src := p.src, tag := p.tag, body := (joinPacket s0.dev p).body } : MctpMsg).refusal = none) ∧
    ((packet0 false true []).som = false ∧ partOf s0.dev (packet0 false true []) = none) ∧
    (let m (b : List Byte) : MctpMsg :=
       { src := 9, tag := 7, body := (joinPacket s0.dev (packet0 true true b)).body }
     acceptable (joinPacket s0.dev (packet0 true true [0x00, 0x80, 7])) = true ∧
     ((m [0x00, 0x80, 7]).control = true ∧ controlSupported (m [0x00, 0x80, 7]).command = false) ∧
     ((m (mctpRequest OP_READ 1 0 0 [5])).control = false ∧ (m (mctpRequest OP_READ 1 0 0 [5])).formatOk = false) ∧
     (m (mctpRequest 0 1 0 0 [])).op = 0 ∧ (m (mctpRequest 9 1 0 0 [])).op = 9) := by decide +kernel

theorem test_witness_MctpRequestsAreServedInOrder :
    let r (op idx : Nat) (data : List Byte) : MctpMsg := { src := 9, tag := 1, body := mctpRequest op 1 idx 0 data }
    (∀ op ∈ [OP_READ, OP_COMMIT, OP_INFO], (r op Od.CLIENT_WEIGHT []).control = false ∧ (r op Od.CLIENT_WEIGHT []).formatOk = true ∧
      (r op Od.CLIENT_WEIGHT []).op = op) ∧
    (let d := (stateOf (withRequest OP_READ Od.CLIENT_WEIGHT 0 [])).dev
     d.mgmt.job = none ∧ unitTurn d .mctp = true ∧ commitOk Od.CLIENT_WEIGHT 0 = false ∧ commitOk Od.MCTP_STATS 0 = true ∧
     unitTurn { d with mgmt := { d.mgmt with lastSource := .mctp, setParams := [(0, 0)] } } .mctp = false) ∧
    (bit (odGet s0.dev Od.MCTP_WRITE_MASK 0) (Od.MCTP_STATS / 256) = false ∧
      bit (odGet (odSet s0.dev Od.MCTP_WRITE_MASK 0 (2 ^ 256 - 1)) Od.MCTP_WRITE_MASK 0) (Od.MCTP_STATS / 256) = true) ∧
    (∀ c ∈ [2, 4, 5, 6], let m : MctpMsg := { src := 9, tag := 1, body := [0x00, 0x80, BitVec.ofNat 8 c, 0] }
      m.control = true ∧ m.command = c ∧ m.byte 3 = 0) ∧
    (let m : MctpMsg := { src := 9, tag := 1, body := [0x00, 0x80, 1, 1, 0xFE] }
     m.control = true ∧ m.command = 1 ∧ m.body.length = 5 ∧ m.byte 3 % 4 < 2 ∧ m.byte 4 ≠ 0 ∧ m.byte 4 ≠ 0xFF) ∧
    (let m (b : List Byte) : MctpMsg := { src := 9, tag := 1, body := [0x00, 0x80] ++ b }
     (m [1]).command = 1 ∧ (m [1]).body.length ≠ 5 ∧ (m [1, 2, 9]).body.length = 5 ∧ 2 ≤ (m [1, 2, 9]).byte 3 % 4 ∧
     (m [1, 0, 0]).byte 4 = 0 ∧ (m [6, 1]).command = 6 ∧ (m [6, 1]).byte 3 ≠ 0) := by
  decide +kernel

/-- A timer of slot 5 that is due now. -/
def withTimer (b : Bool) (k due : Nat) (st : SeqState) (d : Device) : Device :=
  { withSeq (seq5 st) d with timers := [(if b then 11 else 10, { due := due, kind := k })] }

theorem test_witness_TimersActAtExpiry :
    (∀ k ∈ [TK_DEADLINE, TK_QUARANTINE, TK_TTL], let d := (stateOf (withTimer false k 1000 .paused)).dev
      timerOf d 5 false = some { due := d.tick, kind := k } ∧ (d.seq? 5).map (fun q => q.tcb.state) = some .paused ∧
      (∀ p ∈ d.timers, d.tick ≤ p.2.due)) ∧
    (∀ k ∈ [TK_BACKOFF, TK_NOT_BEFORE, TK_IDLE_DEMOTE], let d := (stateOf (withTimer true k 1000 .paused)).dev
      timerOf d 5 true = some { due := d.tick, kind := k } ∧ (d.seq? 5).isSome = true ∧ (∀ p ∈ d.timers, d.tick ≤ p.2.due)) ∧
    (timerOf s0.dev 5 false = none ∧ timerOf s0.dev 5 true = none) ∧
    (let q := { seq5 .paused with ctx := { deferred := true } }
     let d := (stateOf (withSeq q)).dev
     d.seq? 5 = some q ∧ q.tcb.state = .paused ∧ q.ctx.deferred = true ∧ moveOut d 5 q = false) := by decide +kernel

theorem test_witness_ExpiryTakesOneTimer :
    Map.wf (stateOf (withTimer false TK_TTL 936 .paused)).dev.timers = true ∧ Map.wf s0.dev.od = true := by decide +kernel

/-- One PAUSED sequence whose TTL has expired, with a reclamation mark that no count of slots reaches. -/
def reclaimable (d : Device) : Device :=
  odSet (withSeq (let q := seq5 .paused; { q with tcb := { q.tcb with expired := true } }) d) Od.SLOT_RECLAIM_LOW 0 65536

theorem test_witness_SlotsAreReclaimedInOrder :
    let d := (stateOf reclaimable).dev
    (Map.wf d.seqs = true ∧ ¬(odGet d Od.SLOT_RECLAIM_LOW 0 ≤ allocCount d + d.reclaimed.length) ∧ reclaimVictim d = some 5 ∧
      d.seqs.length = 1) ∧
    odGet s0.dev Od.SLOT_RECLAIM_LOW 0 ≤ allocCount s0.dev + s0.dev.reclaimed.length := by decide +kernel

/-- A sequence whose END has been sent. -/
def ended5 : Seq := { seq5 .done with endSent := true }

theorem test_witness_EndsAreWrittenOnce :
    let c := complOf CT_END
    (ringOwned (stateOf member8).dev c.ring = true ∧ (stateOf member8).dev.ident.n < 16) ∧
    (ringOwned s0.dev c.ring = true ∧ 16 ≤ s0.dev.ident.n ∧ s0.dev.faults.forwards = [] ∧
      s0.dev.faults.receipts.contains c.handle = false ∧ complRefused s0.dev c = false) ∧
    complRefused (s0.dev.modTurn (fun t => { t with refused := [c.handle] })) c = true ∧
    (let d := (stateOf (fun d => { d with faults := { d.faults with forwards := [(1, 3, c.handle)], receipts := [3] } })).dev
     (1, 3, c.handle) ∈ d.faults.forwards ∧ d.faults.receipts.contains 3 = true ∧ complRefused d c = false ∧
     ringOwned s0.dev ({ c with ring := 9 } : Compl).ring = false) ∧
    ([c.handle].contains c.handle = true ∧ 4096 ≤ (List.replicate 4096 0).length ∧
      (List.replicate 4096 0).contains c.handle = false) ∧
    (let d := (stateOf (withSeq ended5)).dev
     d.seq? 5 = some ended5 ∧ ended5.behind = [] ∧ d.faults.gated = [] ∧ ended5.endRefusedTick.getD ended5.tcb.stateTick + 1 ≤ d.tick ∧
     Map.wf d.seqs = true ∧ handleSlice ended5.tcb.handle = 0 ∧ handleSlot ended5.tcb.handle = 5 ∧ d.faults.lostEnds = [] ∧
     liveSlot d ended5.tcb.handle = some 5) := by decide +kernel

theorem test_witness_RoundOpeningSendsChangedClients :
    (let d := (stateOf (fun d => { d with acct := [(4095, { dNs := 1 })], agg := { d.agg with fit := 1 } })).dev
     d.tick % 100 = 0 ∧ aggregator d = some 0 ∧ 4095 ∈ knownClients d ∧ deltaDue d 0 4095 = true ∧ deltaDue d 0 7 = false) ∧
    (startingAt .ready 5400).dev.tick % 100 ≠ 0 := by decide +kernel

theorem test_witness_DeltasAndResetsAreFolded :
    let b (k : Nat) : Nat := deltaBits 7 1 1 1 0 0 0 k 10
    Delta.kind (b 0) = 0 ∧ Delta.kind (b 1) = 1 ∧
    (2 ^ 64 ≤ 2 ^ 64 - 1 + Delta.ns (b 0) ∧ ¬(2 ^ 64 ≤ (s0.dev.client 7).aggNs + Delta.ns (b 0))) := by decide +kernel

theorem test_witness_RoundCloseFoldsAndGrants :
    let d := (stateOf (fun d => { d with clk := { d.clk with tickOffset := 1040 }, acct := [(7, { dNs := 1 })] })).dev
    d.tick % 100 = 40 ∧ isAggregator d = true ∧ d.agg.closed ≠ some (roundOf d) ∧ (∀ c ∈ roundClients d, c < 4096) ∧
    7 ∈ roundClients d ∧ s0.dev.tick % 100 ≠ 40 ∧ onlineSlices d ≠ [] ∧
    (let e := odSet (odSet d Od.CLIENT_MAX_SEQ 7 5) Od.CLIENT_MAX_TPS 7 20000
     odGetC e Od.CLIENT_MAX_SEQ 7 ≠ 0 ∧ odGetC e Od.CLIENT_MAX_TPS 7 ≠ 0) ∧
    (Map.find d.agg.lastSent 7 = none ∧ 1 < d.ident.n ∧ 1 ≠ d.ident.index) := by decide +kernel

theorem test_witness_AggregateEntriesAreAppliedTogether : fyReady s0.dev = true ∧ s0.dev.agg.incoming = [] ∧
    (bf (0#512).toNat 31 0 = 0 ∧ bf (0#512).toNat 255 244 ≠ 1) := by
  refine ⟨by decide, by decide, ?_⟩
  rw [BitVec.toNat_zero]; decide

theorem test_witness_LostAggregatorIsExcluded :
    let d := (stateOf (fun d => { d with ident := { index := 1 }, agg := { missed := 3 } })).dev
    (aggregator d = some 0 ∧ 0 ≠ d.ident.index ∧ 3 ≤ d.agg.missed) ∧
    (aggregator s0.dev = some 0 ∧ 0 = s0.dev.ident.index) := by decide +kernel

/-- Group 3 has an open step, and a DECODE candidate of model 1. -/
def withOpen (d : Device) : Device :=
  withSeq { seq5 .decode with tcb := { (seq5 .decode).tcb with group := 3 }, version := 1 }
    { withModel d with groups := [(3, { opened := some {} })] }

/-- The step of that candidate is built, and its command waits at in-flight entry 4,095. -/
def withBuilt (d : Device) : Device :=
  { withCommand .reserved (withModel d) with groups := [(3, { building := some { toIssue := [4095, 4094] } })] }

theorem test_witness_StepsAreBuiltAndIssued :
    groupHome (stateOf (fun d => odSet d Od.GROUP_CFG 3 (2 ^ 15))).dev 3 ≠ 0 ∧
    (let d := (stateOf withOpen).dev
     groupHome d 3 = d.ident.index ∧ ((d.group 3).opened.map OpenStep.scanAt) = some 0 ∧
     (mayBuild (wantModels (bringMissing (tellStalled d []) 3) 3) 3).map Prod.snd = some 1) ∧
    (let d := (stateOf (fun d => { withModel d with groups := [(3, { opened := some {} })] })).dev
     (d.group 3).opened = some {} ∧ mayBuild (wantModels (bringMissing (tellStalled d []) 3) 3) 3 = none) ∧
    [4095].filter (· ≠ 4095) = [] ∧ (s0.dev.group 3).building = none ∧
    (∀ b ∈ [true, false],
      let d := (stateOf (fun d => { withModel d with groups := [(3, { building := some { toIssue := [], issued := b } })] })).dev
      groupHome d 3 = d.ident.index ∧ (d.group 3).building = some { toIssue := [], issued := b } ∧
      ((closeBuilding d 3).group 3).opened.map OpenStep.scanAt ≠ none) ∧
    (let d := (stateOf (fun d => { d with groups := [(3, { opened := some { scanAt := 1 } })] })).dev
     ((d.group 3).opened.map OpenStep.scanAt) = some 1 ∧ d.clk.rootcyc < 1) ∧
    (let d := (stateOf withBuilt).dev
     Map.find d.inflight 4095 = some (inFlight0 .reserved) ∧ (d.group 3).building = some { toIssue := [4095, 4094] } ∧
     cmdReady d (inFlight0 .reserved) = true ∧ (hotSlotOf d 3 1).isSome = true ∧ [4095, 4094].filter (· ≠ 4095) ≠ []) := by
  decide +kernel

theorem test_witness_WarmUpAndMeasuredRates :
    let l (c : Nat) : Load := { num := 0, slot := 0, version := 1, left := 0, bytesLeft := 0, doneCyc := some c }
    let d (c : Nat) := (stateOf (fun d => odSet { withModel d with
      groups := [(3, { loads := [l c] })], clk := { d.clk with rootcyc := 10 * 5400 + 7 } } Od.MODEL_WARMUP_US 1 10)).dev
    (loadInto (d 7) 3 0 = some (l 7) ∧ 7 + odGet (d 7) Od.MODEL_WARMUP_US 1 * (d 7).mhz = (d 7).clk.rootcyc) ∧
    (loadInto (d 8) 3 0 = some (l 8) ∧ (d 8).clk.rootcyc < 8 + odGet (d 8) Od.MODEL_WARMUP_US 1 * (d 8).mhz) ∧
    s0.dev.tick % 100 = 0 ∧ (startingAt .ready 5400).dev.tick % 100 ≠ 0 ∧
    Map.find (d 7).groups 3 = some { loads := [l 7] } ∧ Map.wf s0.dev.od = true := by decide +kernel

def completion0 : Nat := withChk (fields [(255, 224, tag0)]) 32
def killAck0 : Nat := withChk (fields [(127, 96, tag0)]) 16

theorem test_witness_ReturnsEndCommands :
    byTag s0.dev tag0 = none ∧
    (∀ st ∈ [IState.issued, .draining, .killing, .orphan], let d := (stateOf (withCommand st)).dev
      byTag d tag0 = some (4095, inFlight0 st) ∧ Map.find d.inflight 4095 = some (inFlight0 st) ∧ (inFlight0 st).dueTick ≤ d.tick) ∧
    ((inFlight0 .killing).revoked = true ∧ (inFlight0 .orphan).revoked = true ∧ (inFlight0 .issued).revoked = false) ∧
    (bf (BitVec.ofNat 256 completion0).toNat 255 224 = tag0 ∧ chkOk (BitVec.ofNat 256 completion0).toNat 32 = true ∧
      bf (BitVec.ofNat 256 (completion0 + 1)).toNat 255 224 = tag0 ∧ chkOk (BitVec.ofNat 256 (completion0 + 1)).toNat 32 = false) ∧
    (bf (BitVec.ofNat 128 killAck0).toNat 127 96 = tag0 ∧ chkOk (BitVec.ofNat 128 killAck0).toNat 16 = true ∧
      chkOk (BitVec.ofNat 128 (killAck0 + 1)).toNat 16 = false) ∧
    s0.dev.tick < ({ inFlight0 .issued with dueTick := 1001 } : InFlight).dueTick := by decide +kernel

theorem test_witness_FreedTagsNameNothing :
    Map.wf (stateOf (withCommand .issued)).dev.inflight = true ∧
    Map.find (stateOf (withCommand .issued)).dev.inflight 4095 = some (inFlight0 .issued) ∧
    islotGen (stateOf (fun d => { d with tgens := [(4095, 32767)] })).dev 4095 = 32767 ∧ islotGen s0.dev 4095 = 1 := by
  decide +kernel

/-- Sequence 5 is in a step whose command is in flight; its model has a vocabulary of one token. -/
def working5 (mode : Nat) : Seq :=
  { seq5 .decode with
    version := 1, inStep := true
    work := some { tag := tag0, islot := 4095, idx := 0, step := 1, entry := { entry0 with logitMode := mode } } }

def atWork (mode : Nat) (us : List LgiUnit) (d : Device) : Device :=
  odSet { withSeq (working5 mode) (withCommand .issued d) with units := us } Od.MODEL_VOCAB 1 1

theorem crc32_lt : ∀ (l : List Byte) r, r < 2 ^ 32 → crcRaw crc32c r l < 2 ^ 32
  | [], _, h => h
  | b :: l, r, h => by
    have step : ∀ n r, r < 2 ^ 32 → crcBits crc32c n r < 2 ^ 32 := by
      intro n
      induction n with
      | zero => exact fun _ h => h
      | succ n ih =>
        intro r hr
        have h1 : r >>> 1 < 2 ^ 32 := by rw [Nat.shiftRight_eq_div_pow]; omega
        have e : crcBits crc32c (n + 1) r = crcBits crc32c n (if r.testBit 0 then (r >>> 1) ^^^ 0x82F63B78 else r >>> 1) := rfl
        rw [e]
        refine ih _ ?_
        split
        · exact Nat.xor_lt_two_pow h1 (by decide)
        · exact h1
    exact crc32_lt l _ (step 8 _ (Nat.xor_lt_two_pow h (by have := b.isLt; omega)))

theorem bf_above (x c hi lo : Nat) (hc : c < 2 ^ 32) : bf (x * 2 ^ 32 + c) (hi + 32) (lo + 32) = bf x hi lo := by
  have h : (x * 2 ^ 32 + c) / 2 ^ 32 = x := by omega
  have e : hi + 32 + 1 - (lo + 32) = hi + 1 - lo := by omega
  unfold bf
  rw [e, Nat.shiftRight_eq_div_pow, Nat.shiftRight_eq_div_pow, Nat.add_comm lo, Nat.pow_add, ← Nat.div_div_eq_div_mul, h]

theorem bit_above (x c i : Nat) (hc : c < 2 ^ 32) : bit (x * 2 ^ 32 + c) (i + 32) = bit x i := by
  unfold bit
  rw [Nat.testBit_eq_decide_div_mod_eq, Nat.testBit_eq_decide_div_mod_eq, Nat.add_comm i, Nat.pow_add, ← Nat.div_div_eq_div_mul,
    show (x * 2 ^ 32 + c) / 2 ^ 32 = x from by omega]

/-- The header of a beat with the one logit of node 0, without its CHK; `n` counts its bytes. -/
def beatHead (n : Nat) : Nat := fields [(223, 192, tag0), (151, 148, LK_LOGITS), (127, 116, n), (115, 115, 1)]

theorem beat_ok (c : Nat) (hc : c < 2 ^ 32) (h : lgiChkOk (beatHead 4 * 2 ^ 32 + c) 0 = true) :
    beatOk (stateOf (atWork 1 [])).dev (inFlight0 .issued) (beatHead 4 * 2 ^ 32 + c) 0 = true := by
  have f := fun hi lo => bf_above (beatHead 4) c hi lo hc
  have h1 : Lgi.tag (beatHead 4 * 2 ^ 32 + c) = tag0 := (f 223 192).trans (by decide)
  have h2 : Lgi.entry (beatHead 4 * 2 ^ 32 + c) = 0 := (f 191 176).trans (by decide)
  have h3 : Lgi.node (beatHead 4 * 2 ^ 32 + c) = 0 := (f 175 168).trans (by decide)
  have h4 : Lgi.unit (beatHead 4 * 2 ^ 32 + c) = 0 := (f 167 152).trans (by decide)
  have h5 : Lgi.kind (beatHead 4 * 2 ^ 32 + c) = 1 := (f 151 148).trans (by decide)
  have h6 : Lgi.format (beatHead 4 * 2 ^ 32 + c) = 0 := (f 147 144).trans (by decide)
  have h7 : Lgi.offset (beatHead 4 * 2 ^ 32 + c) = 0 := (f 143 128).trans (by decide)
  have h8 : Lgi.count (beatHead 4 * 2 ^ 32 + c) = 4 := (f 127 116).trans (by decide)
  have h9 : Lgi.last (beatHead 4 * 2 ^ 32 + c) = true := (bit_above _ _ 115 hc).trans (by decide)
  have h10 : Lgi.part (beatHead 4 * 2 ^ 32 + c) = 0 := (f 114 109).trans (by decide)
  simp only [beatOk, unitOf, unitAllowed, h, h1, h2, h3, h4, h5, h6, h7, h8, h9, h10]
  decide +kernel

theorem beat_chk (x : Nat) (l : List Byte) (hl : ∀ y, lgiChkOk y 0 = decide (y % 2 ^ 32 = crcOf crc32c (leBytes (y >>> 32) 28 ++ l))) :
    ∃ c, c < 2 ^ 32 ∧ lgiChkOk (x * 2 ^ 32 + c) 0 = true := by
  have hc : crcOf crc32c (leBytes x 28 ++ l) < 2 ^ 32 := Nat.xor_lt_two_pow (crc32_lt _ _ (by decide)) (by decide)
  refine ⟨_, hc, ?_⟩
  rw [hl, Nat.shiftRight_eq_div_pow]
  have h1 : ∀ c, c < 2 ^ 32 → (x * 2 ^ 32 + c) % 2 ^ 32 = c ∧ (x * 2 ^ 32 + c) / 2 ^ 32 = x := by intro c hc; omega
  rw [(h1 _ hc).1, (h1 _ hc).2]
  exact decide_eq_true rfl

theorem test_witness_BeatsAreAcceptedOrCounted :
    let d := (stateOf (atWork 1 [])).dev
    byTag d tag0 = some (4095, inFlight0 .issued) ∧ byTag s0.dev tag0 = none ∧
    (∃ c, c < 2 ^ 32 ∧ beatOk d (inFlight0 .issued) (beatHead 4 * 2 ^ 32 + c) 0 = true ∧
      Lgi.tag (beatHead 4 * 2 ^ 32 + c) = tag0) ∧
    (beatOk d (inFlight0 .issued) (beatHead 0 * 2 ^ 32) 0 = false ∧ Lgi.tag (beatHead 0 * 2 ^ 32) = tag0) ∧
    (inFlight0 .issued).revoked = false ∧ (inFlight0 .killing).revoked = true := by
  refine ⟨by decide +kernel, by decide +kernel, ?_, ⟨?_, by decide⟩, by decide, by decide⟩
  · obtain ⟨c, hc, h⟩ := beat_chk (beatHead 4) (leBytes 0 2048) (fun _ => rfl)
    exact ⟨c, hc, beat_ok c hc h, (bf_above _ _ 223 192 hc).trans (by decide)⟩
  · have : Lgi.count (beatHead 0 * 2 ^ 32) = 0 := by decide
    simp only [beatOk, this, show decide (1 ≤ 0) = false from rfl, Bool.and_false, Bool.false_and]

def unit0 (kind n : Nat) : LgiUnit :=
  { tag := tag0, slot := 5, entry := 0, node := 0, unit := 0, kind := kind, format := 0, bytes := n, complete := true }

theorem lane_serves {d : Device} {gs : List Nat} (h : usableGroups d = gs) (h0 : gs ≠ []) (t e u : Nat) :
    ∃ g, laneFor d t e u = some g := by
  unfold laneFor
  cases gs with
  | nil => exact absurd rfl h0
  | cons a l =>
    rw [h]
    exact ⟨_, List.getElem?_eq_getElem (Nat.mod_lt _ (by simp))⟩

theorem test_witness_PositionsAreProcessedOnce :
    (let d := (stateOf (atWork 1 [unit0 LK_LOGITS 4])).dev
     d.seq? 5 = some (working5 1) ∧ (∃ w, (working5 1).work = some w ∧ positionReady d (working5 1) w 0 = true ∧
       w.entry.logitMode = 1 ∧ 0 < w.entry.positions ∧ (working5 1).tcb.state.running = true ∧ (working5 1).outcome.ready = false ∧
       Map.find (working5 1).dists 0 = none ∧ (working5 1).inputsDue = 0 ∧ (working5 1).tailDue = false ∧
       blocksIn d w (vocabOf d (working5 1).version) 0 LK_LOGITS = true ∧ chainMode (working5 1) w.entry = false ∧
       needsTable (working5 1) w.entry = false ∧ usableGroups d = [0, 1, 2, 3])) ∧
    (∃ w, (working5 1).work = some w ∧ positionReady (stateOf (atWork 1 [])).dev (working5 1) w 0 = false) ∧
    (let hot : Seq := { working5 1 with samp := { header := BitVec.ofNat 1024 (0x3F800000 * 2 ^ 864) } }
     ∃ w, hot.work = some w ∧ drawsWords hot w.entry = true ∧ needsTable hot w.entry = true) ∧
    ({ s0.dev.clk with tableBusy := some 0 } : Clk).tableBusy ≠ none ∧
    noHazard.lane = none ∧ noHazard.table = none ∧ ({ noHazard with lane := some (3, 33) } : Hazard).lane = some (3, 33) ∧
    ({ noHazard with table := some 0 } : Hazard).table = some 0 := by
  refine ⟨⟨by decide +kernel, _, rfl, ?_⟩, ⟨_, rfl, by decide +kernel⟩, ⟨_, rfl, by decide +kernel⟩, by decide⟩
  decide +kernel

/-- A position without random words completes: SAMPLE_POSITION answers a next state with its distribution. -/
theorem test_samplePosition_completes :
    (nextOf (exec (.samplePosition 5 0 noHazard) (stateOf (atWork 1 [unit0 LK_LOGITS 4])))).isSome = true := by
  rfl

theorem test_witness_DigestLoopRuns :
    let d := (stateOf (atWork 2 [unit0 LK_D1 16])).dev
    d.seq? 5 = some (working5 2) ∧
    (∃ w, (working5 2).work = some w ∧ 2 ≤ w.entry.logitMode ∧ (working5 2).tcb.state.running = true ∧
      (working5 2).outcome.ready = false ∧ (working5 2).inputsDue = 0 ∧ (working5 2).tailDue = false ∧
      needsTable (working5 2) w.entry = false ∧ (working5 2).digest = none ∧
      (∀ b, b < blocksOf (vocabOf d (working5 2).version) →
        (digestOf d w (vocabOf d (working5 2).version) w.entry.logitMode b).isSome = true) ∧
      correctedBlocks (working5 2) w.entry.newPos = [] ∧
      correctedBlocks { working5 2 with biasTokens := [0] } w.entry.newPos ≠ [] ∧ usableGroups d = [0, 1, 2, 3] ∧
      digestReady (stateOf (atWork 2 [])).dev (working5 2) w = false ∧
      ([] : List Nat).all (fun b => match unitFor d w 0 LK_LOGITS b with | some u => u.complete | none => false) = true ∧
      [0].all (fun b => match unitFor d w 0 LK_LOGITS b with | some u => u.complete | none => false) = false ∧
      ({ islot := 4095, lane := 0, fall := true } : DigestPos).fall = true) := by
  refine ⟨by decide +kernel, _, rfl, ?_⟩
  decide +kernel

theorem test_witness_ReadySequencesCommit :
    (let q : Seq := { working5 1 with work := (working5 1).work.map (fun w => { w with complete := true }), outcome := { ready := true } }
     let d := (stateOf (withSeq q)).dev
     d.seq? 5 = some q ∧ deltaFree d 5 = true ∧ commitReady q = true ∧ q.tcb.cls = .g ∧ q.work.isSome = true ∧
     ({ q with outcome := { ready := true, noValid := true } } : Seq).outcome.emits = []) ∧
    deltaFree (stateOf (fun d => { d with faults := { d.faults with 
      deltas := (List.range 1024).map (fun k => (k + 6, { sent := some (1, 1, 0) })) } })).dev 5 = false ∧
    commitReady (working5 1) = false ∧
    (let q : Seq := { seq5 .decode with
        tcb := { (seq5 .decode).tcb with cls := .r }, plan := { stage := 1, delivered := true } }
     commitReady q = true ∧ q.tcb.cls = .r) ∧
    (List.replicate 64 ({ token := 1, lp := 0, alts := [], report := 0 } : Emit)).length ≤ 64 := by decide +kernel

/-- A class G sequence that speculates and waits for a draft. -/
def spec5 : Seq :=
  { seq5 .decode with samp := { header := BitVec.ofNat 1024 (2 * 2 ^ 374) } }

theorem test_witness_DraftsAreReadOrDiscarded :
    let d := (stateOf (fun d => odSet (withSeq spec5 d) Od.SPEC_MB_BASE 0 0x100000)).dev
    let v := mkHandle 0 5 1 * 2 ^ 32
    (liveSlot d (bf v 63 32) = some 5 ∧ d.seq? 5 = some spec5 ∧ mayPost d spec5 = true ∧ bf v 31 16 = spec5.spec.dseq ∧
      bit v 15 = spec5.spec.dbank ∧ spec5.spec.dvalid = false ∧ spec5.spec.reading = false ∧ leastFree (usedStaging d) 4096 = some 0) ∧
    liveSlot s0.dev (bf v 63 32) = none ∧ mayPost s0.dev spec5 = false := by decide +kernel

def move0 (w : Bool) : Move := { kind := if w then .weights 3 0 0 else .promote, slot := 5 }
def pgm0 (st : Nat) : BitVec 128 := BitVec.ofNat 128 (withChk (fields [(127, 112, 1023), (111, 104, st)]) 16)

theorem test_witness_MoveStatusesActOnTheirMove :
    chkOk (BitVec.ofNat 128 1).toNat 16 = false ∧
    (chkOk (pgm0 0).toNat 16 = true ∧ bf (pgm0 0).toNat 127 112 = 1023 ∧ bf (pgm0 0).toNat 111 104 = 0) ∧
    (chkOk (pgm0 2).toNat 16 = true ∧ bf (pgm0 2).toNat 127 112 = 1023 ∧ bf (pgm0 2).toNat 111 104 = 2) ∧
    Map.find s0.dev.ctx.moves 1023 = none ∧
    (∀ w ∈ [true, false], let d := (stateOf (fun d => { d with ctx := { d.ctx with moves := [(1023, move0 w)] } })).dev
      Map.find d.ctx.moves 1023 = some (move0 w) ∧ (move0 w).isWeights = w) := by decide +kernel

theorem test_witness_StoresAreReclaimedAndMirrored :
    (let d := (stateOf (fun d => odSet d Od.CTX_T1_FRAMES 0 0)).dev; t1Below d (odGet d Od.CTX_T1_LOW 0) = true) ∧
    (let d := (stateOf (fun d => odSet d Od.CTX_T1_FRAMES 0 131072)).dev; t1Below d (odGet d Od.CTX_T1_LOW 0) = false) ∧
    (let q (t : Nat) : Seq := { seq5 .decode with replaySince := some t }
     let d (t : Nat) := (stateOf (fun d => { withSeq (q t) d with clk := { d.clk with tickOffset := 10000 } })).dev
     ((d 0).seq? 5 = some (q 0) ∧ 0 + 10000 = (d 0).tick ∧ (q 0).replay = none) ∧ (d 1).tick < 1 + 10000) ∧
    (s0.dev.ident.n = 32 ∧ mirrorPartner s0.dev = 16 ∧ (stateOf member8).dev.ident.n ≠ 32) ∧
    (let d := (stateOf (fun d => { d with ctx := { d.ctx with mirrorOut := [(3, [(990, [])])] } })).dev
     d.ctx.mirrorStopped = false ∧ ∃ p ∈ d.ctx.mirrorOut, ∃ w ∈ p.2, w.1 + 10 = d.tick) ∧
    (∀ p ∈ s0.dev.ctx.mirrorOut, ∀ w ∈ p.2, s0.dev.tick < w.1 + 10) := by
  refine ⟨by decide +kernel, by decide +kernel, by decide +kernel, by decide +kernel,
    ⟨by decide, _, List.mem_cons_self .., _, List.mem_cons_self .., by decide +kernel⟩, by decide⟩

/-- A class R sequence in its first fan-out, with lists missing or not. -/
def plan5 (missing : Nat) (bits : PlanBits) : Seq :=
  { seq5 .waiting with
    tcb := { (seq5 .waiting).tcb with cls := .r }
    plan := { bits := bits, stage := 1, missing := missing } }

def sel5 (claimed : Bool) : Selection := { slot := 5, desc := 0, claimed := claimed }
def selecting (q : Seq) (claimed : Bool) (d : Device) : Device := { withSeq q d with sels := [sel5 claimed] }

theorem test_witness_SelectionsAreClaimedAndDelivered :
    (let d := (stateOf (selecting (plan5 0 0) false)).dev
     selFor d 5 = some (sel5 false) ∧ claimable d (sel5 false) = true ∧ d.seq? 5 = some (plan5 0 0) ∧
     stageOver d 5 (plan5 0 0) (sel5 false) = false) ∧
    (let d := (stateOf (selecting (plan5 0 0) true)).dev
     selFor d 5 = some (sel5 true) ∧ stageOver d 5 (plan5 0 0) (sel5 true) = true ∧ (plan5 0 0).plan.missing = 0 ∧
     (sel5 true).unread 0 = []) ∧
    (let x : Selection := { sel5 true with
       desc := BitVec.ofNat 64 (2 ^ 48 + 2 ^ 31), entries := [{ list := 0, pos := 0, item := 3, score := 0 }] }
     x.unread 8 ≠ []) ∧
    (let q := plan5 1 (BitVec.ofNat 2048 (2 ^ 1595)); Plan.strict (planBits q) = true ∧ q.plan.missing ≠ 0 ∧
      q.plan.retryUsed = false ∧ q.deadline = 0) ∧
    (let q := plan5 1 0; Plan.strict (planBits q) = false ∧
      Plan.minCoverage (planBits q) ≤ (q.plan.coverage * stageCoverage q) >>> 16) ∧
    (let q := plan5 1 (BitVec.ofNat 2048 (65536 * 2 ^ 1527)); Plan.strict (planBits q) = false ∧
      ¬ Plan.minCoverage (planBits q) ≤ (q.plan.coverage * stageCoverage q) >>> 16) := by decide +kernel

def rns0 (words cls : Nat) : BitVec 256 :=
  BitVec.ofNat 256 (withChk (fields [(255, 224, tag0), (87, 75, words), (74, 74, cls)]) 32)

theorem test_witness_RandomRequestsAreServed :
    (∀ w ∈ [1, 4096], ∀ c ∈ [0, 1], let r := (rns0 w c).toNat
      chkOk r 32 = true ∧ Rns.words r = w ∧ Rns.cls r = c ∧ Rns.rsvd r = 0 ∧ Rns.tag r = tag0 ∧ Rns.entry r = 0 ∧ Rns.part r = 0) ∧
    chkOk 1 32 = false ∧ byTag s0.dev tag0 = none ∧
    (let d := (stateOf (atWork 1 [])).dev
     byTag d tag0 = some (4095, inFlight0 .issued) ∧ (inFlight0 .issued).revoked = false ∧ (inFlight0 .orphan).revoked = true ∧
     (rnsSeed d (inFlight0 .issued) 0).isSome = true ∧ rnsSeed d (inFlight0 .issued) 1 = none ∧ d.clk.tableBusy = none) ∧
    (odGet s0.dev Od.PARTITION_TABLE 0 % 2 = 0 ∧ odGet (odSet s0.dev Od.PARTITION_TABLE 0 1) Od.PARTITION_TABLE 0 % 2 = 1) ∧
    (∃ n, ({ s0.dev.clk with tableBusy := some n } : Clk).tableBusy ≠ none) ∧
    (s0.dev.rns.classT.length + s0.dev.rns.classC.length < 64 ∧
      64 ≤ (List.replicate 64 ({ req := rns0 1 0, seed := 0, rstatus := 0 } : RnsJob)).length) ∧
    s0.dev.clk.isoN = true ∧
    (let j (rs : Nat) : RnsJob := { req := rns0 65 0, seed := 0, rstatus := rs }
     let r : Rns := { classT := [j 0, j 2], classC := [j 0], readyC := true }
     r.classT = j 0 :: [j 2] ∧ ({ classT := [j 2] } : Rns).classC = [] ∧ r.classC ≠ [] ∧ r.readyC = true) ∧
    (let j : RnsJob := { req := rns0 65 1, seed := 0, rstatus := 2, sent := 1 }
     let r : Rns := { classC := [j], readyC := true }
     (!r.classC.isEmpty && (r.readyC || 1 % 4 = 0) && (r.classT.isEmpty || !r.lastC)) = true ∧ j.rstatus ≠ 0 ∧ Rns.tag j.req.toNat = tag0) := by
  refine ⟨by decide +kernel, by decide +kernel, by decide +kernel, by decide +kernel, by decide +kernel, ⟨0, by decide⟩, by decide,
    by decide, by decide +kernel, by decide +kernel⟩

/-- A request that passes every check completes: it stands in its pipe, and the idle step that follows sends its beat. -/
theorem test_rnsRequest_completes :
    (nextOf (exec (.rnsRequest (rns0 1 0) noHazard) (stateOf (atWork 1 [])))).map (fun t =>
      (t.dev.rns.classT.map RnsJob.rstatus, (nextOf (step t)).map (fun u => (u.dev.rns.classT.length, u.dev.out.length))))
      = some ([0], some (0, 1)) := by decide +kernel

def withEpoch (x : EpochSlot) (d : Device) : Device := { d with epochs := x :: List.replicate 7 {} }
def allHeld (d : Device) : Device := { d with epochs := List.replicate 8 { state := .retired } }
def pub0 (ph : PubPhase) : Publication :=
  { pub := 2, ring := 0, client := 7, hseq := 0, userTag := 0, noIrq := false, descAddr := 0, phase := ph, awaiting := [3], tick := 989 }

theorem test_witness_PublicationsReachEverySlice :
    (epochIn s0.dev .free (fun _ => true) = some (0, {}) ∧ epochIn s0.dev .installed (fun x => x.index = 0) = none) ∧
    epochIn (stateOf allHeld).dev .free (fun _ => true) = none ∧
    (let x : EpochSlot := { state := .installed, epoch := 4, index := 15 }
     epochIn (stateOf (withEpoch x)).dev .installed (fun y => y.epoch = 4 && y.index = 15) = some (0, x)) ∧
    (let x : EpochSlot := { state := .retired }
     let d := (stateOf (fun d => odSet (withEpoch x d) Od.EPOCH_GRACE 0 1000)).dev
     d.epochs[0]? = some x ∧ epochPins d 0 = 0 ∧ x.retireTick + odGet d Od.EPOCH_GRACE 0 = d.tick) ∧
    (∀ ph ∈ [PubPhase.installing, .activating], let d := (stateOf (fun d => { d with pubs := [pub0 ph] })).dev
      pub? d 2 = some (pub0 ph) ∧ 3 ∈ (pub0 ph).awaiting ∧ 4 ∉ (pub0 ph).awaiting ∧ (pub0 ph).tick + 10 < d.tick ∧
      (pub0 ph).phase = ph ∧ d.tick ≤ ({ pub0 ph with tick := 990 } : Publication).tick + 10) ∧
    s0.dev.tick ≤ 990 + 10 := by decide +kernel

theorem test_witness_ActivationKeepsOneCurrent :
    let x : EpochSlot := { state := .installed, epoch := 4, index := 15 }
    let d := (stateOf (fun d => { d with epochs := x :: { state := .current, index := 15 } :: List.replicate 6 {} })).dev
    epochIn d .installed (fun y => y.epoch = 4 && y.index = 15) = some (0, x) ∧
    (d.epochs.filter (fun y => y.state = .current)).length = 1 := by decide +kernel

def delta0 : ParityDelta := { src := 8, member := 8, slot := 7, updNo := 65535, record := 0, timers := 0 }

theorem test_witness_ParityDeltasAreAppliedOnce :
    (holdsParity s0.dev 8 7 = true ∧ holdsParity s0.dev 16 7 = false ∧ holdsParity s0.dev 8 8192 = false) ∧
    (let d := (stateOf (fun d => { d with faults := { d.faults with parity := [(7, { applied := [(8, 65535)] })] } })).dev
     Map.find (Map.getD d.faults.parity 7 {}).applied delta0.member = some delta0.updNo) ∧
    Map.find (Map.getD s0.dev.faults.parity 7 {}).applied delta0.member ≠ some delta0.updNo ∧
    (let d := (stateOf (fun d => { d with faults := { d.faults with deltas := [(7, { sent := some (3, 0, 0), sentTick := 990 })] } })).dev
     (deltaBuf d 7).sent = some (3, 0, 0) ∧ 3 ≠ 4 ∧ lateDeltas d 8 = [7] ∧ 8 ≠ d.ident.index ∧ bit (odGet d Od.SLICE_ONLINE 0) 8 = true) ∧
    (deltaBuf s0.dev 7).sent = none ∧
    (lateDeltas s0.dev 8 = [] ∧ lateRemovals s0.dev 8 = [] ∧ lateCmds s0.dev 8 = [] ∧ lateSends s0.dev 8 = [] ∧
      lateErrors s0.dev 8 = [] ∧ latePubs s0.dev 8 = [] ∧ lateOnce s0.dev 8 = false) := by decide +kernel

def extra0 : SeqExtra :=
  { version := 1, adapter := 0, owner := 0, maxTokens := 1, deadline := 0, paramAddr := 0, paramLen := 0, biasTokens := [], stops := 0,
    turns := [], resultAddr := 0, resultLen := 0, plan := 0, list := [] }

def stripe0 (parity : Nat) : StripeRead :=
  { lost := 1, stripe := 6, members := [], parity := BitVec.ofNat 4096 parity, memberTimers := [], parityTimers := 0, lastUpd := 0,
    twice := false, extra := extra0, mirror := [], spilled := [], drained := false }

theorem test_witness_RebuiltStripesFindTheirPlace :
    (let d := (stateOf (fun d => withModel { d with faults := { d.faults with toAdopt := [(1, 6)] } })).dev
     (1, 6) ∈ d.faults.toAdopt ∧ (1, 6) ∉ s0.dev.faults.toAdopt ∧
     bf (rebuiltRecord d (stripe0 0)).toNat 479 472 = 0 ∧ bf (rebuiltRecord d (stripe0 (2 ^ 472))).toNat 479 472 = 1 ∧
     allocSlot d = some 0 ∧ adoptGroup d 1 = some 3 ∧ adoptGroup s0.dev 1 = none) ∧
    s0.dev.faults.forwards.length < 262144 ∧ 262144 ≤ (List.replicate 262144 (0, 0, 0)).length ∧
    (1 ∉ s0.dev.faults.lost) ∧ (complOf CT_END).ctype = CT_END ∧ ({ stripe0 0 with twice := true } : StripeRead).twice = true ∧
    (let d := (stateOf (fun d => { d with faults := { d.faults with lost := [16] } })).dev
     d.ident.n = 32 ∧ mirrorPartner d = 16 ∧ d.faults.lost.contains 16 = true) ∧
    (let h := mkHandle 0 5 1
     h ≠ 0 ∧ mkHandle 1 5 1 ≠ h ∧ liveSlot (stateOf (withSeq (seq5 .decode))).dev h = some 5 ∧
     (let d := (stateOf (fun d => d.modTurn (fun t => { t with owned := [(h, { ring := 0, client := 7, hseq := 0 })] }))).dev
      (Map.find d.turn.owned h).isSome = true)) ∧
    (s0.dev.ctx.asks = [] ∧ askReady s0.dev 1 = true ∧ askReady (odSet s0.dev Od.SLICE_ONLINE 0 1) 1 = false) ∧
    (let d := (stateOf (fun d => { d with faults := { d.faults with lost := [1, 2] } })).dev
     d.faults.lost.filter (fun k => k / 8 = (stripe0 0).lost / 8) = [1, 2]) := by
  refine ⟨by decide +kernel, by decide, ?_, by decide, by decide, by decide, by decide, by decide +kernel, by decide +kernel, by decide⟩
  rw [List.length_replicate]

theorem test_witness_GrottoErrorsAreHandled :
    let d (t : Nat) := (stateOf (fun d => { d with
      clk := { d.clk with rootcyc := 2 ^ 32 }, faults := { d.faults with eccSeen := [(9, t)] } })).dev
    (fyReady (d 0) = true ∧ (d 0).tick / 100000 ≠ (d 0).faults.ceWindow ∧ s0.dev.tick / 100000 = s0.dev.faults.ceWindow) ∧
    (Map.find (d 0).faults.eccSeen 9 = some 0 ∧ 0 + 2 ^ 32 = (d 0).clk.rootcyc ∧ (d 0).clk.spareRows ≠ 0) ∧
    (Map.find (d 1).faults.eccSeen 9 = some 1 ∧ (d 1).clk.rootcyc < 1 + 2 ^ 32) ∧
    Map.find s0.dev.faults.eccSeen 9 = none ∧
    (odGet (odSet s0.dev Od.ECC_CE_LIMIT 0 0) Od.ECC_CE_LIMIT 0 < s0.dev.faults.ceCount + 1 ∧ s0.dev.faults.ceRaised = false) := by
  decide +kernel

theorem test_witness_LaneGroupsServeAndRest :
    s0.dev.lanes[3]? = some ({} : LaneGroup) ∧ ({} : LaneGroup).retired = [] ∧ ({ retired := [33] } : LaneGroup).retired = [33] ∧
    (∀ g ∈ [LaneGate.gated, .waiting, .ungating 0, .on], let d := (stateOf (fun d => { d with lanes := [{}, {}, {}, { gate := g }] })).dev
     d.lanes[3]? = some ({ gate := g } : LaneGroup) ∧ (∀ h, h < 3 → (d.lanes[h]?).map LaneGroup.gate = some .on)) := by decide

def budget0 : BitVec 256 := BitVec.ofNat 256 (withChk (fields [(255, 224, 1)]) 32)

theorem test_witness_BudgetsAndTelemetryFollowTheirIntervals :
    chkOk (BitVec.ofNat 256 1).toNat 32 = false ∧ chkOk budget0.toNat 32 = true ∧ s0.dev.power.budget = none ∧
    (let d := (stateOf (fun d => odSet d Od.PWR_STALE_LIMIT 0 10)).dev
     d.power.stale = false ∧ d.power.acceptTick + 100 * odGet d Od.PWR_STALE_LIMIT 0 = d.tick) ∧
    (s0.dev.tick / 100 ≠ s0.dev.power.teleRound ∧ 64 ≤ s0.dev.clk.duty ∧ s0.dev.clk.duty ≤ 256) ∧
    State.reset.dev.tick / 100 = State.reset.dev.power.teleRound ∧
    (fyPresent (startingAt .lanes 0).dev = true ∧ fyReady (startingAt .lanes 0).dev = false) := by decide +kernel

/-- A command waits, and step runs it; with none waiting the slice idles. -/
theorem test_step_runs_front :
    let s : State := { s0 with pending := [.fyIsoNAssert, .finalChecks] }
    (nextOf (step s)).map (fun t => (t.pending, t.dev.clk.isoN)) = some ([.finalChecks], false) ∧ s0.pending = [] := by decide

theorem test_witness_EveryStepKeepsSound : State.reset.dev.ident.legal = true ∧ State.reset.dev.clk.legal = true ∧
    Map.wf State.reset.dev.od = true ∧ Memory.wf State.reset.dev.window = true ∧ State.reset.dev.clk.rootcyc < 2 ^ 64 ∧
    State.reset.dev.clk.spareRows ≤ 10752 ∧ State.reset.dev.lanes.length = 4 ∧ State.reset.dev.epochs.length = 8 := by decide

theorem test_witness_OnlyBringUpMovesLevels :
    bringUp (.stepBuild 0 []) = false ∧ (startingAt .final 5400).dev.clk.ready = false ∧
    (nextOf (exec .finalChecks (startingAt .final 5400))).map (fun t => t.dev.clk.ready) = some true := by decide

theorem test_witness_WorkWaitsForReady :
    worksWhenReady (.stepBuild 0 []) = true ∧ fyReady State.reset.dev = false := by decide

theorem test_witness_FreedSlotsAreQuarantined :
    let d := (stateOf (withSeq (seq5 .done))).dev
    (Map.wf d.seqs = true ∧ d.seq? 5 = some (seq5 .done) ∧ slotGen d 5 = 1 ∧
      slotGen { d with gens := [(5, 2047)] } 5 = 2047) ∧
    (let e (due : Nat) := (stateOf (withTimer false TK_QUARANTINE due .paused)).dev
     Map.wf (e 1000).timers = true ∧ timerOf (e 1000) 5 false = some { due := (e 1000).tick, kind := TK_QUARANTINE } ∧
     quarantined (e 1000) 5 = true ∧ (e 1001).tick < 1001 ∧ (∀ p ∈ (e 1000).timers, 1000 ≤ p.2.due)) := by decide +kernel

theorem test_witness_IdleStepPassesTime :
    s0.pending = [] ∧ ({ s0.dev.clk with phase := .held } : Clk).phase = .held ∧ s0.dev.clk.phase ≠ .held ∧ s0.dev.rns.classT = [] ∧
    s0.dev.rns.classC = [] ∧ s0.dev.turn.behind = [] ∧ s0.dev.turn.decisions = [] ∧ s0.dev.groups = [] ∧
    s0.dev.mgmt.mbWaits = false ∧ (∀ l ∈ s0.dev.lanes, l.gate = .on ∨ l.gate = .gated) := by decide

theorem test_ill_formed_transfers :
    (Instr.handOver { handOver3 .submit none with ring := 256 }).wf = false ∧ (Instr.handOver { handOver3 .submit none with src := 32 }).wf = false ∧
    (Instr.handOver { handOver3 .submit none with group := 256 }).wf = false ∧ (Instr.hostCommandTransfer (cmd0 256)).wf = false ∧
    (Instr.hostCommandTransfer { cmd0 0 with src := 32 }).wf = false ∧ (Instr.completionTransfer { complOf CT_END with ring := 256 }).wf = false ∧
    (Instr.endTransfer { complOf CT_END with home := 32 }).wf = false ∧ (Instr.spawn { spawn0 with ring := 256 }).wf = false ∧
    (Instr.parityDelta { delta0 with member := 32 }).wf = false ∧ (Instr.parityDelta { delta0 with updNo := 65536 }).wf = false ∧
    (Instr.rebuildStripe { stripe0 0 with lost := 32 }).wf = false ∧ (Instr.rebuildStripe { stripe0 0 with stripe := 65536 }).wf = false := by
  decide +kernel

end Sys2Proof.Tests
end

section
/-! Hand-overs and packed requests (R27, R125, R364): what each of their operations does, case by case,
and the obligation O10 assembled from these cases. -/

namespace Sys2Proof.Machine

/-! ### The data plane while FY_READY is 1 -/

/-- A command whose meaning waits for FY_READY runs to what its operation makes of a ready slice. -/
theorem settles_of_whenReady {i : Instr} {s : State} (f : Device → Device)
    (hready : fyReady s.dev = true) (hexec : exec i s = done s (whenReady s.dev f)) : Settles i s (f s.dev) := by
  rw [whenReady_true hready] at hexec
  exact hexec

/-- A command whose operation leaves the slice as it met it has nothing to settle. -/
theorem answers_self_of_settles {i : Instr} {s : State} {d : Device} (h : Settles i s d) (hd : d = s.dev) :
    Answers i s s.dev := by
  rwa [Settles, hd, settle_self] at h

theorem settles_handOver {s : State} (h : HandOver) (hready : fyReady s.dev = true) :
    Settles (.handOver h) s (handOver s.dev h) :=
  settles_of_whenReady (handOver · h) hready rfl

theorem settles_handOverAck {s : State} (id : Nat) (r : HandOverResult) (hready : fyReady s.dev = true) :
    Settles (.handOverAck id r) s (handOverAcked s.dev id r) :=
  settles_of_whenReady (handOverAcked · id r) hready rfl

theorem settles_handOverTimeout {s : State} (id : Nat) (hready : fyReady s.dev = true) :
    Settles (.handOverTimeout id) s (handOverExpired s.dev id) :=
  settles_of_whenReady (handOverExpired · id) hready rfl

theorem settles_spawn {s : State} (r : SpawnReq) (hready : fyReady s.dev = true) :
    Settles (.spawn r) s (spawn s.dev r) :=
  settles_of_whenReady (spawn · r) hready rfl

/-! ### The home slice takes a hand-over or refuses it (R27) -/

section Home
variable {d : Device} {h : HandOver} {slot : Nat}

theorem handOver_of_restore {im : ImageRef} (hok : handOverOk d h = true) (hslot : allocSlot d = some slot)
    (hkind : h.kind = .restore) (him : h.image = some im) : handOver d h = handOverRestore d h slot im := by
  simp [handOver, hok, hslot, hkind, him]

/-- A hand-over that brings no image to restore begins a new sequence. -/
theorem handOver_of_submit (hok : handOverOk d h = true) (hslot : allocSlot d = some slot)
    (hnew : h.kind ≠ .restore ∨ h.image = none) : handOver d h = handOverSubmit d h slot := by
  rcases hnew with hkind | him
  · cases hk : h.kind with
    | restore => exact absurd hk hkind
    | submit | spawn p => simp [handOver, hok, hslot, hk]
  · simp [handOver, hok, hslot, him]

theorem handOver_of_not_ok (hok : handOverOk d h = false) :
    handOver d h = sendXfer d h.src (.handOverAck h.id (.refused .rejCapacity)) 32 := by
  simp [handOver, hok]

end Home

/-! ### The owner meets the acknowledgement or its absence (R27, R125) -/

section Owner
variable {d : Device} {id sent : Nat} {x : Decision}

/-- Identifiers below 2^40 are those of hand-overs; the others are spawns' (log entry 72). -/
theorem handOverAcked_accepted (hid : id < 2 ^ 40) (hx : handOverDec d id = some (x, sent)) (h cached : Nat) :
    handOverAcked d id (.accepted h cached) =
      if d.tick ≤ sent + 10 then admitted d x h cached else refuseLate d h := by
  simp only [handOverAcked, if_neg (Nat.not_le.mpr hid), hx]

theorem handOverAcked_refused (hid : id < 2 ^ 40) (hx : handOverDec d id = some (x, sent)) (st : Status) :
    handOverAcked d id (.refused st) = markPass (decide7 (strike d x.did) x.did) := by
  simp only [handOverAcked, if_neg (Nat.not_le.mpr hid), hx]

theorem handOverExpired_of_late (hx : handOverDec d id = some (x, sent)) (hlate : sent + 10 < d.tick) :
    handOverExpired d id = decide7 (strike (suspectOnce d (groupHome d x.chosen)) x.did) x.did := by
  simp only [handOverExpired, hx, if_pos hlate]

theorem handOverExpired_of_inTime (hx : handOverDec d id = some (x, sent)) (htime : d.tick ≤ sent + 10) :
    handOverExpired d id = d := by
  simp only [handOverExpired, hx, if_neg (Nat.not_lt.mpr htime)]

end Owner

/-! ### A packed request at the owner of its ring pair (R364, R365) -/

/-- An ABORT of the parent of a packed request is on its way (R365). -/
def SpawnWithdrawn (d : Device) (r : SpawnReq) : Prop :=
  ∃ o, Map.find d.turn.owned r.parent = some o ∧ o.aborted = true

section Spawn
variable {d : Device} {r : SpawnReq}

theorem spawn_eq_self_of_withdrawn (h : SpawnWithdrawn d r) : spawn d r = d := by
  obtain ⟨o, hparent, habort⟩ := h
  simp [spawn, hparent, habort]

theorem spawn_eq_self_of_not_owned (h : ringOwned d r.ring = false) : spawn d r = d := by
  simp [spawn, h]

theorem spawn_of_owned (howned : ringOwned d r.ring = true) (hlive : ¬ SpawnWithdrawn d r) :
    spawn d r = startDecision (addDecision d { spawnDecision d r with phase := .granted }) (spawnDecision d r).did := by
  cases hparent : Map.find d.turn.owned r.parent with
  | none => simp [spawn, howned, hparent]
  | some o =>
    have habort : o.aborted = false := by
      by_contra hne
      exact hlive ⟨o, hparent, by simpa using hne⟩
    simp [spawn, howned, hparent, habort]

end Spawn

/-! ### The obligation -/

/-- Settles O10: each command runs to its operation on the ready slice (`settles_handOver` and its siblings), and the
cases of the operation give the outcome. -/
theorem handOverAdmitsOrStrikes : Obligations.HandOverAdmitsOrStrikes := by
  refine ⟨fun s hready => ⟨fun h slot hok hslot => ⟨fun im hkind him => ?restored, fun hnew => ?begun⟩,
    fun h hok => ?refusedHere, fun id h cached x T hid hx => ⟨fun htime => ?acceptedInTime,
      fun hlate => ⟨?acceptedLate, ?expired⟩, fun htime => ?notExpired, fun st => ?refusedThere⟩⟩,
    fun s r hready => ⟨fun hnot => ?spawnUnanswered, fun howned hlive => ⟨rfl, rfl, rfl, ?spawnTested⟩⟩⟩
  case restored => exact handOver_of_restore hok hslot hkind him ▸ settles_handOver h hready
  case begun => exact handOver_of_submit hok hslot hnew ▸ settles_handOver h hready
  case refusedHere => exact handOver_of_not_ok hok ▸ settles_handOver h hready
  case acceptedInTime =>
    have hack := settles_handOverAck id (.accepted h cached) hready
    rwa [handOverAcked_accepted hid hx, if_pos htime] at hack
  case acceptedLate =>
    have hack := settles_handOverAck id (.accepted h cached) hready
    rwa [handOverAcked_accepted hid hx, if_neg (Nat.not_le.mpr hlate)] at hack
  case expired => exact handOverExpired_of_late hx hlate ▸ settles_handOverTimeout id hready
  case notExpired =>
    exact answers_self_of_settles (settles_handOverTimeout id hready) (handOverExpired_of_inTime hx htime)
  case refusedThere => exact handOverAcked_refused hid hx st ▸ settles_handOverAck id (.refused st) hready
  case spawnUnanswered =>
    have hsame : spawn s.dev r = s.dev := hnot.elim spawn_eq_self_of_not_owned spawn_eq_self_of_withdrawn
    exact answers_self_of_settles (settles_spawn r hready) hsame
  case spawnTested => exact spawn_of_owned howned hlive ▸ settles_spawn r hready

end Sys2Proof.Machine
end

section
/-! Ring pairs: what a completion that joins a ring, its write and the ring's timers do (R89 to R91), and the obligation
O7 assembled from these cases. -/

namespace Sys2Proof.Machine

/-! ### Tables, ring pairs and entries -/

@[simp] theorem Map.find_mod_same {α : Type} (m : Map α) (k : Nat) (f : α → α) :
    Map.find (Map.mod m k f) k = (Map.find m k).map f := by
  unfold Map.mod
  cases h : Map.find m k with
  | none => exact h
  | some a => exact Map.find_put_same m k (f a)

@[simp] theorem Device.modRing_ring_same (d : Device) (p : Nat) (f : Ring → Ring) : (d.modRing p f).ring p = f (d.ring p) := by
  simp [Device.ring, Device.modRing, Map.getD, Map.find_put_same]

theorem Device.modRing_ring_ne (d : Device) {p q : Nat} (f : Ring → Ring) (h : q ≠ p) : (d.modRing p f).ring q = d.ring q := by
  simp [Device.ring, Device.modRing, Map.getD, Map.find_put_ne _ _ h]

@[simp] theorem odGet_modRing (d : Device) (p : Nat) (f : Ring → Ring) (i j : Nat) : odGet (d.modRing p f) i j = odGet d i j :=
  odGet_od i j rfl rfl

/-- A command whose meaning waits for FY_READY answers with what its operation makes of a ready slice. -/
theorem answers_of_whenReady {i : Instr} {s : State} (f : Device → Device)
    (hready : fyReady s.dev = true) (hexec : exec i s = next s (whenReady s.dev f)) : Answers i s (f s.dev) := by
  rwa [whenReady_true hready] at hexec

/-! ### The write of the oldest waiting completion (R89) -/

section Write
variable {d : Device} {p : Nat}

theorem cqTrailer_fst_od (d : Device) (p bseq r : Nat) : (cqTrailer d p bseq r).1.od = d.od := by
  unfold cqTrailer
  split <;> rfl

theorem cqTrailer_fst_ident (d : Device) (p bseq r : Nat) : (cqTrailer d p bseq r).1.ident = d.ident := by
  unfold cqTrailer
  split <;> rfl

/-- The trailer changes no entry of the dictionary. -/
@[simp] theorem odGet_cqTrailer_fst (d : Device) (p bseq r i j : Nat) : odGet (cqTrailer d p bseq r).1 i j = odGet d i j :=
  odGet_od i j (cqTrailer_fst_od d p bseq r) (cqTrailer_fst_ident d p bseq r)

theorem cqIssue_of_waiting {c : Compl} {ws : List Compl} (hwaiting : (d.ring p).waiting = c :: ws) :
    let r := d.ring p
    let bseq := (odGet d Od.BSEQ_BASE p + r.cqTail) % 2 ^ 32
    let tr := cqTrailer d p bseq (c.bits bseq (hseqEcho d p))
    cqIssue d p = fabiWrite (tr.1.modRing p (fun r => { r with writing := true, view := cvcView d })) (.cqWrite p)
      (odGet d Od.CQ_BASE p + 64 * (r.cqTail % 2 ^ odGet d Od.CQ_LOG2 p)) 64 tr.2 := by
  simp only [cqIssue, hwaiting, cqSize, odGet_modRing, odGet_cqTrailer_fst]

theorem cqMayWrite_iff : cqMayWrite d p = true ↔ (d.ring p).writing = false ∧ (d.ring p).waiting ≠ [] ∧
    (d.ring p).errCq = false ∧ cqFull d p = false ∧ ringOwned d p = true := by
  simp [cqMayWrite, and_assoc]

theorem answers_completionWrite {s : State} (hready : fyReady s.dev = true) :
    Answers (.completionWrite p) s (if cqMayWrite s.dev p then cqIssue s.dev p else s.dev) :=
  answers_of_whenReady (fun d => if cqMayWrite d p then cqIssue d p else d) hready rfl

end Write

/-! ### The ring's timers (R90, R91) -/

section Timers
variable {d : Device} {p : Nat}

theorem cqStallDue_of_since {T : Nat} (hsince : (d.ring p).fullSince = some T) :
    cqStallDue d p = (ringOwned d p && cqFull d p && decide (T + (d.ring p).useStall ≤ d.tick)) := by
  simp only [cqStallDue, hsince]

theorem cqStallDue_of_not_owned (howned : ringOwned d p = false) : cqStallDue d p = false := by
  unfold cqStallDue
  split <;> simp [howned]

theorem cqIrqDue_of_oldest {T : Nat} (holdest : (d.ring p).irqOldest = some T) :
    cqIrqDue d p = (ringOwned d p && decide (T + (d.ring p).useTicks ≤ d.tick)) := by
  simp only [cqIrqDue, holdest]

theorem cqIrqDue_of_not_owned (howned : ringOwned d p = false) : cqIrqDue d p = false := by
  unfold cqIrqDue
  split <;> simp [howned]

theorem ringIrq_of_set (hvector : (d.ring p).useVector ≠ 0) (hcount : (d.ring p).useCount ≠ 0) (howned : ringOwned d p = true) :
    ringIrq d p =
      raiseVector (d.modRing p (fun r => { r with irqCount := 0, irqOldest := none })) (d.ring p).useVector := by
  simp [ringIrq, hvector, hcount, howned]

theorem answers_cqStall {s : State} (hready : fyReady s.dev = true) : Answers (.cqStall p) s
    (if cqStallDue s.dev p then s.dev.modRing p (fun r => { r with stalled := true }) else s.dev) :=
  answers_of_whenReady (fun d => if cqStallDue d p then d.modRing p (fun r => { r with stalled := true }) else d) hready rfl

theorem answers_cqIrqTimeout {s : State} (hready : fyReady s.dev = true) :
    Answers (.cqIrqTimeout p) s (if cqIrqDue s.dev p then ringIrq s.dev p else s.dev) :=
  answers_of_whenReady (fun d => if cqIrqDue d p then ringIrq d p else d) hready rfl

end Timers

/-! ### A completion joins the waiting ones (R89) -/

section Enqueue
variable {d : Device} {c : Compl}

theorem cqEnqueue_ring_ne {q : Nat} (h : q ≠ c.ring) : (cqEnqueue d c).ring q = d.ring q := d.modRing_ring_ne _ h

/-- A TOKENS or TURN_END replaces the waiting TOKENS of its sequence. -/
theorem cqEnqueue_waiting_of_merge (htype : c.ctype = CT_TOKENS ∨ c.ctype = CT_TURN_END)
    (hidle : (d.ring c.ring).writing = false) : ((cqEnqueue d c).ring c.ring).waiting =
      (d.ring c.ring).waiting.filter (fun w => !(decide (w.ctype = CT_TOKENS) && decide (w.handle = c.handle))) ++ [c] := by
  rcases htype with h | h <;> simp [cqEnqueue, hidle, h]

theorem cqEnqueue_waiting_of_not_merge (htokens : c.ctype ≠ CT_TOKENS) (hturnEnd : c.ctype ≠ CT_TURN_END)
    (hidle : (d.ring c.ring).writing = false) :
    ((cqEnqueue d c).ring c.ring).waiting = (d.ring c.ring).waiting ++ [c] := by
  simp [cqEnqueue, hidle, htokens, hturnEnd]

end Enqueue

/-! ### A completion of a home slice at the owner of its pair (R89, R91) -/

/-- What the owner of a sequence keeps of it once the completion has told its turn. -/
def Owned.told (o : Owned) (c : Compl) : Owned :=
  if c.ctype = CT_TURN_END then { o with tokenEnd := c.tokenEnd, clen := c.arg1 }
  else if c.ctype = CT_RESTORED then { o with tokenEnd := c.tokenEnd, clen := c.arg0, noIrq := false }
  else { o with tokenEnd := c.tokenEnd }

/-- The owner's record of the completion's sequence takes in what it tells. -/
def tellOwned (d : Device) (c : Compl) : Device :=
  d.modTurn (fun t => { t with owned := Map.mod t.owned c.handle (·.told c) })

/-- The completion as it waits at the owner: an answer has the NO_IRQ of its record (R91), and a REFUSED names no
handle. -/
def atOwner (d : Device) (c : Compl) : Compl :=
  { c with
    noIrq := (Map.find d.turn.owned c.handle).any (fun o => c.isAnswer && o.noIrq)
    handle := if c.ctype = CT_REFUSED then 0 else c.handle }

section Arrival
variable {d : Device} {c : Compl}

theorem complArrived_of_taken (howned : ringOwned d c.ring = true) (htaken : complRefused d c = false) :
    complArrived d c = cqEnqueue (tellOwned d c) (atOwner d c) := by
  cases ho : Map.find d.turn.owned c.handle <;> simp [complArrived, howned, htaken, tellOwned, atOwner, ho] <;> rfl

theorem complArrived_of_not_taken (h : complRefused d c = true ∨ ringOwned d c.ring = false) : complArrived d c = d := by
  rcases h with h | h <;> simp [complArrived, h]

theorem find_tellOwned {o : Owned} (ho : Map.find d.turn.owned c.handle = some o) :
    Map.find (tellOwned d c).turn.owned c.handle = some (o.told c) := by
  simp [tellOwned, ho]

theorem told_of_turn (o : Owned) (htype : c.ctype = CT_TOKENS ∨ c.ctype = CT_TURN_END) :
    o.told c = { o with tokenEnd := c.tokenEnd, clen := if c.ctype = CT_TURN_END then c.arg1 else o.clen } := by
  rcases htype with h | h <;> simp [Owned.told, h]

theorem told_of_restored (o : Owned) (htype : c.ctype = CT_RESTORED) :
    o.told c = { o with tokenEnd := c.tokenEnd, clen := c.arg0, noIrq := false } := by
  simp [Owned.told, htype]

/-- TOKENS and TURN_END answer no record. -/
theorem atOwner_of_turn (htype : c.ctype = CT_TOKENS ∨ c.ctype = CT_TURN_END) : atOwner d c = { c with noIrq := false } := by
  rcases htype with h | h <;> simp [atOwner, Compl.isAnswer, h]

theorem atOwner_of_owned {o : Owned} (ho : Map.find d.turn.owned c.handle = some o) : atOwner d c =
    { c with noIrq := c.isAnswer && o.noIrq, handle := if c.ctype = CT_REFUSED then 0 else c.handle } := by
  simp [atOwner, ho]

theorem answers_completionTransfer {s : State} (c : Compl) (hready : fyReady s.dev = true) :
    Answers (.completionTransfer c) s (complArrived s.dev c) :=
  answers_of_whenReady (complArrived · c) hready rfl

end Arrival

/-! ### The obligation -/

/-- Settles O7: each command answers with its operation on the ready slice (`answers_completionWrite` and its siblings);
a completion that is taken joins by `complArrived_of_taken`. -/
theorem completionRingIsWrittenAndSignalled : Obligations.CompletionRingIsWrittenAndSignalled := by
  refine ⟨fun s p hready => ⟨fun c ws hwaiting hwriting herr hfull howned => ?written, fun hnot => ?notWritten,
      fun T hsince hfull howned hdue => ?stalled, fun T holdest hdue hvector hcount howned => ?signalled,
      fun howned => ⟨?stallElsewhere, ?signalElsewhere⟩⟩,
    fun s c hready howned htype hidle htaken => ?turn, fun s c hready howned htype hidle htaken => ?other,
    fun s c hready hnot => ?notTaken⟩
  case written =>
    have hmay : cqMayWrite s.dev p = true :=
      cqMayWrite_iff.mpr ⟨hwriting, by simp [hwaiting], herr, hfull, howned⟩
    have hans := answers_completionWrite (p := p) hready
    rwa [if_pos hmay, cqIssue_of_waiting hwaiting] at hans
  case notWritten =>
    have hmay : ¬ cqMayWrite s.dev p = true := by
      rw [cqMayWrite_iff]
      rintro ⟨hwriting, hwaiting, herr, hfull, howned⟩
      simp [hwriting, hwaiting, herr, hfull, howned] at hnot
    have hans := answers_completionWrite (p := p) hready
    rwa [if_neg hmay] at hans
  case stalled =>
    have hdue : cqStallDue s.dev p = true := by simp [cqStallDue_of_since hsince, howned, hfull, hdue]
    have hans := answers_cqStall (p := p) hready
    rwa [if_pos hdue] at hans
  case signalled =>
    have hdue : cqIrqDue s.dev p = true := by simp [cqIrqDue_of_oldest holdest, howned, hdue]
    have hans := answers_cqIrqTimeout (p := p) hready
    rwa [if_pos hdue, ringIrq_of_set hvector hcount howned] at hans
  case stallElsewhere => simpa [cqStallDue_of_not_owned howned] using answers_cqStall (p := p) hready
  case signalElsewhere => simpa [cqIrqDue_of_not_owned howned] using answers_cqIrqTimeout (p := p) hready
  case turn =>
    have hans := answers_completionTransfer c hready
    rw [complArrived_of_taken howned htaken, atOwner_of_turn htype] at hans
    refine ⟨_, hans, rfl, rfl, cqEnqueue_waiting_of_merge (c := { c with noIrq := false }) htype hidle,
      fun q hq => cqEnqueue_ring_ne hq, fun o ho => ?_⟩
    rw [← told_of_turn o htype]
    exact find_tellOwned ho
  case other =>
    have hans := answers_completionTransfer c hready
    rw [complArrived_of_taken howned htaken] at hans
    refine ⟨_, hans, rfl, rfl, fun q hq => cqEnqueue_ring_ne hq, fun o ho => ⟨?_, fun hrestored => ?_⟩⟩
    · rw [← atOwner_of_owned ho]
      have hnoTurn : c.ctype ≠ CT_TOKENS ∧ c.ctype ≠ CT_TURN_END := by
        rcases htype with h | h | h | h <;> simp [h]
      exact cqEnqueue_waiting_of_not_merge (c := atOwner s.dev c) hnoTurn.1 hnoTurn.2 hidle
    · rw [← told_of_restored o hrestored]
      exact find_tellOwned ho
  case notTaken => exact complArrived_of_not_taken hnot ▸ answers_completionTransfer c hready

end Sys2Proof.Machine
end

section
/-! Writes of dictionary entries that the management unit has taken (R447 to R457), what a write of RING_CTRL does
(R72, R73), and the obligation O8. -/

namespace Sys2Proof.Machine

/-! ### A write that is taken and passes the checks of Table 18.5 -/

section Taken
variable {d0 d e : Device} {path : Path} {idx sub len v : Nat} {data : List Byte} {eff : Effect}

theorem pathRefusal_of_writeCheck {row : OdRow} (hcheck : writeCheck d path idx sub len v = none)
    (hrow : odRow idx sub = some row) : pathRefusal d path row idx = none := by
  by_contra hne
  obtain ⟨st, hst⟩ := Option.ne_none_iff_exists'.mp hne
  simp only [writeCheck, hrow, hst] at hcheck
  split at hcheck <;> cases hcheck

/-- A write that passes the checks is none that the MCTP mask refuses, and counts nothing (R455). -/
theorem countMasked_of_writeCheck (hcheck : writeCheck d path idx sub len v = none) (permitted : Bool) :
    countMasked d path idx sub permitted = d := by
  cases path with
  | direct | mailbox reqId | setParam p => rfl
  | mctp src tag reqId =>
    cases hrow : odRow idx sub with
    | none => simp [countMasked, hrow]
    | some row =>
      have hpath := pathRefusal_of_writeCheck hcheck hrow
      have hmask : bit (odGet d Od.MCTP_WRITE_MASK 0) (idx / 256) = true := by
        by_contra hne
        simp [pathRefusal, hne] at hpath
      simp [countMasked, hmask]

theorem pathWrite_of_taken (htaken : WriteTaken d0 path idx sub data d) :
    pathWrite d0 path idx sub data eff = performWrite d path idx sub data eff := by
  obtain ⟨hpresent, htook, rfl, -⟩ := htaken
  simp [pathWrite, whenPresent_true hpresent, htook]

/-- A value that the entry takes is answered with what it reads back. -/
theorem pathWrite_of_effect_ok (htaken : WriteTaken d0 path idx sub data d)
    (heff : eff d (ofLe data &&& keptBits d idx) = (e, some .ok)) :
    pathWrite d0 path idx sub data eff = respondWrite e path idx sub .ok (readBack e idx sub) := by
  obtain ⟨-, -, -, hcheck⟩ := id htaken
  simp only [pathWrite_of_taken htaken, performWrite, countMasked_of_writeCheck hcheck, hcheck, heff]

theorem pathWrite_of_effect_refused {st : Status} (htaken : WriteTaken d0 path idx sub data d)
    (heff : eff d (ofLe data &&& keptBits d idx) = refusedBy d st) (hst : st ≠ .ok) :
    pathWrite d0 path idx sub data eff = respondWrite d path idx sub st 0 := by
  obtain ⟨-, -, -, hcheck⟩ := id htaken
  simp only [pathWrite_of_taken htaken, performWrite, countMasked_of_writeCheck hcheck, hcheck, heff, refusedBy]

end Taken

/-! ### RING_CTRL (R72, R73) -/

section RingCtrl
variable {d : Device} {p v : Nat}

/-- RING_CTRL has four bits, and all of them reach its effect. -/
theorem ringCtrl_kept (d : Device) (hv : v < 16) : ofLe (leBytes v 1) &&& keptBits d Od.RING_CTRL = v := by
  have hkept : keptBits d Od.RING_CTRL = 2 ^ 4 - 1 := rfl
  have hbyte : ofLe (leBytes v 1) = v := by
    show v % 2 ^ 8 + 256 * 0 = v
    omega
  rw [hkept, hbyte, Nat.and_two_pow_sub_one_eq_mod, Nat.mod_eq_of_lt hv]

/-- Some action that the write asks for is refused (R73). -/
def ringCtrlRefused (d : Device) (p v : Nat) : Bool :=
  (bit v 1 && !ringResetOk d p) || (bit v 2 && ringEnabled d p) || (bit v 0 && !ringEnabled d p && !ringEnableOk d p)

/-- The pair after the actions of an accepted write, in their order, and ENABLE (R73). -/
def ringCtrlDone (d : Device) (p v : Nat) : Device :=
  let d1 := if bit v 1 then ringResetNow d p else d
  let d2 := if bit v 2 then ringDiscardNow d1 p else d1
  let d3 := if bit v 3 then ringClearErrNow d2 p else d2
  odSet d3 Od.RING_CTRL p (v % 2)

theorem ringCtrlWrite_eq (d : Device) (p v : Nat) :
    ringCtrlWrite d p v = if ringCtrlRefused d p v then none else some (ringCtrlDone d p v) := rfl

theorem effRingCtrl_of_refused (h : ringCtrlRefused d p v = true) : effRingCtrl p d v = refusedBy d .rejFormat := by
  simp only [effRingCtrl, ringCtrlWrite_eq, if_pos h]

theorem effRingCtrl_of_accepted (h : ringCtrlRefused d p v = false) : effRingCtrl p d v =
    (if !ringEnabled d p && ringEnabled (ringCtrlDone d p v) p then announce (ringCtrlDone d p v) p else ringCtrlDone d p v,
      some .ok) := by
  simp only [effRingCtrl, ringCtrlWrite_eq, h, Bool.false_eq_true, if_false]

/-- The commands that write RING_CTRL differ in name only. -/
theorem answers_ringCtrl {s : State} {path : Path} {i : Instr}
    (hi : i = .ringEnable path p v ∨ i = .ringReset path p v ∨ i = .ringDiscard path p v ∨ i = .ringClearErr path p v) :
    Answers i s (pathWrite s.dev path Od.RING_CTRL p (leBytes v 1) (effRingCtrl p)) := by
  rcases hi with rfl | rfl | rfl | rfl <;> rfl

end RingCtrl

/-! ### The obligation -/

/-- Settles O8: a taken write answers with what its effect makes of the entry (`pathWrite_of_effect_ok`,
`pathWrite_of_effect_refused`), and the effect of RING_CTRL takes all actions or none. -/
theorem ringControlActsAsOneWrite : Obligations.RingControlActsAsOneWrite := by
  intro s path p v d i hi hv htaken
  have hans := answers_ringCtrl (s := s) hi
  refine ⟨fun hrefused => ?_, fun haccepted => ?_⟩
  · have heff := (congrArg (effRingCtrl p d) (ringCtrl_kept d hv)).trans (effRingCtrl_of_refused hrefused)
    rwa [pathWrite_of_effect_refused htaken heff (by decide)] at hans
  · have heff := (congrArg (effRingCtrl p d) (ringCtrl_kept d hv)).trans (effRingCtrl_of_accepted haccepted)
    rwa [pathWrite_of_effect_ok htaken heff] at hans

end Sys2Proof.Machine
end

section
/-! Commands that the owner of a ring pair sends to a sequence's home slice, and their acknowledgements (R80, R83, R104),
and the obligation O11. -/

namespace Sys2Proof.Machine

/-! ### At the home slice (R104) -/

section Home
variable {d : Device} {c : HostCmd} {slot : Nat} {q : Seq}

theorem hostCommand_of_stale (hstale : liveSlot d (forwarded d c.handle) = none) :
    hostCommand d c = hostAck d { id := c.id, src := c.src } (.refused .staleHandle) := by
  simp only [hostCommand, hstale]

theorem hostCommand_of_creator (hlive : liveSlot d (forwarded d c.handle) = some slot) (hseq : d.seq? slot = some q)
    (hring : q.tcb.ring = c.ring) (hclient : q.tcb.client = c.client) : hostCommand d c = hostCommandOn d slot c := by
  simp [hostCommand, hlive, hseq, hring, hclient]

/-- A command of another ring pair or client reaches the sequence no more than one whose handle is stale. -/
theorem hostCommand_of_stranger (hlive : liveSlot d (forwarded d c.handle) = some slot) (hseq : d.seq? slot = some q)
    (hstranger : q.tcb.ring ≠ c.ring ∨ q.tcb.client ≠ c.client) :
    hostCommand d c = hostAck d { id := c.id, src := c.src } (.refused .staleHandle) := by
  simp [hostCommand, hlive, hseq, hstranger]

theorem settles_hostCommandTransfer {s : State} (c : HostCmd) (hready : fyReady s.dev = true) :
    Settles (.hostCommandTransfer c) s (hostCommand s.dev c) :=
  settles_of_whenReady (hostCommand · c) hready rfl

end Home

/-! ### The acknowledgement at the owner (R80, R83) -/

/-- The command `id` has its answer and is no longer outstanding. -/
def fwdOver (d : Device) (id : Nat) : Device :=
  d.modTurn (fun t => { t with fwds := removeFirst (fun f => f.id = id) t.fwds })

section Owner
variable {d : Device} {id te : Nat} {f : Fwd}

/-- An ABORT, PAUSE, RESUME or SAVE: the record names one sequence and has one answer. -/
def FwdKind.single (k : FwdKind) : Prop := k = .abort ∨ k = .pause ∨ k = .resume ∨ k = .save

theorem hostAcked_ack (hfwd : d.turn.fwds.find? (fun x => x.id = id) = some f) (hkind : f.kind.single) (n : Nat) :
    hostAcked d id (.ack n) te = fwdAnswer (fwdOver d id) f CT_ACK n te := by
  rcases hkind with hk | hk | hk | hk <;> simp only [hostAcked, hfwd, hk, fwdOver]

theorem hostAcked_saved (hfwd : d.turn.fwds.find? (fun x => x.id = id) = some f) (hkind : f.kind.single) (n : Nat) :
    hostAcked d id (.saved n) te = fwdAnswer (fwdOver d id) f CT_SAVED n te := by
  rcases hkind with hk | hk | hk | hk <;> simp only [hostAcked, hfwd, hk, fwdOver]

theorem hostAcked_refused (hfwd : d.turn.fwds.find? (fun x => x.id = id) = some f) (hkind : f.kind.single) (st : Status) :
    hostAcked d id (.refused st) te = fwdRefuse (fwdOver d id) f st te := by
  rcases hkind with hk | hk | hk | hk <;> simp only [hostAcked, hfwd, hk, fwdOver]

theorem hostAcked_cont {did : Nat} {r : HostResult} (hfwd : d.turn.fwds.find? (fun x => x.id = id) = some f)
    (hkind : f.kind = .cont did) (hr : r ≠ .later) : hostAcked d id r te = contAnswered (fwdOver d id) f did r te := by
  cases r with
  | later => exact absurd rfl hr
  | _ => simp only [hostAcked, hfwd, hkind, fwdOver]

theorem hostAcked_clientAbort {gid : Nat} (hfwd : d.turn.fwds.find? (fun x => x.id = id) = some f)
    (hkind : f.kind = .clientAbort gid) (n : Nat) : hostAcked d id (.ack n) te = clientAborted (fwdOver d id) f gid n := by
  simp only [hostAcked, hfwd, hkind, fwdOver]

theorem settles_hostCommandAck {s : State} {r : HostResult} (hready : fyReady s.dev = true)
    (hacked : hostAcked s.dev id r te = d) : Settles (.hostCommandAck id r te) s d :=
  hacked ▸ settles_of_whenReady (hostAcked · id r te) hready rfl

end Owner

/-! ### The obligation -/

/-- Settles O11: each command runs to its operation on the ready slice (`settles_hostCommandTransfer`,
`settles_hostCommandAck`), and the cases of the operation give the outcome. -/
theorem hostCommandsReachLiveSequences : Obligations.HostCommandsReachLiveSequences := by
  refine fun s hready => ⟨fun c slot q hlive hseq => ⟨fun hring hclient => ?creator, fun hstranger => ?stranger⟩,
    fun c hstale => ?stale, fun id f hfwd => ⟨fun hkind => ⟨fun n te => ?acked, fun st te => ?refused, fun n te => ?saved⟩,
      fun did r te hkind hr => ?continued, fun gid n te hkind => ?clientAborted⟩⟩
  case creator => exact hostCommand_of_creator hlive hseq hring hclient ▸ settles_hostCommandTransfer c hready
  case stranger => exact hostCommand_of_stranger hlive hseq hstranger ▸ settles_hostCommandTransfer c hready
  case stale => exact hostCommand_of_stale hstale ▸ settles_hostCommandTransfer c hready
  case acked => exact settles_hostCommandAck hready (hostAcked_ack hfwd hkind n)
  case refused => exact settles_hostCommandAck hready (hostAcked_refused hfwd hkind st)
  case saved => exact settles_hostCommandAck hready (hostAcked_saved hfwd hkind n)
  case continued => exact settles_hostCommandAck hready (hostAcked_cont hfwd hkind hr)
  case clientAborted => exact settles_hostCommandAck hready (hostAcked_clientAbort hfwd hkind n)

end Sys2Proof.Machine
end

section
/-! Consumption of submission records (R77 to R79, R121): the record that leaves the ring, what becomes of it by its
opcode, and the obligation O9. -/

namespace Sys2Proof.Machine

/-! ### What the taking of a record leaves as it was -/

theorem cvcLegacy_eq (d : Device) (v : CvcView) (point sel r n : Nat) :
    cvcLegacy d v point sel r n = { d with cvc := (cvcLegacy d v point sel r n).cvc } := by
  unfold cvcLegacy
  dsimp only
  split
  · split <;> rfl
  · rfl

theorem cvcOne_eq (d : Device) (c cfg point sel r n seq : Nat) :
    cvcOne d c cfg point sel r n seq = { d with cvc := (cvcOne d c cfg point sel r n seq).cvc } := by
  unfold cvcOne
  split
  · split
    · split <;> rfl
    · rfl
  · rfl

/-- A record that passes a snoop point changes the check value channels only (R421). -/
theorem cvcPassAs_eq (d : Device) (v : CvcView) (point sel r n seq : Nat) :
    cvcPassAs d v point sel r n seq = { d with cvc := (cvcPassAs d v point sel r n seq).cvc } := by
  have ones (chans : Map Nat) (e : Device) : chans.foldl (fun d p => cvcOne d p.1 p.2 point sel r n seq) e =
      { e with cvc := (chans.foldl (fun d p => cvcOne d p.1 p.2 point sel r n seq) e).cvc } := by
    induction chans generalizing e with
    | nil => rfl
    | cons p chans ih => rw [List.foldl_cons, ih, cvcOne_eq]
  unfold cvcPassAs
  rw [cvcLegacy_eq, ones]

theorem cvcPass_eq (d : Device) (point sel r n seq : Nat) :
    cvcPass d point sel r n seq = { d with cvc := (cvcPass d point sel r n seq).cvc } := cvcPassAs_eq ..

theorem fabiRead_eq (d : Device) (kind : FabiKind) (addr len : Nat) :
    fabiRead d kind addr len = { d with fabi := (fabiRead d kind addr len).fabi } := by
  unfold fabiRead fabiNew fabiIssue fabiOut
  split <;> simp

/-- Reading ahead issues reads and moves the count of the next one (R77). -/
theorem sqFetch_eq (d : Device) (p n : Nat) :
    sqFetch d p n = { d with rings := (sqFetch d p n).rings, fabi := (sqFetch d p n).fabi } := by
  induction n generalizing d with
  | zero => rfl
  | succ n ih =>
    unfold sqFetch
    dsimp only
    split
    · rw [ih, fabiRead_eq]
      rfl
    · rfl

theorem fabiRead_ring (d : Device) (kind : FabiKind) (addr len p : Nat) : (fabiRead d kind addr len).ring p = d.ring p := by
  rw [fabiRead_eq]
  rfl

theorem sqFetch_ring_same (d : Device) (p n : Nat) :
    ∃ k, (sqFetch d p n).ring p = { d.ring p with fetchNext := k } := by
  induction n generalizing d with
  | zero => exact ⟨_, rfl⟩
  | succ n ih =>
    unfold sqFetch
    dsimp only
    split
    · obtain ⟨k, hk⟩ := ih (fabiRead (d.modRing p _) _ _ _)
      rw [fabiRead_ring, Device.modRing_ring_same] at hk
      exact ⟨k, hk⟩
    · exact ⟨_, rfl⟩

theorem sqFetch_ring_ne (d : Device) {p q : Nat} (n : Nat) (h : q ≠ p) : (sqFetch d p n).ring q = d.ring q := by
  induction n generalizing d with
  | zero => rfl
  | succ n ih =>
    unfold sqFetch
    dsimp only
    split
    · rw [ih, fabiRead_ring, Device.modRing_ring_ne _ _ h]
    · rfl

/-! ### The head record leaves the ring (R77 to R79) -/

/-- The pair once its head record is consumed, but for the reads that follow. -/
def Ring.headTaken (r : Ring) : Ring :=
  { r with sqHead := (r.sqHead + 1) % 2 ^ 32, held := Map.del r.held r.sqHead, unanswered := r.unanswered + 1 }

/-- The turnstile once a record of pair `p` is consumed in decision slot `slot`. -/
def Turnstile.consumed (t : Turnstile) (p slot : Nat) : Turnstile :=
  { t with lastSlot := some slot, lastWasConsume := true, rrNext := (p + 1) % 256 }

/-- The slice once the head record of pair `p` is consumed, but for the reads that follow. -/
def headGone (d : Device) (p r : Nat) : Device :=
  ((cvcPass d PT_SQ_READ p r 128 (Sq.hseq r)).modRing p Ring.headTaken).modTurn (·.consumed p (decisionSlot d))

section TakeHead
variable (d : Device) (p r : Nat)

theorem takeHead_eq_sqFetch : takeHead d p r = sqFetch (headGone d p r) p 8 := by
  unfold takeHead headGone
  rw [cvcPass_eq]
  rfl

theorem headGone_ring_same : (headGone d p r).ring p = (d.ring p).headTaken := by
  have hcvc : (cvcPass d PT_SQ_READ p r 128 (Sq.hseq r)).ring p = d.ring p := by rw [cvcPass_eq]; rfl
  rw [← hcvc]
  exact Device.modRing_ring_same _ p _

theorem headGone_ring_ne {q : Nat} (h : q ≠ p) : (headGone d p r).ring q = d.ring q := by
  have hcvc : (cvcPass d PT_SQ_READ p r 128 (Sq.hseq r)).ring q = d.ring q := by rw [cvcPass_eq]; rfl
  rw [← hcvc]
  exact Device.modRing_ring_ne _ _ h

theorem headGone_eq : headGone d p r = { d with
    cvc := (headGone d p r).cvc, rings := (headGone d p r).rings, turn := d.turn.consumed p (decisionSlot d) } := by
  unfold headGone
  rw [cvcPass_eq]
  rfl

theorem takeHead_ring_same : ∃ k, (takeHead d p r).ring p = { (d.ring p).headTaken with fetchNext := k } := by
  rw [takeHead_eq_sqFetch, ← headGone_ring_same d p r]
  exact sqFetch_ring_same _ p 8

theorem takeHead_ring_ne {q : Nat} (h : q ≠ p) : (takeHead d p r).ring q = d.ring q := by
  rw [takeHead_eq_sqFetch, sqFetch_ring_ne _ 8 h, headGone_ring_ne d p r h]

theorem takeHead_eq : takeHead d p r = { d with
    cvc := (takeHead d p r).cvc, rings := (takeHead d p r).rings, turn := d.turn.consumed p (decisionSlot d)
    fabi := (takeHead d p r).fabi } := by
  rw [takeHead_eq_sqFetch, sqFetch_eq, headGone_eq]

end TakeHead

/-! ### The checks of Table 3.3 -/

section Checks
variable {d : Device} {p k r : Nat}

theorem opcode_of_formatOk (h : Sq.formatOk r = true) : 1 ≤ Sq.opcode r ∧ Sq.opcode r ≤ 0x0A := by
  simp only [Sq.formatOk, Bool.and_eq_true, decide_eq_true_eq] at h
  omega

/-- Check 1 or check 2 refuses an opcode outside Table 3.5. -/
theorem formatError_of_unknown (hop : Sq.opcode r = 0 ∨ 0x0A < Sq.opcode r) :
    ∃ a, formatError d p k r = some (.rejFormat, a) := by
  have hformat : Sq.formatOk r = false := by
    by_contra hok
    have hrange := opcode_of_formatOk (Bool.eq_true_of_not_eq_false hok)
    omega
  by_cases hseq : Sq.hseq r = hseqAt d p k
  · exact ⟨0, by simp [formatError, hseq, hformat]⟩
  · exact ⟨Sq.hseq r, by simp [formatError, hseq]⟩

theorem recordSlack_of_unknown (hop : Sq.opcode r = 0 ∨ 0x0A < Sq.opcode r) : recordSlack d p r = noSlack := by
  have hsubmit : Sq.opcode r ≠ 0x01 := by omega
  have hcont : Sq.opcode r ≠ 0x02 := by omega
  simp [recordSlack, hsubmit, hcont]

theorem opMatches_self (op : Nat) : opMatches op op = true := by simp [opMatches]

/-- SUBMIT stands for the opcodes outside Table 3.5 (log entry 21). -/
theorem opMatches_submit_unknown {op : Nat} (hop : op = 0 ∨ 0x0A < op) : opMatches 0x01 op = true := by
  simp [opMatches, hop]

end Checks

/-! ### Consumption -/

section Consume
variable {d : Device} {p op : Nat} {act : Device → Nat → Device}

/-- Pair `p` gives up the record `rv` in the current decision slot (R78, R121). -/
structure Consumes (d : Device) (p : Nat) (rv : SqRec) : Prop where
  ready : fyReady d = true
  held : Map.find (d.ring p).held (d.ring p).sqHead = some rv
  turn : rrPick d = some p
  slot : slotForConsume d = true

/-- A record that fails a check of Table 3.3 is answered REFUSED under the HSEQ that R74 expects. -/
def refuseRecord (d : Device) (p k r : Nat) (st : Status) (arg0 : Nat) : Device :=
  refuse d p st (hseqAt d p k) (Sq.userTag r) (Sq.client r) (namedHandle r) arg0 (Sq.noIrq r) 0 (recordSlack d p r)
    (namedTokens d p r)

theorem consume_of_formatOk {rv : SqRec} (h : Consumes d p rv) (hop : opMatches op (Sq.opcode rv.toNat) = true)
    (hok : formatError (takeHead d p rv.toNat) p (d.ring p).sqHead rv.toNat = none) :
    consume d p op act = act (takeHead d p rv.toNat) rv.toNat := by
  simp [consume, whenReady_true h.ready, h.held, h.turn, h.slot, hop, hok]

theorem consume_of_formatError {rv : SqRec} {st : Status} {a : Nat} (h : Consumes d p rv)
    (hop : opMatches op (Sq.opcode rv.toNat) = true)
    (herr : formatError (takeHead d p rv.toNat) p (d.ring p).sqHead rv.toNat = some (st, a)) :
    consume d p op act = refuseRecord (takeHead d p rv.toNat) p (d.ring p).sqHead rv.toNat st a := by
  simp [consume, whenReady_true h.ready, h.held, h.turn, h.slot, hop, herr, refuseRecord]

theorem consume_of_not_turn (hready : fyReady d = true) (hnot : rrPick d ≠ some p ∨ slotForConsume d = false) :
    consume d p op act = d := by
  rw [consume, whenReady_true hready]
  split
  · rfl
  · rcases hnot with h | h <;> simp [h]

/-- What the consumption of a record with opcode `op` comes to, for a command that reads `answers` of it. -/
theorem consume_opens {rv : SqRec} {answers : Device → Prop} (h : Consumes d p rv) (hexec : answers (consume d p op act)) :
    let r := rv.toNat
    let k := (d.ring p).sqHead
    let e := takeHead d p r
    Sq.opcode r = op → (formatError e p k r = none → answers (act e r)) ∧
      (∀ st a, formatError e p k r = some (st, a) → answers (refuseRecord e p k r st a)) := by
  rintro r k e rfl
  have hop := opMatches_self (Sq.opcode r)
  exact ⟨fun hok => consume_of_formatOk (act := act) h hop hok ▸ hexec,
    fun st a herr => consume_of_formatError (act := act) h hop herr ▸ hexec⟩

theorem consume_of_unknown {rv : SqRec} (h : Consumes d p rv) (hop : Sq.opcode rv.toNat = 0 ∨ 0x0A < Sq.opcode rv.toNat) :
    let r := rv.toNat
    let k := (d.ring p).sqHead
    let e := takeHead d p r
    ∃ a, formatError e p k r = some (.rejFormat, a) ∧ consume d p 0x01 act =
      refuse e p .rejFormat (hseqAt e p k) (Sq.userTag r) (Sq.client r) (namedHandle r) a (Sq.noIrq r) 0 noSlack
        (namedTokens e p r) := by
  intro r k e
  obtain ⟨a, herr⟩ := formatError_of_unknown (d := e) (p := p) (k := k) hop
  refine ⟨a, herr, ?_⟩
  rw [consume_of_formatError h (opMatches_submit_unknown hop) herr, refuseRecord, recordSlack_of_unknown hop]

end Consume

/-! ### The obligation -/

/-- Settles O9: `consume_opens` for each opcode's command, `consume_of_not_turn` without the pair's turn or a slot, and
`takeHead_eq` with `takeHead_ring_same` for what every consumption does to its ring pair. -/
theorem consumptionTakesTheHeadRecord : Obligations.ConsumptionTakesTheHeadRecord := by
  refine ⟨fun s p rv hready hheld hturn hslot => ?consumed, fun s p i hready hi hnot => ?waits, fun d p r hwf => ?taken⟩
  case consumed =>
    have h : Consumes s.dev p rv := ⟨hready, hheld, hturn, hslot⟩
    refine ⟨consume_opens h rfl, consume_opens h rfl, consume_opens h rfl, consume_opens h rfl, consume_opens h rfl,
      consume_opens h rfl, consume_opens h rfl, consume_opens h rfl, consume_opens h rfl, consume_opens h rfl, fun hop => ?_⟩
    obtain ⟨a, herr, hconsume⟩ := consume_of_unknown (act := actSubmit p) h hop
    exact ⟨a, herr, hconsume ▸ (rfl : Answers (.submit p) s (consume s.dev p 0x01 (actSubmit p)))⟩
  case waits =>
    have idle (op : Nat) (act : Device → Nat → Device) : next s (consume s.dev p op act) = next s s.dev := by
      rw [consume_of_not_turn hready hnot]
    have idleSettled (op : Nat) (act : Device → Nat → Device) : done s (consume s.dev p op act) = next s s.dev := by
      rw [done, consume_of_not_turn hready hnot, settle_self]
    rcases hi with rfl | rfl | rfl | rfl | rfl | rfl | rfl | rfl | rfl | rfl
    exacts [idle _ _, idle _ _, idle _ _, idle _ _, idle _ _, idle _ _, idle _ _, idle _ _, idle _ _, idleSettled _ _]
  case taken =>
    obtain ⟨k, hring⟩ := takeHead_ring_same d p r
    have heq := takeHead_eq d p r
    have hturn : (takeHead d p r).turn = d.turn.consumed p (decisionSlot d) := congrArg Device.turn heq
    have hheld : ((takeHead d p r).ring p).held = Map.del (d.ring p).held (d.ring p).sqHead := by rw [hring]; rfl
    refine ⟨by rw [hring]; rfl, by rw [hring]; rfl, by rw [hring]; rfl, hheld ▸ Map.find_del_same _ hwf,
      fun q hq => takeHead_ring_ne d p r hq, hturn, hturn ▸ heq⟩

end Sys2Proof.Machine
end

section
/-! Timers (R109, R114, R115, R117): what an expiry does to the lists and to its counters, which timer expires, and the
obligations O26 and O25 assembled from these rules. -/

namespace Sys2Proof.Machine

/-! ### The places of timers -/

/-- Each slot and timer has a place of its own. -/
theorem timerKey_inj {u v : Nat} {c b : Bool} : timerKey u c = timerKey v b ↔ (u, c) = (v, b) := by
  cases b <;> cases c <;> simp [timerKey, ofBool] <;> omega

theorem timerOf_cancelTimer_same {d : Device} {slot : Nat} {b : Bool} (hwf : Map.wf d.timers = true) :
    timerOf (cancelTimer d slot b) slot b = none := Map.find_del_same _ hwf

theorem timerOf_cancelTimer_ne (d : Device) {slot u : Nat} {b c : Bool} (h : (u, c) ≠ (slot, b)) :
    timerOf (cancelTimer d slot b) u c = timerOf d u c := Map.find_del_ne _ (mt timerKey_inj.mp h)

/-! ### What an expiry counts (R117) -/

/-- The bin of the histogram that holds a lateness. -/
def lateBin (late : Nat) : Nat :=
  if late = 0 then 0 else if late = 1 then 1 else if late ≤ 3 then 2 else if late ≤ 15 then 3
  else if late ≤ 63 then 4 else if late ≤ 255 then 5 else if late ≤ 1023 then 6 else 7

/-- The slice without the timer, its lateness counted. -/
def countExpiry (d : Device) (slot : Nat) (b : Bool) (late : Nat) : Device :=
  bump (bumpMax (bump (cancelTimer d slot b) Od.TIMER_EXPIRED 0) Od.TIMER_LATE_MAX 0 late) Od.TIMER_LATE_HIST (lateBin late)

/-- The least lateness of each bin (R117). -/
def leastLate : List Nat := [0, 1, 2, 4, 16, 64, 256, 1024]

/-- A bin reaches from its least lateness up to that of the next one, the last bin without end. -/
theorem lateBin_eq_iff {late k : Nat} (hk : k < 8) :
    lateBin late = k ↔ leastLate.getD k 0 ≤ late ∧ (k < 7 → late < leastLate.getD (k + 1) 0) := by
  unfold lateBin leastLate
  interval_cases k <;> simp <;> grind

theorem lateBin_lt (late : Nat) : lateBin late < 8 := by
  unfold lateBin
  split_ifs <;> decide

/-- Entries of different indices are stored apart. -/
theorem odKey_ne_of_index {i j i' j' : Nat} (hi : i ≠ i') (hj : j < 256) (hj' : j' < 256) : odKey i j ≠ odKey i' j' := by
  unfold odKey
  omega

theorem odKey_lateBin_ne (late : Nat) {i j : Nat} (hi : Od.TIMER_LATE_HIST ≠ i) (hj : j < 256) :
    odKey Od.TIMER_LATE_HIST (lateBin late) ≠ odKey i j :=
  odKey_ne_of_index hi (Nat.lt_trans (lateBin_lt late) (by decide)) hj

section Expiry
variable (d : Device) (slot : Nat) (b : Bool) (t : Timer)

/-- An expiry counts, and from 64 TICK of lateness on it raises TIMER_LATE (R117). -/
theorem expireTimer_eq : expireTimer d slot b t =
    let counted := countExpiry d slot b (d.tick - t.due)
    if 64 ≤ d.tick - t.due then alertLog counted ALERT_TIMER_LATE 0 (slotHandle counted slot) 0 (d.tick - t.due)
    else counted := rfl

theorem expireTimer_timers : (expireTimer d slot b t).timers = (cancelTimer d slot b).timers := by
  rw [expireTimer_eq]
  dsimp only
  split <;> simp [countExpiry]

theorem expireTimer_seqs : (expireTimer d slot b t).seqs = d.seqs := by
  rw [expireTimer_eq]
  dsimp only
  split <;> simp [countExpiry, cancelTimer]

theorem expireTimer_reclaimed : (expireTimer d slot b t).reclaimed = d.reclaimed := by
  rw [expireTimer_eq]
  dsimp only
  split <;> simp [countExpiry, cancelTimer]

theorem timerOf_expireTimer_same (hwf : Map.wf d.timers = true) : timerOf (expireTimer d slot b t) slot b = none := by
  rw [timerOf, expireTimer_timers]
  exact timerOf_cancelTimer_same hwf

theorem timerOf_expireTimer_ne {u : Nat} {c : Bool} (h : (u, c) ≠ (slot, b)) :
    timerOf (expireTimer d slot b t) u c = timerOf d u c := by
  rw [timerOf, expireTimer_timers]
  exact timerOf_cancelTimer_ne d h

/-- The alert writes none of the counters of timers. -/
theorem odGet_expireTimer {i j : Nat} (hi : Od.TIMER_EXPIRED ≤ i) :
    odGet (expireTimer d slot b t) i j = odGet (countExpiry d slot b (d.tick - t.due)) i j := by
  have apart {i' j' : Nat} (hi' : i' < Od.TIMER_EXPIRED) (hj' : j' < 256) : odKey i' j' ≠ odKey i j := by
    unfold odKey
    omega
  rw [expireTimer_eq]
  dsimp only
  split
  · exact alertLog_odne _ _ _ _ _ _ (fun k hk => apart (by decide) (by omega)) (apart (by decide) (by decide))
      (apart (by decide) (by decide))
  · rfl

/-- The counters of timers are not the causes. -/
theorem odGet_countExpiry_cause (late : Nat) :
    odGet (countExpiry d slot b late) Od.ALERT_CAUSE 0 = odGet d Od.ALERT_CAUSE 0 := by
  unfold countExpiry
  rw [od_bump_ne _ (odKey_lateBin_ne late (by decide) (by decide)), od_bumpMax_ne _ (by decide), od_bump_ne _ (by decide)]
  exact odGet_od _ _ rfl rfl

end Expiry

section Counters
variable {d : Device} {slot : Nat} {b : Bool} {late : Nat} (hod : Map.wf d.od = true)
include hod

theorem countExpiry_wf : Map.wf (countExpiry d slot b late).od = true :=
  bump_wf (bumpMax_wf (bump_wf hod))

theorem odGet_countExpiry_expired :
    odGet (countExpiry d slot b late) Od.TIMER_EXPIRED 0 = min (2 ^ 48 - 1) (odGet d Od.TIMER_EXPIRED 0 + 1) := by
  have hcancel : Map.wf (cancelTimer d slot b).od = true := hod
  unfold countExpiry
  rw [od_bump_ne _ (odKey_lateBin_ne late (by decide) (by decide)), od_bumpMax_ne _ (by decide), od_bump_same _ hcancel]
  rfl

theorem odGet_countExpiry_max : odGet (countExpiry d slot b late) Od.TIMER_LATE_MAX 0 =
    max (odGet d Od.TIMER_LATE_MAX 0) (min (2 ^ 48 - 1) late) := by
  have hcounted : Map.wf (bump (cancelTimer d slot b) Od.TIMER_EXPIRED 0).od = true := bump_wf hod
  unfold countExpiry
  rw [od_bump_ne _ (odKey_lateBin_ne late (by decide) (by decide)), od_bumpMax_same _ hcounted, od_bump_ne _ (by decide)]
  rfl

/-- The bin of the lateness counts the expiry, and every other bin stays. -/
theorem odGet_countExpiry_hist {k : Nat} (hk : k < 8) : odGet (countExpiry d slot b late) Od.TIMER_LATE_HIST k =
    if lateBin late = k then min (2 ^ 48 - 1) (odGet d Od.TIMER_LATE_HIST k + 1) else odGet d Od.TIMER_LATE_HIST k := by
  have hcancel : Map.wf (cancelTimer d slot b).od = true := hod
  have apart {i : Nat} (hi : i ≠ Od.TIMER_LATE_HIST) : odKey i 0 ≠ odKey Od.TIMER_LATE_HIST k :=
    odKey_ne_of_index hi (by decide) (by omega)
  have hbefore : odGet (bumpMax (bump (cancelTimer d slot b) Od.TIMER_EXPIRED 0) Od.TIMER_LATE_MAX 0 late)
      Od.TIMER_LATE_HIST k = odGet d Od.TIMER_LATE_HIST k := by
    rw [od_bumpMax_ne _ (apart (by decide)), od_bump_ne _ (apart (by decide))]
    exact odGet_od _ _ rfl rfl
  unfold countExpiry
  split
  case isTrue h =>
    rw [h, od_bump_same _ (bumpMax_wf (bump_wf hcancel)), hbefore]
  case isFalse h => rw [od_bump_ne _ (fun hkey => h (Nat.add_left_cancel hkey)), hbefore]

/-- Of all causes, an expiry can raise TIMER_LATE only, beside the overrun of the fault log. -/
theorem odGet_expireTimer_cause (t : Timer) :
    bit (odGet (expireTimer d slot b t) Od.ALERT_CAUSE 0) ALERT_TIMER_LATE =
      (bit (odGet d Od.ALERT_CAUSE 0) ALERT_TIMER_LATE || decide (64 ≤ d.tick - t.due)) := by
  rw [expireTimer_eq]
  dsimp only
  split
  case isTrue h => rw [alertLog_cause _ _ _ _ _ _ _ (countExpiry_wf hod) (by decide), odGet_countExpiry_cause]; simp [h]
  case isFalse h => rw [odGet_countExpiry_cause]; simp [h]

end Counters

/-- Settles O26: the lists by `timerOf_expireTimer_same` and `timerOf_expireTimer_ne`, each counter by its rule for
`countExpiry`, the cause by `odGet_expireTimer_cause`. -/
theorem expiryTakesOneTimer : Obligations.ExpiryTakesOneTimer := by
  intro d slot b t htimers hod e late more least
  refine ⟨timerOf_expireTimer_same d slot b t htimers, fun u c h => timerOf_expireTimer_ne d slot b t h,
    expireTimer_seqs d slot b t, ?expired, ?greatest, fun k hk => ?bin, odGet_expireTimer_cause hod t,
    by decide, by decide, by decide⟩
  case expired => rw [odGet_expireTimer d slot b t (by decide), odGet_countExpiry_expired hod]
  case greatest => rw [odGet_expireTimer d slot b t (by decide), odGet_countExpiry_max hod]
  case bin =>
    rw [odGet_expireTimer d slot b t (by decide), odGet_countExpiry_hist hod hk]
    simp only [lateBin_eq_iff hk]
    rfl

/-! ### Which timer expires (R114, R115) -/

/-- The timer's DUE has come, and no timer of the slice is due before it. -/
def TimerFirst (d : Device) (t : Timer) : Prop := t.due ≤ d.tick ∧ ∀ p ∈ d.timers, t.due ≤ p.2.due

section Due
variable {d : Device} {slot kind : Nat} {b : Bool} {t : Timer} {q : Seq}

theorem timerDue_eq_some_iff :
    timerDue d slot b kind = some t ↔ timerOf d slot b = some t ∧ t.kind = kind ∧ TimerFirst d t := by
  unfold timerDue TimerFirst
  cases htimer : timerOf d slot b with
  | none => simp
  | some t' =>
    simp only [Option.ite_none_right_eq_some, Option.some.injEq, Bool.and_eq_true, decide_eq_true_eq, List.all_eq_true]
    constructor
    · rintro ⟨⟨⟨hkind, hdue⟩, hall⟩, rfl⟩
      exact ⟨rfl, hkind, hdue, hall⟩
    · rintro ⟨rfl, hkind, hdue, hall⟩
      exact ⟨⟨⟨hkind, hdue⟩, hall⟩, rfl⟩

theorem timerDue_of_first (htimer : timerOf d slot b = some t) (hfirst : TimerFirst d t) (hkind : t.kind = kind) :
    timerDue d slot b kind = some t := timerDue_eq_some_iff.mpr ⟨htimer, hkind, hfirst⟩

theorem timerDue_of_not_first (h : ∀ t, timerOf d slot b = some t → ¬ TimerFirst d t) : timerDue d slot b kind = none :=
  Option.eq_none_iff_forall_ne_some.mpr fun t ht =>
    have ⟨htimer, _, hfirst⟩ := timerDue_eq_some_iff.mp ht
    h t htimer hfirst

/-! ### What each kind of expiry does -/

theorem deadlineExpiry_of_due (hdue : timerDue d slot false TK_DEADLINE = some t) :
    deadlineExpiry d slot = monitor (setFlag (expireTimer d slot false t) slot FL_TMR_A) slot := by
  simp only [deadlineExpiry, hdue]

theorem quarantineExpiry_of_due (hdue : timerDue d slot false TK_QUARANTINE = some t) :
    quarantineExpiry d slot = { expireTimer d slot false t with reclaimed := d.reclaimed.filter (· ≠ slot) } := by
  simp only [quarantineExpiry, hdue, expireTimer_reclaimed]

theorem ttlExpiry_of_due (hdue : timerDue d slot false TK_TTL = some t) (hseq : d.seq? slot = some q) :
    ttlExpiry d slot =
      let e := setFlag (expireTimer d slot false t) slot FL_TMR_A
      if q.tcb.state ≠ .paused then e
      else wakePages (releaseAll
        (modTcb (e.modSeq slot (fun q => { q with ttlExpired := e.tick })) slot (fun c => { c with expired := true })) slot) := by
  simp only [ttlExpiry, hdue, hseq]

theorem waitExpiry_of_due (hdue : timerDue d slot true kind = some t) :
    waitExpiry d slot kind = setFlag (expireTimer d slot true t) slot FL_TMR_B := by
  simp only [waitExpiry, hdue]

theorem idleDemote_of_due (hdue : timerDue d slot true TK_IDLE_DEMOTE = some t) (hseq : d.seq? slot = some q) :
    idleDemote d slot =
      let e := setFlag (expireTimer d slot true t) slot FL_TMR_B
      if q.tcb.state ≠ .paused then e
      else if moveOut e slot q then modBlk e slot (fun c => { c with deferred := true })
      else demoteStage e slot := by
  simp only [idleDemote, hdue, hseq]

theorem deferredStage_of_deferred (hseq : d.seq? slot = some q) (hstate : q.tcb.state = .paused)
    (hdeferred : q.ctx.deferred = true) : deferredStage d slot =
      if moveOut d slot q then d else demoteStage (modBlk d slot (fun c => { c with deferred := false })) slot := by
  cases hmove : moveOut d slot q <;> simp [deferredStage, hseq, hstate, hdeferred, hmove]

end Due

/-- NOT_BEFORE_EXPIRY of a live sequence: a WAITING one of class R then asks for its command slots (log entry 68). -/
def notBeforeExpiry (d : Device) (slot : Nat) : Device :=
  match timerDue d slot true TK_NOT_BEFORE, d.seq? slot with
  | some _, some q =>
    let e := waitExpiry d slot TK_NOT_BEFORE
    if q.tcb.cls = .r && q.tcb.state = .waiting then startWait e slot [FL_SLOTS_OK] false else e
  | _, _ => d

theorem notBeforeExpiry_of_due {d : Device} {slot : Nat} {t : Timer} {q : Seq}
    (hdue : timerDue d slot true TK_NOT_BEFORE = some t) (hseq : d.seq? slot = some q) : notBeforeExpiry d slot =
      let e := setFlag (expireTimer d slot true t) slot FL_TMR_B
      if q.tcb.cls = .r && q.tcb.state = .waiting then startWait e slot [FL_SLOTS_OK] false else e := by
  simp only [notBeforeExpiry, hdue, hseq, waitExpiry_of_due hdue]

/-! ### The commands on a ready slice -/

section Ready
variable {s : State} {slot : Nat} (hready : fyReady s.dev = true)
include hready

theorem settles_deadlineExpiry : Settles (.deadlineExpiry slot) s (deadlineExpiry s.dev slot) :=
  settles_of_whenReady (deadlineExpiry · slot) hready rfl

theorem settles_ttlExpiry : Settles (.ttlExpiry slot) s (ttlExpiry s.dev slot) :=
  settles_of_whenReady (ttlExpiry · slot) hready rfl

theorem settles_quarantineExpiry : Settles (.quarantineExpiry slot) s (quarantineExpiry s.dev slot) :=
  settles_of_whenReady (quarantineExpiry · slot) hready rfl

theorem settles_notBeforeExpiry : Settles (.notBeforeExpiry slot) s (notBeforeExpiry s.dev slot) :=
  settles_of_whenReady (notBeforeExpiry · slot) hready rfl

theorem settles_backoffExpiry : Settles (.backoffExpiry slot) s (waitExpiry s.dev slot TK_BACKOFF) :=
  settles_of_whenReady (waitExpiry · slot TK_BACKOFF) hready rfl

theorem settles_idleDemoteExpiry : Settles (.idleDemoteExpiry slot) s (idleDemote s.dev slot) :=
  settles_of_whenReady (idleDemote · slot) hready rfl

theorem settles_demotionStageDeferred : Settles (.demotionStageDeferred slot) s (deferredStage s.dev slot) :=
  settles_of_whenReady (deferredStage · slot) hready rfl

/-- While neither timer of the slot is the first one due, no expiry of the slot changes anything. -/
theorem answers_self_of_not_first (hA : ∀ t, timerOf s.dev slot false = some t → ¬ TimerFirst s.dev t)
    (hB : ∀ t, timerOf s.dev slot true = some t → ¬ TimerFirst s.dev t) {i : Instr}
    (hi : i = .deadlineExpiry slot ∨ i = .ttlExpiry slot ∨ i = .quarantineExpiry slot ∨ i = .notBeforeExpiry slot ∨
      i = .backoffExpiry slot ∨ i = .idleDemoteExpiry slot) : Answers i s s.dev := by
  have noA (kind : Nat) : timerDue s.dev slot false kind = none := timerDue_of_not_first hA
  have noB (kind : Nat) : timerDue s.dev slot true kind = none := timerDue_of_not_first hB
  rcases hi with rfl | rfl | rfl | rfl | rfl | rfl
  · exact answers_self_of_settles (settles_deadlineExpiry hready) (by simp only [deadlineExpiry, noA])
  · exact answers_self_of_settles (settles_ttlExpiry hready) (by simp only [ttlExpiry, noA])
  · exact answers_self_of_settles (settles_quarantineExpiry hready) (by simp only [quarantineExpiry, noA])
  · exact answers_self_of_settles (settles_notBeforeExpiry hready) (by simp only [notBeforeExpiry, noB])
  · exact answers_self_of_settles (settles_backoffExpiry hready) (by simp only [waitExpiry, noB])
  · exact answers_self_of_settles (settles_idleDemoteExpiry hready) (by simp only [idleDemote, noB])

end Ready

/-- Settles O25: each expiry runs to its operation on the ready slice (`settles_deadlineExpiry` and its siblings), and
`timerDue_of_first` with the rule of its kind says what that operation is. -/
theorem timersActAtExpiry : Obligations.TimersActAtExpiry := by
  refine ⟨fun s slot hready => ⟨fun t htimer hfirst => ⟨fun hkind => ?deadline, fun hkind => ?quarantine,
      fun q hkind hseq => ⟨fun hstate => ?ttlRunning, fun hstate => ?ttlPaused⟩⟩,
    fun t q htimer hfirst hseq => ⟨fun hkind => ?backoff, fun hkind => ?notBefore,
      fun hkind => ⟨fun hstate => ?demoteRunning, fun hstate hmove => ?demoteDeferred, fun hstate hmove => ?demoteNow⟩⟩,
    fun hA hB i hi => answers_self_of_not_first hready hA hB hi⟩,
    fun s slot q hready hseq hstate hdeferred => ⟨fun hmove => ?stageRuns, fun hmove => ?stageWaits⟩⟩
  case deadline => exact deadlineExpiry_of_due (timerDue_of_first htimer hfirst hkind) ▸ settles_deadlineExpiry hready
  case quarantine =>
    exact quarantineExpiry_of_due (timerDue_of_first htimer hfirst hkind) ▸ settles_quarantineExpiry hready
  case ttlRunning =>
    have h := settles_ttlExpiry (slot := slot) hready
    rwa [ttlExpiry_of_due (timerDue_of_first htimer hfirst hkind) hseq, if_pos hstate] at h
  case ttlPaused =>
    have h := settles_ttlExpiry (slot := slot) hready
    rwa [ttlExpiry_of_due (timerDue_of_first htimer hfirst hkind) hseq, if_neg (not_not_intro hstate)] at h
  case backoff => exact waitExpiry_of_due (timerDue_of_first htimer hfirst hkind) ▸ settles_backoffExpiry hready
  case notBefore =>
    exact notBeforeExpiry_of_due (timerDue_of_first htimer hfirst hkind) hseq ▸ settles_notBeforeExpiry hready
  case demoteRunning =>
    have h := settles_idleDemoteExpiry (slot := slot) hready
    rwa [idleDemote_of_due (timerDue_of_first htimer hfirst hkind) hseq, if_pos hstate] at h
  case demoteDeferred =>
    have h := settles_idleDemoteExpiry (slot := slot) hready
    rwa [idleDemote_of_due (timerDue_of_first htimer hfirst hkind) hseq, if_neg (not_not_intro hstate), if_pos hmove] at h
  case demoteNow =>
    have h := settles_idleDemoteExpiry (slot := slot) hready
    rwa [idleDemote_of_due (timerDue_of_first htimer hfirst hkind) hseq, if_neg (not_not_intro hstate),
      if_neg (Bool.not_eq_true _ ▸ hmove)] at h
  case stageRuns =>
    have h := settles_demotionStageDeferred (slot := slot) hready
    rwa [deferredStage_of_deferred hseq hstate hdeferred, if_neg (Bool.not_eq_true _ ▸ hmove)] at h
  case stageWaits =>
    exact answers_self_of_settles (settles_demotionStageDeferred hready)
      ((deferredStage_of_deferred hseq hstate hdeferred).trans (if_pos hmove))

end Sys2Proof.Machine
end

section
/-! Slots that come free (R103, R105, R107): what the freeing of a slot changes, which slots can be allocated, how slots
are reclaimed, and the obligations O60 and O27 assembled from these rules. -/

namespace Sys2Proof.Machine

/-! ### What FAB_I accesses and transfers leave as it was -/

/-- `e` is `d` but for the FAB_I port and what has left on it. -/
def OnPort (d e : Device) : Prop := e = { d with fabi := e.fabi, out := e.out }

namespace OnPort
variable {d e f : Device}

theorem refl (d : Device) : OnPort d d := rfl

theorem trans (hde : OnPort d e) (hef : OnPort e f) : OnPort d f :=
  Eq.trans hef (congrArg (fun g : Device => { g with fabi := f.fabi, out := f.out }) hde)

theorem foldl {α : Type} {step : Device → α → Device} (hstep : ∀ d x, OnPort d (step d x)) (l : List α) (d : Device) :
    OnPort d (l.foldl step d) :=
  List.foldlRecOn l step (motive := OnPort d) (refl d) fun e he x _ => he.trans (hstep e x)

theorem seqs (h : OnPort d e) : e.seqs = d.seqs := (congrArg Device.seqs h).trans rfl
theorem gens (h : OnPort d e) : e.gens = d.gens := (congrArg Device.gens h).trans rfl
theorem timers (h : OnPort d e) : e.timers = d.timers := (congrArg Device.timers h).trans rfl

end OnPort

theorem fabiNew_onPort (d : Device) (kind : FabiKind) (write : Bool) (addr len data : Nat) (x : Option (Nat × Xfer)) :
    OnPort d (fabiNew d kind write addr len data x) := by
  unfold fabiNew fabiIssue fabiOut
  split <;> rfl

theorem sendXfer_onPort (d : Device) (dest : Nat) (x : Xfer) (len : Nat) : OnPort d (sendXfer d dest x len) := by
  unfold sendXfer
  split
  · rfl
  · exact (OnPort.foldl (fun d _ => fabiNew_onPort d ..) _ d).trans (fabiNew_onPort _ ..)

theorem tellPair_onPort (d : Device) (lost old new : Nat) (note : PairNote) : OnPort d (tellPair d lost old new note) :=
  OnPort.foldl (fun d k => sendXfer_onPort d k ..) _ d

/-! ### A freed slot (R103, R105) -/

section Freed
variable {d : Device} {slot : Nat} {q : Seq}

/-- The slice with the slot FREE, its generation advanced, and timer A armed with its quarantine. -/
def quarantineSlot (d : Device) (slot : Nat) : Device :=
  { d with
    seqs := Map.del d.seqs slot, gens := Map.put d.gens slot (nextGen (slotGen d slot))
    timers := Map.put (Map.del d.timers (timerKey slot true)) (timerKey slot false)
      (newTimer d TK_QUARANTINE (d.tick + 2048)) }

/-- Beside the slot itself, its freeing reaches the port, the forwarding entries and the rooms asked for it. -/
theorem freeSlot_eq (hseq : d.seq? slot = some q) : ∃ e faults groups, OnPort (quarantineSlot d slot) e ∧
    freeSlot d slot = { e with faults := faults, groups := groups } := by
  simp only [freeSlot, hseq]
  refine ⟨_, _, _, OnPort.trans (e := fabiDrop (quarantineSlot d slot) (fun k => k.slot = some slot)) rfl
    (OnPort.foldl (fun _ (_ : Nat × Nat × Nat) => tellPair_onPort ..) _ _), rfl⟩

theorem freeSlot_seqs (hseq : d.seq? slot = some q) : (freeSlot d slot).seqs = Map.del d.seqs slot := by
  obtain ⟨e, faults, groups, hport, hfree⟩ := freeSlot_eq hseq
  exact hfree ▸ hport.seqs

theorem freeSlot_gens (hseq : d.seq? slot = some q) :
    (freeSlot d slot).gens = Map.put d.gens slot (nextGen (slotGen d slot)) := by
  obtain ⟨e, faults, groups, hport, hfree⟩ := freeSlot_eq hseq
  exact hfree ▸ hport.gens

theorem freeSlot_timers (hseq : d.seq? slot = some q) : (freeSlot d slot).timers =
    Map.put (Map.del d.timers (timerKey slot true)) (timerKey slot false) (newTimer d TK_QUARANTINE (d.tick + 2048)) := by
  obtain ⟨e, faults, groups, hport, hfree⟩ := freeSlot_eq hseq
  exact hfree ▸ hport.timers

theorem seq?_freeSlot_same (hwf : Map.wf d.seqs = true) (hseq : d.seq? slot = some q) :
    (freeSlot d slot).seq? slot = none := by
  rw [Device.seq?, freeSlot_seqs hseq, Map.find_del_same _ hwf]

theorem seq?_freeSlot_ne {r : Nat} (hseq : d.seq? slot = some q) (hr : r ≠ slot) :
    (freeSlot d slot).seq? r = d.seq? r := by
  rw [Device.seq?, freeSlot_seqs hseq, Map.find_del_ne _ hr, Device.seq?]

theorem slotGen_freeSlot (hseq : d.seq? slot = some q) : slotGen (freeSlot d slot) slot = nextGen (slotGen d slot) := by
  rw [slotGen, freeSlot_gens hseq, Map.getD, Map.find_put_same, Option.getD_some]

theorem timerOf_freeSlot (hseq : d.seq? slot = some q) :
    timerOf (freeSlot d slot) slot false = some (newTimer d TK_QUARANTINE (d.tick + 2048)) := by
  rw [timerOf, freeSlot_timers hseq, Map.find_put_same]

theorem quarantined_iff : quarantined d slot = true ↔ ∃ t, timerOf d slot false = some t ∧ t.kind = TK_QUARANTINE := by
  unfold quarantined
  cases timerOf d slot false <;> simp

theorem quarantined_freeSlot (hseq : d.seq? slot = some q) : quarantined (freeSlot d slot) slot = true :=
  quarantined_iff.mpr ⟨_, timerOf_freeSlot hseq, rfl⟩

end Freed

/-! ### Which slots can be allocated (R105) -/

theorem leastNotIn_notMem {used : List Nat} {n lo hi k : Nat} (h : leastNotIn used n lo hi = some k) : k ∉ used := by
  induction n generalizing lo with
  | zero => exact nomatch h
  | succ n ih =>
    unfold leastNotIn at h
    split at h
    · exact nomatch h
    · split at h
      · exact ih h
      · next hfree =>
        cases h
        simpa using hfree

theorem leastFree_notMem {used : List Nat} {hi k : Nat} (h : leastFree used hi = some k) : k ∉ used := leastNotIn_notMem h

theorem mem_slotBusy_of_quarantined {d : Device} {slot : Nat} (h : quarantined d slot = true) : slot ∈ slotBusy d := by
  obtain ⟨t, htimer, hkind⟩ := quarantined_iff.mp h
  have harmed : slot ∈ (d.timers.filter (fun p => p.2.kind = TK_QUARANTINE)).map (fun p => p.1 / 2) :=
    List.mem_map.mpr ⟨(timerKey slot false, t), List.mem_filter.mpr ⟨Map.mem_of_find htimer, by simpa using hkind⟩,
      by simp [timerKey, ofBool]⟩
  unfold slotBusy
  exact List.mem_append_left _ (List.mem_append_right _ harmed)

theorem allocSlot_ne_of_quarantined {d : Device} {slot : Nat} (h : quarantined d slot = true) : allocSlot d ≠ some slot :=
  fun halloc => leastFree_notMem halloc (mem_slotBusy_of_quarantined h)

/-- Settles O60: the freed slot by the rules of `freeSlot`, its allocation by `allocSlot_ne_of_quarantined`, the expiry
by `quarantineExpiry_of_due` once the quarantine is the first timer due. -/
theorem freedSlotsAreQuarantined : Obligations.FreedSlotsAreQuarantined := by
  refine ⟨fun d slot q hwf hseq => ?freed, fun d slot h => allocSlot_ne_of_quarantined h,
    fun s slot t hready hwf htimer hkind => ⟨fun hbefore => ?before, fun hdue hfirst => ?expires⟩⟩
  case freed =>
    exact ⟨seq?_freeSlot_same hwf hseq, by rw [timerOf_freeSlot hseq]; rfl, quarantined_freeSlot hseq,
      slotGen_freeSlot hseq, fun r hr => seq?_freeSlot_ne hseq hr⟩
  case before =>
    have hnot : timerDue s.dev slot false TK_QUARANTINE = none := timerDue_of_not_first fun t' ht' hfirst => by
      obtain rfl : t = t' := Option.some.inj (htimer.symm.trans ht')
      exact absurd hfirst.1 (Nat.not_le.mpr hbefore)
    exact answers_self_of_settles (settles_quarantineExpiry hready) (by simp only [quarantineExpiry, hnot])
  case expires =>
    have hgone : timerOf (expireTimer s.dev slot false t) slot false = none := timerOf_expireTimer_same _ _ _ _ hwf
    have hrun := settles_quarantineExpiry (slot := slot) hready
    rw [quarantineExpiry_of_due (timerDue_of_first htimer ⟨hdue, hfirst⟩ hkind)] at hrun
    refine ⟨_, hrun, hgone, ?_, expireTimer_seqs s.dev slot false t⟩
    rw [Bool.eq_false_iff, ne_eq, quarantined_iff]
    rintro ⟨t', ht', -⟩
    exact nomatch hgone.symm.trans ht'

/-! ### The element with the least key -/

section MinBy
variable {α : Type} {key : α → Nat} {l : List α} {a : α}

theorem minBy_mem (h : minBy key l = some a) : a ∈ l := by
  induction l with
  | nil => exact nomatch h
  | cons b l ih =>
    unfold minBy at h
    split at h
    · cases h
      exact List.mem_cons_self
    · next c hc =>
      split at h
      · exact List.mem_cons_of_mem b (ih (hc.trans h))
      · cases h
        exact List.mem_cons_self

theorem minBy_eq_none (h : minBy key l = none) : l = [] := by
  cases l with
  | nil => rfl
  | cons b l =>
    unfold minBy at h
    split at h
    · exact nomatch h
    · split at h <;> exact nomatch h

theorem minBy_le (h : minBy key l = some a) : ∀ b ∈ l, key a ≤ key b := by
  induction l generalizing a with
  | nil => exact nomatch h
  | cons c l ih =>
    rw [List.forall_mem_cons]
    unfold minBy at h
    split at h
    · next hnone =>
      cases h
      simp [minBy_eq_none hnone]
    · next m hm =>
      split at h
      · next hlt =>
        cases h
        exact ⟨Nat.le_of_lt hlt, ih hm⟩
      · next hge =>
        cases h
        exact ⟨Nat.le_refl _, fun b hb => Nat.le_trans (Nat.not_lt.mp hge) (ih hm b hb)⟩

end MinBy

/-! ### Reclaimed slots (R107) -/

/-- SLOT_RECLAIM_LOW slots can be allocated, those counted that end for it. -/
def enoughSlots (d : Device) : Bool := odGet d Od.SLOT_RECLAIM_LOW 0 ≤ allocCount d + d.reclaimed.length

/-- The sequence of the slot ends with EXPIRED_TTL, and its slot counts as reclaimed. -/
def reclaimSlot (d : Device) (slot : Nat) : Device :=
  finishSeq { d with reclaimed := d.reclaimed ++ [slot] } slot .expiredTtl 3

section Reclaim
variable {d : Device} {v : Nat}

theorem slotReclaimLoop_of_done (h : enoughSlots d = true ∨ reclaimVictim d = none) (n : Nat) : slotReclaimLoop d n = d := by
  cases n with
  | zero => rfl
  | succ n =>
    unfold slotReclaimLoop
    split
    · rfl
    · next hfew =>
      have hnone : reclaimVictim d = none := h.resolve_left fun henough => hfew (of_decide_eq_true henough)
      rw [hnone]

theorem slotReclaimLoop_succ (hfew : enoughSlots d = false) (hv : reclaimVictim d = some v) (n : Nat) :
    slotReclaimLoop d (n + 1) = slotReclaimLoop (reclaimSlot d v) n := by
  have hnot := of_decide_eq_false hfew
  simp only [slotReclaimLoop, if_neg hnot, hv]
  rfl

/-- The victim is the PAUSED sequence whose TTL expired first. -/
theorem reclaimVictim_spec (hwf : Map.wf d.seqs = true) (hv : reclaimVictim d = some v) :
    ∃ q, d.seq? v = some q ∧ q.tcb.state = .paused ∧ q.tcb.expired = true ∧
      ∀ u r, d.seq? u = some r → r.tcb.state = .paused → r.tcb.expired = true → q.ttlExpired ≤ r.ttlExpired := by
  obtain ⟨⟨k, q⟩, hmin, rfl⟩ := Option.map_eq_some_iff.mp hv
  obtain ⟨hmem, hcond⟩ := List.mem_filter.mp (minBy_mem hmin)
  obtain ⟨hstate, hexpired⟩ : q.tcb.state = .paused ∧ q.tcb.expired = true := by simpa using hcond
  refine ⟨q, (Map.mem_iff hwf _).mp hmem, hstate, hexpired, fun u r hr hpaused hexp => ?_⟩
  exact minBy_le hmin (u, r) (List.mem_filter.mpr ⟨Map.mem_of_find hr, by simp [hpaused, hexp]⟩)

theorem settles_slotReclaim {s : State} (hready : fyReady s.dev = true) :
    Settles .slotReclaim s (slotReclaimLoop s.dev s.dev.seqs.length) :=
  settles_of_whenReady (fun d => slotReclaimLoop d d.seqs.length) hready rfl

end Reclaim

/-- Settles O27: the loop ends by `slotReclaimLoop_of_done` and goes on by `slotReclaimLoop_succ`, with the victim that
`reclaimVictim_spec` describes. -/
theorem slotsAreReclaimedInOrder : Obligations.SlotsAreReclaimedInOrder := by
  intro s hready hwf enough
  have hrun := settles_slotReclaim hready
  refine ⟨fun hdone => answers_self_of_settles hrun (slotReclaimLoop_of_done hdone _), fun v hfew hv => ?first,
    fun d n => ⟨fun hdone => slotReclaimLoop_of_done hdone n, fun v hfew hv => slotReclaimLoop_succ hfew hv n⟩⟩
  case first =>
    obtain ⟨q, hq, hoften⟩ := reclaimVictim_spec hwf hv
    have hlive : s.dev.seqs.length = s.dev.seqs.length - 1 + 1 :=
      (Nat.succ_pred_eq_of_pos (List.length_pos_of_mem (Map.mem_of_find hq))).symm
    have hnext : Settles .slotReclaim s (slotReclaimLoop (reclaimSlot s.dev v) (s.dev.seqs.length - 1)) := by
      rwa [hlive, slotReclaimLoop_succ hfew hv] at hrun
    refine ⟨⟨q, hq, hoften⟩, hnext, fun hlast => ?_⟩
    rcases hlast with henough | hone
    · rwa [slotReclaimLoop_of_done (d := reclaimSlot s.dev v) (.inl henough)] at hnext
    · rwa [hone] at hnext

end Sys2Proof.Machine
end

section
/-! ENDs between slices (R99, R380, R386): what the owner of a ring pair makes of an END, and what its home slice does
until the END is written and after it, with the obligation O28 assembled from these cases. -/

namespace Sys2Proof.Machine

/-! ### What the waits of other sequences leave of a freed slot -/

/-- `e` comes from `d` by flags and waits: records may change where they are live, and of the timers those of kind B. -/
structure WaitsOnly (d e : Device) : Prop where
  gens : e.gens = d.gens
  timerA : ∀ u, timerOf e u false = timerOf d u false
  free : ∀ u, d.seq? u = none → e.seq? u = none

theorem Map.find_mod_of_none {α : Type} {m : Map α} {k u : Nat} {f : α → α} (h : Map.find m u = none) :
    Map.find (Map.mod m k f) u = none := by
  rcases eq_or_ne u k with rfl | hne
  · rw [Map.find_mod_same, h, Option.map_none]
  · unfold Map.mod
    split
    · rw [Map.find_put_ne _ _ hne, h]
    · exact h

namespace WaitsOnly
variable {d e f : Device} {slot : Nat}

theorem refl (d : Device) : WaitsOnly d d := ⟨rfl, fun _ => rfl, fun _ => id⟩

theorem trans (hde : WaitsOnly d e) (hef : WaitsOnly e f) : WaitsOnly d f :=
  ⟨hef.gens.trans hde.gens, fun u => (hef.timerA u).trans (hde.timerA u), fun u hu => hef.free u (hde.free u hu)⟩

theorem foldl {α : Type} {step : Device → α → Device} (hstep : ∀ d x, WaitsOnly d (step d x)) (l : List α) (d : Device) :
    WaitsOnly d (l.foldl step d) :=
  List.foldlRecOn l step (motive := WaitsOnly d) (refl d) fun e he x _ => he.trans (hstep e x)

theorem modSeq (d : Device) (slot : Nat) (f : Seq → Seq) : WaitsOnly d (d.modSeq slot f) :=
  ⟨rfl, fun _ => rfl, fun _ => Map.find_mod_of_none⟩

theorem cancelKind (d : Device) (slot : Nat) (kinds : List Nat) : WaitsOnly d (cancelKind d slot true kinds) := by
  unfold Machine.cancelKind
  split
  · split
    · exact ⟨rfl, fun u => timerOf_cancelTimer_ne d (by simp), fun _ => id⟩
    · exact refl d
  · exact refl d

theorem evalWait (d : Device) (slot : Nat) : WaitsOnly d (evalWait d slot) := by
  unfold Machine.evalWait
  split
  · exact refl d
  · split
    · exact ((modSeq d slot _).trans (cancelKind _ slot _)).trans (modSeq _ slot _)
    · exact refl d

theorem setIfHolds (d : Device) (slot i : Nat) : WaitsOnly d (setIfHolds d slot i) := by
  unfold Machine.setIfHolds
  split
  · split
    · exact (modSeq d slot _).trans (evalWait _ slot)
    · exact refl d
  · exact refl d

theorem wakeSlots (d : Device) : WaitsOnly d (wakeSlots d) := by
  refine foldl (fun d p => ?_) d.seqs d
  split
  · exact setIfHolds d p.1 FL_SLOTS_OK
  · exact refl d

end WaitsOnly

/-! ### An END at the owner of its ring pair -/

section Owner
variable {d : Device} {c : Compl}

theorem endTransfer_of_refused (h : complRefused d c = true) :
    endTransfer d c = sendXfer d c.home (.endWritten c.handle) 32 := by
  rw [endTransfer, if_pos h]

/-- Below 16 slices the owner holds no receipts. -/
theorem endTransfer_of_few (h : complRefused d c = false) (hn : d.ident.n < 16) :
    endTransfer d c = cqEnqueue d { c with noIrq := false } := by
  simp [endTransfer, h, hn]

/-- The END that the owner holds for an old handle stands for the new one. -/
def renameReceipts (d : Device) (h : Nat) : List Nat :=
  let old := (d.faults.forwards.filter (fun x => x.2.2 = h)).map (fun x => x.2.1)
  d.faults.receipts.map (fun r => if old.contains r then h else r)

theorem mem_renameReceipts {h l old : Nat} (hpair : (l, old, h) ∈ d.faults.forwards)
    (hheld : d.faults.receipts.contains old = true) : h ∈ renameReceipts d h := by
  have hold : old ∈ (d.faults.forwards.filter (fun x => x.2.2 = h)).map (fun x => x.2.1) :=
    List.mem_map.mpr ⟨(l, old, h), List.mem_filter.mpr ⟨hpair, by simp⟩, rfl⟩
  exact List.mem_map.mpr ⟨old, List.contains_iff_mem.mp hheld, if_pos (List.contains_iff_mem.mpr hold)⟩

theorem endTransfer_of_rebuilt {l old : Nat} (h : complRefused d c = false) (hn : 16 ≤ d.ident.n)
    (hpair : (l, old, c.handle) ∈ d.faults.forwards) (hheld : d.faults.receipts.contains old = true) :
    endTransfer d c = sendXfer (d.modFaults (fun f => { f with receipts := renameReceipts d c.handle })) c.home
      (.endWritten c.handle) 32 := by
  have hany : d.faults.forwards.any (fun x => x.2.2 = c.handle && d.faults.receipts.contains x.2.1) = true :=
    List.any_eq_true.mpr ⟨_, hpair, by simp [List.contains_iff_mem.mp hheld]⟩
  rw [endTransfer, if_neg (by simp [h]), if_neg (Nat.not_lt.mpr hn), if_pos hany]
  rfl

/-- At 16 slices or more an END that stands for no older one goes by the receipts. -/
theorem endTransfer_of_not_rebuilt (h : complRefused d c = false) (hn : 16 ≤ d.ident.n)
    (hnone : ∀ x ∈ d.faults.forwards, x.2.2 = c.handle → d.faults.receipts.contains x.2.1 = false) :
    endTransfer d c =
      if d.faults.receipts.contains c.handle then d
      else if 4096 ≤ d.faults.receipts.length then sendXfer d c.home (.endRefused c.handle) 32
      else cqEnqueue (d.modFaults (fun f => { f with receipts := f.receipts ++ [c.handle] })) { c with noIrq := false } := by
  have hany : ¬ d.faults.forwards.any (fun x => x.2.2 = c.handle && d.faults.receipts.contains x.2.1) = true := by
    rw [List.any_eq_true]
    rintro ⟨x, hx, hcond⟩
    obtain ⟨hnew, hheld⟩ := Bool.and_eq_true_iff.mp hcond
    exact Bool.eq_false_iff.mp (hnone x hx (of_decide_eq_true hnew)) hheld
  rw [endTransfer, if_neg (by simp [h]), if_neg (Nat.not_lt.mpr hn), if_neg hany]

theorem answers_endTransfer {s : State} (c : Compl) (hready : fyReady s.dev = true) :
    Answers (.endTransfer c) s (if ringOwned s.dev c.ring then endTransfer s.dev c else s.dev) :=
  answers_of_whenReady (fun d => if ringOwned d c.ring then endTransfer d c else d) hready rfl

theorem answers_endTransfer_of_owned {s : State} (hready : fyReady s.dev = true) (howned : ringOwned s.dev c.ring = true) :
    Answers (.endTransfer c) s (endTransfer s.dev c) := by
  simpa only [howned, if_true] using answers_endTransfer c hready

theorem answers_endTransfer_of_not_owned {s : State} (hready : fyReady s.dev = true)
    (howned : ringOwned s.dev c.ring = false) : Answers (.endTransfer c) s s.dev := by
  simpa only [howned, Bool.false_eq_true, if_false] using answers_endTransfer c hready

end Owner

/-! ### An END at its home slice -/

section Home
variable {d : Device} {slot h : Nat} {q : Seq}

theorem liveSlot_of_seq (hseq : d.seq? (handleSlot h) = some q) (hhandle : q.tcb.handle = h)
    (hslice : handleSlice h = d.ident.index) : liveSlot d h = some (handleSlot h) := by
  simp [liveSlot, hslice, hseq, hhandle]

theorem liveSlot_of_free (hfree : d.seq? (handleSlot h) = none) : liveSlot d h = none := by
  unfold liveSlot
  split
  · rfl
  · rw [hfree]

/-- An END that nothing holds back is sent again 1 TICK after its latest try. -/
theorem endRetry_of_due (hseq : d.seq? slot = some q) (hn : 16 ≤ d.ident.n) (hsent : q.endSent = true)
    (hbehind : q.behind = []) (hgated : ∀ g ∈ d.faults.gated, g.1 ≠ slot)
    (htime : q.endRefusedTick.getD q.tcb.stateTick + 1 ≤ d.tick) :
    endRetry d slot = shipCompl (d.modSeq slot (fun q => { q with endRefusedTick := some d.tick })) q.owner
      (seqCompl d q CT_END q.tcb.status (endArg0 q) q.engineNs q.energyUj) := by
  have hany : d.faults.gated.any (fun g => g.1 = slot) = false := by
    rw [List.any_eq_false]
    exact fun g hg => by simpa using hgated g hg
  simp [endRetry, hseq, Nat.not_lt.mpr hn, hsent, hbehind, hany, Nat.not_lt.mpr htime]

/-- The written END frees its slot; at 16 slices or more a RELEASE is noted beside it. -/
theorem endWritten_of_sent (hlive : liveSlot d h = some slot) (hseq : d.seq? slot = some q) (hsent : q.endSent = true)
    (hlost : ∀ x ∈ d.faults.lostEnds, x.1 ≠ h) :
    ∃ faults, endWritten d h = { wakeSlots (freeSlot d slot) with faults := faults } := by
  have hfind : d.faults.lostEnds.find? (fun x => x.1 = h) = none :=
    List.find?_eq_none.mpr fun x hx => by simpa using hlost x hx
  simp only [endWritten, hfind, hlive, hseq, hsent, Bool.not_true, Bool.false_eq_true, if_false]
  split
  · exact ⟨_, rfl⟩
  · exact ⟨_, rfl⟩

theorem release_of_receipt (hheld : d.faults.receipts.contains h = true) :
    release d h = d.modFaults (fun f => { f with receipts := f.receipts.filter (· ≠ h) }) := by
  rw [release, if_pos hheld]

theorem release_of_live (hheld : d.faults.receipts.contains h = false) (hlive : liveSlot d h = some slot) :
    release d h = finishSeq (d.modSeq slot (fun q => { q with unwanted := true })) slot .rejCapacity 3 := by
  rw [release, if_neg (Bool.eq_false_iff.mp hheld), hlive]

end Home

section Ready
variable {s : State} (hready : fyReady s.dev = true)
include hready

theorem settles_endRetry (slot : Nat) : Settles (.endRetry slot) s (endRetry s.dev slot) :=
  settles_of_whenReady (endRetry · slot) hready rfl

theorem settles_endWrittenReport (h : Nat) : Settles (.endWrittenReport h) s (endWritten s.dev h) :=
  settles_of_whenReady (endWritten · h) hready rfl

theorem settles_release (h : Nat) : Settles (.release h) s (release s.dev h) :=
  settles_of_whenReady (release · h) hready rfl

end Ready

/-! ### The obligation -/

/-- Settles O28: each command runs to its operation on the ready slice, whose cases are `endTransfer_of_refused` and its
siblings, `endRetry_of_due`, `endWritten_of_sent` and the two of `release`; what a written END leaves of its slot is what
`freeSlot` made of it, since waking other sequences leaves that alone (`WaitsOnly.wakeSlots`). -/
theorem endsAreWrittenOnce : Obligations.EndsAreWrittenOnce := by
  intro s c slot h q hready d
  refine ⟨fun howned href => ?refused, fun howned href hn => ?few, fun howned => answers_endTransfer_of_not_owned hready howned,
    fun l old howned href hn hpair hheld => ?rebuilt, fun howned href hn hnone => ⟨fun hheld => ?held,
      fun hnew hfull => ?full, fun hnew hroom => ?entered⟩,
    fun hseq hn hsent hbehind hgated htime => ?retried, fun hwf hseq hhandle hslice hslot hsent hlost => ?written,
    fun hheld => ?receiptGone, fun hheld hlive => ?releasedHere⟩
  case refused => exact endTransfer_of_refused href ▸ answers_endTransfer_of_owned hready howned
  case few => exact endTransfer_of_few href hn ▸ answers_endTransfer_of_owned hready howned
  case rebuilt =>
    exact ⟨_, endTransfer_of_rebuilt href hn hpair hheld ▸ answers_endTransfer_of_owned hready howned,
      mem_renameReceipts hpair hheld, rfl⟩
  case held =>
    have hans := answers_endTransfer_of_owned hready howned
    rwa [endTransfer_of_not_rebuilt href hn hnone, if_pos hheld] at hans
  case full =>
    have hans := answers_endTransfer_of_owned hready howned
    rwa [endTransfer_of_not_rebuilt href hn hnone, if_neg (Bool.eq_false_iff.mp hnew), if_pos hfull] at hans
  case entered =>
    have hans := answers_endTransfer_of_owned hready howned
    rwa [endTransfer_of_not_rebuilt href hn hnone, if_neg (Bool.eq_false_iff.mp hnew), if_neg (Nat.not_le.mpr hroom)] at hans
  case retried => exact endRetry_of_due hseq hn hsent hbehind hgated htime ▸ settles_endRetry hready slot
  case written =>
    subst hslot
    obtain ⟨faults, hwritten⟩ := endWritten_of_sent (liveSlot_of_seq hseq hhandle hslice) hseq hsent hlost
    have hwake := WaitsOnly.wakeSlots (freeSlot d (handleSlot h))
    have hfree : (wakeSlots (freeSlot d (handleSlot h))).seq? (handleSlot h) = none :=
      hwake.free _ (seq?_freeSlot_same hwf hseq)
    have htimer : timerOf (wakeSlots (freeSlot d (handleSlot h))) (handleSlot h) false =
        some (newTimer d TK_QUARANTINE (d.tick + 2048)) := (hwake.timerA _).trans (timerOf_freeSlot hseq)
    have hgen : slotGen (wakeSlots (freeSlot d (handleSlot h))) (handleSlot h) = nextGen (slotGen d (handleSlot h)) := by
      rw [slotGen, hwake.gens]
      exact slotGen_freeSlot hseq
    have hrun := settles_endWrittenReport hready h
    rw [hwritten] at hrun
    exact ⟨_, hrun, hfree, liveSlot_of_free hfree,
      quarantined_iff.mpr ⟨_, htimer, rfl⟩, hgen, congrArg (Option.map Timer.due) htimer⟩
  case receiptGone =>
    have hrun := settles_release hready h
    rw [release_of_receipt hheld] at hrun
    exact hrun
  case releasedHere => exact release_of_live hheld hlive ▸ settles_release hready h

end Sys2Proof.Machine
end

section
/-! Prefix lookups and the queue (R124, R129): what an answer, its absence, a re-test and the sweep do, and the obligation
O12 assembled from these cases. -/

namespace Sys2Proof.Machine

/-! ### Answers to lookups and their timeouts (R124) -/

section Lookups
variable {d : Device} {id m g v : Nat} {x : Decision} {l : Lookup}

/-- The answer has been noted: it is asked for no longer, and what it says of its group is kept. -/
def answerNoted (d : Device) (m g v : Nat) : Device :=
  noteAnswer (d.modTurn (fun t => { t with asked := Map.del t.asked (bf m 255 240) })) g v m

theorem lookupAnswered_of_gone (hgone : lookupOf (answerNoted d m g v) (bf m 255 240) = none) :
    lookupAnswered d m g v = answerNoted d m g v := by
  rw [answerNoted] at hgone ⊢
  simp only [lookupAnswered, hgone]

theorem lookupAnswered_of_answered (hl : lookupOf (answerNoted d m g v) (bf m 255 240) = some (x, l))
    (hanswered : l.answered = true) : lookupAnswered d m g v = answerNoted d m g v := by
  rw [answerNoted] at hl ⊢
  simp only [lookupAnswered, hl, if_pos hanswered]

/-- An answer that comes after 2 TICK counts no cached page. -/
theorem lookupAnswered_of_waiting (hl : lookupOf (answerNoted d m g v) (bf m 255 240) = some (x, l))
    (hwaits : l.answered = false) : lookupAnswered d m g v = lookupsOver (markLookup (answerNoted d m g v) x.did l.id
      (if l.tick + 2 < (answerNoted d m g v).tick then 0 else bf m 127 104)) x.did := by
  rw [answerNoted] at hl ⊢
  simp only [lookupAnswered, hl, if_neg (Bool.eq_false_iff.mp hwaits)]

theorem lookupExpired_of_due (hl : lookupOf d id = some (x, l)) (hwaits : l.answered = false)
    (hdue : l.tick + 2 ≤ d.tick) : lookupExpired d id = lookupsOver (markLookup d x.did id 0) x.did := by
  simp [lookupExpired, hl, hwaits, Nat.not_lt.mpr hdue]

/-- What an answer makes of the slice: one that was not asked of its source is nothing to it. -/
def answerArrived (d : Device) (src m : Nat) : Device :=
  match Map.find d.turn.asked (bf m 255 240) with
  | some (g, v) => if groupHome d g = src then lookupAnswered d m g v else d
  | none => d

theorem answerArrived_of_asked (hasked : Map.find d.turn.asked (bf m 255 240) = some (g, v)) :
    answerArrived d (groupHome d g) m = lookupAnswered d m g v := by
  simp only [answerArrived, hasked, if_true]

theorem answerArrived_of_not_asked {src : Nat}
    (hnot : ∀ g v, Map.find d.turn.asked (bf m 255 240) = some (g, v) → groupHome d g ≠ src) :
    answerArrived d src m = d := by
  unfold answerArrived
  split
  · next g v hasked => exact if_neg (hnot g v hasked)
  · rfl

end Lookups

/-! ### Re-tests and the sweep (R129) -/

section Queue
variable {d : Device}

theorem queueRetest_of_slot {did : Nat} {l : List Nat} (hwaits : retestWaits d = true) (hslot : slotForRetest d = true)
    (hpass : (trimPass (currentPass d)).turn.pass = some (did :: l)) :
    queueRetest d = retestDecision ((trimPass (currentPass d)).modTurn (fun t => { t with
      lastSlot := some (decisionSlot (trimPass (currentPass d))), lastWasConsume := false })) did := by
  simp [queueRetest, hwaits, hslot, hpass]

theorem queueSweep_of_due (hdue : d.tick / 100 ≠ d.turn.lastSweep) :
    queueSweep d = ((queueEntries d).map Decision.did).foldl sweepOne
      (d.modTurn (fun t => { t with lastSweep := d.tick / 100 })) := by
  rw [queueSweep, if_neg hdue]
  rfl

end Queue

/-! ### The commands on a ready slice -/

section Ready
variable {s : State} (hready : fyReady s.dev = true)
include hready

theorem settles_prefixLookup (src : Nat) (msg : BitVec 2048) :
    Settles (.prefixLookup src msg) s (prefixLookup s.dev src msg) :=
  settles_of_whenReady (prefixLookup · src msg) hready rfl

theorem settles_lookupAnswer (src : Nat) (msg : BitVec 256) :
    Settles (.lookupAnswer src msg) s (answerArrived s.dev src msg.toNat) :=
  settles_of_whenReady (answerArrived · src msg.toNat) hready rfl

theorem settles_lookupAnswer_of_asked (msg : BitVec 256) {g v : Nat}
    (hasked : Map.find s.dev.turn.asked (bf msg.toNat 255 240) = some (g, v)) :
    Settles (.lookupAnswer (groupHome s.dev g) msg) s (lookupAnswered s.dev msg.toNat g v) :=
  answerArrived_of_asked hasked ▸ settles_lookupAnswer hready (groupHome s.dev g) msg

theorem settles_lookupTimeout (id : Nat) : Settles (.lookupTimeout id) s (lookupExpired s.dev id) :=
  settles_of_whenReady (lookupExpired · id) hready rfl

theorem settles_queueRetest : Settles .queueRetest s (queueRetest s.dev) :=
  settles_of_whenReady queueRetest hready rfl

theorem settles_queueSweep : Settles .queueSweep s (queueSweep s.dev) :=
  settles_of_whenReady queueSweep hready rfl

end Ready

/-! ### The obligation -/

/-- Settles O12: each command runs to its operation on the ready slice, whose cases are `lookupAnswered_of_waiting` and
its siblings, `lookupExpired_of_due`, `queueRetest_of_slot` and `queueSweep_of_due`. -/
theorem lookupsAndQueueWork : Obligations.LookupsAndQueueWork := by
  refine ⟨fun s hready => ⟨fun src msg => settles_prefixLookup hready src msg, fun src msg g v hasked hhome => ?asked,
      fun src msg hnot => ?notAsked, fun id x l hl hwaits hdue => ?late⟩,
    fun s hready => ⟨fun did l hwaits hslot hpass => ?retested, fun hdue => ?swept⟩⟩
  case asked =>
    subst hhome
    have hrun := settles_lookupAnswer_of_asked hready msg hasked
    refine ⟨fun hgone => ?_, fun x l hl hanswered => ?_, fun x l hl hwaits => ?_⟩
    · rw [lookupAnswered_of_gone hgone] at hrun
      exact hrun
    · rw [lookupAnswered_of_answered hl hanswered] at hrun
      exact hrun
    · rw [lookupAnswered_of_waiting hl hwaits] at hrun
      exact hrun
  case notAsked => exact answers_self_of_settles (settles_lookupAnswer hready src msg) (answerArrived_of_not_asked hnot)
  case late => exact lookupExpired_of_due hl hwaits hdue ▸ settles_lookupTimeout hready id
  case retested => exact queueRetest_of_slot hwaits hslot hpass ▸ settles_queueRetest hready
  case swept => exact queueSweep_of_due hdue ▸ settles_queueSweep hready

end Sys2Proof.Machine
end

section
/-! The accounting rounds (R132 to R140), what their proofs share: records of clients and what writes them, transfers
that have left, folds that reach each element once, and sorted lists. -/

namespace Sys2Proof.Machine

/-! ### Records of clients -/

@[simp] theorem Device.modClient_client_same (d : Device) (c : Nat) (f : Acct → Acct) :
    (d.modClient c f).client c = f (d.client c) := by
  simp [Device.client, Device.modClient, Map.getD, Map.find_put_same]

theorem Device.modClient_client_ne (d : Device) {c x : Nat} (f : Acct → Acct) (h : x ≠ c) :
    (d.modClient c f).client x = d.client x := by
  simp [Device.client, Device.modClient, Map.getD, Map.find_put_ne _ _ h]

@[simp] theorem Device.modAgg_client (d : Device) (f : Aggregation → Aggregation) (c : Nat) :
    (d.modAgg f).client c = d.client c := rfl

theorem Device.client_of_acct {d e : Device} (h : e.acct = d.acct) (c : Nat) : e.client c = d.client c := by
  rw [Device.client, h, Device.client]

/-! ### Folds that reach each element once -/

/-- What holds before an element's turn, follows from its turn, and stays: where the elements are distinct, it holds
after the fold. -/
theorem foldl_of_turn {σ α : Type} {step : σ → α → σ} {P Q : σ → Prop} {l : List α} {a : α} (hl : l.Nodup) (ha : a ∈ l)
    (hbefore : ∀ d, ∀ b ∈ l, b ≠ a → P d → P (step d b)) (hturn : ∀ d, P d → Q (step d a))
    (hafter : ∀ d, ∀ b ∈ l, b ≠ a → Q d → Q (step d b)) {d : σ} (hd : P d) : Q (l.foldl step d) := by
  induction l generalizing d with
  | nil => exact nomatch ha
  | cons b l ih =>
    obtain ⟨hb, hnodup⟩ := List.nodup_cons.mp hl
    rw [List.foldl_cons]
    rcases List.mem_cons.mp ha with rfl | ha
    · exact List.foldlRecOn l step (hturn d hd) fun e he x hx =>
        hafter e x (List.mem_cons_of_mem a hx) (fun heq => hb (heq ▸ hx)) he
    · have hne : b ≠ a := fun heq => hb (heq ▸ ha)
      exact ih hnodup ha (fun e x hx => hbefore e x (List.mem_cons_of_mem b hx))
        (fun e x hx => hafter e x (List.mem_cons_of_mem b hx)) (hbefore d b List.mem_cons_self hne hd)

/-! ### Records and transfers alone -/

theorem acct_of_onPort {d e : Device} (h : OnPort d e) : e.acct = d.acct := (congrArg Device.acct h).trans rfl

/-- `e` is `d` but for records of clients and for what has gone to the FAB_I port or left on it. -/
def OnAcct (d e : Device) : Prop := e = { d with acct := e.acct, fabi := e.fabi, out := e.out }

namespace OnAcct
variable {d e f : Device}

theorem refl (d : Device) : OnAcct d d := rfl

theorem trans (hde : OnAcct d e) (hef : OnAcct e f) : OnAcct d f :=
  Eq.trans hef (congrArg (fun g : Device => { g with acct := f.acct, fabi := f.fabi, out := f.out }) hde)

theorem foldl {α : Type} {step : Device → α → Device} {l : List α} (hstep : ∀ d, ∀ x ∈ l, OnAcct d (step d x)) (d : Device) :
    OnAcct d (l.foldl step d) :=
  List.foldlRecOn l step (motive := OnAcct d) (refl d) fun e he x hx => he.trans (hstep e x hx)

theorem modClient (d : Device) (c : Nat) (f : Acct → Acct) : OnAcct d (d.modClient c f) := rfl

theorem of_onPort (h : OnPort d e) : OnAcct d e := by
  rw [OnAcct, acct_of_onPort h]
  exact h

theorem ident (h : OnAcct d e) : e.ident = d.ident := (congrArg Device.ident h).trans rfl
theorem od (h : OnAcct d e) : e.od = d.od := (congrArg Device.od h).trans rfl
theorem agg (h : OnAcct d e) : e.agg = d.agg := (congrArg Device.agg h).trans rfl
theorem turn (h : OnAcct d e) : e.turn = d.turn := (congrArg Device.turn h).trans rfl
theorem seqs (h : OnAcct d e) : e.seqs = d.seqs := (congrArg Device.seqs h).trans rfl

theorem odGet (h : OnAcct d e) (i j : Nat) : odGet e i j = Machine.odGet d i j := odGet_od i j h.od h.ident

end OnAcct

theorem client_of_onPort {d e : Device} (h : OnPort d e) (c : Nat) : e.client c = d.client c :=
  Device.client_of_acct (acct_of_onPort h) c

/-- A fold whose steps each work on one client's record: distinct clients have theirs worked on once, the others none. -/
theorem foldl_client {step : Device → Nat → Device} {g : Nat → Acct → Acct} {l : List Nat} {d : Device} (hl : l.Nodup)
    (hframe : ∀ e, OnAcct d e → ∀ c, OnAcct e (step e c))
    (hsame : ∀ e, OnAcct d e → ∀ c, (step e c).client c = g c (e.client c))
    (hother : ∀ e, OnAcct d e → ∀ c x, x ≠ c → (step e c).client x = e.client x) :
    OnAcct d (l.foldl step d) ∧ ∀ c, (l.foldl step d).client c = if c ∈ l then g c (d.client c) else d.client c := by
  have hall : OnAcct d (l.foldl step d) :=
    List.foldlRecOn l step (motive := OnAcct d) (.refl d) fun e he x _ => he.trans (hframe e he x)
  refine ⟨hall, fun c => ?_⟩
  split
  · next hc =>
    have hend : OnAcct d (l.foldl step d) ∧ (l.foldl step d).client c = g c (d.client c) :=
      foldl_of_turn (P := fun e => OnAcct d e ∧ e.client c = d.client c)
        (Q := fun e => OnAcct d e ∧ e.client c = g c (d.client c)) hl hc
        (fun e b _ hb he => ⟨he.1.trans (hframe e he.1 b), (hother e he.1 b c hb.symm).trans he.2⟩)
        (fun e he => ⟨he.1.trans (hframe e he.1 c), (hsame e he.1 c).trans (congrArg (g c) he.2)⟩)
        (fun e b _ hb he => ⟨he.1.trans (hframe e he.1 b), (hother e he.1 b c hb.symm).trans he.2⟩) ⟨.refl d, rfl⟩
    exact hend.2
  · next hc =>
    have hend : OnAcct d (l.foldl step d) ∧ (l.foldl step d).client c = d.client c :=
      List.foldlRecOn l step (motive := fun e => OnAcct d e ∧ e.client c = d.client c) ⟨.refl d, rfl⟩ fun e he b hb =>
        ⟨he.1.trans (hframe e he.1 b), (hother e he.1 b c (fun heq => hc (heq ▸ hb))).trans he.2⟩
    exact hend.2

/-! ### Transfers that have left or wait for the port (R38) -/

/-- Every transfer of `d` that has left, or waits for the port, has left or waits in `e`. -/
def KeepsSends (d e : Device) : Prop := ∀ k x, d.sends k x → e.sends k x

namespace KeepsSends
variable {d e f : Device}

theorem refl (d : Device) : KeepsSends d d := fun _ _ => id

theorem trans (hde : KeepsSends d e) (hef : KeepsSends e f) : KeepsSends d f := fun k x h => hef k x (hde k x h)

theorem of_eq (hout : e.out = d.out) (hfabi : e.fabi = d.fabi) : KeepsSends d e := fun k x h => by
  rwa [Device.sends, hout, hfabi]

theorem foldl {α : Type} {step : Device → α → Device} (hstep : ∀ d x, KeepsSends d (step d x)) (l : List α) (d : Device) :
    KeepsSends d (l.foldl step d) :=
  List.foldlRecOn l step (motive := KeepsSends d) (refl d) fun e he x _ => he.trans (hstep e x)

theorem emit (d : Device) (o : Out) : KeepsSends d (emit d o) := fun _ _ h => h.imp_left (List.mem_append_left [o])

theorem fabiNew (d : Device) (kind : FabiKind) (write : Bool) (addr len data : Nat) (o : Option (Nat × Xfer)) :
    KeepsSends d (fabiNew d kind write addr len data o) := fun k x h => by
  unfold Machine.fabiNew fabiIssue
  split
  · exact h.imp_left (List.mem_append_left _)
  · exact h.imp_right fun ⟨r, hr, hx⟩ => ⟨r, List.mem_append_left _ hr, hx⟩

theorem sendXfer (d : Device) (dest : Nat) (x : Xfer) (len : Nat) : KeepsSends d (sendXfer d dest x len) := by
  unfold Machine.sendXfer
  split
  · exact emit d _
  · exact (foldl (fun d _ => fabiNew d _ _ _ _ _ _) _ d).trans (fabiNew _ _ _ _ _ _ _)

end KeepsSends

theorem sends_emit (d : Device) (k : Nat) (x : Xfer) : (emit d (.xfer k x)).sends k x :=
  .inl (List.mem_append_right _ List.mem_cons_self)

theorem sends_fabiXfer (d : Device) (kind : FabiKind) (len data k : Nat) (x : Xfer) :
    (fabiXfer d kind len data k x).sends k x := by
  unfold fabiXfer fabiNew fabiIssue
  split
  · exact .inl (List.mem_append_right _ (by simp))
  · exact .inr ⟨_, List.mem_append_right _ List.mem_cons_self, rfl⟩

theorem sends_sendXfer (d : Device) (k : Nat) (x : Xfer) (len : Nat) : (sendXfer d k x len).sends k x := by
  unfold sendXfer
  split
  · exact sends_emit d k x
  · exact sends_fabiXfer ..

/-! ### Sorted lists -/

section Sorted
variable {α : Type} (le : α → α → Bool)

theorem mergeBy_perm (n : Nat) (l r : List α) : (mergeBy le n l r).Perm (l ++ r) := by
  fun_induction mergeBy le n l r with
  | case1 => exact .refl _
  | case2 => exact .refl _
  | case3 => simp
  | case4 n a l b r hle ih => exact ih.cons a
  | case5 n a l b r hle ih => exact (ih.cons b).trans List.perm_middle.symm

theorem sortGo_perm (n : Nat) (l : List α) : (sortGo le n l).Perm l := by
  induction n generalizing l with
  | zero => exact .refl l
  | succ n ih =>
    unfold sortGo
    split
    · exact .refl l
    · have hsplit := (mergeBy_perm le l.length _ _).trans ((ih (l.take (l.length / 2))).append (ih (l.drop (l.length / 2))))
      rwa [List.take_append_drop] at hsplit

theorem sortBy_perm (l : List α) : (sortBy le l).Perm l := sortGo_perm le _ l

theorem nodup_sortBy_dedup [DecidableEq α] (l : List α) : (sortBy le l.dedup).Nodup :=
  (sortBy_perm le _).nodup_iff.mpr (List.nodup_dedup l)

end Sorted

end Sys2Proof.Machine
end

section
/-! The opening of an accounting round (R137), with the obligation O29. -/

namespace Sys2Proof.Machine

/-! ### The aggregator is found by what a round does not change -/

/-- The aggregator follows from the slices excluded and from those that may sum. -/
theorem aggregator_modAgg {d : Device} {f g : Aggregation → Aggregation}
    (hexcluded : (f d.agg).excluded = (g d.agg).excluded) (hfit : (f d.agg).fit = (g d.agg).fit) :
    aggregator (d.modAgg f) = aggregator (d.modAgg g) := by
  simp only [aggregator, Device.modAgg_agg, hexcluded, hfit]
  rfl

theorem roundPassed_excluded (a : Aggregation) : (roundPassed a).excluded = a.excluded := by
  unfold roundPassed
  split
  · rfl
  · split <;> rfl

theorem roundPassed_sentTo (a : Aggregation) : (roundPassed a).sentTo = a.sentTo := by
  unfold roundPassed
  split
  · rfl
  · split <;> rfl

/-! ### The round is noted -/

section Opening
variable {d : Device} {fit : Nat}

/-- What the opening of round `r` notes of the round. -/
def Aggregation.opening (a : Aggregation) (r fit : Nat) : Aggregation :=
  if a.opened = r then { a with fit := fit } else { roundPassed a with opened := r, owed := false, fit := fit }

theorem opening_opened (a : Aggregation) (r fit : Nat) : (a.opening r fit).opened = r := by
  unfold Aggregation.opening
  split
  · assumption
  · rfl

theorem opening_excluded (a : Aggregation) (r fit : Nat) : (a.opening r fit).excluded = a.excluded := by
  unfold Aggregation.opening
  split
  · rfl
  · exact roundPassed_excluded a

theorem opening_fit (a : Aggregation) (r fit : Nat) : (a.opening r fit).fit = fit := by
  unfold Aggregation.opening
  split <;> rfl

theorem opening_sentTo (a : Aggregation) (r fit : Nat) : (a.opening r fit).sentTo = a.sentTo := by
  unfold Aggregation.opening
  split
  · rfl
  · exact roundPassed_sentTo a

/-- The slice with the round noted as open. -/
def roundNoted (d : Device) (fit : Nat) : Device := d.modAgg (·.opening (roundOf d) fit)

theorem aggregator_roundNoted (d : Device) (fit : Nat) :
    aggregator (roundNoted d fit) = aggregator (d.modAgg (fun a => { a with fit := fit })) :=
  aggregator_modAgg (opening_excluded _ _ _) (opening_fit _ _ _)

/-- Of which clients deltas are due, the note of the round does not change. -/
theorem deltaDue_roundNoted (d : Device) (fit : Nat) : deltaDue (roundNoted d fit) = deltaDue d := by
  funext agg c
  simp only [deltaDue, roundNoted, Device.modAgg_agg, opening_sentTo]
  rfl

/-- The clients whose deltas go to the aggregator. -/
def dueClients (d : Device) (agg : Nat) : List Nat := (knownClients d).filter (deltaDue d agg)

theorem dueClients_nodup (d : Device) (agg : Nat) : (dueClients d agg).Nodup := (nodup_sortBy_dedup _ _).filter _

/-- The deltas of all clients that have any are sent. -/
def deltasSent (d : Device) (fit agg : Nat) : Device :=
  (dueClients d agg).foldl (sendDeltaEntry (roundOf d) agg) (roundNoted d fit)

theorem aggRoundOpen_of_off (h : d.tick % 100 ≠ 0) : aggRoundOpen d fit = d := by rw [aggRoundOpen, if_pos h]

theorem aggRoundOpen_of_none (h : d.tick % 100 = 0) (hnone : aggregator (d.modAgg (fun a => { a with fit := fit })) = none) :
    aggRoundOpen d fit = roundNoted d fit := by
  have hagg := (aggregator_roundNoted d fit).trans hnone
  rw [aggRoundOpen, if_neg (not_not_intro h)]
  simp only [roundNoted, Aggregation.opening] at hagg ⊢
  rw [hagg]

theorem aggRoundOpen_of_some {agg : Nat} (h : d.tick % 100 = 0)
    (hsome : aggregator (d.modAgg (fun a => { a with fit := fit })) = some agg) : ∃ owed : Aggregation → Bool,
    aggRoundOpen d fit = (deltasSent d fit agg).modAgg (fun a => { a with sentTo := some agg, owed := owed a }) := by
  have hagg := (aggregator_roundNoted d fit).trans hsome
  have hdue : (knownClients (roundNoted d fit)).filter (deltaDue (roundNoted d fit) agg) = dueClients d agg := by
    rw [deltaDue_roundNoted]
    rfl
  rw [aggRoundOpen, if_neg (not_not_intro h)]
  simp only [deltasSent, ← hdue]
  simp only [roundNoted, Aggregation.opening] at hagg ⊢
  rw [hagg]
  exact ⟨_, rfl⟩

end Opening

/-! ### One client's delta -/

section Delta
variable (d : Device) (round agg c : Nat)

/-- The record of a client whose delta has been sent. -/
def Acct.sent (a : Acct) (live demand : Nat) : Acct :=
  { a with dNs := 0, dBytes := 0, dUj := 0, tokUsed := 0, sentLive := live, sentDemand := demand }

/-- The delta entry of a client. -/
def deltaXfer : Xfer :=
  let a := d.client c
  .delta (BitVec.ofNat 256 (deltaBits c a.dNs a.dBytes a.dUj (liveOf d c) (demandOf d c) a.tokUsed 0 round))

theorem sendDeltaEntry_onPort :
    OnPort (d.modClient c (·.sent (liveOf d c) (demandOf d c))) (sendDeltaEntry round agg d c) := by
  unfold sendDeltaEntry
  simp only
  split
  · rfl
  · exact fabiNew_onPort ..

theorem sendDeltaEntry_onAcct : OnAcct d (sendDeltaEntry round agg d c) :=
  (OnAcct.modClient d c _).trans (.of_onPort (sendDeltaEntry_onPort d round agg c))

theorem sendDeltaEntry_client_same :
    (sendDeltaEntry round agg d c).client c = (d.client c).sent (liveOf d c) (demandOf d c) :=
  (client_of_onPort (sendDeltaEntry_onPort d round agg c) c).trans (Device.modClient_client_same ..)

theorem sendDeltaEntry_client_ne {x : Nat} (h : x ≠ c) : (sendDeltaEntry round agg d c).client x = d.client x :=
  (client_of_onPort (sendDeltaEntry_onPort d round agg c) x).trans (d.modClient_client_ne _ h)

theorem sendDeltaEntry_sends : (sendDeltaEntry round agg d c).sends agg (deltaXfer d round c) := by
  unfold sendDeltaEntry
  simp only
  split
  · exact sends_emit ..
  · exact sends_fabiXfer ..

theorem sendDeltaEntry_keepsSends : KeepsSends d (sendDeltaEntry round agg d c) := by
  have hrecord : KeepsSends d (d.modClient c (·.sent (liveOf d c) (demandOf d c))) := .of_eq rfl rfl
  unfold sendDeltaEntry
  simp only
  split
  · exact hrecord.trans (.emit _ _)
  · exact hrecord.trans (.fabiNew _ _ _ _ _ _ _)

end Delta

/-! ### The deltas of all clients -/

namespace OnAcct
variable {d e : Device}

theorem liveOf (h : OnAcct d e) (c : Nat) : liveOf e c = Machine.liveOf d c := by rw [Machine.liveOf, h.seqs, Machine.liveOf]

theorem demandOf (h : OnAcct d e) (c : Nat) : demandOf e c = Machine.demandOf d c := by
  rw [Machine.demandOf, queueEntries, h.turn, Machine.demandOf, queueEntries]

/-- A round's bookkeeping before and after such a change is all that is left of it in the other fields. -/
theorem modAgg {f g : Aggregation → Aggregation} (h : OnAcct (d.modAgg f) e) :
    e.modAgg g = { d with agg := g e.agg, acct := e.acct, out := e.out, fabi := e.fabi } :=
  congrArg (fun x : Device => { x with agg := g e.agg }) h

end OnAcct

theorem deltaXfer_of_onAcct {d e : Device} (h : OnAcct d e) {c : Nat} (hc : e.client c = d.client c) (round : Nat) :
    deltaXfer e round c = deltaXfer d round c := by
  simp only [deltaXfer, hc, h.liveOf, h.demandOf]

section AllDeltas
variable (d : Device) (fit agg : Nat)

theorem deltasSent_clients : OnAcct (roundNoted d fit) (deltasSent d fit agg) ∧ ∀ c, (deltasSent d fit agg).client c =
    if c ∈ dueClients d agg then (d.client c).sent (liveOf d c) (demandOf d c) else d.client c :=
  foldl_client (d := roundNoted d fit) (g := fun c a => a.sent (liveOf d c) (demandOf d c)) (dueClients_nodup d agg)
    (fun e _ c => sendDeltaEntry_onAcct e _ agg c)
    (fun e he c => by rw [sendDeltaEntry_client_same, he.liveOf, he.demandOf]; rfl)
    (fun e _ c x hx => sendDeltaEntry_client_ne e _ agg c hx)

/-- Before a client's turn its record stands as it was, and its delta says so. -/
theorem deltasSent_sends {c : Nat} (hc : c ∈ dueClients d agg) :
    (deltasSent d fit agg).sends agg (deltaXfer d (roundOf d) c) :=
  foldl_of_turn (P := fun e => OnAcct (roundNoted d fit) e ∧ e.client c = d.client c)
    (Q := fun e => e.sends agg (deltaXfer d (roundOf d) c)) (dueClients_nodup d agg) hc
    (fun e b _ hb he => ⟨he.1.trans (sendDeltaEntry_onAcct e _ agg b), (sendDeltaEntry_client_ne e _ agg b hb.symm).trans he.2⟩)
    (fun e he => by
      have hsent := sendDeltaEntry_sends e (roundOf d) agg c
      rwa [deltaXfer_of_onAcct he.1 he.2] at hsent)
    (fun e b _ _ he => sendDeltaEntry_keepsSends e _ agg b _ _ he) ⟨.refl _, rfl⟩

end AllDeltas

/-! ### The obligation -/

theorem answers_aggRoundOpen {s : State} (fit : BitVec 32) (hready : fyReady s.dev = true) :
    Answers (.aggRoundOpen fit) s (aggRoundOpen s.dev fit.toNat) :=
  answers_of_whenReady (aggRoundOpen · fit.toNat) hready rfl

/-- Settles O29: the opening is `roundNoted` alone, or with the deltas of `deltasSent`, whose records and transfers
`deltasSent_clients` and `deltasSent_sends` give. -/
theorem roundOpeningSendsChangedClients : Obligations.RoundOpeningSendsChangedClients := by
  intro s fit hready d
  have hrun := answers_aggRoundOpen fit hready
  refine ⟨fun hoff => ?off, fun hon hnone => ?alone, fun agg hon hsome => ?sent⟩
  case off => exact aggRoundOpen_of_off hoff ▸ hrun
  case alone =>
    rw [aggRoundOpen_of_none hon hnone] at hrun
    exact ⟨_, hrun, opening_opened _ _ _, rfl⟩
  case sent =>
    intro due
    obtain ⟨owed, hopen⟩ := aggRoundOpen_of_some hon hsome
    rw [hopen] at hrun
    obtain ⟨hframe, hclient⟩ := deltasSent_clients s.dev fit.toNat agg
    have hdue (c : Nat) : c ∈ dueClients s.dev agg ↔ due c := List.mem_filter
    have hagg : (deltasSent s.dev fit.toNat agg).agg = s.dev.agg.opening (roundOf s.dev) fit.toNat := hframe.agg
    refine ⟨_, hrun, ?_, rfl, fun c hc => ⟨?_, ?_⟩, fun c hc => ?_, ?_⟩
    · exact (congrArg Aggregation.opened hagg).trans (opening_opened _ _ _)
    · exact (hclient c).trans (if_pos ((hdue c).mpr hc))
    · exact deltasSent_sends s.dev fit.toNat agg ((hdue c).mpr hc)
    · exact (hclient c).trans (if_neg (fun h => hc ((hdue c).mp h)))
    · exact hframe.modAgg

end Sys2Proof.Machine
end

section
/-! Deltas, resets, aggregate entries and a lost aggregator (R137 to R140), with the obligations O30, O32 and O33. -/

namespace Sys2Proof.Machine

/-! ### Delta and reset entries (R137, R140) -/

section Folding
variable (d : Device) (src e : Nat)

/-- The record of a client with a delta entry folded in. -/
def Acct.foldDelta (a : Acct) (e : Nat) : Acct :=
  { a with
    aggNs := min (2 ^ 64 - 1) (a.aggNs + Delta.ns e), aggBytes := min (2 ^ 64 - 1) (a.aggBytes + Delta.bytes e)
    aggUj := min (2 ^ 64 - 1) (a.aggUj + Delta.uj e), saturated := a.saturated || aggPasses a e }

/-- The aggregator's tables with a delta entry entered. -/
def Aggregation.foldDelta (g : Aggregation) (src e : Nat) : Aggregation :=
  { g with
    folded := g.folded ++ [{ client := Delta.client e, src := src, ns := Delta.ns e, tok := Delta.tok e }]
    reports := Map.put g.reports (Delta.client e)
      (Map.put (Map.getD g.reports (Delta.client e) []) src (Delta.live e, Delta.demand e)) }

/-- The slice with a delta entry folded in. -/
def deltaFolded : Device := (d.modClient (Delta.client e) (·.foldDelta e)).modAgg (·.foldDelta src e)

/-- The client's saturation is raised (R140). -/
def raiseSaturated (d : Device) (c : Nat) : Device := raiseVector (alertLog d ALERT_ACCT_SAT 0 0 0 c) 4

variable {d src e}

theorem deltaFolded_client_same :
    (deltaFolded d src e).client (Delta.client e) = (d.client (Delta.client e)).foldDelta e := by
  simp [deltaFolded]

theorem deltaFolded_client_ne {x : Nat} (h : x ≠ Delta.client e) : (deltaFolded d src e).client x = d.client x := by
  simp [deltaFolded, Device.modClient_client_ne _ _ h]

theorem deltaEntry_of_quiet (hkind : Delta.kind e = 0)
    (hquiet : aggPasses (d.client (Delta.client e)) e = false ∨ (d.client (Delta.client e)).saturated = true) :
    deltaEntry d src e = deltaFolded d src e := by
  have hnot : (aggPasses (d.client (Delta.client e)) e && !(d.client (Delta.client e)).saturated) = false := by
    rcases hquiet with h | h <;> simp [h]
  rw [deltaEntry, if_neg (not_not_intro hkind)]
  simp only [hnot, Bool.false_eq_true, if_false]
  rfl

theorem deltaEntry_of_new (hkind : Delta.kind e = 0) (hpasses : aggPasses (d.client (Delta.client e)) e = true)
    (hnew : (d.client (Delta.client e)).saturated = false) :
    deltaEntry d src e = raiseSaturated (deltaFolded d src e) (Delta.client e) := by
  rw [deltaEntry, if_neg (not_not_intro hkind)]
  simp only [hpasses, hnew, Bool.not_false, Bool.and_true, if_true]
  rfl

/-- Whether or not it raises the saturation, a delta entry leaves the folded records and tables. -/
theorem deltaEntry_tables (hkind : Delta.kind e = 0) : (deltaEntry d src e).acct = (deltaFolded d src e).acct ∧
    (deltaEntry d src e).agg = (deltaFolded d src e).agg := by
  by_cases hquiet : aggPasses (d.client (Delta.client e)) e = false ∨ (d.client (Delta.client e)).saturated = true
  · rw [deltaEntry_of_quiet hkind hquiet]
    exact ⟨rfl, rfl⟩
  · obtain ⟨hpasses, hnew⟩ := not_or.mp hquiet
    rw [deltaEntry_of_new hkind (by simpa using hpasses) (by simpa using hnew)]
    simp [raiseSaturated]

theorem report_foldDelta (g : Aggregation) (src e : Nat) :
    Map.find (Map.getD (g.foldDelta src e).reports (Delta.client e) []) src = some (Delta.live e, Delta.demand e) := by
  simp [Aggregation.foldDelta, Map.getD, Map.find_put_same]

theorem resetEntry_of_reset (hkind : Delta.kind e = 1) : resetEntry d e = d.modClient (Delta.client e) (fun a =>
    let left (now snap : Nat) : Nat := if now = 2 ^ 64 - 1 then 0 else now - snap
    { a with aggNs := left a.aggNs (bf e 511 448), aggBytes := left a.aggBytes (bf e 447 384)
             aggUj := left a.aggUj (bf e 383 320), saturated := false }) := by
  rw [resetEntry, if_neg (not_not_intro hkind)]

end Folding

section Ready
variable {s : State} (hready : fyReady s.dev = true)
include hready

theorem answers_deltaEntry (src : Nat) (b : BitVec 256) : Answers (.deltaEntry src b) s (deltaEntry s.dev src b.toNat) :=
  answers_of_whenReady (deltaEntry · src b.toNat) hready rfl

theorem answers_resetEntry (src : Nat) (b : BitVec 512) : Answers (.resetEntry src b) s (resetEntry s.dev b.toNat) :=
  answers_of_whenReady (resetEntry · b.toNat) hready rfl

theorem answers_aggregateEntry (b : BitVec 512) (last : Bool) :
    Answers (.aggregateEntry b last) s (aggregateEntry s.dev b last) :=
  answers_of_whenReady (aggregateEntry · b last) hready rfl

theorem answers_acctAggLost : Answers .acctAggLost s (aggLost s.dev) := answers_of_whenReady aggLost hready rfl

end Ready

/-- Settles O30: the delta is folded by `deltaEntry_of_quiet`, with the raise of `deltaEntry_of_new` where its client
saturates now; the reset is `resetEntry_of_reset`. -/
theorem deltasAndResetsAreFolded : Obligations.DeltasAndResetsAreFolded := by
  refine ⟨fun s src b hready hkind => ?delta, fun s src b hready hkind => ?reset⟩
  case delta =>
    intro c a passes
    obtain ⟨hacct, hagg⟩ := deltaEntry_tables (d := s.dev) (src := src) hkind
    refine ⟨_, answers_deltaEntry hready src b, ?_, fun x hx => ?_, ?_, ?_, fun hquiet => ?_, fun hpasses hnew => ?_⟩
    · exact (Device.client_of_acct hacct c).trans deltaFolded_client_same
    · exact (Device.client_of_acct hacct x).trans (deltaFolded_client_ne hx)
    · rw [hagg]
      rfl
    · rw [hagg]
      exact report_foldDelta s.dev.agg src b.toNat
    · rw [deltaEntry_of_quiet hkind hquiet]
      rfl
    · rw [hacct, hagg]
      exact deltaEntry_of_new hkind hpasses hnew
  case reset =>
    have hrun := answers_resetEntry hready src b
    rw [resetEntry_of_reset hkind] at hrun
    exact hrun

/-! ### Aggregate entries (R138) -/

/-- The record of a client with an aggregate entry applied. -/
def Acct.applied (a : Acct) (e : Nat) : Acct :=
  { a with
    aggNs := bf e 511 448, aggBytes := bf e 447 384, aggUj := bf e 383 320, vtime := bf e 319 256
    seqGrant := bf e 243 227, tokGrant := bf e 226 203, saturated := bit e 202, active := bit e 201 }

/-- `a` and `b` agree on what is the slice's own of a client's record: all but the fields of aggregate entries. -/
def Acct.SameOwn (a b : Acct) : Prop :=
  b = { a with
    aggNs := b.aggNs, aggBytes := b.aggBytes, aggUj := b.aggUj, vtime := b.vtime, seqGrant := b.seqGrant
    tokGrant := b.tokGrant, saturated := b.saturated, active := b.active }

namespace Acct.SameOwn
variable {a b : Acct}

theorem refl (a : Acct) : SameOwn a a := rfl

theorem own (h : SameOwn a b) : b.dSat = a.dSat ∧ b.gap = a.gap ∧ b.dNs = a.dNs ∧ b.tokUsed = a.tokUsed := by
  rw [SameOwn] at h
  rw [h]
  exact ⟨rfl, rfl, rfl, rfl⟩

/-- Of a record only its own part lasts when an entry is applied. -/
theorem applied_eq (h : SameOwn a b) (e : Nat) : b.applied e = a.applied e := by
  rw [SameOwn] at h
  rw [h]
  rfl

theorem applied (h : SameOwn a b) (e : Nat) : SameOwn a (b.applied e) := by
  rw [SameOwn, h.applied_eq]
  rfl

end Acct.SameOwn

section Entries
variable (d : Device) (b : BitVec 512)

theorem applyEntry_eq (e : Nat) : applyEntry d e = d.modClient (bf e 255 244) (·.applied e) := rfl

/-- Entries applied one after another. -/
def entriesApplied (l : List (BitVec 512)) : Device := l.foldl (fun d x => applyEntry d x.toNat) d

theorem entriesApplied_frame (l : List (BitVec 512)) :
    entriesApplied d l = { d with acct := (entriesApplied d l).acct } := by
  induction l generalizing d with
  | nil => rfl
  | cons x l ih => exact ih (applyEntry d x.toNat)

theorem entriesApplied_sameOwn (l : List (BitVec 512)) (c : Nat) : (d.client c).SameOwn ((entriesApplied d l).client c) := by
  refine List.foldlRecOn l (fun (d : Device) x => applyEntry d x.toNat)
    (motive := fun e => (d.client c).SameOwn (e.client c)) (.refl _) fun e he x _ => ?_
  rw [applyEntry_eq]
  by_cases hc : c = bf x.toNat 255 244
  · rw [← hc, Device.modClient_client_same]
    exact he.applied x.toNat
  · rwa [e.modClient_client_ne _ hc]

theorem entriesApplied_client_ne {l : List (BitVec 512)} {c : Nat} (h : ∀ x ∈ l, bf x.toNat 255 244 ≠ c) :
    (entriesApplied d l).client c = d.client c :=
  List.foldlRecOn l (fun (d : Device) x => applyEntry d x.toNat) (motive := fun e => e.client c = d.client c) rfl
    fun e he x hx => (e.modClient_client_ne _ (h x hx).symm).trans he

/-- The last entry decides its client's aggregate fields. -/
theorem entriesApplied_client_last (l : List (BitVec 512)) :
    (entriesApplied d (l ++ [b])).client (bf b.toNat 255 244) = (d.client (bf b.toNat 255 244)).applied b.toNat := by
  rw [entriesApplied, List.foldl_append, List.foldl_cons, List.foldl_nil, applyEntry_eq, Device.modClient_client_same]
  exact (entriesApplied_sameOwn d l _).applied_eq b.toNat

/-- The entry joins those of the round being received. -/
def entryHeld : Device := d.modAgg (fun a => { a with incoming := a.incoming ++ [b] })

/-- The entries held of the round that ends with `b`. -/
def roundEntries : List (BitVec 512) :=
  (d.agg.incoming ++ [b]).filter (fun x => bf x.toNat 31 0 = bf b.toNat 31 0)

theorem aggregateEntry_of_not_last : aggregateEntry d b false = entryHeld d b := rfl

theorem aggregateEntry_of_last : aggregateEntry d b true =
    roundApplied (entriesApplied (entryHeld d b) (roundEntries d b)) (bf b.toNat 31 0) := rfl

theorem roundEntries_eq_append : ∃ l, roundEntries d b = l ++ [b] := by
  rw [roundEntries, List.filter_append]
  exact ⟨_, congrArg _ (by simp)⟩

end Entries

/-- Settles O32: an entry that is not the last is held; with the last, `entriesApplied` of the round's entries gives each
client's record. -/
theorem aggregateEntriesAreAppliedTogether : Obligations.AggregateEntriesAreAppliedTogether := by
  intro s b hready r c all
  refine ⟨answers_aggregateEntry hready b false, ?last⟩
  have hrun := answers_aggregateEntry hready b true
  rw [aggregateEntry_of_last, entriesApplied_frame] at hrun
  refine ⟨_, hrun, rfl, ?_, fun x hx => ?_, fun x => ?_, rfl, rfl⟩
  · obtain ⟨l, hl⟩ := roundEntries_eq_append s.dev b
    rw [hl]
    exact entriesApplied_client_last (entryHeld s.dev b) b l
  · refine entriesApplied_client_ne (entryHeld s.dev b) fun y hy => ?_
    obtain ⟨hmem, hround⟩ := List.mem_filter.mp hy
    exact hx y hmem (of_decide_eq_true hround)
  · exact (entriesApplied_sameOwn (entryHeld s.dev b) (roundEntries s.dev b) x).own

/-! ### A cause that is raised is set (R63) -/

section Causes
variable (d : Device)

/-- A value other than its default stands in the dictionary once it is written. -/
theorem odGet_odSet_of_ne_default {i j v : Nat} (h : v ≠ odDefault d i j) : odGet (odSet d i j v) i j = v := by
  rw [odGet, odSet, if_neg h, Map.getD, Map.find_put_same, Option.getD_some]

theorem bit_raiseCause (b c : Nat) : bit (odGet (raiseCause d b) Od.ALERT_CAUSE 0) c =
    (bit (odGet d Od.ALERT_CAUSE 0) c || decide (b = c)) := by
  have hset : odGet (odSet (noteRaised d b) Od.ALERT_CAUSE 0 (odGet d Od.ALERT_CAUSE 0 ||| 2 ^ b)) Od.ALERT_CAUSE 0 =
      odGet d Od.ALERT_CAUSE 0 ||| 2 ^ b := by
    refine odGet_odSet_of_ne_default _ fun hzero => ?_
    have hbit : bit (odGet d Od.ALERT_CAUSE 0 ||| 2 ^ b) b = true := by simp [testBit_lor_pow]
    rw [hzero] at hbit
    exact absurd hbit (by simp [show odDefault (noteRaised d b) Od.ALERT_CAUSE 0 = 0 from rfl, bit])
  rw [raiseCause_def]
  split
  · rw [raiseVector_odne _ _ (by decide), hset, testBit_lor_pow]
  · rw [hset, testBit_lor_pow]

theorem bit_flogWrite_of_bit {k : Nat} (h : bit (odGet d Od.ALERT_CAUSE 0) k = true) (kind loc handle status detail : Nat) :
    bit (odGet (flogWrite d kind loc handle status detail) Od.ALERT_CAUSE 0) k = true := by
  have hdrops : ∀ k, k < 2 → odKey Od.TRACE_DROPS k ≠ odKey Od.ALERT_CAUSE 0 := by decide
  unfold flogWrite
  simp only
  split_ifs
  · exact h
  · rw [bit_raiseCause, traceRec_odne _ _ _ _ _ _ hdrops]
    exact Bool.or_eq_true_iff.mpr (.inl h)
  · rw [traceRec_odne _ _ _ _ _ _ hdrops]
    exact h

theorem bit_alertLog_same (cause loc handle status detail : Nat) :
    bit (odGet (alertLog d cause loc handle status detail) Od.ALERT_CAUSE 0) cause = true :=
  bit_flogWrite_of_bit _ (by simp [bit_raiseCause]) ..

end Causes

/-! ### A lost aggregator (R139) -/

section Lost
variable {d : Device} {agg : Nat}

theorem aggregator_ne_of_excluded (h : agg ∈ d.agg.excluded) : aggregator d ≠ some agg := fun hagg => by
  have hfound := List.find?_some hagg
  simp [h] at hfound

/-- What the table of a function over rising numbers reads. -/
theorem Map.find_range {α : Type} {n c : Nat} (g : Nat → α) (hc : c < n) :
    Map.find ((List.range n).map (fun c => (c, g c))) c = some (g c) :=
  (Map.mem_iff (Map.wf_range n g) (c, g c)).mp (List.mem_map.mpr ⟨c, List.mem_range.mpr hc, rfl⟩)

theorem gapAll_client (d : Device) {c : Nat} (hc : c < 4096) : (gapAll d).client c = { d.client c with gap := true } := by
  rw [Device.client, gapAll, Map.getD, Map.find_range _ hc, Option.getD_some]

/-- The aggregator is excluded, and charges that have not been sent count as lost. -/
def aggExcluded (d : Device) (agg : Nat) : Device :=
  gapAll (d.modAgg (fun a => { a with excluded := a.excluded ++ [agg], missed := 0 }))

theorem aggExcluded_frame (d : Device) (agg : Nat) : aggExcluded d agg =
    { d with agg := (aggExcluded d agg).agg, acct := (aggExcluded d agg).acct } := by
  simp only [aggExcluded, gapAll, Device.modAgg]

theorem odGet_aggExcluded (d : Device) (agg i j : Nat) : odGet (aggExcluded d agg) i j = odGet d i j := by
  rw [aggExcluded_frame]
  exact odGet_od i j rfl rfl

theorem aggLost_of_missed (hagg : aggregator d = some agg) (hother : agg ≠ d.ident.index) (hmissed : 3 ≤ d.agg.missed) :
    aggLost d = aggExcluded (alertLog d ALERT_ACCT_AGG_LOST agg 0 0 0) agg := by
  have hnot : ¬ (decide (d.agg.missed < 3) || decide (agg = d.ident.index)) = true := by
    simp [hother, Nat.not_lt.mpr hmissed]
  simp only [aggLost, hagg, if_neg hnot]
  rfl

theorem aggLost_of_not_missed (hagg : aggregator d = some agg) (hnot : agg = d.ident.index ∨ d.agg.missed < 3) :
    aggLost d = d := by
  simp [aggLost, hagg, Or.comm.mp hnot]

end Lost

/-- Settles O33: the loss is `aggExcluded` of the slice that has raised and logged it. -/
theorem lostAggregatorIsExcluded : Obligations.LostAggregatorIsExcluded := by
  refine fun s hready => ⟨fun agg hagg hother hmissed => ?lost, fun agg hagg hnot => ?not⟩
  case lost =>
    have hrun := answers_acctAggLost hready
    rw [aggLost_of_missed hagg hother hmissed] at hrun
    have hexcluded : (aggExcluded (alertLog s.dev ALERT_ACCT_AGG_LOST agg 0 0 0) agg).agg =
        { s.dev.agg with excluded := s.dev.agg.excluded ++ [agg], missed := 0 } :=
      congrArg (fun a : Aggregation => { a with excluded := a.excluded ++ [agg], missed := 0 }) (alertLog_agg ..)
    refine ⟨_, hrun, hexcluded, aggregator_ne_of_excluded ?_, ?_, fun c hc => ?_, aggExcluded_frame _ _⟩
    · rw [hexcluded]
      exact List.mem_append_right _ List.mem_cons_self
    · rw [odGet_aggExcluded]
      exact bit_alertLog_same s.dev ALERT_ACCT_AGG_LOST agg 0 0 0
    · refine (gapAll_client _ hc).trans (congrArg (fun a : Acct => { a with gap := true }) ?_)
      exact Device.client_of_acct (alertLog_acct ..) c
  case not => exact aggLost_of_not_missed hagg hnot ▸ answers_acctAggLost hready

end Sys2Proof.Machine
end

section
/-! The grants of a round (R134): sums over lists and tables, and that the sequence grants of a client never exceed what
its cap leaves and its token grants add up to the round's allowance. -/

namespace Sys2Proof.Machine

/-! ### Sums -/

section Sums
variable {α : Type} (f g : α → Nat) (l : List α)

theorem sumBy_eq_sum : sumBy f l = (l.map f).sum := by
  rw [sumBy, List.sum_eq_foldl, List.foldl_map]

theorem sumBy_cons (a : α) : sumBy f (a :: l) = f a + sumBy f l := by
  rw [sumBy_eq_sum, sumBy_eq_sum, List.map_cons, List.sum_cons]

theorem sumBy_add : sumBy (fun a => f a + g a) l = sumBy f l + sumBy g l := by
  simp only [sumBy_eq_sum, List.sum_map_add]

theorem sumBy_const (n : Nat) : sumBy (fun _ : α => n) l = l.length * n := by
  simp [sumBy_eq_sum]

theorem sumBy_mul (n : Nat) : sumBy (fun a => n * f a) l = n * sumBy f l := by
  rw [sumBy_eq_sum, sumBy_eq_sum, List.sum_map_mul_left]

theorem sumBy_map {β : Type} (h : β → α) (m : List β) : sumBy f (m.map h) = sumBy (fun b => f (h b)) m := by
  rw [sumBy_eq_sum, sumBy_eq_sum, List.map_map]
  rfl

variable {f g}

theorem sumBy_le (h : ∀ a, f a ≤ g a) : sumBy f l ≤ sumBy g l := by
  rw [sumBy_eq_sum, sumBy_eq_sum]
  exact List.sum_le_sum fun a _ => h a

theorem sumBy_filter_le (p : α → Bool) : sumBy f (l.filter p) ≤ sumBy f l := by
  rw [sumBy_eq_sum, sumBy_eq_sum]
  exact (List.filter_sublist.map f).sum_le_sum fun _ _ => Nat.zero_le _

/-- The whole parts of `t`, shared out by `f`, add up to no more than `t`. -/
theorem sumBy_share_le (t : Nat) {s : Nat} (hs : sumBy f l ≤ s) : sumBy (fun a => t * f a / s) l ≤ t := by
  rcases Nat.eq_zero_or_pos s with rfl | hpos
  · simp only [Nat.div_zero, sumBy_const, Nat.mul_zero, Nat.zero_le]
  · refine Nat.le_of_mul_le_mul_left ?_ hpos
    calc s * sumBy (fun a => t * f a / s) l = sumBy (fun a => s * (t * f a / s)) l := (sumBy_mul ..).symm
      _ ≤ sumBy (fun a => t * f a) l := sumBy_le l fun a => Nat.mul_div_le ..
      _ = t * sumBy f l := sumBy_mul ..
      _ ≤ t * s := Nat.mul_le_mul_left t hs
      _ = s * t := Nat.mul_comm ..

theorem sumBy_ofBool (p : α → Bool) : sumBy (fun a => ofBool (p a)) l = (l.filter p).length := by
  induction l with
  | nil => rfl
  | cons a l ih =>
    rw [sumBy_cons, ih]
    cases hp : p a <;> simp [hp, ofBool, Nat.add_comm]

end Sums

/-! ### Sums over tables -/

section Tables
variable {m : Map Nat}

/-- What a table adds up to once a value stands in the place of another. -/
theorem Map.sum_put (k a : Nat) (hwf : Map.wf m = true) :
    sumBy Prod.snd (Map.put m k a) + Map.getD m k 0 = sumBy Prod.snd m + a := by
  rw [Map.wf_pairwise] at hwf
  induction m with
  | nil => simp [Map.put, Map.getD, Map.find, sumBy]
  | cons p m ih =>
    obtain ⟨j, b⟩ := p
    obtain ⟨hlt, htail⟩ := List.pairwise_cons.mp hwf
    unfold Map.put
    split
    · next hkj =>
      have habsent : Map.find ((j, b) :: m) k = none := Option.eq_none_iff_forall_ne_some.mpr fun v hv => by
        rcases List.mem_cons.mp (Map.mem_of_find hv) with heq | hmem
        · exact Nat.ne_of_lt hkj (congrArg Prod.fst heq)
        · exact Nat.lt_asymm hkj (hlt _ hmem)
      rw [Map.getD, habsent, sumBy_cons, Option.getD_none]
      omega
    · split
      · next hkj =>
        rw [Map.getD, Map.find, if_pos hkj.symm, sumBy_cons, sumBy_cons, Option.getD_some]
        omega
      · next hne =>
        have htotal := ih htail
        rw [Map.getD] at htotal
        rw [Map.getD, Map.find, if_neg (Ne.symm hne), sumBy_cons, sumBy_cons]
        omega

theorem Map.sum_put_le (k a : Nat) (hwf : Map.wf m = true) : sumBy Prod.snd (Map.put m k a) ≤ sumBy Prod.snd m + a :=
  Map.sum_put k a hwf ▸ Nat.le_add_right _ _

/-- A table filled from a list adds up to no more than the list's values. -/
theorem sum_foldl_put_le {α : Type} (key f : α → Nat) (l : List α) (hwf : Map.wf m = true) :
    Map.wf (l.foldl (fun m p => Map.put m (key p) (f p)) m) = true ∧
      sumBy Prod.snd (l.foldl (fun m p => Map.put m (key p) (f p)) m) ≤ sumBy Prod.snd m + sumBy f l := by
  induction l generalizing m with
  | nil => exact ⟨hwf, Nat.le_refl _⟩
  | cons a l ih =>
    obtain ⟨hrest, hsum⟩ := ih (Map.wf_put (key a) (f a) hwf)
    have hput := Map.sum_put_le (key a) (f a) hwf
    rw [sumBy_cons]
    exact ⟨hrest, hsum.trans (by omega)⟩

/-- Of what is left, no more than all is given. -/
theorem sum_giveOne_le (bound : Nat → Nat) (fuel : Nat) (ks : List Nat) (left : Nat) (hwf : Map.wf m = true) :
    sumBy Prod.snd (giveOne bound fuel ks left m) ≤ sumBy Prod.snd m + left := by
  fun_induction giveOne bound fuel ks left m with
  | case1 => exact Nat.le_add_right _ _
  | case2 => exact Nat.le_add_right _ _
  | case3 => exact Nat.le_add_right _ _
  | case4 fuel k ks left got hleft n hbelow ih =>
    have hput := Map.sum_put k (n + 1) hwf
    have hrest := ih (Map.wf_put k (n + 1) hwf)
    have hn : Map.getD got k 0 = n := rfl
    omega
  | case5 fuel k ks left got hleft n hbound ih => exact ih hwf

end Tables

/-! ### The grants -/

section Grants
variable (d : Device) (c r : Nat)

/-- What the client's cap leaves over the sequences reported and those granted in the round before. -/
def seqSpare : Nat := odGetC d Od.CLIENT_MAX_SEQ c - (sumBy (fun p => p.2.1) (reportsOf d c) + issuedBefore d c r)

/-- The share of what is spare that a report's demand asks for. -/
def seqShare (p : Nat × Nat × Nat) : Nat := seqSpare d c r * p.2.2 / sumBy (fun p => p.2.2) (reportsOf d c)

/-- The table of the first shares: no more than is demanded. -/
def firstGrants : Map Nat :=
  ((reportsOf d c).filter (fun p => p.2.2 ≠ 0)).foldl (fun m p => Map.put m p.1 (min p.2.2 (seqShare d c r p))) []

theorem firstGrants_le : Map.wf (firstGrants d c r) = true ∧ sumBy Prod.snd (firstGrants d c r) ≤ seqSpare d c r := by
  obtain ⟨hwf, hsum⟩ := sum_foldl_put_le (m := []) (fun p : Nat × Nat × Nat => p.1)
    (fun p => min p.2.2 (seqShare d c r p)) ((reportsOf d c).filter (fun p => p.2.2 ≠ 0)) Map.wf_nil
  refine ⟨hwf, hsum.trans ?_⟩
  calc sumBy Prod.snd ([] : Map Nat) + sumBy _ ((reportsOf d c).filter (fun p => p.2.2 ≠ 0))
      = sumBy (fun p => min p.2.2 (seqShare d c r p)) ((reportsOf d c).filter (fun p => p.2.2 ≠ 0)) := Nat.zero_add _
    _ ≤ sumBy (seqShare d c r) ((reportsOf d c).filter (fun p => p.2.2 ≠ 0)) := sumBy_le _ fun p => Nat.min_le_right ..
    _ ≤ seqSpare d c r := sumBy_share_le _ _ (sumBy_filter_le (reportsOf d c) _)

/-- The grants of a round never exceed what the client's cap leaves (R134). -/
theorem sum_seqGrants_le : sumBy Prod.snd (seqGrants d c r) ≤ seqSpare d c r := by
  obtain ⟨hwf, hfirst⟩ := firstGrants_le d c r
  exact (sum_giveOne_le _ _ _ (seqSpare d c r - sumBy Prod.snd (firstGrants d c r)) hwf).trans (by omega)

theorem slicesFrom_perm (start : Nat) : (slicesFrom d start).Perm (onlineSlices d) := by
  have hrest : (onlineSlices d).filter (fun k => k < start) = (onlineSlices d).filter (fun k => !decide (start ≤ k)) :=
    List.filter_congr fun k _ => (decide_eq_decide.mpr Nat.not_le.symm).trans (decide_not ..)
  rw [slicesFrom, hrest]
  exact List.filter_append_perm ..

theorem onlineSlices_nodup : (onlineSlices d).Nodup := List.nodup_range.filter _

/-- Of the online slices, the first `n` in wrapping order are `n`. -/
theorem count_first_slices (start : Nat) {n : Nat} (hn : n ≤ (onlineSlices d).length) :
    ((onlineSlices d).filter (fun k => ((slicesFrom d start).take n).contains k)).length = n := by
  have hperm := slicesFrom_perm d start
  have hnodup : ((slicesFrom d start).take n).Nodup :=
    (hperm.nodup_iff.mpr (onlineSlices_nodup d)).sublist (List.take_sublist n _)
  have hsame : ((onlineSlices d).filter (fun k => ((slicesFrom d start).take n).contains k)).Perm
      ((slicesFrom d start).take n) := (List.perm_ext_iff_of_nodup ((onlineSlices_nodup d).filter _) hnodup).mpr fun k => by
    rw [List.mem_filter, List.contains_iff_mem]
    exact ⟨And.right, fun h => ⟨hperm.subset (List.mem_of_mem_take h), h⟩⟩
  rw [hsame.length_eq, List.length_take, hperm.length_eq, Nat.min_eq_left hn]

/-- The allowance of a round, the tokens a slice used in it, and the whole part of the allowance that these earn. -/
def tokAllowance : Nat := max 1 (odGetC d Od.CLIENT_MAX_TPS c / 10000)
def tokUse (k : Nat) : Nat := sumBy Folded.tok (d.agg.folded.filter (fun x => x.client = c && x.src = k))
def tokPart (k : Nat) : Nat :=
  if sumBy (tokUse d c) (onlineSlices d) = 0 then 0 else tokAllowance d c * tokUse d c k / sumBy (tokUse d c) (onlineSlices d)

/-- What the parts leave, and the slices that have one token more of it than the others. -/
def tokRest : Nat := tokAllowance d c - sumBy (tokPart d c) (onlineSlices d)
def tokExtra : List Nat := (slicesFrom d (r % d.ident.n)).take (tokRest d c % (onlineSlices d).length)

theorem tokGrants_eq : tokGrants d c r = (onlineSlices d).map (fun k =>
    (k, tokPart d c k + tokRest d c / (onlineSlices d).length + ofBool ((tokExtra d c r).contains k))) := rfl

theorem sum_tokPart_le : sumBy (tokPart d c) (onlineSlices d) ≤ tokAllowance d c := by
  refine (sumBy_le _ fun k => ?_).trans (sumBy_share_le (f := tokUse d c) (onlineSlices d) _ (Nat.le_refl _))
  unfold tokPart
  split
  · exact Nat.zero_le _
  · exact Nat.le_refl _

theorem sum_tokExtra (honline : onlineSlices d ≠ []) :
    sumBy (fun k => ofBool ((tokExtra d c r).contains k)) (onlineSlices d) = tokRest d c % (onlineSlices d).length := by
  rw [sumBy_ofBool]
  exact count_first_slices d _ (Nat.le_of_lt (Nat.mod_lt _ (List.length_pos_iff.mpr honline)))

/-- The token grants of a round add up to its allowance (R134). -/
theorem sum_tokGrants (honline : onlineSlices d ≠ []) : sumBy Prod.snd (tokGrants d c r) = tokAllowance d c := by
  rw [tokGrants_eq, sumBy_map]
  calc sumBy (fun k => tokPart d c k + tokRest d c / (onlineSlices d).length + ofBool ((tokExtra d c r).contains k))
        (onlineSlices d)
      = sumBy (tokPart d c) (onlineSlices d) + (onlineSlices d).length * (tokRest d c / (onlineSlices d).length) +
          tokRest d c % (onlineSlices d).length := by rw [sumBy_add, sumBy_add, sumBy_const, sum_tokExtra d c r honline]
    _ = sumBy (tokPart d c) (onlineSlices d) + tokRest d c := by rw [Nat.add_assoc, Nat.div_add_mod]
    _ = tokAllowance d c := Nat.add_sub_cancel' (sum_tokPart_le d c)

end Grants

end Sys2Proof.Machine
end

section
/-! The close of an accounting round (R134, R138): the aggregate entry of a client, the three passes over the clients'
records, the entries that leave, and the obligation O31 assembled from them. -/

namespace Sys2Proof.Machine

/-! ### Fields of records -/

section Fields
variable {hi lo hi' lo' v : Nat} {l : List (Nat × Nat × Nat)}

theorem testBit_bf (x hi lo j : Nat) : (bf x hi lo).testBit j = (decide (j < hi + 1 - lo) && x.testBit (lo + j)) := by
  rw [bf, Nat.testBit_mod_two_pow, Nat.testBit_shiftRight]

theorem testBit_fields_cons (hi lo v j : Nat) (l : List (Nat × Nat × Nat)) : (fields ((hi, lo, v) :: l)).testBit j =
    (decide (lo ≤ j) && (decide (j - lo < hi + 1 - lo) && v.testBit (j - lo)) || (fields l).testBit j) := by
  rw [fields, Nat.testBit_or, Nat.testBit_shiftLeft, Nat.testBit_mod_two_pow]

/-- A field elsewhere is not seen. -/
theorem bf_fields_cons_ne (h : hi < lo' ∨ hi' < lo) : bf (fields ((hi', lo', v) :: l)) hi lo = bf (fields l) hi lo := by
  refine Nat.eq_of_testBit_eq fun j => ?_
  rw [testBit_bf, testBit_bf, testBit_fields_cons]
  by_cases hj : j < hi + 1 - lo
  · have hout : (decide (lo' ≤ lo + j) && decide (lo + j - lo' < hi' + 1 - lo')) = false := by
      simp only [Bool.and_eq_false_iff, decide_eq_false_iff_not]
      omega
    rw [← Bool.and_assoc, hout, Bool.false_and, Bool.false_or]
  · simp [hj]

/-- A field that no later one overlaps reads as it was written, in its width. -/
theorem bf_fields_cons_same (h : bf (fields l) hi lo = 0) : bf (fields ((hi, lo, v) :: l)) hi lo = v % 2 ^ (hi + 1 - lo) := by
  refine Nat.eq_of_testBit_eq fun j => ?_
  have hrest : (decide (j < hi + 1 - lo) && (fields l).testBit (lo + j)) = false := by
    rw [← testBit_bf, h, Nat.zero_testBit]
  rw [testBit_bf, testBit_fields_cons, Nat.testBit_mod_two_pow, Nat.add_sub_cancel_left, Bool.and_or_distrib_left, hrest]
  simp

theorem bf_fields_nil (hi lo : Nat) : bf (fields []) hi lo = 0 := by simp [fields, bf]

theorem bit_eq_bf (x i : Nat) : bit x i = decide (bf x i i = 1) := by
  rw [bit, Nat.testBit_eq_decide_div_mod_eq, bf, Nat.shiftRight_eq_div_pow, Nat.add_sub_cancel_left, Nat.pow_one]

end Fields

/-! ### The aggregate entry of a client (R138) -/

section Entry
variable (a : Acct) (c sg tg r : Nat)

theorem client_aggregateBits (hc : c < 4096) : bf (aggregateBits a c sg tg r) 255 244 = c := by
  simp [aggregateBits, bf_fields_cons_ne, bf_fields_cons_same, bf_fields_nil, Nat.mod_eq_of_lt hc]

/-- The entry of a client's own record brings it its grants and leaves it, in its widths, as it was. -/
theorem applied_aggregateBits : a.applied (aggregateBits a c sg tg r) =
    { a with
      aggNs := a.aggNs % 2 ^ 64, aggBytes := a.aggBytes % 2 ^ 64, aggUj := a.aggUj % 2 ^ 64, vtime := a.vtime % 2 ^ 64
      seqGrant := sg % 2 ^ 17, tokGrant := tg % 2 ^ 24 } := by
  have hbool (b : Bool) : decide (ofBool b = 1) = b := by cases b <;> rfl
  have hmod (b : Bool) : ofBool b % 2 = ofBool b := by cases b <;> rfl
  simp [Acct.applied, aggregateBits, bit_eq_bf, bf_fields_cons_ne, bf_fields_cons_same, bf_fields_nil, hbool, hmod]

end Entry

/-- A client's record `b` has the entry, the remainder and, in its width, the virtual time of `a`. -/
structure Acct.SameEntry (a b : Acct) : Prop where
  bits : ∀ c sg tg r, aggregateBits b c sg tg r = aggregateBits a c sg tg r
  vrem : b.vrem = a.vrem
  active : b.active = a.active
  vtime : a.vtime < 2 ^ 64 → b.vtime = a.vtime

namespace Acct.SameEntry
variable {a b e : Acct}

theorem refl (a : Acct) : SameEntry a a := ⟨fun _ _ _ _ => rfl, rfl, rfl, fun _ => rfl⟩

theorem trans (hab : SameEntry a b) (hbe : SameEntry b e) : SameEntry a e where
  bits c sg tg r := (hbe.bits c sg tg r).trans (hab.bits c sg tg r)
  vrem := hbe.vrem.trans hab.vrem
  active := hbe.active.trans hab.active
  vtime h := (hbe.vtime ((hab.vtime h).symm ▸ h)).trans (hab.vtime h)

theorem applied (a : Acct) (c sg tg r : Nat) : SameEntry a (a.applied (aggregateBits a c sg tg r)) := by
  rw [applied_aggregateBits]
  exact ⟨fun c sg tg r => by simp [aggregateBits, fields], rfl, rfl, Nat.mod_eq_of_lt⟩

end Acct.SameEntry

/-! ### What the grants are taken from -/

/-- `e` has the reports, the folded deltas and the entries of the dictionary of `d`. -/
structure SameRound (d e : Device) : Prop where
  ident : e.ident = d.ident
  od : e.od = d.od
  reports : e.agg.reports = d.agg.reports
  closed : e.agg.closed = d.agg.closed
  folded : e.agg.folded = d.agg.folded

namespace SameRound
variable {d e f : Device}

theorem trans (hde : SameRound d e) (hef : SameRound e f) : SameRound d f :=
  ⟨hef.ident.trans hde.ident, hef.od.trans hde.od, hef.reports.trans hde.reports, hef.closed.trans hde.closed,
    hef.folded.trans hde.folded⟩

theorem of_onAcct (h : OnAcct d e) : SameRound d e :=
  ⟨h.ident, h.od, congrArg Aggregation.reports h.agg, congrArg Aggregation.closed h.agg, congrArg Aggregation.folded h.agg⟩

variable (h : SameRound d e)
include h

theorem odGet (i j : Nat) : odGet e i j = Machine.odGet d i j := odGet_od i j h.od h.ident

theorem odGetC (i c : Nat) : odGetC e i c = Machine.odGetC d i c := h.odGet ..

theorem onlineSlices : onlineSlices e = Machine.onlineSlices d := by
  simp only [Machine.onlineSlices, h.ident, h.odGet]

theorem reportsOf (c : Nat) : reportsOf e c = Machine.reportsOf d c := by
  simp only [Machine.reportsOf, h.reports, h.onlineSlices]

theorem tokGrants (c r : Nat) : tokGrants e c r = Machine.tokGrants d c r := by
  simp only [Machine.tokGrants, slicesFrom, h.odGetC, h.onlineSlices, h.folded, h.ident]

theorem seqGrants {c : Nat} (hprev : Map.find e.agg.prevGrants c = Map.find d.agg.prevGrants c) (r : Nat) :
    seqGrants e c r = Machine.seqGrants d c r := by
  simp only [Machine.seqGrants, issuedBefore, slicesFrom, Map.getD, hprev, h.odGetC, h.odGet, h.onlineSlices, h.reportsOf,
    h.reports, h.closed, h.ident]

end SameRound

/-! ### One client's entries -/

section Share
variable (seqs toks : Map Nat) (r c : Nat) (e : Device) (k : Nat)

/-- Slice `k` has its entry of a client: this slice takes it at once. -/
def shareEntry : Device :=
  let b := aggregateBits (e.client c) c (Map.getD seqs k 0) (Map.getD toks k 0) r
  if k = e.ident.index then applyEntry e b else sendXfer e k (.aggregate (BitVec.ofNat 512 b)) 64

theorem shareEntry_onAcct : OnAcct e (shareEntry seqs toks r c e k) := by
  unfold shareEntry
  simp only
  split
  · exact .modClient ..
  · exact .of_onPort (sendXfer_onPort ..)

theorem shareEntry_keepsSends : KeepsSends e (shareEntry seqs toks r c e k) := by
  unfold shareEntry
  simp only
  split
  · exact .of_eq rfl rfl
  · exact .sendXfer _ _ _ _

theorem shareEntry_sends (hk : k ≠ e.ident.index) : (shareEntry seqs toks r c e k).sends k
    (.aggregate (BitVec.ofNat 512 (aggregateBits (e.client c) c (Map.getD seqs k 0) (Map.getD toks k 0) r))) := by
  unfold shareEntry
  simp only [if_neg hk]
  exact sends_sendXfer ..

/-- An entry that is applied here changes no client's entry. -/
theorem shareEntry_sameEntry (hc : c < 4096) (x : Nat) :
    (e.client x).SameEntry ((shareEntry seqs toks r c e k).client x) := by
  unfold shareEntry
  simp only
  split
  · rw [applyEntry_eq, client_aggregateBits _ _ _ _ _ hc]
    by_cases hx : x = c
    · rw [hx, Device.modClient_client_same]
      exact .applied ..
    · rw [e.modClient_client_ne _ hx]
      exact .refl _
  · rw [client_of_onPort (sendXfer_onPort ..)]
    exact .refl _

end Share

section Client
variable (r : Nat) (d : Device) (c : Nat)

/-- The grants of one kind in a client's entries: none without a cap. -/
def cappedGrants (cap : Nat) (grants : Map Nat) : Map Nat := if odGetC d cap c = 0 then [] else grants

theorem getD_cappedGrants (cap : Nat) (grants : Map Nat) (k : Nat) : Map.getD (cappedGrants d c cap grants) k 0 =
    if decide (odGetC d cap c ≠ 0) = true then Map.getD grants k 0 else 0 := by
  unfold cappedGrants
  by_cases h : odGetC d cap c = 0
  · simp [h, Map.getD, Map.find]
  · simp [h]

/-- The client's sequence and token grants by slice. -/
def seqShares : Map Nat := cappedGrants d c Od.CLIENT_MAX_SEQ (seqGrants d c r)
def tokShares : Map Nat := cappedGrants d c Od.CLIENT_MAX_TPS (tokGrants d c r)

/-- The close has noted what it grants a client, and what it last sent of it. -/
def grantsNoted : Device := d.modAgg (fun g => { g with
  prevGrants := Map.put g.prevGrants c (sumBy Prod.snd (seqShares r d c))
  lastSent := Map.put g.lastSent c (aggregateBits (d.client c) c 0 0 0) })

theorem sendAggregate_eq : sendAggregate r d c =
    (List.range d.ident.n).foldl (shareEntry (seqShares r d c) (tokShares r d c) r c) (grantsNoted r d c) := rfl

theorem sendAggregate_onAcct : OnAcct (grantsNoted r d c) (sendAggregate r d c) :=
  OnAcct.foldl (fun e k _ => shareEntry_onAcct _ _ r c e k) _

theorem sendAggregate_sameRound : SameRound d (sendAggregate r d c) :=
  SameRound.trans (e := grantsNoted r d c) ⟨rfl, rfl, rfl, rfl, rfl⟩ (.of_onAcct (sendAggregate_onAcct r d c))

theorem sendAggregate_prevGrants_ne {x : Nat} (hx : x ≠ c) :
    Map.find (sendAggregate r d c).agg.prevGrants x = Map.find d.agg.prevGrants x := by
  rw [(sendAggregate_onAcct r d c).agg]
  exact Map.find_put_ne _ _ hx

theorem sendAggregate_keepsSends : KeepsSends d (sendAggregate r d c) :=
  KeepsSends.trans (e := grantsNoted r d c) (.of_eq rfl rfl)
    (.foldl (fun e k => shareEntry_keepsSends _ _ r c e k) _ _)

theorem sendAggregate_sameEntry (hc : c < 4096) (x : Nat) : (d.client x).SameEntry ((sendAggregate r d c).client x) :=
  List.foldlRecOn _ (shareEntry (seqShares r d c) (tokShares r d c) r c)
    (motive := fun e : Device => (d.client x).SameEntry (e.client x)) (.refl _) fun e he k _ =>
      he.trans (shareEntry_sameEntry _ _ r c e k hc x)

/-- Every other slice has its entry. -/
theorem sendAggregate_sends (hc : c < 4096) {k : Nat} (hk : k < d.ident.n) (hother : k ≠ d.ident.index) :
    (sendAggregate r d c).sends k (.aggregate (BitVec.ofNat 512
      (aggregateBits (d.client c) c (Map.getD (seqShares r d c) k 0) (Map.getD (tokShares r d c) k 0) r))) :=
  foldl_of_turn (step := shareEntry (seqShares r d c) (tokShares r d c) r c)
    (P := fun e => OnAcct (grantsNoted r d c) e ∧ (d.client c).SameEntry (e.client c)) List.nodup_range (List.mem_range.mpr hk)
    (fun e j _ _ he => ⟨he.1.trans (shareEntry_onAcct _ _ r c e j), he.2.trans (shareEntry_sameEntry _ _ r c e j hc c)⟩)
    (fun e he => by
      have hsent := shareEntry_sends (seqShares r d c) (tokShares r d c) r c e k (he.1.ident ▸ hother)
      rwa [he.2.bits] at hsent)
    (fun e j _ _ he => shareEntry_keepsSends _ _ r c e j _ _ he) ⟨.refl _, .refl _⟩

end Client

/-! ### The entries of all clients -/

section AllClients
variable {r : Nat} {d : Device} {l : List Nat}

theorem sendAggregates_sameEntry (hl : ∀ c ∈ l, c < 4096) (x : Nat) :
    (d.client x).SameEntry ((l.foldl (sendAggregate r) d).client x) :=
  List.foldlRecOn l (sendAggregate r) (motive := fun e : Device => (d.client x).SameEntry (e.client x)) (.refl _)
    fun e he c hc => he.trans (sendAggregate_sameEntry r e c (hl c hc) x)

/-- Before a client's turn its grants of the round before stand as they were, so that its entries are those that the slice
gave before any client's turn. -/
theorem sendAggregates_sends (hnodup : l.Nodup) (hl : ∀ c ∈ l, c < 4096) {c : Nat} (hc : c ∈ l) {k : Nat}
    (hk : k < d.ident.n) (hother : k ≠ d.ident.index) : (l.foldl (sendAggregate r) d).sends k (.aggregate (BitVec.ofNat 512
      (aggregateBits (d.client c) c (Map.getD (seqShares r d c) k 0) (Map.getD (tokShares r d c) k 0) r))) :=
  foldl_of_turn (step := sendAggregate r) (P := fun e => SameRound d e ∧ (d.client c).SameEntry (e.client c) ∧
      Map.find e.agg.prevGrants c = Map.find d.agg.prevGrants c) hnodup hc
    (fun e b hb hne ⟨hround, hentry, hprev⟩ => ⟨hround.trans (sendAggregate_sameRound r e b),
      hentry.trans (sendAggregate_sameEntry r e b (hl b hb) c), (sendAggregate_prevGrants_ne r e b hne.symm).trans hprev⟩)
    (fun e ⟨hround, hentry, hprev⟩ => by
      have hseq : seqShares r e c = seqShares r d c := by
        rw [seqShares, cappedGrants, hround.odGetC, hround.seqGrants hprev, seqShares, cappedGrants]
      have htok : tokShares r e c = tokShares r d c := by
        rw [tokShares, cappedGrants, hround.odGetC, hround.tokGrants, tokShares, cappedGrants]
      have hsent := sendAggregate_sends r e c (hl c hc) (hround.ident ▸ hk) (hround.ident ▸ hother)
      rwa [hseq, htok, hentry.bits] at hsent)
    (fun e b _ _ he => sendAggregate_keepsSends r e b _ _ he) ⟨⟨rfl, rfl, rfl, rfl, rfl⟩, .refl _, rfl⟩

end AllClients

/-! ### The passes over the clients' records -/

section Passes
variable (d : Device) (c : Nat)

/-- The engine time of a client in the round. -/
def roundNs : Nat := sumBy Folded.ns (d.agg.folded.filter (fun x => x.client = c))

/-- The client is active by the reports of the round. -/
def roundActive : Bool := (reportsOf d c).any (fun p => p.2.1 ≠ 0 || p.2.2 ≠ 0)

/-- The record of a client after `ns` of engine time at weight `w`. -/
def Acct.timed (a : Acct) (ns w : Nat) : Acct :=
  if ns = 0 then a
  else { a with vtime := (a.vtime + (ns * 65536 + a.vrem) / w) % 2 ^ 64, vrem := (ns * 65536 + a.vrem) % w }

/-- The passes of a close, at one client: its engine time, its ACTIVE, and the least virtual time taken off. -/
def passTime (e : Device) (c : Nat) : Device := if roundNs e c = 0 then e else foldTime e c (roundNs e c)
def passActive (e : Device) (c : Nat) : Device := e.modClient c (fun a => { a with active := roundActive e c })
def passRebase (vmin : Nat) (e : Device) (c : Nat) : Device :=
  e.modClient c (fun a => { a with vtime := min (2 ^ 48) (a.vtime - vmin) })

/-- The slice after the first pass, after the second, and after all three with the least virtual time between. -/
def timedDev : Device := (roundClients d).foldl passTime d
def activeDev : Device := (roundClients d).foldl passActive (timedDev d)
def leastVtime : Nat :=
  (((roundClients d).filter (fun c => ((activeDev d).client c).active)).map
    (fun c => ((activeDev d).client c).vtime)).min?.getD 0
def rebasedDev : Device := (roundClients d).foldl (passRebase (leastVtime d)) (activeDev d)

theorem roundClients_nodup : (roundClients d).Nodup := nodup_sortBy_dedup _ _

theorem timedDev_clients : OnAcct d (timedDev d) ∧ ∀ c, (timedDev d).client c =
    if c ∈ roundClients d then (d.client c).timed (roundNs d c) (wEff d c) else d.client c := by
  refine foldl_client (step := passTime) (g := fun c a => a.timed (roundNs d c) (wEff d c)) (roundClients_nodup d)
    (fun e _ c => ?frame) (fun e he c => ?same) (fun e _ c x hx => ?other)
  case frame =>
    unfold passTime
    split
    · exact .refl e
    · exact .modClient ..
  case same =>
    have hns : roundNs e c = roundNs d c := by rw [roundNs, he.agg, roundNs]
    have hweight : wEff e c = wEff d c := by rw [wEff, odGetC, he.odGet, wEff, odGetC]
    rw [passTime, Acct.timed, hns]
    split
    · rfl
    · rw [foldTime, Device.modClient_client_same, hweight]
  case other =>
    unfold passTime
    split
    · rfl
    · exact e.modClient_client_ne _ hx

theorem activeDev_clients : OnAcct (timedDev d) (activeDev d) ∧ ∀ c, (activeDev d).client c =
    if c ∈ roundClients d then { (timedDev d).client c with active := roundActive (timedDev d) c }
    else (timedDev d).client c :=
  foldl_client (step := passActive) (g := fun c a => { a with active := roundActive (timedDev d) c }) (roundClients_nodup d)
    (fun _ _ _ => .modClient ..)
    (fun e he c => by rw [passActive, Device.modClient_client_same, roundActive, (SameRound.of_onAcct he).reportsOf, roundActive])
    (fun e _ c x hx => e.modClient_client_ne _ hx)

theorem rebasedDev_clients : OnAcct (activeDev d) (rebasedDev d) ∧ ∀ c, (rebasedDev d).client c =
    if c ∈ roundClients d then
      { (activeDev d).client c with vtime := min (2 ^ 48) (((activeDev d).client c).vtime - leastVtime d) }
    else (activeDev d).client c :=
  foldl_client (step := passRebase (leastVtime d))
    (g := fun _ a => { a with vtime := min (2 ^ 48) (a.vtime - leastVtime d) }) (roundClients_nodup d)
    (fun _ _ _ => .modClient ..) (fun _ _ _ => Device.modClient_client_same ..) (fun e _ _ _ hx => e.modClient_client_ne _ hx)

/-- The virtual time of a client after the round's engine time. -/
def vtimeAfter : Nat := ((d.client c).timed (roundNs d c) (wEff d c)).vtime

variable {d c}

theorem activeDev_client (hc : c ∈ roundClients d) : (activeDev d).client c =
    { (d.client c).timed (roundNs d c) (wEff d c) with active := roundActive d c } := by
  obtain ⟨hframe, htimed⟩ := timedDev_clients d
  obtain ⟨-, hactive⟩ := activeDev_clients d
  rw [hactive c, if_pos hc, htimed c, if_pos hc, roundActive, (SameRound.of_onAcct hframe).reportsOf, roundActive]

theorem leastVtime_eq : leastVtime d = (((roundClients d).filter (roundActive d)).map (vtimeAfter d)).min?.getD 0 := by
  have hactive : (roundClients d).filter (fun c => ((activeDev d).client c).active) = (roundClients d).filter (roundActive d) :=
    List.filter_congr fun c hc => by rw [activeDev_client hc]
  have hvtime : ((roundClients d).filter (roundActive d)).map (fun c => ((activeDev d).client c).vtime) =
      ((roundClients d).filter (roundActive d)).map (vtimeAfter d) :=
    List.map_congr_left fun c hc => by
      rw [activeDev_client (List.mem_of_mem_filter hc)]
      rfl
  rw [leastVtime, hactive, hvtime]

/-- The record of a client after the three passes. -/
theorem rebasedDev_client (hc : c ∈ roundClients d) : (rebasedDev d).client c =
    { (d.client c).timed (roundNs d c) (wEff d c) with
      active := roundActive d c, vtime := min (2 ^ 48) (vtimeAfter d c - leastVtime d) } := by
  obtain ⟨-, hrebased⟩ := rebasedDev_clients d
  rw [hrebased c, if_pos hc, activeDev_client hc]
  rfl

theorem rebasedDev_onAcct : OnAcct d (rebasedDev d) :=
  ((timedDev_clients d).1.trans (activeDev_clients d).1).trans (rebasedDev_clients d).1

end Passes

/-! ### The close -/

section Close
variable {d : Device} {c : Nat}

theorem aggRoundClose_of_not_due (h : d.tick % 100 ≠ 40 ∨ isAggregator d = false ∨ d.agg.closed = some (roundOf d)) :
    aggRoundClose d = d := by
  rcases h with h | h | h <;> simp [aggRoundClose, h]

/-- The clients whose entries a close sends, and the slice that has sent them. -/
def closeClients (d : Device) : List Nat := (roundClients d).filter (aggregateDue (rebasedDev d))
def entriesSent (d : Device) : Device := (closeClients d).foldl (sendAggregate (roundOf d)) (rebasedDev d)

/-- Round `r` is closed and applied here. -/
def closeNoted (e : Device) (r : Nat) : Device := (roundApplied e r).modAgg (fun g => { g with
  folded := [], closed := some r, prevGrants := g.prevGrants.filter (fun p => odGetC e Od.CLIENT_MAX_SEQ p.1 ≠ 0) })

theorem closeNoted_client (e : Device) (r c : Nat) : (closeNoted e r).client c = e.client c := rfl

theorem closeNoted_keepsSends (e : Device) (r : Nat) : KeepsSends e (closeNoted e r) := .of_eq rfl rfl

/-- What a close makes of a slice that aggregates. -/
def roundClosed (d : Device) : Device := closeNoted (entriesSent d) (roundOf d)

theorem aggRoundClose_of_due (htick : d.tick % 100 = 40) (hagg : isAggregator d = true)
    (hopen : d.agg.closed ≠ some (roundOf d)) : aggRoundClose d = roundClosed d := by
  have hnot : ¬ (decide (d.tick % 100 ≠ 40) || !isAggregator d || decide (d.agg.closed = some (roundOf d))) = true := by
    simp [htick, hagg, hopen]
  rw [aggRoundClose, if_neg hnot]
  rfl

variable (hsmall : ∀ c ∈ roundClients d, c < 4096)
include hsmall

theorem closeClients_lt : ∀ c ∈ closeClients d, c < 4096 := fun c hc => hsmall c (List.mem_of_mem_filter hc)

theorem roundClosed_sameEntry (c : Nat) : ((rebasedDev d).client c).SameEntry ((roundClosed d).client c) := by
  rw [roundClosed, closeNoted_client]
  exact sendAggregates_sameEntry (closeClients_lt hsmall) c

/-- A client that is capped or whose entry has changed has its entries sent to the other slices. -/
theorem roundClosed_sends (hc : c ∈ roundClients d) (hdue : odGetC d Od.CLIENT_MAX_SEQ c ≠ 0 ∨
      odGetC d Od.CLIENT_MAX_TPS c ≠ 0 ∨ Map.find d.agg.lastSent c ≠ some (aggregateBits ((roundClosed d).client c) c 0 0 0))
    {k : Nat} (hk : k < d.ident.n) (hother : k ≠ d.ident.index) :
    (roundClosed d).sends k (.aggregate (BitVec.ofNat 512 (aggregateBits ((roundClosed d).client c) c
      (Map.getD (seqShares (roundOf d) d c) k 0) (Map.getD (tokShares (roundOf d) d c) k 0) (roundOf d)))) := by
  have hround : SameRound d (rebasedDev d) := .of_onAcct rebasedDev_onAcct
  have hagg : (rebasedDev d).agg = d.agg := rebasedDev_onAcct.agg
  have hentry := roundClosed_sameEntry hsmall c
  have hmem : c ∈ closeClients d := List.mem_filter.mpr ⟨hc, by
    rw [hentry.bits] at hdue
    simpa [aggregateDue, hround.odGetC, hagg, or_assoc] using hdue⟩
  have hsent := sendAggregates_sends (r := roundOf d) ((roundClients_nodup d).filter _) (closeClients_lt hsmall) hmem
    (k := k) (hround.ident ▸ hk) (hround.ident ▸ hother)
  rw [seqShares, cappedGrants, hround.odGetC, hround.seqGrants (by rw [hagg]), tokShares, cappedGrants, hround.odGetC,
    hround.tokGrants, ← hentry.bits] at hsent
  exact closeNoted_keepsSends (entriesSent d) (roundOf d) _ _ hsent

end Close

/-! ### The obligation -/

theorem answers_aggRoundClose {s : State} (hready : fyReady s.dev = true) : Answers .aggRoundClose s (aggRoundClose s.dev) :=
  answers_of_whenReady aggRoundClose hready rfl

theorem timed_vrem (a : Acct) (ns w : Nat) : (a.timed ns w).vrem = if ns = 0 then a.vrem else (ns * 65536 + a.vrem) % w := by
  unfold Acct.timed
  split <;> rfl

theorem timed_vtime (a : Acct) (ns w : Nat) :
    (a.timed ns w).vtime = if ns = 0 then a.vtime else (a.vtime + (ns * 65536 + a.vrem) / w) % 2 ^ 64 := by
  unfold Acct.timed
  split <;> rfl

/-- Settles O31: the close is `roundClosed`, whose records `rebasedDev_client` gives up to `roundClosed_sameEntry` and
whose entries `roundClosed_sends` gives; the grants are bounded by `sum_seqGrants_le` and add up by `sum_tokGrants`. -/
theorem roundCloseFoldsAndGrants : Obligations.RoundCloseFoldsAndGrants := by
  refine ⟨fun s hready => ⟨fun hnot => ?notDue, fun htick hagg hopen hsmall => ?closed⟩,
    fun d c r => ⟨sum_seqGrants_le d c r, sum_tokGrants d c r⟩⟩
  case notDue => exact aggRoundClose_of_not_due hnot ▸ answers_aggRoundClose hready
  case closed =>
    intro ns x v active vmin
    have hrun := answers_aggRoundClose hready
    rw [aggRoundClose_of_due htick hagg hopen] at hrun
    have hv : vtimeAfter s.dev = v := funext fun c => timed_vtime ..
    have hvmin : leastVtime s.dev = vmin := by
      rw [leastVtime_eq, hv]
      rfl
    refine ⟨_, hrun, rfl, rfl, rfl, rfl, fun c hc => ?_⟩
    have hentry := roundClosed_sameEntry hsmall c
    rw [rebasedDev_client hc, hvmin, hv] at hentry
    refine ⟨hentry.vrem.trans (timed_vrem ..), hentry.active, hentry.vtime ?_, fun hdue k hk hother => ?_⟩
    · exact Nat.lt_of_le_of_lt (Nat.min_le_left ..) (by decide)
    · have hsent := roundClosed_sends hsmall hc (by simpa using hdue) hk hother
      rwa [seqShares, getD_cappedGrants, tokShares, getD_cappedGrants] at hsent

end Sys2Proof.Machine
end

section
/-! Work lists in the window (R34, R37, R136, R168): what the write of an entry leaves in the window, what a
tile's fetch returns and charges, and the obligation O22 assembled from these. -/

namespace Sys2Proof.Machine

/-! ### Bytes of the window -/

theorem length_leBytes (x n : Nat) : (leBytes x n).length = n := by
  induction n generalizing x with
  | zero => rfl
  | succ n ih => simp [leBytes, ih]

theorem getElem?_leBytes {x n k : Nat} (hk : k < n) : (leBytes x n)[k]? = some (BitVec.ofNat 8 (x >>> (8 * k))) := by
  induction n generalizing x k with
  | zero => exact nomatch hk
  | succ n ih =>
    cases k with
    | zero => rfl
    | succ k =>
      rw [leBytes, List.getElem?_cons_succ, ih (Nat.lt_of_succ_lt_succ hk), ← Nat.shiftRight_add, Nat.mul_succ, Nat.add_comm]

/-- A byte inside those written reads as written. -/
theorem Memory.read_writeBytes_inside {m : Memory} {a k : Nat} {bs : List Byte} {b : Byte} (hwf : Memory.wf m = true)
    (hb : bs[k]? = some b) : Memory.read (Memory.writeBytes m a bs) (a + k) = b := by
  induction bs generalizing m a k with
  | nil => exact nomatch hb
  | cons c bs ih =>
    rw [Memory.writeBytes]
    cases k with
    | zero =>
      obtain rfl : c = b := Option.some.inj hb
      exact (Memory.read_writeBytes_outside _ _ _ _ (.inl (Nat.lt_add_one a))).trans
        (Memory.read_write_same a c ((Memory.wf_iff m).mp hwf).1)
    | succ k =>
      rw [Nat.add_comm k 1, ← Nat.add_assoc]
      exact ih (Memory.wf_write a c hwf) hb

/-! ### The write of an entry (R168) -/

theorem writeEntry_window (d : Device) (g off : Nat) (x : WlEntry) :
    (writeEntry d g off x).window = Memory.writeBytes d.window off (leBytes x.bits 64) := by
  rw [writeEntry, cvcPass_eq]

/-- Beside the window, the write of an entry reaches the check value channels. -/
theorem writeEntry_eq (d : Device) (g off : Nat) (x : WlEntry) :
    writeEntry d g off x = { d with window := (writeEntry d g off x).window, cvc := (writeEntry d g off x).cvc } := by
  rw [writeEntry, cvcPass_eq]

/-! ### A tile's fetch (R34, R136) -/

/-- `e` is `d` but for records of clients. -/
def AcctOnly (d e : Device) : Prop := e = { d with acct := e.acct }

namespace AcctOnly
variable {d e f : Device}

theorem refl (d : Device) : AcctOnly d d := rfl

theorem trans (hde : AcctOnly d e) (hef : AcctOnly e f) : AcctOnly d f :=
  Eq.trans hef (congrArg (fun g : Device => { g with acct := f.acct }) hde)

theorem entryAt (h : AcctOnly d e) (off : Nat) : entryAt e off = Machine.entryAt d off := by
  rw [h]
  rfl

end AcctOnly

theorem chargeFetch_acctOnly (d : Device) (off : Nat) : AcctOnly d (chargeFetch d off) := by
  unfold chargeFetch
  split <;> rfl

/-- The charge of an entry fetched, whose client is looked up in `d0`. -/
def chargeNamed (d0 : Device) (off : Nat) (d : Device) (k : Nat) : Device :=
  match entryAt d0 (off + 64 * k) with
  | some w => chargeBytes d w.client 64
  | none => d

/-- Charges name no entry anew, so each entry's client stands before the first of them. -/
theorem foldl_chargeFetch {d0 : Device} (off : Nat) (ks : List Nat) {d : Device} (h : AcctOnly d0 d) :
    ks.foldl (fun d k => chargeFetch d (off + 64 * k)) d = ks.foldl (chargeNamed d0 off) d ∧
      AcctOnly d0 (ks.foldl (chargeNamed d0 off) d) := by
  induction ks generalizing d with
  | nil => exact ⟨rfl, h⟩
  | cons k ks ih =>
    have hstep : chargeFetch d (off + 64 * k) = chargeNamed d0 off d k := by
      rw [chargeFetch, h.entryAt]
      rfl
    rw [List.foldl_cons, List.foldl_cons, hstep]
    exact ih (hstep ▸ h.trans (chargeFetch_acctOnly d _))

/-- A fetch of whole entries inside the window is served. -/
theorem workListFetch_of_whole {d : Device} {off n : Nat} (hoff : off % 64 = 0) (hn : n % 64 = 0) (hleast : 64 ≤ n)
    (hmost : n ≤ 4096) (hend : off + n ≤ 0x400000) : workListFetch d off n =
      emit (whenReady d (fun d => (List.range (n / 64)).foldl (fun d i => chargeFetch d (off + 64 * i)) d))
        (.fabt false (if fyReady d then ofLe (Memory.readBytes d.window off n) else 0)) := by
  have hwhole : ¬ (off % 64 ≠ 0 || n % 64 ≠ 0 || n < 64 || 4096 < n || 0x400000 < off + n) = true := by
    simp [hoff, hn, hleast, hmost, hend]
  rw [workListFetch, if_neg hwhole]

theorem answers_workListFetch {s : State} (off n : Nat) (hpresent : fyPresent s.dev = true) :
    Answers (.workListFetch off n) s (workListFetch s.dev off n) := by
  have hrun : exec (.workListFetch off n) s = next s (whenPresent s.dev (workListFetch · off n)) := rfl
  rwa [whenPresent_true hpresent] at hrun

/-! ### The obligation -/

/-- Settles O22: the window after a write is `writeEntry_window`, whose bytes `Memory.read_writeBytes_inside` and its
siblings give; the charges of a fetch are `foldl_chargeFetch`. -/
theorem workListsAreWrittenAndRead : Obligations.WorkListsAreWrittenAndRead := by
  refine ⟨fun d g off x hwf => ?written, fun s off n hpresent hoff hn hleast hmost hend =>
    ⟨fun hearly => ?early, fun hready => ?fetched⟩⟩
  case written =>
    refine ⟨fun k hk => ?_, fun a ha => ?_, ?_, writeEntry_eq d g off x⟩
    · rw [writeEntry_window]
      exact Memory.read_writeBytes_inside hwf (getElem?_leBytes hk)
    · rw [writeEntry_window]
      exact Memory.read_writeBytes_outside _ _ _ _ (by rwa [length_leBytes])
    · rw [writeEntry_window]
      exact Memory.wf_writeBytes _ _ hwf
  case early =>
    have hrun := answers_workListFetch off n hpresent
    rw [workListFetch_of_whole hoff hn hleast hmost hend] at hrun
    simpa [whenReady, hearly] using hrun
  case fetched =>
    have hrun := answers_workListFetch off n hpresent
    obtain ⟨hfold, honly⟩ := foldl_chargeFetch off (List.range (n / 64)) (AcctOnly.refl s.dev)
    rw [workListFetch_of_whole hoff hn hleast hmost hend, whenReady_true hready, hfold, if_pos hready, honly] at hrun
    exact ⟨_, hrun, rfl⟩

end Sys2Proof.Machine
end

section
/-! Warm-up, energy correction and switching rates (R165, R190, R198): what each of their commands does, case by case,
and the obligation O35 assembled from these cases. -/

namespace Sys2Proof.Machine

/-! ### Warm-up (R198) -/

section Warmup
variable {d : Device} {g sl t : Nat} {l : Load}

theorem warmupDone_of_due (hload : loadInto d g sl = some l) (hdone : l.doneCyc = some t)
    (hdue : warmAt d l.version t ≤ d.clk.rootcyc) :
    warmupDone d g sl = d.modGroup g (fun r => { r with loads := r.loads.filter (fun x => x.slot ≠ sl) }) := by
  simp only [warmupDone, hload, hdone, if_pos hdue]

theorem warmupDone_of_not_due (hload : loadInto d g sl = some l) (hdone : l.doneCyc = some t)
    (hearly : d.clk.rootcyc < warmAt d l.version t) : warmupDone d g sl = d := by
  simp only [warmupDone, hload, hdone, if_neg (Nat.not_le.mpr hearly)]

end Warmup

/-! ### Energy correction (R165) -/

theorem Map.find_mapEntries {α β : Type} (m : Map α) (f : Nat × α → β) (k : Nat) :
    Map.find (m.map (fun p => (p.1, f p)) : Map β) k = (Map.find m k).map (fun a => f (k, a)) := by
  induction m with
  | nil => rfl
  | cons p m ih =>
    simp only [List.map_cons, Map.find]
    split
    · next heq => rw [← heq, Option.map_some]
    · exact ih

/-- A group at a TICK that is a multiple of 100: K moves by a quarter where 1,000 µJ or more were predicted, and both
sums start anew. -/
def Group.corrected (r : Group) : Group :=
  { r with
    k := if r.eRaw < 1000 then r.k else (3 * r.k + max 128 (min 512 (256 * r.eMeas / r.eRaw))) / 4
    eMeas := 0, eRaw := 0 }

theorem Group.corrected_eq (r : Group) : r.corrected =
    { r with
      k := if 1000 ≤ r.eRaw then (3 * r.k + max 128 (min 512 (256 * r.eMeas / max 1 r.eRaw))) / 4 else r.k
      eMeas := 0, eRaw := 0 } := by
  unfold Group.corrected
  rcases Nat.lt_or_ge r.eRaw 1000 with hfew | hmany
  · rw [if_pos hfew, if_neg (Nat.not_le.mpr hfew)]
  · rw [if_neg (Nat.not_lt.mpr hmany), if_pos hmany, Nat.max_eq_right (Nat.le_trans (by decide) hmany)]

theorem energyCorr_of_tick {d : Device} (htick : d.tick % 100 = 0) :
    energyCorr d = { d with groups := d.groups.map (fun p => (p.1, p.2.corrected)) } := by
  simp only [energyCorr, htick, Group.corrected_eq, ne_eq, not_true_eq_false, if_false]

theorem energyCorr_of_not_tick {d : Device} (htick : d.tick % 100 ≠ 0) : energyCorr d = d := if_pos htick

/-! ### Switching rates (R190) -/

/-- The rate of an entry after a sample of `bytes` moved in 100 TICK. -/
def sampledRate (d : Device) (entry bytes : Nat) (busy : Bool) : Nat :=
  if busy then (7 * odGet d entry 0 + bytes / 100) / 8 else odGet d entry 0

section Rates
variable {d : Device} {entry other bytes : Nat} {busy : Bool}

theorem rateSample_frame (d : Device) (entry bytes : Nat) (busy : Bool) :
    rateSample d entry bytes busy = { d with od := (rateSample d entry bytes busy).od } := by
  unfold rateSample
  split <;> rfl

theorem rateSample_wf (h : Map.wf d.od = true) : Map.wf (rateSample d entry bytes busy).od = true := by
  unfold rateSample
  split
  · exact odSet_wf h
  · exact h

theorem odGet_rateSample_same (h : Map.wf d.od = true) :
    odGet (rateSample d entry bytes busy) entry 0 = sampledRate d entry bytes busy := by
  unfold rateSample sampledRate
  split
  · exact odGet_odSet d h
  · rfl

theorem odGet_rateSample_ne (h : entry ≠ other) :
    odGet (rateSample d entry bytes busy) other 0 = odGet d other 0 := by
  unfold rateSample
  split
  · exact odGet_odSet_ne d (by simpa [odKey] using h)
  · rfl

/-- A sample of one rate goes by none of the others. -/
theorem sampledRate_rateSample_ne {bytes' : Nat} {busy' : Bool} (h : entry ≠ other) :
    sampledRate (rateSample d entry bytes busy) other bytes' busy' = sampledRate d other bytes' busy' := by
  rw [sampledRate, odGet_rateSample_ne h, sampledRate]

end Rates

/-- The three rates sampled one after another. -/
def ratesSampled (d : Device) : Device :=
  rateSample (rateSample (rateSample d Od.SWITCH_B_DEMOTE_MBPS d.ctx.moved.1 d.ctx.busyAll.1)
    Od.SWITCH_B_PROMOTE_MBPS d.ctx.moved.2.1 d.ctx.busyAll.2.1) Od.SWITCH_B_WEIGHTS_MBPS d.ctx.moved.2.2 d.ctx.busyAll.2.2

theorem ratesSampled_frame (d : Device) : ratesSampled d = { d with od := (ratesSampled d).od } := by
  unfold ratesSampled
  rw [rateSample_frame (rateSample _ _ _ _), rateSample_frame (rateSample _ _ _ _), rateSample_frame d]

section Sampled
variable {d : Device} (h : Map.wf d.od = true)
include h

theorem odGet_ratesSampled_demote : odGet (ratesSampled d) Od.SWITCH_B_DEMOTE_MBPS 0 =
    sampledRate d Od.SWITCH_B_DEMOTE_MBPS d.ctx.moved.1 d.ctx.busyAll.1 := by
  rw [ratesSampled, odGet_rateSample_ne (by decide), odGet_rateSample_ne (by decide), odGet_rateSample_same h]

theorem odGet_ratesSampled_promote : odGet (ratesSampled d) Od.SWITCH_B_PROMOTE_MBPS 0 =
    sampledRate d Od.SWITCH_B_PROMOTE_MBPS d.ctx.moved.2.1 d.ctx.busyAll.2.1 := by
  rw [ratesSampled, odGet_rateSample_ne (by decide), odGet_rateSample_same (rateSample_wf h),
    sampledRate_rateSample_ne (by decide)]

theorem odGet_ratesSampled_weights : odGet (ratesSampled d) Od.SWITCH_B_WEIGHTS_MBPS 0 =
    sampledRate d Od.SWITCH_B_WEIGHTS_MBPS d.ctx.moved.2.2 d.ctx.busyAll.2.2 := by
  rw [ratesSampled, odGet_rateSample_same (rateSample_wf (rateSample_wf h)), sampledRate_rateSample_ne (by decide),
    sampledRate_rateSample_ne (by decide)]

end Sampled

theorem switchSample_of_tick {d : Device} (htick : d.tick % 100 = 0) : switchSample d =
    (ratesSampled d).modCtx (fun c => { c with moved := (0, 0, 0), busyAll := (false, false, false) }) := by
  rw [switchSample, if_neg (not_not.mpr htick)]
  rfl

theorem switchSample_of_not_tick {d : Device} (htick : d.tick % 100 ≠ 0) : switchSample d = d := if_pos htick

/-! ### The obligation -/

section Ready
variable {s : State} (hready : fyReady s.dev = true)
include hready

theorem settles_modelWarmupDone (g sl : Nat) : Settles (.modelWarmupDone g sl) s (warmupDone s.dev g sl) :=
  settles_of_whenReady (warmupDone · g sl) hready rfl

theorem answers_energyCorrUpdate : Answers .energyCorrUpdate s (energyCorr s.dev) :=
  answers_of_whenReady energyCorr hready rfl

theorem answers_switchRateSample : Answers .switchRateSample s (switchSample s.dev) :=
  answers_of_whenReady switchSample hready rfl

end Ready

/-- Settles O35: the warm-up by `warmupDone_of_due`, the correction by `energyCorr_of_tick`, the rates by the three
lemmas about `ratesSampled`. -/
theorem warmUpAndMeasuredRates : Obligations.WarmUpAndMeasuredRates := by
  refine fun s g sl hready => ⟨fun l t hload hdone => ⟨fun hdue => ?warm, fun hearly => ?notWarm⟩,
    fun htick => ⟨?noCorrection, ?noSample⟩, fun htick => ⟨?corrected, ?sampled⟩⟩
  case warm => exact warmupDone_of_due hload hdone hdue ▸ settles_modelWarmupDone hready g sl
  case notWarm =>
    exact answers_self_of_settles (settles_modelWarmupDone hready g sl) (warmupDone_of_not_due hload hdone hearly)
  case noCorrection => simpa only [energyCorr_of_not_tick htick] using answers_energyCorrUpdate hready
  case noSample => simpa only [switchSample_of_not_tick htick] using answers_switchRateSample hready
  case corrected =>
    have hrun := answers_energyCorrUpdate hready
    rw [energyCorr_of_tick htick] at hrun
    exact ⟨_, hrun, rfl, fun h r hr =>
      (Map.find_mapEntries _ (fun p : Nat × Group => p.2.corrected) h).trans (congrArg (Option.map Group.corrected) hr)⟩
  case sampled =>
    have hrun := answers_switchRateSample hready
    rw [switchSample_of_tick htick, ratesSampled_frame] at hrun
    exact ⟨_, hrun, rfl, rfl, fun hwf => ⟨odGet_ratesSampled_demote hwf, odGet_ratesSampled_promote hwf,
      odGet_ratesSampled_weights hwf⟩⟩

end Sys2Proof.Machine
end

section
/-! What the operations on sequences, pages, completions and in-flight commands leave of the groups: everything. One
lemma for each operation that is not a plain update of another table, in the order in which they call each other. -/

namespace Sys2Proof.Machine

theorem OnPort.groups {d e : Device} (h : OnPort d e) : e.groups = d.groups := (congrArg Device.groups h).trans rfl

theorem foldl_groups {α : Type} {step : Device → α → Device} (hstep : ∀ d x, (step d x).groups = d.groups) (l : List α)
    (d : Device) : (l.foldl step d).groups = d.groups :=
  List.foldlRecOn l step (motive := fun e => e.groups = d.groups) rfl fun e he x _ => (hstep e x).trans he

/-! ### Ports and snoop points -/

@[simp] theorem fabiWrite_groups (d : Device) (kind : FabiKind) (addr len data : Nat) :
    (fabiWrite d kind addr len data).groups = d.groups := fabiNew_groups ..

@[simp] theorem sendXfer_groups (d : Device) (dest : Nat) (x : Xfer) (len : Nat) : (sendXfer d dest x len).groups = d.groups :=
  (sendXfer_onPort ..).groups

@[simp] theorem cvcPass_groups (d : Device) (point sel r n seq : Nat) : (cvcPass d point sel r n seq).groups = d.groups :=
  (congrArg Device.groups (cvcPass_eq ..)).trans rfl

@[simp] theorem writeEntry_groups (d : Device) (g off : Nat) (x : WlEntry) : (writeEntry d g off x).groups = d.groups :=
  cvcPass_groups ..

@[simp] theorem dropUnits_groups (d : Device) (p : LgiUnit → Bool) : (dropUnits d p).groups = d.groups := by
  unfold dropUnits
  dsimp only
  split <;> rfl

/-! ### Pages and moves -/

@[simp] theorem modBlk_groups (d : Device) (slot : Nat) (f : CtxBlk → CtxBlk) : (modBlk d slot f).groups = d.groups := rfl

@[simp] theorem affUpdate_groups (d : Device) (slot : Nat) : (affUpdate d slot).groups = d.groups := by
  unfold affUpdate
  split
  · split <;> rfl
  · rfl

@[simp] theorem ptabWrite_groups (d : Device) (slot addr data len : Nat) : (ptabWrite d slot addr data len).groups = d.groups :=
  fabiWrite_groups ..

@[simp] theorem dropLeaves_groups (d : Device) (slot : Nat) : (dropLeaves d slot).groups = d.groups := by
  unfold dropLeaves
  split
  · rfl
  · exact foldl_groups (fun _ _ => ptabWrite_groups ..) _ _

@[simp] theorem takeLeaf_groups (d : Device) (slot k : Nat) : (takeLeaf d slot k).groups = d.groups := by
  unfold takeLeaf
  split
  · rfl
  · split
    · rfl
    · split
      · rfl
      · exact ptabWrite_groups ..

@[simp] theorem writePtab_groups (d : Device) (slot k : Nat) : (writePtab d slot k).groups = d.groups := by
  unfold writePtab
  dsimp only
  split
  · exact takeLeaf_groups ..
  · split
    · exact takeLeaf_groups ..
    · exact (ptabWrite_groups ..).trans (takeLeaf_groups ..)

@[simp] theorem chargeMove_groups (d : Device) (m : Move) : (chargeMove d m).groups = d.groups := by
  unfold chargeMove
  split <;> rfl

@[simp] theorem postMove_groups (d : Device) (m : Move) : (postMove d m).groups = d.groups := by
  unfold postMove
  split
  · rfl
  · dsimp only
    split <;> simp [emit]

@[simp] theorem traceMove_groups (d : Device) (q : Seq) (kind fromT toT pages cause tile : Nat) :
    (traceMove d q kind fromT toT pages cause tile).groups = d.groups := by
  unfold traceMove
  split
  · rfl
  · exact traceRec_groups ..

@[simp] theorem writebackPage_groups (d : Device) (slot k cause : Nat) (drop : Bool) (payer : Option Nat) :
    (writebackPage d slot k cause drop payer).groups = d.groups := by
  unfold writebackPage
  split
  · rfl
  · split
    · split
      · rfl
      · split
        · exact postMove_groups ..
        · rfl
    · rfl

@[simp] theorem unname_groups (d : Device) (slot k : Nat) : (unname d slot k).groups = d.groups := writePtab_groups ..

@[simp] theorem dropNamed_groups (d : Device) (i : Nat) : (dropNamed d i).groups = d.groups := by
  refine foldl_groups (fun d p => foldl_groups (fun d kr => ?_) _ d) _ _
  split
  · exact unname_groups ..
  · rfl

@[simp] theorem unref_groups (d : Device) (i : Nat) : (unref d i).groups = d.groups := by
  unfold unref
  split
  · rfl
  · split
    · rfl
    · split <;> rfl

@[simp] theorem releasePage_groups (d : Device) (slot k : Nat) : (releasePage d slot k).groups = d.groups := by
  unfold releasePage
  split
  · rfl
  · dsimp only
    split
    · exact unref_groups ..
    · rfl
    · rfl

@[simp] theorem releaseFrom_groups (d : Device) (slot n k : Nat) : (releaseFrom d slot n k).groups = d.groups := by
  induction n generalizing d k with
  | zero => rfl
  | succ n ih =>
    rw [releaseFrom, ih]
    split
    · rfl
    · exact releasePage_groups ..

@[simp] theorem leafRetry_groups (d : Device) : (leafRetry d).groups = d.groups := by
  refine foldl_groups (fun d p => foldl_groups (fun d kr => ?_) _ d) _ _
  split
  · split
    · exact writePtab_groups ..
    · rfl
  · rfl

@[simp] theorem releaseAll_groups (d : Device) (slot : Nat) : (releaseAll d slot).groups = d.groups := by
  unfold releaseAll
  split
  · rfl
  · next q _ =>
    have htrim : (trimPages (releaseFrom d slot q.ctx.pages.length 0) slot).groups = d.groups := releaseFrom_groups ..
    dsimp only
    split
    · exact htrim
    · split
      · simp [htrim]
      · exact htrim

@[simp] theorem unnamePage_groups (d : Device) (slot k : Nat) : (unnamePage d slot k).groups = d.groups :=
  (affUpdate_groups ..).trans (unname_groups ..)

@[simp] theorem chooseAff_groups (d : Device) (slot : Nat) : (chooseAff d slot).groups = d.groups := by
  unfold chooseAff
  split
  · rfl
  · exact iteInduction (motive := fun e : Device => e.groups = d.groups) (fun _ => rfl) (fun _ => rfl)

@[simp] theorem traceBring_groups (d0 d : Device) (slot cause : Nat) : (traceBring d0 d slot cause).groups = d.groups := by
  unfold traceBring
  split
  · rfl
  · exact (traceMove_groups ..).trans (traceMove_groups ..)

@[simp] theorem loadMoves_groups (d : Device) (g s v num bytes n k : Nat) :
    (loadMoves d g s v num bytes n k).groups = d.groups := by
  induction n generalizing d k with
  | zero => rfl
  | succ n ih => exact (ih ..).trans (postMove_groups ..)

/-! ### Flags and waits -/

@[simp] theorem modTcb_groups (d : Device) (slot : Nat) (f : Tcb → Tcb) : (modTcb d slot f).groups = d.groups := rfl

@[simp] theorem cancelTimer_groups (d : Device) (slot : Nat) (b : Bool) : (cancelTimer d slot b).groups = d.groups := rfl

@[simp] theorem enterState_groups (d : Device) (slot : Nat) (st : SeqState) : (enterState d slot st).groups = d.groups := rfl

@[simp] theorem cancelKind_groups (d : Device) (slot : Nat) (b : Bool) (kinds : List Nat) :
    (cancelKind d slot b kinds).groups = d.groups := by
  unfold cancelKind
  split
  · split <;> rfl
  · rfl

@[simp] theorem refreshFlags_groups (d : Device) (slot : Nat) (mask : BitVec 16) : (refreshFlags d slot mask).groups = d.groups := by
  refine foldl_groups (fun d i => ?_) _ d
  split
  · split
    · split <;> rfl
    · rfl
  · rfl

@[simp] theorem evalWait_groups (d : Device) (slot : Nat) : (evalWait d slot).groups = d.groups := by
  unfold evalWait
  split
  · rfl
  · split
    · exact cancelKind_groups ..
    · rfl

@[simp] theorem startWait_groups (d : Device) (slot : Nat) (flags : List Nat) (or_ : Bool) :
    (startWait d slot flags or_).groups = d.groups := by
  unfold startWait
  dsimp only
  split
  · exact refreshFlags_groups ..
  · split
    · split <;> exact refreshFlags_groups ..
    · split <;> exact refreshFlags_groups ..

@[simp] theorem setIfHolds_groups (d : Device) (slot i : Nat) : (setIfHolds d slot i).groups = d.groups := by
  unfold setIfHolds
  split
  · split
    · exact evalWait_groups ..
    · rfl
  · rfl

@[simp] theorem wakeSlots_groups (d : Device) : (wakeSlots d).groups = d.groups := by
  refine foldl_groups (fun d p => ?_) _ d
  split
  · exact setIfHolds_groups ..
  · rfl

/-! ### Completions and answers -/

@[simp] theorem hostAck_groups (d : Device) (a : OwedAns) (r : HostResult) (tokenEnd : Nat) :
    (hostAck d a r tokenEnd).groups = d.groups := sendXfer_groups ..

@[simp] theorem answerAtStop_groups (d : Device) (h : Nat) : (answerAtStop d h).groups = d.groups := by
  unfold answerAtStop
  split
  · rfl
  · split
    · exact foldl_groups (fun _ _ => hostAck_groups ..) _ _
    · rfl

@[simp] theorem carryCompl_groups (d : Device) (owner : Nat) (c : Compl) : (carryCompl d owner c).groups = d.groups := by
  unfold carryCompl
  dsimp only
  split
  · exact (answerAtStop_groups ..).trans (sendXfer_groups ..)
  · exact sendXfer_groups ..

@[simp] theorem shipCompl_groups (d : Device) (owner : Nat) (c : Compl) : (shipCompl d owner c).groups = d.groups := by
  unfold shipCompl
  split
  · split <;> rfl
  · split
    · rfl
    · split
      · rfl
      · exact carryCompl_groups ..

@[simp] theorem shipOut_groups (d : Device) (owner : Nat) (x : Outgoing) : (shipOut d owner x).groups = d.groups := by
  cases x with
  | compl c => exact shipCompl_groups ..
  | ack a r n => exact hostAck_groups ..

@[simp] theorem gateOut_groups (d : Device) (slot owner : Nat) (x : Outgoing) : (gateOut d slot owner x).groups = d.groups := by
  unfold gateOut
  split
  · rfl
  · exact shipOut_groups ..

@[simp] theorem sendOut_groups (d : Device) (slot : Nat) (x : Outgoing) : (sendOut d slot x).groups = d.groups := by
  unfold sendOut
  split
  · rfl
  · split
    · exact gateOut_groups ..
    · rfl

@[simp] theorem sendCompl_groups (d : Device) (slot : Nat) (c : Compl) : (sendCompl d slot c).groups = d.groups :=
  sendOut_groups ..

@[simp] theorem seqAnswer_groups (d : Device) (slot : Nat) (a : OwedAns) (r : HostResult) :
    (seqAnswer d slot a r).groups = d.groups := by
  unfold seqAnswer
  split
  · rfl
  · exact sendOut_groups ..

@[simp] theorem answerPause_groups (d : Device) (slot : Nat) (r : HostResult) : (answerPause d slot r).groups = d.groups := by
  unfold answerPause
  split
  · rfl
  · exact foldl_groups (fun _ _ => seqAnswer_groups ..) _ _

@[simp] theorem parkNow_groups (d : Device) (slot : Nat) : (parkNow d slot).groups = d.groups := answerPause_groups ..

@[simp] theorem writeHeader_groups (d : Device) (slot : Nat) (st : Status) : (writeHeader d slot st).groups = d.groups := by
  unfold writeHeader
  split
  · rfl
  · exact fabiWrite_groups ..

@[simp] theorem endSave_groups (d : Device) (slot : Nat) (st : Status) : (endSave d slot st).groups = d.groups := by
  unfold endSave
  split
  · rfl
  · dsimp only
    refine (foldl_groups (fun _ _ => seqAnswer_groups ..) _ _).trans ?_
    split
    · exact seqAnswer_groups ..
    · rfl

@[simp] theorem endRestore_groups (d : Device) (slot : Nat) (st : Status) : (endRestore d slot st).groups = d.groups := by
  unfold endRestore
  split
  · rfl
  · split
    · exact sendCompl_groups ..
    · rfl

@[simp] theorem dropPost_groups (d : Device) (slot : Nat) : (dropPost d slot).groups = d.groups := by
  unfold dropPost
  split
  · split <;> rfl
  · rfl

/-! ### Commands and what a step held for a sequence -/

@[simp] theorem nopEntries_groups (d : Device) (i slot : Nat) : (nopEntries d i slot).groups = d.groups := by
  unfold nopEntries
  split
  · rfl
  · refine foldl_groups (fun d ke => ?_) _ _
    split
    · exact writeEntry_groups ..
    · rfl

@[simp] theorem dropOutcome_groups (d : Device) (slot : Nat) : (dropOutcome d slot).groups = d.groups := dropUnits_groups ..

@[simp] theorem newClaim_groups (d : Device) (slot : Nat) (old : Option Selection) : (newClaim d slot old).groups = d.groups := by
  unfold newClaim
  split
  · unfold requestClaim
    dsimp only
    split <;> rfl
  · rfl

@[simp] theorem dropStep_groups (d : Device) (slot : Nat) : (dropStep d slot).groups = d.groups := by
  unfold dropStep
  split
  · rfl
  · exact (newClaim_groups ..).trans (dropOutcome_groups ..)

@[simp] theorem sendKill_groups (d : Device) (i : Nat) (c : InFlight) (cause : Nat) :
    (sendKill d i c cause).groups = d.groups := by
  simp [sendKill, revokeRns, emit, bumpBy]

@[simp] theorem traceKill_groups (d : Device) (i : Nat) (c : InFlight) (cause : Nat) :
    (traceKill d i c cause).groups = d.groups := traceRec_groups ..

@[simp] theorem listsMissing_groups (d : Device) (slot : Nat) (ls : List Nat) : (listsMissing d slot ls).groups = d.groups :=
  setIfHolds_groups ..

end Sys2Proof.Machine
end

section
/-! Which steps a group dispatches last and builds (R145): no operation below the building of a step and its dispatch
changes the number of the one or begins the other. -/

namespace Sys2Proof.Machine

/-- The number of the step dispatched last stays, and no step builds where none did. -/
def Group.KeepsStep (r r' : Group) : Prop := r'.step = r.step ∧ (r.building = none → r'.building = none)

theorem Group.KeepsStep.of_eq {r r' : Group} (hstep : r'.step = r.step) (hbuilding : r'.building = r.building) : r.KeepsStep r' :=
  ⟨hstep, fun h => hbuilding.trans h⟩

/-- The same of every group of the slice. -/
def KeepsSteps (d e : Device) : Prop := ∀ g, (d.group g).KeepsStep (e.group g)

@[simp] theorem Device.modGroup_group_same (d : Device) (g : Nat) (f : Group → Group) : (d.modGroup g f).group g = f (d.group g) := by
  simp [Device.group, Device.modGroup, Map.getD, Map.find_put_same]

theorem Device.modGroup_group_ne (d : Device) {g k : Nat} (f : Group → Group) (h : k ≠ g) :
    (d.modGroup g f).group k = d.group k := by
  simp [Device.group, Device.modGroup, Map.getD, Map.find_put_ne _ _ h]

namespace KeepsSteps
variable {d0 d e : Device}

theorem refl (d : Device) : KeepsSteps d d := fun _ => .of_eq rfl rfl

theorem of_groups (h : KeepsSteps d0 d) (he : e.groups = d.groups) : KeepsSteps d0 e := fun g => by
  have hgroup : e.group g = d.group g := by rw [Device.group, he, Device.group]
  exact hgroup ▸ h g

theorem foldl {α : Type} {step : Device → α → Device} (hstep : ∀ d x, KeepsSteps d0 d → KeepsSteps d0 (step d x)) {l : List α}
    (h : KeepsSteps d0 d) : KeepsSteps d0 (l.foldl step d) :=
  List.foldlRecOn l step h fun e he x _ => hstep e x he

theorem modGroup {g : Nat} {f : Group → Group} (h : KeepsSteps d0 d)
    (hf : ∀ r, Group.KeepsStep r (f r) := by exact fun _ => .of_eq rfl rfl) : KeepsSteps d0 (d.modGroup g f) := fun k => by
  rcases eq_or_ne k g with rfl | hne
  · rw [Device.modGroup_group_same]
    exact ⟨(hf _).1.trans (h k).1, fun hnone => (hf _).2 ((h k).2 hnone)⟩
  · rw [Device.modGroup_group_ne _ _ hne]
    exact h k

/-- An update of every group. -/
theorem mapGroups {f : Nat × Group → Group} (h : KeepsSteps d0 d) (he : e.groups = d.groups.map (fun p => (p.1, f p)))
    (hf : ∀ p, Group.KeepsStep p.2 (f p) := by exact fun _ => .of_eq rfl rfl) : KeepsSteps d0 e := fun k => by
  have hgroup : e.group k = ((Map.find d.groups k).map (fun r => f (k, r))).getD {} := by
    rw [← Map.find_mapEntries, Device.group, he, Map.getD]
  have hk := h k
  rw [hgroup]
  unfold Device.group Map.getD at hk ⊢
  cases hold : Map.find d.groups k with
  | none => simpa [hold] using hk
  | some r =>
    rw [hold] at hk
    exact ⟨(hf (k, r)).1.trans hk.1, fun hnone => (hf (k, r)).2 (hk.2 hnone)⟩

/-! ### Rooms and the pages that are brought for them (R192, R194, R218) -/

theorem useRoom {tile slot : Nat} (h : KeepsSteps d0 d) : KeepsSteps d0 (useRoom d tile slot) :=
  h.mapGroups rfl

theorem grantRoom {tile victim : Nat} (h : KeepsSteps d0 d) : KeepsSteps d0 (grantRoom d tile victim) :=
  h.mapGroups rfl

theorem requestRoom {slot tile need : Nat} (h : KeepsSteps d0 d) : KeepsSteps d0 (requestRoom d slot tile need) := by
  unfold Machine.requestRoom
  split
  · exact h
  · split
    · exact h
    · exact h.modGroup

theorem clearVictim {slot : Nat} (h : KeepsSteps d0 d) : KeepsSteps d0 (clearVictim d slot) := by
  unfold Machine.clearVictim
  split
  · split
    · exact h
    · exact h.mapGroups rfl
  · exact h

theorem promotePage {slot k cause : Nat} (h : KeepsSteps d0 d) : KeepsSteps d0 (promotePage d slot k cause) := by
  unfold Machine.promotePage
  split
  · exact h
  · split
    · split
      · exact h
      · split
        · split
          · exact h.of_groups (writePtab_groups ..)
          · exact h
        · split
          · exact h
          · exact h.useRoom.of_groups (postMove_groups ..)
    · exact h

theorem ownPage {slot k i tile cause : Nat} (h : KeepsSteps d0 d) : KeepsSteps d0 (ownPage d slot k i tile cause) := by
  unfold Machine.ownPage
  split
  · exact h.useRoom.of_groups (postMove_groups ..)
  · exact h

theorem fillPage {slot k cause : Nat} (h : KeepsSteps d0 d) : KeepsSteps d0 (fillPage d slot k cause) := by
  unfold Machine.fillPage
  split
  · exact h
  · split
    · split
      · split
        · exact h
        · exact h.useRoom.of_groups ((postMove_groups ..).trans (postMove_groups ..))
      · exact h
    · exact h

theorem bringPage {slot k cause : Nat} (h : KeepsSteps d0 d) : KeepsSteps d0 (bringPage d slot k cause) := by
  unfold Machine.bringPage
  split
  · exact h
  · split
    · split
      · exact h
      · split
        · split
          · exact h.of_groups (writebackPage_groups ..)
          · split
            · exact (h.of_groups (dropNamed_groups ..)).promotePage
            · split
              · exact h.ownPage
              · exact h
        · exact h.promotePage
    · exact h.fillPage
    · exact h

theorem bringPages {slot cause n k : Nat} (h : KeepsSteps d0 d) : KeepsSteps d0 (bringPages d slot cause n k) := by
  induction n generalizing d k with
  | zero => exact h
  | succ n ih => exact ih h.bringPage

theorem bringTraced {slot cause : Nat} (h : KeepsSteps d0 d) : KeepsSteps d0 (bringTraced d slot cause) := by
  unfold Machine.bringTraced
  split
  · exact h
  · exact h.bringPages.of_groups (traceBring_groups ..)

theorem bringAll {slot cause : Nat} (h : KeepsSteps d0 d) : KeepsSteps d0 (bringAll d slot cause) := by
  have hbrought : KeepsSteps d0 (Machine.bringTraced (chooseAff d slot) slot cause) :=
    (h.of_groups (chooseAff_groups ..)).bringTraced
  unfold Machine.bringAll
  dsimp only
  split
  · exact hbrought
  · split
    · split
      · exact hbrought.requestRoom
      · exact hbrought
    · exact hbrought

theorem makeResident {slot cause : Nat} (h : KeepsSteps d0 d) : KeepsSteps d0 (makeResident d slot cause) := by
  unfold Machine.makeResident
  split
  · exact h
  · split
    · exact h
    · dsimp only
      split
      · exact h.bringAll
      · split
        · exact h.bringAll
        · split
          · exact h.bringAll.of_groups (startWait_groups ..)
          · exact h.bringAll

theorem bringMissing {g : Nat} (h : KeepsSteps d0 d) : KeepsSteps d0 (bringMissing d g) :=
  foldl (fun _ _ hd => hd.makeResident) h

theorem dropT0 {slot cause k : Nat} {payer : Option Nat} (h : KeepsSteps d0 d) : KeepsSteps d0 (dropT0 d slot cause k payer) := by
  unfold Machine.dropT0
  split
  · exact h
  · split
    · split
      · exact h
      · split
        · exact h.of_groups (unnamePage_groups ..)
        · split
          · exact h.of_groups (writebackPage_groups ..)
          · split
            · exact grantRoom (of_groups h (unnamePage_groups ..))
            · exact h
    · exact h

theorem dropAllT0 {slot cause : Nat} {payer : Option Nat} (h : KeepsSteps d0 d) : KeepsSteps d0 (dropAllT0 d slot cause payer) := by
  unfold Machine.dropAllT0
  split
  · exact h
  · exact foldl (fun _ _ hd => hd.dropT0) (h.of_groups (traceMove_groups ..))

theorem evictNow {slot : Nat} (h : KeepsSteps d0 d) : KeepsSteps d0 (evictNow d slot) := by
  unfold Machine.evictNow
  split
  · exact h
  · split
    · exact clearVictim (dropAllT0 (of_groups h rfl))
    · exact h

theorem serveFrames {tile : Nat} (h : KeepsSteps d0 d) : KeepsSteps d0 (serveFrames d tile) := by
  refine foldl (fun d r hd => ?_) h
  split
  · split
    · exact hd
    · exact hd.bringTraced
  · exact hd

/-! ### Commands that end early, and steps that lose them (R145, R187, R188) -/

theorem unblockOf {p : Nat → Bool} (h : KeepsSteps d0 d) : KeepsSteps d0 (unblockOf d p) :=
  h.mapGroups rfl fun _ => by split <;> exact .of_eq rfl rfl

theorem retireSteps {g : Nat} (h : KeepsSteps d0 d) : KeepsSteps d0 (retireSteps d g) := by
  unfold Machine.retireSteps
  dsimp only
  split
  · exact h
  · exact unblockOf (h.modGroup)

theorem modSteps {g : Nat} {f : Step → Step} (h : KeepsSteps d0 d) : KeepsSteps d0 (modSteps d g f) := by
  unfold Machine.modSteps
  split
  · exact h.modGroup fun r => ⟨rfl, fun hnone => congrArg (Option.map f) hnone⟩
  · exact h

theorem leaveStep {slot : Nat} (h : KeepsSteps d0 d) : KeepsSteps d0 (leaveStep d slot) :=
  foldl (fun _ _ hd => hd.modSteps.retireSteps) h

theorem returnCredit {tile : Nat} (h : KeepsSteps d0 d) : KeepsSteps d0 (returnCredit d tile) := unblockOf h

theorem freeEntry {i : Nat} (h : KeepsSteps d0 d) : KeepsSteps d0 (freeEntry d i) := by
  unfold Machine.freeEntry
  split
  · exact h
  · refine of_groups (d := unblock _) ?_ (wakeSlots_groups _)
    exact unblockOf (retireSteps (modSteps (of_groups h (dropUnits_groups ..))))

theorem withdrawSeq {slot : Nat} (h : KeepsSteps d0 d) : KeepsSteps d0 (withdrawSeq d slot) := by
  unfold Machine.withdrawSeq
  split
  · exact h
  · split
    · exact h.leaveStep
    · refine of_groups (d := Machine.dropStep (Machine.leaveStep d slot) slot) (h.leaveStep.of_groups (dropStep_groups ..))
        ((startWait_groups ..).trans ?_)
      split
      · exact parkNow_groups ..
      · rfl

theorem endOne {i cause : Nat} (h : KeepsSteps d0 d) : KeepsSteps d0 (endOne d i cause) := by
  have hrounds : KeepsSteps d0 (endRounds d i) := h
  unfold Machine.endOne
  dsimp only
  split
  · exact hrounds
  · split
    · exact hrounds.freeEntry.returnCredit
    · have hkill := hrounds.of_groups (traceKill_groups _ i ‹InFlight› cause)
      split
      · exact hkill.of_groups (sendKill_groups ..)
      · exact hkill.freeEntry

theorem killCommand {i cause except : Nat} (h : KeepsSteps d0 d) : KeepsSteps d0 (killCommand d i cause except) := by
  unfold Machine.killCommand
  split
  · exact h
  · split
    · exact h
    · refine foldl (fun d s hd => ?_) (foldl (fun _ _ hd => hd.endOne) h)
      split
      · exact hd
      · split
        · split
          · exact hd.of_groups (listsMissing_groups ..)
          · exact hd.withdrawSeq
        · exact hd

theorem evict {tile rh : Nat} {chosen : List Nat} {v : Nat × Nat × Nat} (h : KeepsSteps d0 d) :
    KeepsSteps d0 (evict d tile rh chosen v) := by
  unfold Machine.evict
  split
  · exact h
  · have hmarked (kind handle client part args slot : Nat) (f : Seq → Seq) : KeepsSteps d0
        ((traceRec (bump d Od.DISPATCH_STATS 5) kind handle client part args).modSeq slot f) :=
      h.of_groups (traceRec_groups ..)
    dsimp only
    refine KeepsSteps.evictNow ?_
    split
    · exact foldl (fun _ _ hd => hd.killCommand) (hmarked _ _ _ _ _ _ _)
    · exact hmarked _ _ _ _ _ _ _

/-! ### Loads of models, and the sequences that end with one that fails (R198, R202) -/

theorem freeSlot {slot : Nat} (h : KeepsSteps d0 d) : KeepsSteps d0 (freeSlot d slot) := by
  unfold Machine.freeSlot
  split
  · exact h
  · refine mapGroups (d := List.foldl (fun d (x : Nat × Nat × Nat) => tellPair d x.1 x.2.1 0 .none) _ _)
      (foldl (fun _ _ hd => ?_) (of_groups h ?_)) rfl
    · exact hd.of_groups (tellPair_onPort ..).groups
    · rfl

theorem tryEnd {slot : Nat} (h : KeepsSteps d0 d) : KeepsSteps d0 (tryEnd d slot) := by
  have hreleased : KeepsSteps d0 (releaseAll d slot) := h.of_groups (releaseAll_groups ..)
  unfold Machine.tryEnd
  split
  · exact h
  · split
    · exact h
    · dsimp only
      split
      · exact hreleased
      · split
        · exact hreleased
        · split
          · exact hreleased.freeSlot
          · split
            · exact hreleased.of_groups (writeHeader_groups ..)
            · refine hreleased.of_groups ((sendCompl_groups ..).trans ?_)
              rw [enterState_groups]
              split
              · simp
              · simp
              · split <;> simp

theorem finishSeq {slot reason : Nat} {st : Status} {ownStop : Bool} (h : KeepsSteps d0 d) :
    KeepsSteps d0 (finishSeq d slot st reason ownStop) := by
  unfold Machine.finishSeq
  split
  · exact h
  · split
    · exact h
    · dsimp only
      refine tryEnd (leaveStep (foldl (fun d p hd => ?_) (of_groups h ?_)))
      · split
        · split
          · exact hd.killCommand
          · exact hd.of_groups (nopEntries_groups ..)
          · exact hd
        · exact hd
      · rw [dropOutcome_groups]
        split <;> simp

theorem faultSeq {slot : Nat} {st : Status} (h : KeepsSteps d0 d) : KeepsSteps d0 (faultSeq d slot st) := finishSeq h

theorem loadFailed {g s v : Nat} (h : KeepsSteps d0 d) : KeepsSteps d0 (loadFailed d g s v) := by
  unfold Machine.loadFailed
  dsimp only
  refine foldl (fun d p hd => ?_) (of_groups (d := Device.modGroup _ g _) ?_ (alertLog_groups ..))
  · split
    · exact hd.faultSeq
    · exact hd
  · exact modGroup (of_groups h rfl)

theorem loadWritten {g s v : Nat} (h : KeepsSteps d0 d) : KeepsSteps d0 (loadWritten d g s v) := modGroup (of_groups h rfl)

theorem startLoadInto {g s v : Nat} (h : KeepsSteps d0 d) : KeepsSteps d0 (startLoadInto d g s v) := by
  unfold Machine.startLoadInto
  dsimp only
  split
  · exact loadFailed (of_groups h rfl)
  · split
    · exact loadWritten (modGroup (of_groups h rfl))
    · refine of_groups (d := Device.modGroup _ g _) ?_ (loadMoves_groups ..)
      exact modGroup (of_groups h (bump_groups ..))

theorem wantModel {g v : Nat} (h : KeepsSteps d0 d) : KeepsSteps d0 (wantModel d g v) := by
  unfold Machine.wantModel
  split
  · exact h
  · split
    · exact h.startLoadInto
    · exact h

theorem wantModels {g : Nat} (h : KeepsSteps d0 d) : KeepsSteps d0 (wantModels d g) := foldl (fun _ _ hd => hd.wantModel) h

/-! ### The opening of a step (R146, R193) -/

theorem serveRoom {g slot : Nat} (h : KeepsSteps d0 d) : KeepsSteps d0 (serveRoom d g slot) := by
  unfold Machine.serveRoom
  split
  · exact h
  · exact h
  · split
    · exact h
    · dsimp only
      split
      · exact h.of_groups (raiseVector_groups ..)
      · exact foldl (fun _ _ hd => hd.clearVictim) (serveFrames (foldl (fun _ _ hd => hd.evict)
          h.modGroup))

theorem serveRooms {g : Nat} (h : KeepsSteps d0 d) : KeepsSteps d0 (serveRooms d g) := foldl (fun _ _ hd => hd.serveRoom) h

theorem openStep {g : Nat} (h : KeepsSteps d0 d) : KeepsSteps d0 (openStep d g) := by
  unfold Machine.openStep
  split
  · exact h
  · dsimp only
    split
    · exact serveRooms (wantModels (bringMissing (modGroup (of_groups h rfl))))
    · exact serveRooms (wantModels (bringMissing (modGroup (of_groups h rfl))))

end KeepsSteps

end Sys2Proof.Machine
end

section
/-! The building of a step and the issue of its commands (R145, R146, R169): what STEP_BUILD and CMD_ISSUE do, case by
case, and the obligation O34 assembled from these cases. -/

namespace Sys2Proof.Machine

/-! ### Dispatch, and what goes on first (R145) -/

section Dispatch
variable {d : Device} {g : Nat} {st : Step}

/-- The step becomes the one dispatched last and builds no more, before the steps that are done retire and the next one
opens. -/
theorem dispatchStep_eq (d : Device) (g : Nat) (st : Step) : ∃ e, dispatchStep d g st = openStep (retireSteps e g) g ∧
    (e.group g).step = st.num ∧ (e.group g).building = none := by
  refine ⟨_, rfl, ?_, ?_⟩
  · rw [Device.modGroup_group_same]
  · rw [Device.modGroup_group_same]

theorem dispatchStep_group (d : Device) (g : Nat) (st : Step) :
    ((dispatchStep d g st).group g).step = st.num ∧ ((dispatchStep d g st).group g).building = none := by
  obtain ⟨e, heq, hstep, hbuilding⟩ := dispatchStep_eq d g st
  obtain ⟨hnum, hnone⟩ := (KeepsSteps.refl e).retireSteps.openStep (g := g) g
  exact heq ▸ ⟨hnum.trans hstep, hnone hbuilding⟩

/-- A step that still waits for a command, and a group that builds none, stay as they are. -/
theorem closeBuilding_of_toIssue (h : ∀ st, (d.group g).building = some st → st.toIssue ≠ []) : closeBuilding d g = d := by
  unfold closeBuilding
  split
  · rfl
  · next st hst => rw [if_pos (by simpa using h st hst)]

theorem closeBuilding_group (hst : (d.group g).building = some st) (hnone : st.toIssue = []) :
    ((closeBuilding d g).group g).building = none ∧
      ((closeBuilding d g).group g).step = if st.issued then st.num else (d.group g).step := by
  simp only [closeBuilding, hst, hnone, List.isEmpty_nil, Bool.not_true, Bool.false_eq_true, if_false]
  split
  · obtain ⟨hnum, hbuilding⟩ := dispatchStep_group d g st
    exact ⟨hbuilding, hnum⟩
  · obtain ⟨hnum, hbuilding⟩ :=
      (KeepsSteps.refl (d.modGroup g (fun gr => { gr with building := none }))).openStep (g := g) g
    rw [Device.modGroup_group_same] at hnum hbuilding
    exact ⟨hbuilding rfl, hnum⟩

end Dispatch

/-! ### STEP_BUILD (R146) -/

section Build
variable {d : Device} {g : Nat} {o : OpenStep}

theorem stepBuild_of_elsewhere (h : groupHome d g ≠ d.ident.index) : stepBuild d g = d := by
  rw [stepBuild, if_pos h]

theorem mayBuild_of_not_scanned (h : ∀ o, (d.group g).opened = some o → d.clk.rootcyc < o.scanAt) : mayBuild d g = none := by
  unfold mayBuild
  split
  · rfl
  · next o ho => rw [if_neg (by simp [Nat.not_le.mpr (h o ho)])]

/-- Where its scan is complete, the group brings what its sequences lack and wants the models of its candidates. -/
def scanBrought (d : Device) (g : Nat) : Device :=
  match (d.group g).opened with
  | some o => if o.scanAt ≤ d.clk.rootcyc then wantModels (bringMissing d g) g else d
  | none => d

/-- The step is built where it may be. -/
def builtStep (d : Device) (g : Nat) : Device :=
  match mayBuild d g with
  | some (o, m) => buildStep d g o m
  | none => d

theorem stepBuild_of_here (h : groupHome d g = d.ident.index) :
    stepBuild d g = builtStep (scanBrought (closeBuilding d g) g) g := by
  rw [stepBuild, if_neg (not_not.mpr h)]
  rfl

theorem scanBrought_of_not_scanned (h : ∀ o, (d.group g).opened = some o → d.clk.rootcyc < o.scanAt) :
    scanBrought d g = d := by
  unfold scanBrought
  split
  · next o ho => rw [if_neg (Nat.not_le.mpr (h o ho))]
  · rfl

theorem scanBrought_of_scanned (ho : (d.group g).opened = some o) (hscan : o.scanAt ≤ d.clk.rootcyc) :
    scanBrought d g = wantModels (bringMissing d g) g := by
  simp only [scanBrought, ho, if_pos hscan]

theorem builtStep_of_none (h : mayBuild d g = none) : builtStep d g = d := by simp only [builtStep, h]

theorem builtStep_of_some {p : OpenStep} {m : Nat} (h : mayBuild d g = some (p, m)) : builtStep d g = buildStep d g p m := by
  simp only [builtStep, h]

/-- Before its scan is complete a group homed here brings and builds nothing. -/
theorem stepBuild_of_not_scanned (hhome : groupHome d g = d.ident.index)
    (h : ∀ o, ((closeBuilding d g).group g).opened = some o → (closeBuilding d g).clk.rootcyc < o.scanAt) :
    stepBuild d g = closeBuilding d g := by
  rw [stepBuild_of_here hhome, scanBrought_of_not_scanned h, builtStep_of_none (mayBuild_of_not_scanned h)]

theorem stepBuild_of_scanned (hhome : groupHome d g = d.ident.index) (ho : ((closeBuilding d g).group g).opened = some o)
    (hscan : o.scanAt ≤ (closeBuilding d g).clk.rootcyc) :
    stepBuild d g = builtStep (wantModels (bringMissing (closeBuilding d g) g) g) g := by
  rw [stepBuild_of_here hhome, scanBrought_of_scanned ho hscan]

theorem settles_stepBuild {s : State} (g : Nat) (away : List Nat) (hready : fyReady s.dev = true) :
    Settles (.stepBuild g away) s (stepBuild (tellStalled s.dev away) g) :=
  settles_of_whenReady (fun d => stepBuild (tellStalled d away) g) hready rfl

end Build

/-! ### What the issue of a CMD leaves of the others (R169) -/

/-- The in-flight entries stand, and nothing that has left is taken back. -/
structure KeepsCommands (d e : Device) : Prop where
  inflight : e.inflight = d.inflight
  out : ∀ o ∈ d.out, o ∈ e.out

namespace KeepsCommands
variable {d e f : Device}

theorem of_eq (hinflight : e.inflight = d.inflight) (hout : e.out = d.out) : KeepsCommands d e :=
  ⟨hinflight, fun _ ho => hout ▸ ho⟩

theorem refl (d : Device) : KeepsCommands d d := of_eq rfl rfl

theorem trans (hde : KeepsCommands d e) (hef : KeepsCommands e f) : KeepsCommands d f :=
  ⟨hef.inflight.trans hde.inflight, fun o ho => hef.out o (hde.out o ho)⟩

theorem foldl {α : Type} {step : Device → α → Device} (hstep : ∀ d x, KeepsCommands d (step d x)) (l : List α) (d : Device) :
    KeepsCommands d (l.foldl step d) :=
  List.foldlRecOn l step (motive := KeepsCommands d) (refl d) fun e he x _ => he.trans (hstep e x)

theorem fabiNew (d : Device) (kind : FabiKind) (write : Bool) (addr len data : Nat) (x : Option (Nat × Xfer)) :
    KeepsCommands d (fabiNew d kind write addr len data x) := by
  unfold Machine.fabiNew fabiIssue
  split
  · exact ⟨rfl, fun o ho => List.mem_append_left _ ho⟩
  · exact of_eq rfl rfl

theorem refreshFlags (d : Device) (slot : Nat) (mask : BitVec 16) : KeepsCommands d (refreshFlags d slot mask) := by
  refine foldl (fun d i => ?_) _ d
  split
  · split
    · split <;> exact of_eq rfl rfl
    · exact refl d
  · exact refl d

theorem startWait (d : Device) (slot : Nat) (flags : List Nat) (or_ : Bool) : KeepsCommands d (startWait d slot flags or_) := by
  have hflags (f : Tcb → Tcb) (mask : BitVec 16) : KeepsCommands d (Machine.refreshFlags (modTcb d slot f) slot mask) :=
    (of_eq rfl rfl : KeepsCommands d (modTcb d slot f)).trans (refreshFlags ..)
  unfold Machine.startWait
  dsimp only
  split
  · exact hflags ..
  · split
    · split <;> exact (hflags ..).trans (of_eq rfl rfl)
    · split
      · exact (hflags ..).trans (of_eq rfl rfl)
      · exact hflags ..

theorem waitFanOut (d : Device) (slot : Nat) : KeepsCommands d (waitFanOut d slot) := by
  unfold Machine.waitFanOut
  split
  · exact refl d
  · split
    · exact startWait ..
    · exact refl d

theorem readInputs (d : Device) (e : WlEntry) : KeepsCommands d (readInputs d e) := by
  unfold Machine.readInputs
  split
  · exact refl d
  · split
    · exact refl d
    · exact (of_eq rfl rfl : KeepsCommands d ((dropInputs d e.slot).modSeq e.slot _)).trans
        (foldl (fun _ _ => fabiNew ..) _ _)

end KeepsCommands

/-! ### CMD_ISSUE (R145, R169) -/

/-- A CMD of the step is out. -/
def Step.afterIssue (st : Step) (i : Nat) : Step := { st with toIssue := st.toIssue.filter (· ≠ i), issued := true }

/-- The CMD message of an entry. -/
def cmdOut (d : Device) (i : Nat) (c : InFlight) (num : Nat) : Out :=
  .cmd (BitVec.ofNat 512
    (cmdMessage (tagOf d i c) c.wlAddr c.entries.length c.tile c.group c.partition c.model c.prio.code num))

/-- The CMD leaves and is counted and recorded. -/
def cmdSent (d : Device) (i : Nat) (c : InFlight) (num : Nat) : Device :=
  traceRec (bump (emit d (cmdOut d i c num)) Od.DISPATCH_STATS 0) TR_DISPATCH 0 0 0
    (fields [(127, 96, tagOf d i c), (95, 64, num), (63, 52, c.tile), (51, 38, c.entries.length), (37, 30, c.group),
      (29, 28, c.prio.code), (27, 27, ofBool c.affine)])

/-- Its entry becomes ISSUED. -/
def InFlight.issuedAt (c : InFlight) (now timeout : Nat) : InFlight :=
  { c with istate := .issued, issueTick := now, dueTick := now + timeout }

def cmdIssued (d : Device) (i : Nat) : Device :=
  d.modInflight i (fun c => c.issuedAt d.tick (odGet d Od.CMD_TIMEOUT_US 0))

/-- Its sequences leave ADMITTED, their inputs are read, and fan-outs whose last CMD it is wait for their commands. -/
def cmdBegun (d : Device) (c : InFlight) : Device :=
  let es := c.entries.filter (fun e => e.kind ≠ 0)
  let d := (commandSlots c).foldl (fun d s =>
    match d.seq? s with
    | some q => if q.tcb.state = .admitted then enterState d s .prefill else d
    | none => d) d
  let d := es.foldl (fun d e =>
    if e.isStage then d.modSeq e.slot (fun q => { q with plan := { q.plan with stageIssued := true } }) else d) d
  (commandSlots c).foldl waitFanOut (es.foldl readInputs d)

/-- The step counts it out. -/
def cmdCounted (d : Device) (i : Nat) (c : InFlight) (st : Step) : Device :=
  (cmdBegun (cmdIssued (cmdSent d i c st.num) i) c).modGroup c.group (fun gr => { gr with building := some (st.afterIssue i) })

section Issue
variable {d : Device} {i : Nat} {c : InFlight} {st : Step}

theorem issueCmd_of_last (h : st.toIssue.filter (· ≠ i) = []) :
    issueCmd d i c st = dispatchStep (cmdCounted d i c st) c.group (st.afterIssue i) :=
  if_pos (List.isEmpty_iff.mpr h)

theorem issueCmd_of_more (h : st.toIssue.filter (· ≠ i) ≠ []) : issueCmd d i c st = cmdCounted d i c st :=
  if_neg fun hempty => h (List.isEmpty_iff.mp hempty)

theorem cmdBegun_keepsCommands (d : Device) (c : InFlight) : KeepsCommands d (cmdBegun d c) := by
  unfold cmdBegun
  refine .trans ?_ (.foldl KeepsCommands.waitFanOut _ _)
  refine .trans ?_ (.foldl KeepsCommands.readInputs _ _)
  refine .trans (.foldl (fun d s => ?_) _ _) (.foldl (fun d e => ?_) _ _)
  · split
    · split <;> exact .of_eq rfl rfl
    · exact .refl d
  · split <;> exact .of_eq rfl rfl

theorem cmdSent_inflight (d : Device) (i : Nat) (c : InFlight) (num : Nat) : (cmdSent d i c num).inflight = d.inflight := by
  simp [cmdSent, emit]

theorem mem_out_cmdSent (d : Device) (i : Nat) (c : InFlight) (num : Nat) : cmdOut d i c num ∈ (cmdSent d i c num).out := by
  rw [cmdSent, traceRec_frame]
  exact List.mem_append_right _ List.mem_cons_self

/-- The counter and the record of a CMD leave the other entries of the dictionary. -/
theorem odGet_cmdSent {j k : Nat} (hcount : odKey Od.DISPATCH_STATS 0 ≠ odKey j k)
    (hdrops : ∀ n, n < 2 → odKey Od.TRACE_DROPS n ≠ odKey j k) (num : Nat) :
    odGet (cmdSent d i c num) j k = odGet d j k := by
  rw [cmdSent, traceRec_odne _ _ _ _ _ _ hdrops, od_bump_ne _ hcount]
  exact odGet_od _ _ rfl rfl

theorem tick_cmdSent (num : Nat) : (cmdSent d i c num).tick = d.tick := by
  have hmhz : (cmdSent d i c num).mhz = d.mhz := odGet_cmdSent (by decide) (by decide) num
  have hclk : (cmdSent d i c num).clk = d.clk := by simp [cmdSent, emit]
  rw [Device.tick, hmhz, hclk, Device.tick]

/-- The entry of the CMD is ISSUED, and every other one is as it was. -/
theorem cmdCounted_inflight (d : Device) (i : Nat) (c : InFlight) (st : Step) : (cmdCounted d i c st).inflight =
    Map.mod d.inflight i (fun c => c.issuedAt d.tick (odGet d Od.CMD_TIMEOUT_US 0)) := by
  rw [cmdCounted, Device.modGroup_inflight, (cmdBegun_keepsCommands ..).inflight, cmdIssued, Device.modInflight_inflight,
    tick_cmdSent, odGet_cmdSent (by decide) (by decide), cmdSent_inflight]

theorem mem_out_cmdCounted (d : Device) (i : Nat) (c : InFlight) (st : Step) :
    cmdOut d i c st.num ∈ (cmdCounted d i c st).out :=
  (cmdBegun_keepsCommands ..).out _ (mem_out_cmdSent d i c st.num)

theorem Map.find_mod_ne {α : Type} (m : Map α) {k j : Nat} (f : α → α) (h : j ≠ k) :
    Map.find (Map.mod m k f) j = Map.find m j := by
  unfold Map.mod
  split
  · exact Map.find_put_ne _ _ h
  · rfl

theorem cmdIssue_of_ready (hentry : Map.find d.inflight i = some c) (hst : (d.group c.group).building = some st)
    (hstate : c.istate = .reserved) (hmem : i ∈ st.toIssue) (hready : cmdReady d c = true)
    (hhot : (hotSlotOf d c.group c.model).isSome = true) : cmdIssue d i = issueCmd d i c st := by
  simp [cmdIssue, hentry, hst, hstate, hmem, hready, hhot]

theorem cmdIssue_of_not_ready (hentry : Map.find d.inflight i = some c)
    (hnot : (d.group c.group).building = none ∨ c.istate ≠ .reserved ∨ cmdReady d c = false) : cmdIssue d i = d := by
  simp only [cmdIssue, hentry]
  split
  · rfl
  · next st hst =>
    rcases hnot with hnone | hstate | hready
    · exact nomatch hnone.symm.trans hst
    · simp [hstate]
    · simp [hready]

theorem settles_cmdIssue {s : State} (i : Nat) (hready : fyReady s.dev = true) : Settles (.cmdIssue i) s (cmdIssue s.dev i) :=
  settles_of_whenReady (cmdIssue · i) hready rfl

end Issue

/-! ### The obligation -/

/-- Settles O34: STEP_BUILD runs to `stepBuild`, whose cases are `stepBuild_of_elsewhere` and its siblings, behind
`closeBuilding_group`; CMD_ISSUE runs to `issueCmd`, by `cmdCounted_inflight` and `dispatchStep_group`. -/
theorem stepsAreBuiltAndIssued : Obligations.StepsAreBuiltAndIssued := by
  intro s g i away hready b
  have hbuild : Settles (.stepBuild g away) s (stepBuild b g) := settles_stepBuild g away hready
  refine ⟨fun haway => ?elsewhere, fun hhome => ⟨closeBuilding_of_toIssue (d := b),
      fun st hst hnone => closeBuilding_group (d := b) hst hnone, fun hearly => ?early,
      fun o ho hscan => ⟨fun hno => ?notBuilt, fun p m hmay => ?built⟩⟩,
    fun c st hentry hst hstate hmem hcmd hhot => ⟨?issued, fun hlast => ?last, fun hmore => ?more⟩,
    fun c hentry hnot => ?stays⟩
  case elsewhere => rwa [stepBuild_of_elsewhere (d := b) haway] at hbuild
  case early => rwa [stepBuild_of_not_scanned (d := b) hhome hearly] at hbuild
  case notBuilt => rwa [stepBuild_of_scanned (d := b) hhome ho hscan, builtStep_of_none hno] at hbuild
  case built => rwa [stepBuild_of_scanned (d := b) hhome ho hscan, builtStep_of_some hmay] at hbuild
  case issued => exact cmdIssue_of_ready hentry hst hstate hmem hcmd hhot ▸ settles_cmdIssue i hready
  case last =>
    rw [issueCmd_of_last hlast]
    exact dispatchStep_group _ c.group (st.afterIssue i)
  case more =>
    rw [issueCmd_of_more hmore]
    refine ⟨?_, fun j hj => ?_, mem_out_cmdCounted s.dev i c st, ?_⟩
    · rw [cmdCounted_inflight, Map.find_mod_same, hentry]
      rfl
    · rw [cmdCounted_inflight, Map.find_mod_ne _ _ hj]
    · rw [cmdCounted, Device.modGroup_group_same]
      rfl
  case stays => exact cmdIssue_of_not_ready hentry hnot ▸ settles_cmdIssue i hready

end Sys2Proof.Machine
end

section
/-! Tags of commands (R176): the fields of a tag, what the freeing of an in-flight entry leaves of the others, and the
obligation O37. -/

namespace Sys2Proof.Machine

/-! ### The fields of a tag -/

/-- The fields of a tag do not overlap. -/
theorem mkTag_eq (slice i g : Nat) : mkTag slice i g = slice % 32 * 2 ^ 27 + i % 4096 * 2 ^ 15 + g % 32768 := by
  have hgen : g % 32768 < 2 ^ 15 := Nat.mod_lt g (by decide)
  have hrest : i % 4096 * 2 ^ 15 + g % 32768 < 2 ^ 27 := by omega
  have hentry : (i % 4096) <<< 15 ||| g % 32768 = i % 4096 * 2 ^ 15 + g % 32768 := by
    rw [← Nat.shiftLeft_add_eq_or_of_lt hgen, Nat.shiftLeft_eq]
  calc mkTag slice i g = (slice % 32) <<< 27 ||| ((i % 4096) <<< 15 ||| g % 32768) := by
        simp only [mkTag, fields, Nat.or_zero]
        rfl
    _ = slice % 32 * 2 ^ 27 + i % 4096 * 2 ^ 15 + g % 32768 := by
        rw [hentry, ← Nat.shiftLeft_add_eq_or_of_lt hrest, Nat.shiftLeft_eq, Nat.add_assoc]

theorem tagIslot_mkTag (slice i g : Nat) : tagIslot (mkTag slice i g) = i % 4096 := by
  rw [tagIslot, bf, mkTag_eq, Nat.shiftRight_eq_div_pow]
  omega

section Names
variable {d : Device} {i j : Nat} {c x : InFlight}

/-- A tag names its own in-flight entry. -/
theorem tagIslot_tagOf (hi : i < 4096) : tagIslot (tagOf d i c) = i := by
  rw [tagOf, tagIslot_mkTag, Nat.mod_eq_of_lt hi]

theorem tagOf_inj (hi : i < 4096) (hj : j < 4096) (h : tagOf d i c = tagOf d j x) : i = j := by
  rw [← tagIslot_tagOf (d := d) (c := c) hi, h, tagIslot_tagOf hj]

theorem byTag_of_free {tag : Nat} (h : Map.find d.inflight (tagIslot tag) = none) : byTag d tag = none := by
  simp only [byTag, h]

end Names

/-! ### Generations -/

/-- After 32,767 comes 1, so that no generation is 0. -/
theorem nextTgen_range {g : Nat} (hlow : 1 ≤ g) (hhigh : g ≤ 32767) : 1 ≤ nextTgen g ∧ nextTgen g ≤ 32767 := by
  unfold nextTgen
  split <;> omega

/-! ### What leaves the in-flight entries and their generations -/

/-- The in-flight entries stand, and the generations that the next ones take. -/
structure KeepsTags (d e : Device) : Prop where
  inflight : e.inflight = d.inflight
  tgens : e.tgens = d.tgens

namespace KeepsTags
variable {d e f : Device}

theorem refl (d : Device) : KeepsTags d d := ⟨rfl, rfl⟩

theorem trans (hde : KeepsTags d e) (hef : KeepsTags e f) : KeepsTags d f :=
  ⟨hef.inflight.trans hde.inflight, hef.tgens.trans hde.tgens⟩

theorem foldl {α : Type} {step : Device → α → Device} (hstep : ∀ d x, KeepsTags d (step d x)) (l : List α) (d : Device) :
    KeepsTags d (l.foldl step d) :=
  List.foldlRecOn l step (motive := KeepsTags d) (refl d) fun e he x _ => he.trans (hstep e x)

theorem dropUnits (d : Device) (p : LgiUnit → Bool) : KeepsTags d (dropUnits d p) := by
  unfold Machine.dropUnits
  dsimp only
  split <;> exact ⟨rfl, rfl⟩

theorem modSteps (d : Device) (g : Nat) (f : Step → Step) : KeepsTags d (modSteps d g f) := by
  unfold Machine.modSteps
  split <;> exact ⟨rfl, rfl⟩

theorem unblock (d : Device) : KeepsTags d (unblock d) := ⟨rfl, rfl⟩

theorem retireSteps (d : Device) (g : Nat) : KeepsTags d (retireSteps d g) := by
  unfold Machine.retireSteps
  dsimp only
  split <;> exact ⟨rfl, rfl⟩

theorem cancelKind (d : Device) (slot : Nat) (b : Bool) (kinds : List Nat) : KeepsTags d (cancelKind d slot b kinds) := by
  unfold Machine.cancelKind
  split
  · split <;> exact ⟨rfl, rfl⟩
  · exact refl d

theorem modSeq (d : Device) (slot : Nat) (f : Seq → Seq) : KeepsTags d (d.modSeq slot f) := ⟨rfl, rfl⟩

theorem evalWait (d : Device) (slot : Nat) : KeepsTags d (evalWait d slot) := by
  unfold Machine.evalWait
  split
  · exact refl d
  · split
    · exact ((modSeq d slot _).trans (cancelKind _ slot ..)).trans (modSeq _ slot _)
    · exact refl d

theorem setIfHolds (d : Device) (slot i : Nat) : KeepsTags d (setIfHolds d slot i) := by
  unfold Machine.setIfHolds
  split
  · split
    · exact (modSeq d slot _).trans (evalWait _ slot)
    · exact refl d
  · exact refl d

theorem wakeSlots (d : Device) : KeepsTags d (wakeSlots d) := by
  refine foldl (fun d p => ?_) d.seqs d
  split
  · exact setIfHolds d p.1 FL_SLOTS_OK
  · exact refl d

end KeepsTags

/-! ### A freed entry -/

section Freed
variable {d : Device} {i : Nat} {c : InFlight}

/-- The in-flight table without the entry, whose generation has advanced. -/
def entryGone (d : Device) (i : Nat) : Device :=
  { d with inflight := Map.del d.inflight i, tgens := Map.put d.tgens i (nextTgen (islotGen d i)) }

/-- The freeing goes on to staged units, steps and waits, and to no other entry or generation. -/
theorem freeEntry_keepsTags (hentry : Map.find d.inflight i = some c) : KeepsTags (entryGone d i) (freeEntry d i) := by
  simp only [freeEntry, hentry]
  exact ((((KeepsTags.dropUnits ..).trans (.modSteps ..)).trans (.retireSteps ..)).trans (.unblock _)).trans (.wakeSlots _)

theorem find_inflight_freeEntry_same (hwf : Map.wf d.inflight = true) (hentry : Map.find d.inflight i = some c) :
    Map.find (freeEntry d i).inflight i = none := by
  rw [(freeEntry_keepsTags hentry).inflight]
  exact Map.find_del_same i hwf

theorem find_inflight_freeEntry_ne (hentry : Map.find d.inflight i = some c) {j : Nat} (hj : j ≠ i) :
    Map.find (freeEntry d i).inflight j = Map.find d.inflight j := by
  rw [(freeEntry_keepsTags hentry).inflight]
  exact Map.find_del_ne _ hj

theorem islotGen_freeEntry_same (hentry : Map.find d.inflight i = some c) :
    islotGen (freeEntry d i) i = nextTgen (islotGen d i) := by
  rw [islotGen, (freeEntry_keepsTags hentry).tgens, entryGone, Map.getD, Map.find_put_same, Option.getD_some]

theorem islotGen_freeEntry_ne (hentry : Map.find d.inflight i = some c) {j : Nat} (hj : j ≠ i) :
    islotGen (freeEntry d i) j = islotGen d j := by
  rw [islotGen, (freeEntry_keepsTags hentry).tgens, entryGone, Map.getD, Map.find_put_ne _ _ hj, islotGen, Map.getD]

end Freed

/-! ### The obligation -/

/-- Settles O37: the fields by `mkTag_eq`, distinct entries by `tagOf_inj`, the freed entry by the rules of `freeEntry`. -/
theorem freedTagsNameNothing : Obligations.FreedTagsNameNothing := by
  refine ⟨fun slice i g hslice hi hg => ?fields, fun _ => rfl, fun d i j c x => tagOf_inj, fun d i c hwf hentry => ?freed⟩
  case fields =>
    intro t
    have ht : t = slice * 2 ^ 27 + i * 2 ^ 15 + g := (mkTag_eq slice i g).trans <| by
      rw [Nat.mod_eq_of_lt hslice, Nat.mod_eq_of_lt hi, Nat.mod_eq_of_lt hg]
    omega
  case freed =>
    have hgone := find_inflight_freeEntry_same hwf hentry
    have hgen := islotGen_freeEntry_same hentry
    refine ⟨hgone, fun j => find_inflight_freeEntry_ne hentry, fun hi => byTag_of_free ?_, hgen,
      fun j => islotGen_freeEntry_ne hentry, fun hlow hhigh => hgen ▸ nextTgen_range hlow hhigh⟩
    rwa [tagIslot_tagOf hi]

end Sys2Proof.Machine
end

section
/-! Commits (R134, R184, R247, R272): when SEQUENCE_COMMIT commits and by which operation, what the tokens written
change, and the obligation O41. -/

namespace Sys2Proof.Machine

/-! ### SEQUENCE_COMMIT (R184) -/

section Commit
variable {d : Device} {slot : Nat} {q : Seq}

theorem sequenceCommit_of_not_ready (hseq : d.seq? slot = some q) (hnot : commitReady q = false) :
    sequenceCommit d slot = d := by
  simp [sequenceCommit, hseq, hnot]

theorem sequenceCommit_of_gen {w : Work} (hseq : d.seq? slot = some q) (hready : commitReady q = true)
    (hcls : q.tcb.cls = .g) (hwork : q.work = some w) : sequenceCommit d slot = commitGen d slot q w := by
  simp [sequenceCommit, hseq, hready, hcls, hwork]

theorem sequenceCommit_of_stage (hseq : d.seq? slot = some q) (hready : commitReady q = true)
    (hcls : q.tcb.cls = .r ∨ q.tcb.cls = .e) : sequenceCommit d slot = commitStage d slot q := by
  rcases hcls with hcls | hcls <;> simp [sequenceCommit, hseq, hready, hcls]

/-- With no token possible the commit ends the request instead (row 25 of Table 4.2). -/
theorem commitGen_of_noValid {w : Work} (hnone : q.outcome.noValid = true) (hemits : q.outcome.emits = []) :
    commitGen d slot q w = finishSeq (bump d Od.SAMPLE_STATS 2) slot .noValidToken 3 := by
  simp [commitGen, endNoValid, hnone, hemits]

theorem settles_sequenceCommit {s : State} (slot : Nat) (hready : fyReady s.dev = true) :
    Settles (.sequenceCommit slot) s (if deltaFree s.dev slot then sequenceCommit s.dev slot else s.dev) :=
  settles_of_whenReady (fun d => if deltaFree d slot then sequenceCommit d slot else d) hready rfl

theorem settles_sequenceCommit_of_deltaFree {s : State} (hready : fyReady s.dev = true)
    (hfree : deltaFree s.dev slot = true) : Settles (.sequenceCommit slot) s (sequenceCommit s.dev slot) := by
  simpa only [hfree, if_true] using settles_sequenceCommit slot hready

end Commit

/-! ### The window ring (R247) -/

/-- The ring once the tokens from position `pos` on are in. -/
def ringTaken (ring : Map Nat) (pos : Nat) (es : List Emit) : Map Nat :=
  (indexed pos es).foldl (fun m p => Map.put m (p.1 % 64) p.2.token) ring

theorem ringTaken_cons (ring : Map Nat) (pos : Nat) (e : Emit) (es : List Emit) :
    ringTaken ring pos (e :: es) = ringTaken (Map.put ring (pos % 64) e.token) (pos + 1) es := rfl

/-- A place that no token reaches keeps what it held. -/
theorem find_ringTaken_of_not_reached {ring : Map Nat} {pos j : Nat} {es : List Emit}
    (h : ∀ k < es.length, j ≠ (pos + k) % 64) : Map.find (ringTaken ring pos es) j = Map.find ring j := by
  induction es generalizing ring pos with
  | nil => rfl
  | cons e es ih =>
    have hrest : ∀ k < es.length, j ≠ (pos + 1 + k) % 64 := fun k hk => by
      rw [Nat.add_assoc, Nat.add_comm 1 k]
      exact h (k + 1) (Nat.succ_lt_succ hk)
    rw [ringTaken_cons, ih hrest]
    exact Map.find_put_ne _ _ (h 0 (Nat.succ_pos _))

/-- Up to 64 tokens each stand at their position modulo 64: none falls on another's place. -/
theorem find_ringTaken {ring : Map Nat} {pos k : Nat} {es : List Emit} (hlen : es.length ≤ 64) (hk : k < es.length) :
    Map.find (ringTaken ring pos es) ((pos + k) % 64) = (es[k]?).map Emit.token := by
  induction es generalizing ring pos k with
  | nil => exact nomatch hk
  | cons e es ih =>
    rw [List.length_cons] at hlen hk
    rw [ringTaken_cons]
    cases k with
    | zero =>
      have hlater : ∀ k < es.length, (pos + 0) % 64 ≠ (pos + 1 + k) % 64 := by omega
      rw [find_ringTaken_of_not_reached hlater]
      exact Map.find_put_same ..
    | succ k =>
      rw [List.getElem?_cons_succ, ← Nat.add_assoc, Nat.add_right_comm]
      exact ih (Nat.le_of_succ_le hlen) (Nat.lt_of_succ_lt_succ hk)

/-! ### The record action of a commit (R184, R134) -/

section Records
variable {d : Device} {slot : Nat} {q : Seq}

theorem seq?_modSeq_same (hseq : d.seq? slot = some q) (f : Seq → Seq) : (d.modSeq slot f).seq? slot = some (f q) :=
  (Map.find_mod_same ..).trans (congrArg (Option.map f) hseq)

theorem seq?_modSeq_ne (d : Device) {r : Nat} (f : Seq → Seq) (hr : r ≠ slot) : (d.modSeq slot f).seq? r = d.seq? r :=
  Map.find_mod_ne _ f hr

theorem writeTurn_onPort (d : Device) (slot : Nat) : OnPort d (writeTurn d slot) := by
  unfold writeTurn
  split
  · exact .refl d
  · split
    · exact .refl d
    · exact fabiNew_onPort ..

end Records

section Tokens
variable {d : Device} {slot : Nat} {q : Seq} {w : WlEntry} {es : List Emit}

/-- The record of a sequence with the tokens in it that stand from position `pos` on. -/
def Seq.tokensTaken (q : Seq) (pos : Nat) (es : List Emit) : Seq :=
  { q with
    tcb := { q.tcb with tokenEnd := q.tcb.tokenEnd + es.length }, samp := { q.samp with ring := ringTaken q.samp.ring pos es } }

/-- A context block whose turn `n` ends before `tokenEnd`. -/
def CtxBlk.turnEnds (c : CtxBlk) (n tokenEnd : Nat) : CtxBlk :=
  { c with turns := modAt c.turns n (fun t => { t with gen := tokenEnd }) }

/-- The slice with the tokens in their sequence's record and in its last turn. -/
def tokensRecorded (d : Device) (slot : Nat) (q : Seq) (w : WlEntry) (es : List Emit) : Device :=
  modBlk (d.modSeq slot (·.tokensTaken w.newPos es)) slot
    (·.turnEnds (q.ctx.turns.length - 1) (q.tcb.tokenEnd + es.length))

theorem commitTokens_eq (hseq : d.seq? slot = some q) (hes : es ≠ []) : commitTokens d slot w es =
    chargeTokens (writeTurn (tokensRecorded d slot q w es) slot) q.tcb.client es.length := by
  have htaken : (d.modSeq slot (·.tokensTaken w.newPos es)).seq? slot = some (q.tokensTaken w.newPos es) :=
    seq?_modSeq_same hseq _
  unfold commitTokens
  simp only [Seq.tokensTaken, ringTaken] at htaken
  simp only [htaken, List.isEmpty_iff, hes, if_false]
  rfl

/-- Neither the write of the turn nor the charge reaches a sequence. -/
theorem seq?_commitTokens (hseq : d.seq? slot = some q) (hes : es ≠ []) (r : Nat) :
    (commitTokens d slot w es).seq? r = (tokensRecorded d slot q w es).seq? r := by
  rw [commitTokens_eq hseq hes]
  exact congrArg (Map.find · r) (writeTurn_onPort ..).seqs

theorem seq?_tokensRecorded_same (hseq : d.seq? slot = some q) : (tokensRecorded d slot q w es).seq? slot =
    some { q.tokensTaken w.newPos es with
      ctx := q.ctx.turnEnds (q.ctx.turns.length - 1) (q.tcb.tokenEnd + es.length) } :=
  seq?_modSeq_same (seq?_modSeq_same hseq _) _

theorem seq?_tokensRecorded_ne {r : Nat} (hr : r ≠ slot) : (tokensRecorded d slot q w es).seq? r = d.seq? r :=
  (seq?_modSeq_ne _ _ hr).trans (seq?_modSeq_ne d _ hr)

end Tokens

/-! ### The charge for tokens (R134) -/

section Charge
variable {d : Device} {c n : Nat}

theorem tokUsed_chargeTokens :
    ((chargeTokens d c n).client c).tokUsed = min (2 ^ 24 - 1) ((d.client c).tokUsed + n) := by
  rw [chargeTokens, Device.modClient_client_same, addD]

/-- The grant of a client without a cap on its tokens stands. -/
theorem tokGrant_chargeTokens : ((chargeTokens d c n).client c).tokGrant =
    if odGetC d Od.CLIENT_MAX_TPS c = 0 then (d.client c).tokGrant else (d.client c).tokGrant - n := by
  rw [chargeTokens, Device.modClient_client_same]
  by_cases hcap : odGetC d Od.CLIENT_MAX_TPS c = 0 <;> simp [hcap]

theorem client_chargeTokens_ne {x : Nat} (hx : x ≠ c) : (chargeTokens d c n).client x = d.client x :=
  Device.modClient_client_ne d _ hx

end Charge

section Client
variable {d : Device} {slot : Nat} {q : Seq} {w : WlEntry} {es : List Emit}

theorem client_turnWritten (c : Nat) : (writeTurn (tokensRecorded d slot q w es) slot).client c = d.client c :=
  client_of_onPort (writeTurn_onPort ..) c

theorem odGetC_turnWritten (i c : Nat) : odGetC (writeTurn (tokensRecorded d slot q w es) slot) i c = odGetC d i c :=
  (OnAcct.of_onPort (writeTurn_onPort ..)).odGet ..

theorem client_commitTokens (hseq : d.seq? slot = some q) (hes : es ≠ []) :
    ((commitTokens d slot w es).client q.tcb.client).tokUsed =
        min (2 ^ 24 - 1) ((d.client q.tcb.client).tokUsed + es.length) ∧
      ((commitTokens d slot w es).client q.tcb.client).tokGrant = (if odGetC d Od.CLIENT_MAX_TPS q.tcb.client = 0
        then (d.client q.tcb.client).tokGrant else (d.client q.tcb.client).tokGrant - es.length) ∧
      ∀ c, c ≠ q.tcb.client → (commitTokens d slot w es).client c = d.client c := by
  rw [commitTokens_eq hseq hes]
  refine ⟨?_, ?_, fun c hc => ?_⟩
  · rw [tokUsed_chargeTokens, client_turnWritten]
  · rw [tokGrant_chargeTokens, client_turnWritten, odGetC_turnWritten]
  · rw [client_chargeTokens_ne hc, client_turnWritten]

end Client

/-! ### The obligation -/

/-- Settles O41: SEQUENCE_COMMIT runs to the commit of its class (`sequenceCommit_of_gen`, `sequenceCommit_of_stage`), and
of the record action the ring is `find_ringTaken`, the charge `client_commitTokens`. -/
theorem readySequencesCommit : Obligations.ReadySequencesCommit := by
  refine ⟨fun s slot q hready hseq => ⟨fun hnot => ?waits, fun hfree hcommit => ⟨fun w hcls hwork => ?gen, fun hcls => ?stage⟩⟩,
    fun d slot w es q hseq hes hlen => ?recorded⟩
  case waits =>
    have hsame : (if deltaFree s.dev slot then sequenceCommit s.dev slot else s.dev) = s.dev := by
      rcases hnot with hbusy | hnot
      · rw [if_neg (Bool.eq_false_iff.mp hbusy)]
      · rw [sequenceCommit_of_not_ready hseq hnot, ite_self]
    exact answers_self_of_settles (settles_sequenceCommit slot hready) hsame
  case gen =>
    have hrun := settles_sequenceCommit_of_deltaFree hready hfree
    rw [sequenceCommit_of_gen hseq hcommit hcls hwork] at hrun
    exact ⟨fun hnone hemits => commitGen_of_noValid hnone hemits ▸ hrun, hrun⟩
  case stage => exact sequenceCommit_of_stage hseq hcommit hcls ▸ settles_sequenceCommit_of_deltaFree hready hfree
  case recorded =>
    refine ⟨⟨_, (seq?_commitTokens hseq hes slot).trans (seq?_tokensRecorded_same hseq), rfl, fun k => find_ringTaken hlen⟩,
      fun r hr => (seq?_commitTokens hseq hes r).trans (seq?_tokensRecorded_ne hr), client_commitTokens hseq hes⟩

end Sys2Proof.Machine
end

section
/-! Entries that GROUP_CFG, GROUP_HOT_MAP and SEQ_QUERY_HANDLE write (R94, R175, R199): the value that reaches each effect,
what the effect makes of it, and the obligation O18. -/

namespace Sys2Proof.Machine

/-! ### The value that reaches an effect (R8, R440) -/

/-- Little-endian bytes read back as the value they were made of. -/
theorem ofLe_leBytes {n v : Nat} (hv : v < 256 ^ n) : ofLe (leBytes v n) = v := by
  induction n generalizing v with
  | zero => exact (Nat.lt_one_iff.mp hv).symm
  | succ n ih =>
    have hlow : (BitVec.ofNat 8 v).toNat = v % 256 := rfl
    have hhigh : v >>> 8 = v / 256 := Nat.shiftRight_eq_div_pow v 8
    have hrest : v / 256 < 256 ^ n := Nat.div_lt_of_lt_mul (by rwa [← Nat.pow_succ'])
    rw [leBytes, ofLe, hlow, hhigh, ih hrest, Nat.mod_add_div]

/-- A value without bits that the entry ignores reaches its effect as it was written. -/
theorem ofLe_leBytes_kept {d : Device} {idx n k v : Nat} (hkept : keptBits d idx = 2 ^ k - 1) (hbytes : v < 256 ^ n)
    (hbits : v < 2 ^ k) : ofLe (leBytes v n) &&& keptBits d idx = v := by
  rw [ofLe_leBytes hbytes, hkept, Nat.and_two_pow_sub_one_eq_mod, Nat.mod_eq_of_lt hbits]

theorem keptBits_groupHotMap (d : Device) {sl : Nat} (hsl : sl < 8) : keptBits d (Od.GROUP_HOT_MAP + sl) = 2 ^ 256 - 1 := by
  interval_cases sl <;> rfl

/-! ### The effects -/

section Effects
variable {d : Device} {g sl v h : Nat}

/-- The slice once GROUP_CFG of group `g` holds `v`: a field other than ONLINE sets the group up anew (log entry 48),
and ONLINE starts or stops a group homed here. -/
def groupConfigured (d : Device) (g v : Nat) : Device :=
  let e0 := odSet d Od.GROUP_CFG g v
  let e1 := if bf (groupCfg d g) 19 0 = bf v 19 0 then e0 else setUpGroup e0 g
  let e2 := e1.modGroup g (fun x => { x with blockedFor := [] })
  if bf v 19 15 ≠ d.ident.index then e0
  else if bit v 20 && !bit (groupCfg d g) 20 then groupUp e2 g
  else if bit (groupCfg d g) 20 && !bit v 20 then groupDown e2 g else e2

/-- The slice once a driver has written `v` to hot slot `sl` of group `g` (R199). -/
def hotSlotWritten (d : Device) (g sl v : Nat) : Device :=
  let e0 := d.modGroup g (fun x => { x with blockedFor := [] })
  if v = 0xFFFF then (setHot e0 g sl v).modGroup g (fun x => { x with loads := x.loads.filter (fun l => l.slot ≠ sl) })
  else startLoadInto e0 g sl v

theorem effGroupCfg_of_ok (hok : groupCfgOk d g v = true) : effGroupCfg g d v = (groupConfigured d g v, some .ok) := by
  simp only [effGroupCfg, hok, Bool.not_true, Bool.false_eq_true, if_false]
  exact (apply_ite (fun e : Device => (e, some Status.ok)) (bf v 19 15 ≠ d.ident.index) _ _).symm

theorem effHotMap_of_ok (hok : hotMapOk d g sl v = true) : effHotMap g sl d v = (hotSlotWritten d g sl v, some .ok) := by
  simp only [effHotMap, hok, Bool.not_true, Bool.false_eq_true, if_false]
  exact (apply_ite (fun e : Device => (e, some Status.ok)) (v = 0xFFFF) _ _).symm

theorem effSeqQuery_of_here (hhere : handleSlice h = d.ident.index) :
    effSeqQuery d h = (odSet d Od.SEQ_QUERY_HANDLE 0 h, some .ok) := by
  simp [effSeqQuery, storeIf, hhere]

theorem effSeqQuery_of_elsewhere (haway : handleSlice h ≠ d.ident.index) : effSeqQuery d h = refusedBy d .rejFormat := by
  simp [effSeqQuery, storeIf, haway, refusedBy]

end Effects

/-! ### The obligation -/

section Commands
variable {s : State} {path : Path}

theorem settles_groupCfg (g v : Nat) :
    Settles (.groupCfg path g v) s (pathWrite s.dev path Od.GROUP_CFG g (leBytes v 4) (effGroupCfg g)) := rfl

theorem settles_groupHotMap (g sl v : Nat) : Settles (.groupHotMap path g sl v) s
    (pathWrite s.dev path (Od.GROUP_HOT_MAP + sl) g (leBytes v 2) (effHotMap g sl)) := rfl

theorem answers_seqQueryHandle (h : Nat) : Answers (.seqQueryHandle path h) s
    (pathWrite s.dev path Od.SEQ_QUERY_HANDLE 0 (leBytes h 4) effSeqQuery) := rfl

end Commands

/-- Settles O18: the written value reaches the entry's effect (`ofLe_leBytes_kept`), and the effect takes it
(`effGroupCfg_of_ok`, `effHotMap_of_ok`, `effSeqQuery_of_here`) or refuses it (`effSeqQuery_of_elsewhere`). -/
theorem groupEntriesTakeTheirValues : Obligations.GroupEntriesTakeTheirValues := by
  refine fun s path d => ⟨fun g v hv htaken hok => ?configured, fun g sl v hv htaken hsl hok => ?hotSlot,
    fun h hh htaken => ⟨fun hhere => ?asked, fun haway => ?refused⟩⟩
  case configured =>
    have hvalue : ofLe (leBytes v 4) &&& keptBits d Od.GROUP_CFG = v :=
      ofLe_leBytes_kept (k := 21) rfl (Nat.lt_trans hv (by decide)) hv
    have heff := (congrArg (effGroupCfg g d) hvalue).trans (effGroupCfg_of_ok hok)
    have hrun := settles_groupCfg (s := s) (path := path) g v
    rw [pathWrite_of_effect_ok htaken heff] at hrun
    exact hrun
  case hotSlot =>
    have hvalue : ofLe (leBytes v 2) &&& keptBits d (Od.GROUP_HOT_MAP + sl) = v :=
      ofLe_leBytes_kept (keptBits_groupHotMap d hsl) hv (Nat.lt_trans hv (by decide))
    have heff := (congrArg (effHotMap g sl d) hvalue).trans (effHotMap_of_ok hok)
    have hrun := settles_groupHotMap (s := s) (path := path) g sl v
    rw [pathWrite_of_effect_ok htaken heff] at hrun
    exact hrun
  all_goals
    have hvalue : ofLe (leBytes h 4) &&& keptBits d Od.SEQ_QUERY_HANDLE = h :=
      ofLe_leBytes_kept (k := 256) rfl hh (Nat.lt_trans hh (by decide))
  case asked =>
    have heff := (congrArg (effSeqQuery d) hvalue).trans (effSeqQuery_of_here hhere)
    exact pathWrite_of_effect_ok htaken heff ▸ answers_seqQueryHandle h
  case refused =>
    have heff := (congrArg (effSeqQuery d) hvalue).trans (effSeqQuery_of_elsewhere haway)
    exact pathWrite_of_effect_refused htaken heff (by decide) ▸ answers_seqQueryHandle h

end Sys2Proof.Machine
end

section
/-! Reclamation, the replay area and the mirror (R222, R239 to R241, R381): when each of their operations acts and when it
leaves the slice as it is, and the obligation O44. -/

namespace Sys2Proof.Machine

/-! ### Reclamation (R222) -/

section Reclamation
variable {d : Device}

theorem ctxReclaim_of_enough (henough : t1Below d (odGet d Od.CTX_T1_LOW 0) = false) : ctxReclaim d = d := by
  rw [ctxReclaim, henough, if_neg Bool.false_ne_true]

theorem ctxReclaim_of_below (hlow : t1Below d (odGet d Od.CTX_T1_LOW 0) = true) :
    ctxReclaim d = wakePages (leafRetry (reclaimLoop d (d.ctx.dir1.length + d.seqs.length))) := by
  rw [ctxReclaim, if_pos hlow]

end Reclamation

/-! ### The replay area (R239) -/

section Replay
variable {d : Device} {slot t : Nat} {q : Seq}

/-- A sequence that has waited for a replay block since TICK `t` waits up to 10,000 TICK. -/
theorem replayTimeout_of_waiting (hseq : d.seq? slot = some q) (hsince : q.replaySince = some t) (hnone : q.replay = none) :
    replayTimeout d slot = if t + 10000 ≤ d.tick then faultSeq d slot .faultPageLost else d := by
  simp only [replayTimeout, hseq, hsince, hnone, Option.isNone_none, Bool.and_true, decide_eq_true_eq]

end Replay

/-! ### The directory mirror (R241) -/

section Mirror
variable {d : Device} {src idx : Nat} {e : BitVec 256}

/-- The slice once the entry that its partner sent is in the mirror, an all-zero one taking it out. -/
def mirrorStored (d : Device) (idx : Nat) (e : BitVec 256) : Device :=
  { d with ctx := { d.ctx with mirror := if e = 0 then Map.del d.ctx.mirror idx else Map.put d.ctx.mirror idx e } }

theorem mirrorWrite_of_partner (hn : d.ident.n = 32) (hsrc : src = mirrorPartner d) :
    mirrorWrite d src idx e = sendXfer (mirrorStored d idx e) src (.mirrorAck idx) 32 := by
  have hpartner : (decide (d.ident.n = 32) && decide (src = mirrorPartner d)) = true :=
    Bool.and_eq_true_iff.mpr ⟨decide_eq_true hn, decide_eq_true hsrc⟩
  rw [mirrorWrite, if_pos hpartner]
  rfl

/-- Only a device of 32 slices mirrors, and a slice mirrors its partner only. -/
theorem mirrorWrite_of_not_partner (hnot : d.ident.n ≠ 32 ∨ src ≠ mirrorPartner d) : mirrorWrite d src idx e = d := by
  refine if_neg fun hpartner => ?_
  obtain ⟨hn, hsrc⟩ := Bool.and_eq_true_iff.mp hpartner
  rcases hnot with hne | hne
  · exact hne (of_decide_eq_true hn)
  · exact hne (of_decide_eq_true hsrc)

/-- A mirror write has been without its answer for 10 TICK. -/
def MirrorLate (d : Device) : Prop := ∃ p ∈ d.ctx.mirrorOut, ∃ w ∈ p.2, w.1 + 10 ≤ d.tick

theorem not_mirrorLate_of_inTime (hin : ∀ p ∈ d.ctx.mirrorOut, ∀ w ∈ p.2, d.tick < w.1 + 10) : ¬ MirrorLate d :=
  fun ⟨p, hp, w, hw, hlate⟩ => absurd (hin p hp w hw) (Nat.not_lt.mpr hlate)

/-- The slice once its mirror has stopped: nothing waits for the partner any more, and MIRROR_LOST names it. -/
def mirrorLost (d : Device) : Device :=
  alertLog { d with ctx := { d.ctx with mirrorStopped := true, mirrorOut := [] } } ALERT_MIRROR_LOST (mirrorPartner d) 0 0 0

/-- When the model's test of MIRROR_TIMEOUT holds: the mirror still runs and a write is late. -/
theorem mirrorTimeout_test_iff : (!d.ctx.mirrorStopped && d.ctx.mirrorOut.any (fun p => p.2.any (fun w => w.1 + 10 ≤ d.tick)))
    = true ↔ d.ctx.mirrorStopped = false ∧ MirrorLate d := by
  simp only [MirrorLate, Bool.and_eq_true, Bool.not_eq_true', List.any_eq_true, decide_eq_true_eq]

theorem mirrorTimeout_of_late (hruns : d.ctx.mirrorStopped = false) (hlate : MirrorLate d) :
    mirrorTimeout d = suspectOnce (mirrorLost d) (mirrorPartner d) := by
  rw [mirrorTimeout, if_pos (mirrorTimeout_test_iff.mpr ⟨hruns, hlate⟩)]
  rfl

theorem mirrorTimeout_of_nothing_due (hnot : d.ctx.mirrorStopped = true ∨ ¬ MirrorLate d) : mirrorTimeout d = d := by
  refine if_neg fun hdue => ?_
  obtain ⟨hruns, hlate⟩ := mirrorTimeout_test_iff.mp hdue
  rcases hnot with hstopped | hnot
  · exact Bool.false_ne_true (hruns.symm.trans hstopped)
  · exact hnot hlate

end Mirror

/-! ### The obligation -/

section Commands
variable {s : State} (hready : fyReady s.dev = true)
include hready

theorem settles_ctxReclaim : Settles .ctxReclaim s (ctxReclaim s.dev) :=
  settles_of_whenReady ctxReclaim hready rfl

theorem settles_replayTimeout (slot : Nat) : Settles (.replayTimeout slot) s (replayTimeout s.dev slot) :=
  settles_of_whenReady (replayTimeout · slot) hready rfl

theorem answers_mirrorWrite (src idx : Nat) (e : BitVec 256) :
    Answers (.mirrorWrite src idx e) s (mirrorWrite s.dev src idx e) :=
  answers_of_whenReady (fun d => mirrorWrite d src idx e) hready rfl

theorem answers_mirrorTimeout : Answers .mirrorTimeout s (mirrorTimeout s.dev) :=
  answers_of_whenReady mirrorTimeout hready rfl

end Commands

/-- Settles O44: each command runs to its operation on the ready slice (`settles_ctxReclaim` and its siblings), and the
cases of the operation give the outcome. -/
theorem storesAreReclaimedAndMirrored : Obligations.StoresAreReclaimedAndMirrored := by
  refine fun s slot src idx e hready => ⟨fun henough => ?enough, fun hlow => ?reclaimed,
    fun q t hseq hsince hnone => ⟨fun hdue => ?pageLost, fun hearly => ?stillWaits⟩, fun hn hsrc => ?kept,
    fun hnot => ?ignored, fun hruns hlate => ?stopped, fun hnot => ?nothingDue⟩
  case enough => exact answers_self_of_settles (settles_ctxReclaim hready) (ctxReclaim_of_enough henough)
  case reclaimed => exact ctxReclaim_of_below hlow ▸ settles_ctxReclaim hready
  case pageLost =>
    have hrun := settles_replayTimeout hready slot
    rwa [replayTimeout_of_waiting hseq hsince hnone, if_pos hdue] at hrun
  case stillWaits =>
    have hsame : replayTimeout s.dev slot = s.dev := by
      rw [replayTimeout_of_waiting hseq hsince hnone, if_neg (Nat.not_le.mpr hearly)]
    exact answers_self_of_settles (settles_replayTimeout hready slot) hsame
  case kept => exact mirrorWrite_of_partner hn hsrc ▸ answers_mirrorWrite hready src idx e
  case ignored =>
    have hrun := answers_mirrorWrite hready src idx e
    rwa [mirrorWrite_of_not_partner hnot] at hrun
  case stopped => exact mirrorTimeout_of_late hruns hlate ▸ answers_mirrorTimeout hready
  case nothingDue =>
    have hrun := answers_mirrorTimeout hready
    rwa [mirrorTimeout_of_nothing_due (hnot.imp_right not_mirrorLate_of_inTime)] at hrun

end Sys2Proof.Machine
end

section
/-! Positions on the lanes (R258, R263 to R268, R304, R311, R328): when SAMPLE_POSITION and DIGEST_ROUND act and by which
operation, what these write to the sequence's record, and the obligations O39 and O40. -/

namespace Sys2Proof.Machine

/-! ### The lane group that serves (log entry 23) -/

/-- Where groups are usable, one of them serves. -/
theorem exists_laneFor {d : Device} (hne : usableGroups d ≠ []) (tag entry unit : Nat) :
    ∃ g ∈ usableGroups d, laneFor d tag entry unit = some g := by
  obtain ⟨a, l, hgroups⟩ := List.exists_cons_of_ne_nil hne
  have hlt : Config.laneGroup tag entry unit % (usableGroups d).length < (usableGroups d).length :=
    Nat.mod_lt _ (List.length_pos_of_ne_nil hne)
  refine ⟨_, List.getElem_mem hlt, ?_⟩
  rw [← List.getElem?_eq_getElem hlt, laneFor, hgroups]

/-! ### Work that draws random words (R304, R311) -/

section TableRead
variable {d : Device} {q : Seq} {e : WlEntry} {hz : Hazard} {f : Device → Device}

theorem tableRead_of_generating (hdraws : drawsWords q e = true) (hbusy : d.clk.tableBusy ≠ none) :
    tableRead d q e hz f = d :=
  if_pos (Bool.and_eq_true_iff.mpr ⟨hdraws, Option.isSome_iff_ne_none.mpr hbusy⟩)

theorem tableRead_of_not_held (hidle : drawsWords q e = true → d.clk.tableBusy = none) :
    tableRead d q e hz f = match needsTable q e, hz.table with
      | true, some a => tableError d a
      | _, _ => f d := by
  refine if_neg fun hheld => ?_
  obtain ⟨hdraws, hbusy⟩ := Bool.and_eq_true_iff.mp hheld
  exact Option.isSome_iff_ne_none.mp hbusy (hidle hdraws)

theorem tableRead_of_error {a : Nat} (hneeds : needsTable q e = true) (hidle : d.clk.tableBusy = none)
    (herror : hz.table = some a) : tableRead d q e hz f = tableError d a := by
  rw [tableRead_of_not_held fun _ => hidle, hneeds, herror]

theorem tableRead_of_served (hidle : drawsWords q e = true → d.clk.tableBusy = none)
    (hread : needsTable q e = true → hz.table = none) : tableRead d q e hz f = f d := by
  rw [tableRead_of_not_held hidle]
  cases hneeds : needsTable q e with
  | false => rfl
  | true => rw [hread hneeds]

end TableRead

/-! ### What the lanes' operations leave of the records of sequences -/

section Records
variable {d e : Device} {slot : Nat} {q : Seq}

theorem seq?_of_seqs (h : e.seqs = d.seqs) (r : Nat) : e.seq? r = d.seq? r :=
  congrArg (Map.find · r) h

@[simp] theorem laneIssue_seqs (d : Device) (g : Nat) : (laneIssue d g).seqs = d.seqs := rfl

@[simp] theorem chargeLanes_seqs (d : Device) (c n : Nat) : (chargeLanes d c n).seqs = d.seqs := rfl

@[simp] theorem countDist_seqs (d : Device) (q : Seq) (p : PosIn) (bs : List Blk) (n : Nat) :
    (countDist d q p bs n).seqs = d.seqs := by
  rw [countDist, chargeLanes_seqs, bumpBy_seqs, bumpBy_seqs]

@[simp] theorem countPosition_seqs (d : Device) (q : Seq) (p : PosIn) (bs : List Blk) (x : Dist) (n : Nat) :
    (countPosition d q p bs x n).seqs = d.seqs := by
  rw [countPosition, countDist_seqs, bumpBy_seqs, bump_seqs]

@[simp] theorem releaseNode_seqs (d : Device) (w : Work) (node : Nat) : (releaseNode d w node).seqs = d.seqs := by
  rw [releaseNode]
  split <;> rfl

@[simp] theorem noteAsked_seqs (d : Device) (w : Work) (blocks : List Nat) (fdone : Bool) :
    (noteAsked d w blocks fdone).seqs = d.seqs := rfl

@[simp] theorem writeFetch_seqs (d : Device) (slot : Nat) (w : Work) (round : Nat) (blocks : List Nat) (fall fdone : Bool) :
    (writeFetch d slot w round blocks fall fdone).seqs = d.seqs :=
  fabiNew_seqs ..

/-- The lanes' outcome is ready once it is written, and nothing else of the record changes. -/
theorem seq?_setOutcome_same (hseq : d.seq? slot = some q) (e : WlEntry) (r : Run) (fetched : Nat) (mismatch : Bool) :
    ∃ o, (setOutcome d slot e r fetched mismatch).seq? slot = some { q with outcome := o } ∧ o.ready = true := by
  simp only [setOutcome, hseq]
  exact ⟨_, seq?_modSeq_same hseq _, rfl⟩

theorem seq?_setOutcome_ne {r : Nat} (hr : r ≠ slot) (e : WlEntry) (run : Run) (fetched : Nat) (mismatch : Bool) :
    (setOutcome d slot e run fetched mismatch).seq? r = d.seq? r := by
  rw [setOutcome]
  split
  · rfl
  · exact seq?_modSeq_ne _ _ hr

end Records

/-! ### SAMPLE_POSITION: a node of an entry (R258, R328) -/

section Node
variable {d : Device} {slot node g : Nat} {q p : Seq} {w : Work}

/-- The distribution of a node: what its logits, its inputs and its random word give. -/
def nodeDist (d : Device) (q : Seq) (w : Work) (node : Nat) : Dist :=
  (resolve (posIn d q w.entry node) (exactBlks d w (posIn d q w.entry node) node LK_LOGITS)
    (wordOf d q 1 (yieldPos q w.entry node))).1

/-- The slice with the node's distribution counted. -/
def nodeCounted (d : Device) (q : Seq) (w : Work) (node g : Nat) : Device :=
  let p := posIn d q w.entry node
  let x := nodeDist d q w node
  bumpBy (laneIssue (countPosition d q p (exactBlks d w p node LK_LOGITS) x p.vocab) g) Od.RNG_STATS 2
    (ofBool (x.valid && !x.greedy && !chainMode q w.entry))

/-- The slice with the node's distribution counted and in the sequence's record. -/
def nodeProcessed (d : Device) (slot : Nat) (q : Seq) (w : Work) (node g : Nat) : Device :=
  (nodeCounted d q w node g).modSeq slot (fun r => { r with dists := Map.put r.dists node (nodeDist d q w node) })

/-- The slice with the draft distribution of the node in the record, where CHAIN_REJECT asks for one. -/
def draftProcessed (d : Device) (slot : Nat) (q : Seq) (w : Work) (node : Nat) : Device :=
  if chainMode q w.entry && node ≠ 0 then
    let p := posIn d q w.entry (node - 1)
    let bs := exactBlks d w p node LK_DRAFT
    (countDist d q p bs p.vocab).modSeq slot
      (fun r => { r with dists := Map.put r.dists (draftKey node) (resolve p bs 0).1 })
  else d

/-- The slice with all of the node's work done and its beats released. -/
def nodeReleased (d : Device) (slot : Nat) (q : Seq) (w : Work) (node g : Nat) : Device :=
  releaseNode (draftProcessed (nodeProcessed d slot q w node g) slot q w node) w node

/-- The slice with the outcome of the step written, where the record has the entry's last distribution. -/
def outcomeDrawn (d : Device) (slot : Nat) (q : Seq) (e : WlEntry) : Device :=
  if nodesDone q e then setOutcome d slot e (runOf d q e) 0 false else d

theorem sampleNode_eq (hseq : (nodeReleased d slot q w node g).seq? slot = some p) :
    sampleNode d slot q w node g = outcomeDrawn (nodeReleased d slot q w node g) slot p w.entry := by
  have hdef : sampleNode d slot q w node g = match (nodeReleased d slot q w node g).seq? slot with
    | some r => outcomeDrawn (nodeReleased d slot q w node g) slot r w.entry
    | none => nodeReleased d slot q w node g := rfl
  rw [hdef, hseq]

theorem nodeCounted_seqs : (nodeCounted d q w node g).seqs = d.seqs := by
  rw [nodeCounted, bumpBy_seqs, laneIssue_seqs, countPosition_seqs]

theorem seq?_nodeProcessed_same (hseq : d.seq? slot = some q) : (nodeProcessed d slot q w node g).seq? slot =
    some { q with dists := Map.put q.dists node (nodeDist d q w node) } :=
  seq?_modSeq_same ((seq?_of_seqs nodeCounted_seqs slot).trans hseq) _

theorem seq?_nodeProcessed_ne {r : Nat} (hr : r ≠ slot) : (nodeProcessed d slot q w node g).seq? r = d.seq? r :=
  (seq?_modSeq_ne _ _ hr).trans (seq?_of_seqs nodeCounted_seqs r)

/-- A draft distribution stands under a key of its own. -/
theorem seq?_draftProcessed_same (hseq : d.seq? slot = some p) : ∃ ds,
    (draftProcessed d slot q w node).seq? slot = some { p with dists := ds } ∧
      Map.find ds node = Map.find p.dists node := by
  have hkey : node ≠ draftKey node := by
    unfold draftKey
    omega
  rw [draftProcessed]
  split
  · exact ⟨_, seq?_modSeq_same ((seq?_of_seqs (countDist_seqs ..) slot).trans hseq) _, Map.find_put_ne _ _ hkey⟩
  · exact ⟨p.dists, hseq, rfl⟩

theorem seq?_draftProcessed_ne {r : Nat} (hr : r ≠ slot) : (draftProcessed d slot q w node).seq? r = d.seq? r := by
  rw [draftProcessed]
  split
  · exact (seq?_modSeq_ne _ _ hr).trans (seq?_of_seqs (countDist_seqs ..) r)
  · rfl

theorem seq?_nodeReleased_same (hseq : d.seq? slot = some q) : ∃ ds,
    (nodeReleased d slot q w node g).seq? slot = some { q with dists := ds } ∧
      Map.find ds node = some (nodeDist d q w node) := by
  obtain ⟨ds, hdraft, hkept⟩ := seq?_draftProcessed_same (q := q) (w := w) (node := node)
    (seq?_nodeProcessed_same (w := w) (node := node) (g := g) hseq)
  exact ⟨ds, (seq?_of_seqs (releaseNode_seqs ..) slot).trans hdraft, hkept.trans (Map.find_put_same ..)⟩

theorem seq?_nodeReleased_ne {r : Nat} (hr : r ≠ slot) : (nodeReleased d slot q w node g).seq? r = d.seq? r :=
  calc (nodeReleased d slot q w node g).seq? r
      = (draftProcessed (nodeProcessed d slot q w node g) slot q w node).seq? r := seq?_of_seqs (releaseNode_seqs ..) r
    _ = (nodeProcessed d slot q w node g).seq? r := seq?_draftProcessed_ne hr
    _ = d.seq? r := seq?_nodeProcessed_ne hr

theorem seq?_outcomeDrawn_same (hseq : d.seq? slot = some q) (hopen : q.outcome.ready = false) (e : WlEntry) :
    ∃ o, (outcomeDrawn d slot q e).seq? slot = some { q with outcome := o } ∧ o.ready = nodesDone q e := by
  rw [outcomeDrawn]
  cases nodesDone q e with
  | false => exact ⟨q.outcome, hseq, hopen⟩
  | true => exact seq?_setOutcome_same hseq ..

theorem seq?_outcomeDrawn_ne {r : Nat} (hr : r ≠ slot) (q : Seq) (e : WlEntry) :
    (outcomeDrawn d slot q e).seq? r = d.seq? r := by
  rw [outcomeDrawn]
  split
  · exact seq?_setOutcome_ne hr ..
  · rfl

/-- Whether every node has its distribution does not depend on the outcome that is written then. -/
theorem seq?_sampleNode_same (hseq : d.seq? slot = some q) (hopen : q.outcome.ready = false) :
    ∃ p, (sampleNode d slot q w node g).seq? slot = some p ∧ p.outcome.ready = nodesDone p w.entry ∧
      Map.find p.dists node = some (nodeDist d q w node) := by
  obtain ⟨ds, hreleased, hdist⟩ := seq?_nodeReleased_same (w := w) (node := node) (g := g) hseq
  obtain ⟨o, hdrawn, hready⟩ := seq?_outcomeDrawn_same hreleased hopen w.entry
  exact ⟨_, sampleNode_eq hreleased ▸ hdrawn, hready, hdist⟩

theorem seq?_sampleNode_ne {r : Nat} (hseq : d.seq? slot = some q) (hr : r ≠ slot) :
    (sampleNode d slot q w node g).seq? r = d.seq? r := by
  obtain ⟨ds, hreleased, -⟩ := seq?_nodeReleased_same (w := w) (node := node) (g := g) hseq
  rw [sampleNode_eq hreleased]
  exact (seq?_outcomeDrawn_ne hr ..).trans (seq?_nodeReleased_ne hr)

end Node

section Position
variable {d : Device} {slot node g : Nat} {q : Seq} {w : Work} {hz : Hazard}

theorem positionReady_of_inputs (hmode : w.entry.logitMode = 1) (hnode : node < w.entry.positions)
    (hrunning : q.tcb.state.running = true) (hopen : q.outcome.ready = false) (hnew : Map.find q.dists node = none)
    (hinputs : q.inputsDue = 0) (htail : q.tailDue = false)
    (hlogits : blocksIn d w (vocabOf d q.version) node LK_LOGITS = true)
    (hdraft : chainMode q w.entry = true → node ≠ 0 → blocksIn d w (vocabOf d q.version) node LK_DRAFT = true) :
    positionReady d q w node = true := by
  have hdrafts : (!chainMode q w.entry || node = 0 || blocksIn d w (vocabOf d q.version) node LK_DRAFT) = true := by
    cases hchain : chainMode q w.entry with
    | false => rfl
    | true =>
      by_cases hroot : node = 0
      · simp [hroot]
      · simp [hdraft hchain hroot]
  simp [positionReady, Map.has, hmode, hnode, hrunning, hopen, hnew, hinputs, htail, hlogits, hdrafts]

variable (hseq : d.seq? slot = some q) (hwork : q.work = some w)
include hseq hwork

theorem samplePosition_of_not_ready (hnot : positionReady d q w node = false) : samplePosition d slot node hz = d := by
  simp [samplePosition, hseq, hwork, hnot]

theorem samplePosition_of_lane {lg l : Nat} (hpos : positionReady d q w node = true) (hlane : hz.lane = some (lg, l)) :
    samplePosition d slot node hz = laneFault d lg l [slot] := by
  simp [samplePosition, hseq, hwork, hpos, hlane]

theorem samplePosition_of_group (hpos : positionReady d q w node = true) (hlane : hz.lane = none)
    (hgroup : laneFor d w.tag w.idx node = some g) :
    samplePosition d slot node hz = tableRead d q w.entry hz (sampleNode · slot q w node g) := by
  simp [samplePosition, hseq, hwork, hpos, hlane, hgroup]

end Position

theorem settles_samplePosition {s : State} (slot node : Nat) (hz : Hazard) (hready : fyReady s.dev = true) :
    Settles (.samplePosition slot node hz) s (samplePosition s.dev slot node hz) :=
  settles_of_whenReady (samplePosition · slot node hz) hready rfl

/-- Settles O39: a ready position runs to the course that its hazards and the table give it (`samplePosition_of_group`,
`tableRead_of_served`), and the record then holds its distribution (`seq?_sampleNode_same`). -/
theorem positionsAreProcessedOnce : Obligations.PositionsAreProcessedOnce := by
  intro s slot node q w hz hready hseq hwork
  have hrun := settles_samplePosition slot node hz hready
  refine ⟨fun hnot => ?notReady, fun hmode hnode hrunning hopen hnew hinputs htail hlogits hdraft => ?ready⟩
  case notReady => exact answers_self_of_settles hrun (samplePosition_of_not_ready hseq hwork hnot)
  case ready =>
    have hpos : positionReady s.dev q w node = true :=
      positionReady_of_inputs hmode hnode hrunning hopen hnew hinputs htail hlogits hdraft
    refine ⟨fun lg l hlane => samplePosition_of_lane hseq hwork hpos hlane ▸ hrun, fun hlane hgroups => ?_⟩
    obtain ⟨g, hg, hgroup⟩ := exists_laneFor hgroups w.tag w.idx node
    rw [samplePosition_of_group hseq hwork hpos hlane hgroup] at hrun
    refine ⟨fun hdraws hbusy => ?generating, fun a hneeds hidle herror => ?tableError, fun hidle hread => ?processed⟩
    case generating => exact answers_self_of_settles hrun (tableRead_of_generating hdraws hbusy)
    case tableError => exact tableRead_of_error hneeds hidle herror ▸ hrun
    case processed =>
      rw [tableRead_of_served hidle hread] at hrun
      exact ⟨g, hg, hrun, seq?_sampleNode_same hseq hopen, fun r hr => seq?_sampleNode_ne hseq hr⟩

/-! ### DIGEST_ROUND: the loop over digests (R263 to R268) -/

section Digest
variable {d : Device} {slot g : Nat} {q p : Seq} {w : Work} {x : DigestPos}

theorem digestReady_of_inputs (hmode : 2 ≤ w.entry.logitMode) (hrunning : q.tcb.state.running = true)
    (hopen : q.outcome.ready = false) (hinputs : q.inputsDue = 0) (htail : q.tailDue = false)
    (hdigests : ∀ b, b < blocksOf (vocabOf d q.version) →
      (digestOf d w (vocabOf d q.version) w.entry.logitMode b).isSome = true) : digestReady d q w = true := by
  have hall : (List.range (blocksOf (vocabOf d q.version))).all
      (fun b => (digestOf d w (vocabOf d q.version) w.entry.logitMode b).isSome) = true :=
    List.all_eq_true.mpr fun b hb => hdigests b (List.mem_range.mp hb)
  simp only [digestReady, hmode, hrunning, hopen, hinputs, htail, hall, decide_true, Bool.not_false, Bool.and_true]

/-- Every block that the position has asked for is in. -/
def requestedIn (d : Device) (w : Work) (x : DigestPos) : Bool :=
  x.requested.all (fun b => match unitFor d w 0 LK_LOGITS b with | some u => u.complete | none => false)

theorem digestRounds_of_asked (hdigest : q.digest = some x) :
    digestRounds d slot q w = if requestedIn d w x then digestStep d slot q w x else d := by
  rw [digestRounds, hdigest]
  rfl

theorem digestRounds_of_missing (hdigest : q.digest = some x) (hmissing : requestedIn d w x = false) :
    digestRounds d slot q w = d := by
  rw [digestRounds_of_asked hdigest, hmissing, if_neg Bool.false_ne_true]

theorem digestRounds_of_sent (hdigest : q.digest = some x) (hsent : requestedIn d w x = true) :
    digestRounds d slot q w = digestStep d slot q w x := by
  rw [digestRounds_of_asked hdigest, if_pos hsent]

theorem digestRounds_of_none_corrected (hdigest : q.digest = none) (hgroup : laneFor d w.tag w.idx 0 = some g)
    (hcorrected : correctedBlocks q w.entry.newPos = []) :
    digestRounds d slot q w = digestStep d slot q w { islot := w.islot, lane := g } := by
  simp only [digestRounds, hdigest, hgroup, hcorrected]

theorem digestRounds_of_corrected (hdigest : q.digest = none) (hgroup : laneFor d w.tag w.idx 0 = some g)
    (hcorrected : correctedBlocks q w.entry.newPos ≠ []) :
    digestRounds d slot q w = requestRound d slot w { islot := w.islot, lane := g }
      (sortBy (· ≤ ·) (correctedBlocks q w.entry.newPos)) := by
  cases hblocks : correctedBlocks q w.entry.newPos with
  | nil => exact absurd hblocks hcorrected
  | cons b bs => simp only [digestRounds, hdigest, hgroup, hblocks]

theorem seq?_requestRound_same (hseq : d.seq? slot = some q) (blocks : List Nat) :
    (requestRound d slot w x blocks).seq? slot =
      some { q with digest := some { x with round := x.round + 1, requested := blocks } } := by
  refine seq?_modSeq_same ((seq?_of_seqs ?_ slot).trans hseq) _
  rw [noteAsked_seqs, writeFetch_seqs, bumpBy_seqs, bump_seqs]

/-- A resolved position has its outcome ready, and nothing of the loop remains. -/
theorem seq?_digestFinish_same (hseq : d.seq? slot = some p) (pin : PosIn) (bs : List Blk) (u : Nat) :
    ∃ r, (digestFinish d slot q w x pin bs u).seq? slot = some r ∧ r.outcome.ready = true ∧ r.digest = none := by
  unfold digestFinish
  extract_lets dist elems counted drawn tallied asked taken run
  have hasked : asked.seqs = d.seqs := by
    simp only [asked, tallied, counted, noteAsked_seqs, apply_ite Device.seqs, writeFetch_seqs, bumpBy_seqs,
      countPosition_seqs, ite_self]
  have htaken : (releaseNode taken w 0).seq? slot =
      some { p with digest := none, dists := Map.put p.dists 0 dist.1 } :=
    (seq?_of_seqs (releaseNode_seqs ..) slot).trans (seq?_modSeq_same ((seq?_of_seqs hasked slot).trans hseq) _)
  obtain ⟨o, hout, hready⟩ := seq?_setOutcome_same htaken w.entry run x.fetched.length x.mismatch
  exact ⟨_, (seq?_of_seqs (laneIssue_seqs ..) slot).trans hout, hready, rfl⟩

/-- After FALL every block is in, and the step resolves the position. -/
theorem digestStep_of_fall (hfall : x.fall = true) : ∃ e y pin bs u,
    e.seqs = d.seqs ∧ digestStep d slot q w x = digestFinish e slot q w y pin bs u := by
  simp only [digestStep, hfall, if_true]
  refine ⟨_, _, _, _, _, ?_, rfl⟩
  split <;> rfl

theorem seq?_digestStep_of_fall (hseq : d.seq? slot = some q) (hfall : x.fall = true) :
    ∃ p, (digestStep d slot q w x).seq? slot = some p ∧ p.outcome.ready = true ∧ p.digest = none := by
  obtain ⟨e, y, pin, bs, u, hseqs, hstep⟩ := digestStep_of_fall (d := d) (slot := slot) (q := q) (w := w) hfall
  rw [hstep]
  exact seq?_digestFinish_same ((seq?_of_seqs hseqs slot).trans hseq) pin bs u

end Digest

section Round
variable {d : Device} {slot : Nat} {q : Seq} {w : Work} {hz : Hazard}
  (hseq : d.seq? slot = some q) (hwork : q.work = some w)
include hseq hwork

theorem digestRound_of_not_ready (hnot : digestReady d q w = false) : digestRound d slot hz = d := by
  simp [digestRound, hseq, hwork, hnot]

theorem digestRound_of_lane {lg l : Nat} (hin : digestReady d q w = true) (hlane : hz.lane = some (lg, l)) :
    digestRound d slot hz = laneFault d lg l [slot] := by
  simp [digestRound, hseq, hwork, hin, hlane]

theorem digestRound_of_no_lane (hin : digestReady d q w = true) (hlane : hz.lane = none) :
    digestRound d slot hz = tableRead d q w.entry hz (digestRounds · slot q w) := by
  simp [digestRound, hseq, hwork, hin, hlane]

end Round

theorem settles_digestRound {s : State} (slot : Nat) (hz : Hazard) (hready : fyReady s.dev = true) :
    Settles (.digestRound slot hz) s (digestRound s.dev slot hz) :=
  settles_of_whenReady (digestRound · slot hz) hready rfl

/-- Settles O40: with the digests in, the round runs to the course that its hazards and the table give it
(`digestRound_of_no_lane`, `tableRead_of_served`), and from there to the loop or a request (`digestRounds_of_sent`,
`digestRounds_of_none_corrected`, `digestRounds_of_corrected`). -/
theorem digestLoopRuns : Obligations.DigestLoopRuns := by
  intro s slot q w hz hready hseq hwork
  have hrun := settles_digestRound slot hz hready
  refine ⟨fun hnot => ?notReady, fun hmode hrunning hopen hinputs htail hdigests => ?ready⟩
  case notReady => exact answers_self_of_settles hrun (digestRound_of_not_ready hseq hwork hnot)
  case ready =>
    have hin : digestReady s.dev q w = true := digestReady_of_inputs hmode hrunning hopen hinputs htail hdigests
    refine ⟨fun lg l hlane => digestRound_of_lane hseq hwork hin hlane ▸ hrun, fun hlane hdraws hbusy => ?generating,
      fun a hlane hneeds hidle herror => ?tableError, fun hlane hidle hread => ?served⟩
    all_goals rw [digestRound_of_no_lane hseq hwork hin hlane] at hrun
    case generating => exact answers_self_of_settles hrun (tableRead_of_generating hdraws hbusy)
    case tableError => exact tableRead_of_error hneeds hidle herror ▸ hrun
    case served =>
      rw [tableRead_of_served hidle hread] at hrun
      refine ⟨fun x hdigest => ?asked, fun hdigest hgroups => ?first⟩
      case asked =>
        refine ⟨fun hmissing => ?_, fun hsent => ⟨?_, fun hfall => seq?_digestStep_of_fall hseq hfall⟩⟩
        · exact answers_self_of_settles hrun (digestRounds_of_missing hdigest hmissing)
        · exact digestRounds_of_sent hdigest hsent ▸ hrun
      case first =>
        obtain ⟨g, hg, hgroup⟩ := exists_laneFor hgroups w.tag w.idx 0
        exact ⟨g, hg, fun hnone => digestRounds_of_none_corrected hdigest hgroup hnone ▸ hrun,
          fun hsome => ⟨digestRounds_of_corrected hdigest hgroup hsome ▸ hrun, _, seq?_requestRound_same hseq _, rfl⟩⟩

end Sys2Proof.Machine
end

section
/-! Selections (R277, R289, R346, R348, R360): what a claim writes, when SELECTION_DELIVERED acts and which course the
plan's policy takes (Table 13.6), and the obligation O45. -/

namespace Sys2Proof.Machine

/-! ### The first element of a list that is written -/

theorem find?_modFirst_same {α : Type} {p : α → Bool} {f : α → α} (hkeep : ∀ a, p a = true → p (f a) = true) (l : List α) :
    (modFirst p f l).find? p = (l.find? p).map f := by
  induction l with
  | nil => rfl
  | cons a l ih =>
    cases hpa : p a with
    | true => rw [modFirst, if_pos hpa, List.find?_cons_of_pos (hkeep a hpa), List.find?_cons_of_pos hpa, Option.map_some]
    | false =>
      have hneg : ¬ p a = true := Bool.eq_false_iff.mp hpa
      rw [modFirst, if_neg hneg, List.find?_cons_of_neg hneg, List.find?_cons_of_neg hneg, ih]

theorem find?_modFirst_of_disjoint {α : Type} {p r : α → Bool} {f : α → α}
    (hmiss : ∀ a, p a = true → ¬ r a = true ∧ ¬ r (f a) = true) (l : List α) : (modFirst p f l).find? r = l.find? r := by
  induction l with
  | nil => rfl
  | cons a l ih =>
    cases hpa : p a with
    | true =>
      obtain ⟨hold, hnew⟩ := hmiss a hpa
      rw [modFirst, if_pos hpa, List.find?_cons_of_neg hnew, List.find?_cons_of_neg hold]
    | false =>
      rw [modFirst, if_neg (Bool.eq_false_iff.mp hpa), List.find?_cons, List.find?_cons, ih]

/-! ### The selection of a slot -/

section Selections
variable {d : Device} {slot : Nat} {f : Selection → Selection}

theorem selFor_modSel_same (hslot : ∀ y, (f y).slot = y.slot) : selFor (modSel d slot f) slot = (selFor d slot).map f :=
  find?_modFirst_same (fun y hy => by rwa [hslot y]) d.sels

theorem selFor_modSel_ne (hslot : ∀ y, (f y).slot = y.slot) {r : Nat} (hr : r ≠ slot) :
    selFor (modSel d slot f) r = selFor d r := by
  refine find?_modFirst_of_disjoint (fun y hy => ?_) d.sels
  have hother : ¬ y.slot = r := fun hyr => hr (hyr.symm.trans (of_decide_eq_true hy))
  simp only [hslot, hother, decide_false, Bool.false_eq_true, not_false_eq_true, and_self]

end Selections

/-! ### SELECTION_CLAIM (R289, R295) -/

section Claim
variable {d : Device} {slot : Nat} {x : Selection}

/-- The counts of a claim: every one is counted, and those of approximate selections once more. -/
def claimCounted (d : Device) (x : Selection) : Device :=
  let e := bump d Od.SEL_STATS 1
  if Sel.approx x.desc.toNat then bump e Od.SEL_STATS 2 else e

theorem claimCounted_sels : (claimCounted d x).sels = d.sels := by
  unfold claimCounted
  split <;> rfl

theorem claimCounted_writes_counts :
    claimCounted d x = { d with od := (claimCounted d x).od, snaps := (claimCounted d x).snaps } := by
  unfold claimCounted
  split <;> rfl

/-- A selection that holds its bank. -/
def withClaim (x : Selection) : Selection := { x with claimed := true }

/-- The slice once the selection of `slot` holds its bank. -/
def selClaimed (d : Device) (slot : Nat) (x : Selection) : Device := claimCounted (modSel d slot withClaim) x

theorem selFor_selClaimed_same (hsel : selFor d slot = some x) :
    selFor (selClaimed d slot x) slot = some (withClaim x) := by
  rw [selFor, selClaimed, claimCounted_sels, ← selFor, selFor_modSel_same (f := withClaim) fun _ => rfl, hsel, Option.map_some]

theorem selFor_selClaimed_ne {r : Nat} (hr : r ≠ slot) : selFor (selClaimed d slot x) r = selFor d r := by
  rw [selFor, selClaimed, claimCounted_sels, ← selFor, selFor_modSel_ne (f := withClaim) (fun _ => rfl) hr]

theorem selClaimed_frame : selClaimed d slot x =
    { d with sels := (selClaimed d slot x).sels, od := (selClaimed d slot x).od, snaps := (selClaimed d slot x).snaps } := by
  rw [selClaimed, claimCounted_sels]
  exact claimCounted_writes_counts (d := modSel d slot withClaim)

theorem claimSel_eq (hsel : selFor d slot = some x) :
    claimSel d slot = if (!x.claimed && claimable d x) = true then selClaimed d slot x else d := by
  rw [claimSel, hsel]
  rfl

theorem claimSel_of_claimable (hsel : selFor d slot = some x) (hopen : x.claimed = false) (hfree : claimable d x = true) :
    claimSel d slot = selClaimed d slot x := by
  rw [claimSel_eq hsel, hopen, hfree]
  rfl

theorem claimSel_of_not_claimable (hsel : selFor d slot = some x) (hnot : x.claimed = true ∨ claimable d x = false) :
    claimSel d slot = d := by
  rw [claimSel_eq hsel]
  refine if_neg fun htest => ?_
  obtain ⟨hopen, hfree⟩ := Bool.and_eq_true_iff.mp htest
  rcases hnot with hclaimed | hheld
  · simp only [hclaimed, Bool.not_true, Bool.false_eq_true] at hopen
  · exact Bool.false_ne_true (hheld.symm.trans hfree)

end Claim

/-! ### Lists that are missing (R360, Table 13.6) -/

section Missing
variable {d : Device} {slot : Nat} {q : Seq} {x : Selection}

/-- The plan's coverage, this stage's with it, is at least the least that its policy accepts. -/
abbrev CoveredEnough (q : Seq) : Prop := Plan.minCoverage (planBits q) ≤ (q.plan.coverage * stageCoverage q) >>> 16

/-- The sequence has no deadline, or slack left. -/
def inTime (d : Device) (q : Seq) : Bool := q.deadline = 0 || 0 ≤ seqSlack d q

/-- The sequence once its missing lists are the ones to be asked for, its one retry taken. -/
def listsAgain (q : Seq) : Seq :=
  { q with plan := { q.plan with todo := q.plan.missingLists, missingLists := [], missing := 0, retryUsed := true } }

/-- The missing lists are asked for once more: the retry is counted and each list's stage block is written (R348). -/
def retryLists (d : Device) (slot : Nat) (q : Seq) : Device :=
  writeStageBlocks (bump (d.modSeq slot (fun _ => listsAgain q)) Od.RANK_STATS 3) slot (listsAgain q) q.plan.missingLists

/-- The course of a stage that is over with lists missing. -/
def missingPolicy (d : Device) (slot : Nat) (q : Seq) (x : Selection) : Device :=
  if !Plan.strict (planBits q) then
    if CoveredEnough q then deliver d slot q x else faultSeq d slot .faultTile
  else if !q.plan.retryUsed && inTime d q then retryLists d slot q
  else faultSeq d slot .faultTile

theorem missingPolicy_of_not_strict (hlax : Plan.strict (planBits q) = false) :
    missingPolicy d slot q x = if CoveredEnough q then deliver d slot q x else faultSeq d slot .faultTile := by
  rw [missingPolicy, hlax, Bool.not_false, if_pos rfl]

theorem missingPolicy_of_strict (hstrict : Plan.strict (planBits q) = true) : missingPolicy d slot q x =
    if !q.plan.retryUsed && inTime d q then retryLists d slot q else faultSeq d slot .faultTile := by
  rw [missingPolicy, hstrict, Bool.not_true, if_neg Bool.false_ne_true]

theorem missingPolicy_of_covered (hlax : Plan.strict (planBits q) = false) (hcov : CoveredEnough q) :
    missingPolicy d slot q x = deliver d slot q x := by
  rw [missingPolicy_of_not_strict hlax, if_pos hcov]

theorem missingPolicy_of_not_covered (hlax : Plan.strict (planBits q) = false) (hcov : ¬ CoveredEnough q) :
    missingPolicy d slot q x = faultSeq d slot .faultTile := by
  rw [missingPolicy_of_not_strict hlax, if_neg hcov]

theorem missingPolicy_of_retry (hstrict : Plan.strict (planBits q) = true) (hunused : q.plan.retryUsed = false)
    (htime : inTime d q = true) : missingPolicy d slot q x = retryLists d slot q := by
  rw [missingPolicy_of_strict hstrict, hunused, htime]
  rfl

theorem missingPolicy_of_no_retry (hstrict : Plan.strict (planBits q) = true)
    (hnone : q.plan.retryUsed = true ∨ inTime d q = false) : missingPolicy d slot q x = faultSeq d slot .faultTile := by
  rw [missingPolicy_of_strict hstrict]
  rcases hnone with hused | hlate
  · rw [hused]
    rfl
  · rw [hlate, Bool.and_false, if_neg Bool.false_ne_true]

end Missing

/-! ### SELECTION_DELIVERED (R277, R346) -/

section Delivery
variable {d : Device} {slot : Nat} {q : Seq} {x : Selection} (hsel : selFor d slot = some x) (hseq : d.seq? slot = some q)
include hsel hseq

theorem selectionDelivered_of_not_over (hnot : stageOver d slot q x = false) : selectionDelivered d slot = d := by
  simp only [selectionDelivered, hsel, hseq, hnot, Bool.not_false, if_true]

theorem selectionDelivered_of_unread (hover : stageOver d slot q x = true)
    (hmore : x.unread (tombBitsOf (epochDesc d q)) ≠ []) : selectionDelivered d slot =
      readLines (modSel d slot (fun y => { y with held := x.unread (tombBitsOf (epochDesc d q)) })) slot := by
  have hsome : (x.unread (tombBitsOf (epochDesc d q))).isEmpty = false := List.isEmpty_eq_false_iff.mpr hmore
  simp only [selectionDelivered, hsel, hseq, hover, hsome, Bool.not_true, Bool.not_false, Bool.false_eq_true, if_true, if_false]

/-- With every line read that the result depends on, a full stage is delivered and the policy decides on any other. -/
theorem selectionDelivered_of_all_read (hover : stageOver d slot q x = true)
    (hread : x.unread (tombBitsOf (epochDesc d q)) = []) :
    selectionDelivered d slot = if q.plan.missing = 0 then deliver d slot q x else missingPolicy d slot q x := by
  simp only [selectionDelivered, hsel, hseq, hover, hread, List.isEmpty_nil, Bool.not_true, Bool.false_eq_true, if_false]
  rfl

end Delivery

/-! ### The obligation -/

section Commands
variable {s : State} (hready : fyReady s.dev = true)
include hready

theorem settles_selectionClaim (slot : Nat) : Settles (.selectionClaim slot) s (claimSel s.dev slot) :=
  settles_of_whenReady (claimSel · slot) hready rfl

theorem settles_selectionDelivered (slot : Nat) : Settles (.selectionDelivered slot) s (selectionDelivered s.dev slot) :=
  settles_of_whenReady (selectionDelivered · slot) hready rfl

end Commands

/-- Settles O45: a claim runs to `selClaimed`, and a delivery to the lines still unread, to `deliver` or to the policy on
missing lists (`selectionDelivered_of_all_read`, `missingPolicy_of_covered` and its siblings). -/
theorem selectionsAreClaimedAndDelivered : Obligations.SelectionsAreClaimedAndDelivered := by
  intro s slot q x hready hsel hseq
  have hclaim := settles_selectionClaim hready slot
  have hrun := settles_selectionDelivered hready slot
  refine ⟨fun hopen hfree => ?claimed, fun hnot => ?unclaimed, fun hnot => ?stageOpen, fun hover => ?stageOver⟩
  case claimed =>
    exact ⟨selClaimed s.dev slot x, claimSel_of_claimable hsel hopen hfree ▸ hclaim, selClaimed_frame,
      selFor_selClaimed_same hsel, fun _ hr => selFor_selClaimed_ne hr⟩
  case unclaimed => exact answers_self_of_settles hclaim (claimSel_of_not_claimable hsel hnot)
  case stageOpen => exact answers_self_of_settles hrun (selectionDelivered_of_not_over hsel hseq hnot)
  case stageOver =>
    refine ⟨fun hmore => selectionDelivered_of_unread hsel hseq hover hmore ▸ hrun, fun hread hfull => ?full,
      fun hread hmissing hlax hcov => ?accepted, fun hread hmissing hlax hcov => ?tooFew,
      fun hread hmissing hstrict hnone => ?noRetry, fun hread hmissing hstrict hunused hontime => ?retry⟩
    all_goals rw [selectionDelivered_of_all_read hsel hseq hover hread] at hrun
    case full => rwa [if_pos hfull] at hrun
    all_goals rw [if_neg hmissing] at hrun
    case accepted => exact missingPolicy_of_covered hlax (of_decide_eq_true hcov) ▸ hrun
    case tooFew => exact missingPolicy_of_not_covered hlax (of_decide_eq_false hcov) ▸ hrun
    case noRetry =>
      exact missingPolicy_of_no_retry hstrict (hnone.imp_right (Bool.not_eq_true' _).mp) ▸ hrun
    case retry =>
      rwa [missingPolicy_of_retry hstrict hunused ((Bool.not_eq_false' _).mp hontime)] at hrun

end Sys2Proof.Machine
end

section
/-! Writes whose answer comes later (R302, R413, R417, R418): what TABLE_KEY and SEAL make of the slice, and the
obligation O17. -/

namespace Sys2Proof.Machine

/-! ### A taken write whose answer comes later -/

theorem pathWrite_of_effect_pending {d0 d e : Device} {path : Path} {idx sub : Nat} {data : List Byte} {eff : Effect}
    (htaken : WriteTaken d0 path idx sub data d) (heff : eff d (ofLe data &&& keptBits d idx) = (e, none)) :
    pathWrite d0 path idx sub data eff = e := by
  obtain ⟨-, -, -, hcheck⟩ := id htaken
  simp only [pathWrite_of_taken htaken, performWrite, countMasked_of_writeCheck hcheck, hcheck, heff]

/-! ### TABLE_KEY (R302, R413) -/

section TableKey
variable {d : Device} {path : Path}

theorem tableKey_kept (d : Device) (key : BitVec 128) :
    ofLe (leBytes key.toNat 16) &&& keptBits d Od.TABLE_KEY = key.toNat :=
  ofLe_leBytes_kept (k := 256) rfl key.isLt (Nat.lt_trans key.isLt (by decide))

/-- The slice that holds a key until the class-T phase (R413). -/
def keyHeld (d : Device) (path : Path) (key : BitVec 128) : Device :=
  { d with mgmt := { d.mgmt with job := some .table }, clk := { d.clk with heldKey := some { path := path, key := key } } }

/-- The slice that generates its table again under a new key (R302, log entry 54). -/
def tableRestarted (d : Device) (path : Path) (key : Nat) : Device :=
  { odSet d Od.TABLE_KEY 0 key with
    mgmt := { d.mgmt with job := some .table }
    clk := { d.clk with tableBusy := some (d.clk.rootcyc + 131072), tablePath := some path } }

theorem effTableKey_of_early (hearly : d.clk.phase.beforeTable = true) (hrings : anyRingEnabled d = false)
    (hseqs : d.seqs = []) (key : BitVec 128) : effTableKey path d key.toNat = (keyHeld d path key, none) := by
  have hkey : BitVec.ofNat 128 key.toNat = key := (BitVec.ofNat_toNat 128 key).trans (BitVec.setWidth_eq key)
  simp only [effTableKey, hearly, hrings, hseqs, hkey, List.isEmpty_nil, Bool.not_true, Bool.or_self, Bool.false_eq_true,
    if_false, if_true]
  rfl

theorem effTableKey_of_late (hlate : d.clk.phase.beforeTable = false) (hrings : anyRingEnabled d = false)
    (hseqs : d.seqs = []) (v : Nat) : effTableKey path d v = (tableRestarted d path v, none) := by
  simp only [effTableKey, hlate, hrings, hseqs, List.isEmpty_nil, Bool.not_true, Bool.or_self, Bool.false_eq_true, if_false]
  rfl

theorem effTableKey_of_in_use (huse : anyRingEnabled d = true ∨ d.seqs ≠ []) (v : Nat) :
    effTableKey path d v = refusedBy d .rejFormat := by
  have hguard : (anyRingEnabled d || !d.seqs.isEmpty) = true := by simpa using huse
  simp only [effTableKey, if_pos hguard]

end TableKey

/-! ### SEAL (R417, R418) -/

section Seal
variable {d : Device} {v : Nat}

theorem seal_kept (d : Device) (v : BitVec 64) : ofLe (leBytes v.toNat 8) &&& keptBits d Od.SEAL = v.toNat :=
  ofLe_leBytes_kept (k := 256) rfl v.isLt (Nat.lt_trans v.isLt (by decide))

theorem effSeal_of_sealed (hsealed : odGet d Od.SEALED 0 = 1) : effSeal d v = refusedBy d .rejSealedWrite := by
  simp only [effSeal, if_pos hsealed]

theorem effSeal_of_wrong_fp (hopen : odGet d Od.SEALED 0 ≠ 1) (hfp : v ≠ setupFp d) :
    effSeal d v = refusedBy d .rejFormat := by
  simp only [effSeal, if_neg hopen, if_pos hfp]

theorem effSeal_of_no_mask_block (hopen : odGet d Od.SEALED 0 ≠ 1) (hfp : v = setupFp d)
    (haddr : odGet d Od.PART_MASK_ADDR 0 = 0) : effSeal d v = (odSet d Od.SEALED 0 1, some .ok) := by
  simp only [effSeal, if_neg hopen, if_neg (not_not_intro hfp), if_pos haddr]

theorem effSeal_of_mask_block (hopen : odGet d Od.SEALED 0 ≠ 1) (hfp : v = setupFp d)
    (haddr : odGet d Od.PART_MASK_ADDR 0 ≠ 0) : effSeal d v =
      (fabiWrite { d with mgmt := { d.mgmt with job := some .seal } } .maskBlock (odGet d Od.PART_MASK_ADDR 0) 512
        (maskBlock d), none) := by
  simp only [effSeal, if_neg hopen, if_neg (not_not_intro hfp), if_neg haddr]
  rfl

end Seal

/-! ### The obligation -/

section Commands
variable {s : State} {path : Path}

theorem answers_tableKey (key : BitVec 128) : Answers (.tableKey path key) s
    (pathWrite s.dev path Od.TABLE_KEY 0 (leBytes key.toNat 16) (effTableKey path)) := rfl

theorem answers_sealSlice (v : BitVec 64) : Answers (.sealSlice path v) s
    (pathWrite s.dev path Od.SEAL 0 (leBytes v.toNat 8) effSeal) := rfl

end Commands

/-- Settles O17: each value reaches its effect (`tableKey_kept`, `seal_kept`), which holds the key, starts the table or
writes the mask block and leaves the answer open (`pathWrite_of_effect_pending`), or is answered at once. -/
theorem keyAndSealActOnce : Obligations.KeyAndSealActOnce := by
  refine fun s path d => ⟨fun key htaken => ?tableKey, fun v htaken => ?sealSlice⟩
  case tableKey =>
    have hrun := answers_tableKey (s := s) (path := path) key
    have hvalue := congrArg (effTableKey path d) (tableKey_kept d key)
    refine ⟨fun hearly hrings hseqs => ?held, fun hlate hrings hseqs => ?restarted, fun huse => ?inUse⟩
    case held =>
      rw [pathWrite_of_effect_pending htaken (hvalue.trans (effTableKey_of_early hearly hrings hseqs key))] at hrun
      exact hrun
    case restarted =>
      rw [pathWrite_of_effect_pending htaken (hvalue.trans (effTableKey_of_late hlate hrings hseqs key.toNat))] at hrun
      exact ⟨tableRestarted d path key.toNat, hrun, rfl, rfl, rfl, rfl⟩
    case inUse =>
      exact pathWrite_of_effect_refused htaken (hvalue.trans (effTableKey_of_in_use huse key.toNat)) (by decide) ▸ hrun
  case sealSlice =>
    have hrun := answers_sealSlice (s := s) (path := path) v
    have hvalue := congrArg (effSeal d) (seal_kept d v)
    refine ⟨fun hopen hfp haddr => ?noMaskBlock, fun hopen hfp haddr => ?maskBlock, fun hopen hfp => ?wrongFp,
      fun hsealed => ?sealed⟩
    case noMaskBlock =>
      exact pathWrite_of_effect_ok htaken (hvalue.trans (effSeal_of_no_mask_block hopen hfp haddr)) ▸ hrun
    case maskBlock =>
      exact pathWrite_of_effect_pending htaken (hvalue.trans (effSeal_of_mask_block hopen hfp haddr)) ▸ hrun
    case wrongFp =>
      exact pathWrite_of_effect_refused htaken (hvalue.trans (effSeal_of_wrong_fp hopen hfp)) (by decide) ▸ hrun
    case sealed =>
      exact pathWrite_of_effect_refused htaken (hvalue.trans (effSeal_of_sealed hsealed)) (by decide) ▸ hrun

end Sys2Proof.Machine
end

section
/-! The model's own operations on lists in the library's terms, and lane groups (R375, R376, R407): patrol, substitution,
gating, ungating, and the obligation O52. -/

namespace Sys2Proof.Machine

/-! ### Lists -/

section Lists
variable {α : Type}

theorem setAt_eq_set (l : List α) (i : Nat) (a : α) : setAt l i a = l.set i a := by
  fun_induction setAt l i a <;> simp [*]

theorem modAt_eq_modify (l : List α) (i : Nat) (f : α → α) : modAt l i f = l.modify i f := by
  fun_induction modAt l i f <;> simp [*]

theorem modAt_of_getElem? {l : List α} {i : Nat} {a : α} (h : l[i]? = some a) (f : α → α) : modAt l i f = l.set i (f a) := by
  rw [modAt_eq_modify, List.modify_eq_set_getElem?, h]
  rfl

theorem getElem?_indexed (l : List α) (i k : Nat) : (indexed i l)[k]? = (l[k]?).map (fun a => (i + k, a)) := by
  induction l generalizing i k with
  | nil => rfl
  | cons b l ih =>
    cases k with
    | zero => rfl
    | succ k =>
      rw [indexed, List.getElem?_cons_succ, List.getElem?_cons_succ, ih]
      simp only [Nat.add_assoc, Nat.add_comm 1 k]

theorem mem_indexed {l : List α} {p : Nat × α} : p ∈ indexed 0 l ↔ l[p.1]? = some p.2 := by
  obtain ⟨k, a⟩ := p
  simp [List.mem_iff_getElem?, getElem?_indexed]

/-- The first place whose element satisfies a predicate. -/
theorem find?_indexed_eq_some {l : List α} {p : Nat × α → Bool} {k : Nat} {a : α} :
    (indexed 0 l).find? p = some (k, a) ↔ l[k]? = some a ∧ p (k, a) = true ∧ ∀ j b, j < k → l[j]? = some b → p (j, b) = false := by
  rw [List.find?_eq_some_iff_getElem]
  constructor
  · rintro ⟨hp, i, hi, hat, hbefore⟩
    obtain ⟨b, hb, hpair⟩ : ∃ b, l[i]? = some b ∧ (i, b) = (k, a) := by
      simpa [getElem?_indexed] using List.getElem?_eq_some_iff.mpr ⟨hi, hat⟩
    obtain ⟨rfl, rfl⟩ := Prod.mk.inj hpair
    refine ⟨hb, hp, fun j b hj hb => ?_⟩
    have hget : (indexed 0 l)[j]? = some (j, b) := by simp [getElem?_indexed, hb]
    obtain ⟨hlt, hval⟩ := List.getElem?_eq_some_iff.mp hget
    simpa [hval] using hbefore j hj
  · rintro ⟨ha, hp, hbefore⟩
    have hget (j : Nat) (b : α) (hb : l[j]? = some b) : (indexed 0 l)[j]? = some (j, b) := by simp [getElem?_indexed, hb]
    obtain ⟨hlt, hval⟩ := List.getElem?_eq_some_iff.mp (hget k a ha)
    refine ⟨hp, k, hlt, hval, fun j hj => ?_⟩
    have hjl : j < l.length := Nat.lt_trans hj (length_indexed l 0 ▸ hlt)
    obtain ⟨_, hb⟩ := List.getElem?_eq_some_iff.mp (hget j l[j] (List.getElem?_eq_getElem hjl))
    simp [hb, hbefore j l[j] hj (List.getElem?_eq_getElem hjl)]

theorem find?_indexed_eq_none {l : List α} {p : Nat × α → Bool} :
    (indexed 0 l).find? p = none ↔ ∀ k a, l[k]? = some a → p (k, a) = false := by
  simp [List.find?_eq_none, mem_indexed]

end Lists

/-! ### Substitution (R376) -/

section Lanes
variable {d : Device} {g : Nat} {x : LaneGroup}

/-- The group with a spare, where one is left, in the place of its oldest retired lane. -/
def LaneGroup.substituted (x : LaneGroup) (rest : List Nat) : LaneGroup :=
  { x with retired := rest, spares := x.spares - 1, active := if 0 < x.spares then x.active + 1 else x.active }

theorem replaceLane_of_none_retired (hx : d.lanes[g]? = some x) (hnone : x.retired = []) : replaceLane d g = d := by
  simp only [replaceLane, hx, hnone]

theorem replaceLane_lanes {r : Nat} {rs : List Nat} (hx : d.lanes[g]? = some x) (hr : x.retired = r :: rs) :
    (replaceLane d g).lanes = d.lanes.set g (x.substituted rs) := by
  simp only [replaceLane, hx, hr, alertLog_lanes, setAt_eq_set, decide_eq_true_eq, LaneGroup.substituted]

theorem replaceLane_clk (d : Device) (g : Nat) : (replaceLane d g).clk = d.clk := by
  unfold replaceLane
  split
  · rfl
  · split
    · rfl
    · exact alertLog_clk ..

theorem laneSubstitution_lanes (d : Device) (g : Nat) : (laneSubstitution d g).lanes = (replaceLane d g).lanes := by
  dsimp only [laneSubstitution]
  split <;> rfl

theorem laneSubstitution_ready (d : Device) (g : Nat) : (laneSubstitution d g).clk.ready =
    (d.clk.ready && !(replaceLane d g).lanes.all (fun x => x.active = 0)) := by
  dsimp only [laneSubstitution]
  split
  · next h => simp [h]
  · next h => simp [h, replaceLane_clk]

/-! ### Gating and ungating (R407) -/

/-- No group is ungating. -/
def NoneUngating (d : Device) : Prop := ∀ x ∈ d.lanes, ∀ t, x.gate ≠ .ungating t

theorem any_ungating_iff (l : List LaneGroup) : l.any LaneGroup.ungating = true ↔ ∃ x ∈ l, ∃ t, x.gate = .ungating t := by
  have hgate (x : LaneGroup) : x.ungating = true ↔ ∃ t, x.gate = .ungating t := by
    cases h : x.gate <;> simp [LaneGroup.ungating, h]
  simp [hgate]

theorem ungateNext_of_ungating (h : ∃ x ∈ d.lanes, ∃ t, x.gate = .ungating t) : ungateNext d = d :=
  if_pos ((any_ungating_iff _).mpr h)

theorem any_ungating_of_none (h : NoneUngating d) : d.lanes.any LaneGroup.ungating = false := by
  rw [Bool.eq_false_iff, ne_eq, any_ungating_iff]
  exact fun ⟨x, hx, t, ht⟩ => h x hx t ht

theorem ungateNext_of_first (hnone : NoneUngating d) (hx : d.lanes[g]? = some x) (hwaits : x.gate = .waiting)
    (hfirst : ∀ h y, h < g → d.lanes[h]? = some y → y.gate ≠ .waiting) :
    ungateNext d = { d with lanes := d.lanes.set g { x with gate := .ungating d.clk.rootcyc } } := by
  have hfind : (indexed 0 d.lanes).find? (fun p => p.2.gate = .waiting) = some (g, x) :=
    find?_indexed_eq_some.mpr ⟨hx, by simp [hwaits], fun h y hlt hy => by simp [hfirst h y hlt hy]⟩
  simp only [ungateNext, any_ungating_of_none hnone, hfind, modAt_of_getElem? hx, Bool.false_eq_true, if_false]

theorem ungateNext_of_none_waiting (h : ∀ x ∈ d.lanes, x.gate ≠ .waiting) : ungateNext d = d := by
  have hfind : (indexed 0 d.lanes).find? (fun p => p.2.gate = .waiting) = none :=
    find?_indexed_eq_none.mpr fun k x hx => by simp [h x (List.mem_of_getElem? hx)]
  simp only [ungateNext, hfind, ite_self]

/-- Only a group that waits starts to ungate. -/
theorem ungateNext_lanes_of_not_waiting (hx : d.lanes[g]? = some x) (hnot : x.gate ≠ .waiting) :
    (ungateNext d).lanes[g]? = some x := by
  unfold ungateNext
  split
  · exact hx
  · split
    · next h y hfind =>
      obtain ⟨hy, hwaits, -⟩ := find?_indexed_eq_some.mp hfind
      have hne : h ≠ g := by
        rintro rfl
        exact hnot ((Option.some.inj (hx.symm.trans hy)) ▸ of_decide_eq_true hwaits)
      simpa [modAt_of_getElem? hy, List.getElem?_set_ne hne] using hx
    · exact hx

/-- The group where its 128 ROOT cycles of ungating may have passed. -/
def LaneGroup.ungatedBy (now : Nat) (x : LaneGroup) : LaneGroup :=
  match x.gate with
  | .ungating t => if t + 128 ≤ now then { x with gate := .on, lastIssue := now } else x
  | _ => x

theorem ungateDone_eq (d : Device) : ungateDone d = ungateNext { d with lanes := d.lanes.map (.ungatedBy d.clk.rootcyc) } := rfl

theorem ungatedBy_of_ungating {t : Nat} (h : x.gate = .ungating t) (now : Nat) : x.ungatedBy now =
    if t + 128 ≤ now then { x with gate := .on, lastIssue := now } else x := by
  simp only [LaneGroup.ungatedBy, h]

theorem ungatedBy_of_still (h : x.gate = .on ∨ x.gate = .gated) (now : Nat) : x.ungatedBy now = x := by
  rcases h with h | h <;> simp only [LaneGroup.ungatedBy, h]

theorem ungateDone_of_still (hstill : ∀ x ∈ d.lanes, x.gate = .on ∨ x.gate = .gated) : ungateDone d = d := by
  have hmap : d.lanes.map (.ungatedBy d.clk.rootcyc) = d.lanes :=
    (List.map_congr_left fun x hx => ungatedBy_of_still (hstill x hx) _).trans (List.map_id' _)
  rw [ungateDone_eq, hmap]
  exact ungateNext_of_none_waiting fun x hx => by rcases hstill x hx with h | h <;> simp [h]

theorem ungateDone_lanes {t : Nat} (hx : d.lanes[g]? = some x) (hgate : x.gate = .ungating t) : (ungateDone d).lanes[g]? =
    some (if t + 128 ≤ d.clk.rootcyc then { x with gate := .on, lastIssue := d.clk.rootcyc } else x) := by
  rw [ungateDone_eq, ← ungatedBy_of_ungating hgate]
  refine ungateNext_lanes_of_not_waiting (by simp [hx]) ?_
  rw [ungatedBy_of_ungating hgate]
  split <;> simp [hgate]

theorem laneGate_eq (hx : d.lanes[g]? = some x) : laneGate d g = { d with
    lanes := d.lanes.set g (if x.gate = .on ∧ x.lastIssue + 8192 ≤ d.clk.rootcyc then { x with gate := .gated } else x) } := by
  simp only [laneGate, modAt_of_getElem? hx, Bool.and_eq_true, decide_eq_true_eq]

theorem laneUngate_eq (hx : d.lanes[g]? = some x) (hgate : x.gate = .gated) (hopen : x.active ≠ 0) :
    laneUngate d g = ungateNext { d with lanes := d.lanes.set g { x with gate := .waiting } } := by
  simp [laneUngate, modAt_of_getElem? hx, hgate, hopen]

theorem laneUngate_of_first (hx : d.lanes[g]? = some x) (hgate : x.gate = .gated) (hopen : x.active ≠ 0)
    (hnone : NoneUngating d) (hfirst : ∀ h y, h < g → d.lanes[h]? = some y → y.gate ≠ .waiting) :
    laneUngate d g = { d with lanes := d.lanes.set g { x with gate := .ungating d.clk.rootcyc } } := by
  have hlt : g < d.lanes.length := (List.getElem?_eq_some_iff.mp hx).1
  rw [laneUngate_eq hx hgate hopen, ungateNext_of_first (x := { x with gate := .waiting }) (g := g) ?none ?here rfl ?first]
  · simp only [List.set_set]
  case none =>
    intro y hy t
    rcases List.mem_or_eq_of_mem_set hy with hy | rfl
    · exact hnone y hy t
    · simp
  case here => exact List.getElem?_set_self hlt
  case first =>
    intro h y hh hy
    rw [List.getElem?_set_ne (Nat.ne_of_gt hh)] at hy
    exact hfirst h y hh hy

theorem laneUngate_of_ungating (hx : d.lanes[g]? = some x) (hgate : x.gate = .gated) (hopen : x.active ≠ 0)
    (hother : ∃ y ∈ d.lanes, ∃ t, y.gate = .ungating t) :
    laneUngate d g = { d with lanes := d.lanes.set g { x with gate := .waiting } } := by
  obtain ⟨y, hy, t, ht⟩ := hother
  obtain ⟨h, hat⟩ := List.mem_iff_getElem?.mp hy
  have hne : g ≠ h := by
    rintro rfl
    cases Option.some.inj (hx.symm.trans hat)
    exact absurd (hgate.symm.trans ht) (by simp)
  rw [laneUngate_eq hx hgate hopen]
  exact ungateNext_of_ungating ⟨y, List.mem_of_getElem? ((List.getElem?_set_ne hne).trans hat), t, ht⟩

end Lanes

/-! ### The obligation -/

/-- Every lane that the patrol finds failing (R375). -/
def lanesFault (failing : List (Nat × Nat)) (d : Device) : Device := failing.foldl (fun d p => laneFault d p.1 p.2 []) d

section Commands
variable {s : State} (hready : fyReady s.dev = true)
include hready

theorem settles_lanePatrol (failing : List (Nat × Nat)) : Settles (.lanePatrol failing) s (lanesFault failing s.dev) :=
  settles_of_whenReady (lanesFault failing) hready rfl

theorem answers_laneSubstitution (g : Nat) : Answers (.laneSubstitution g) s (laneSubstitution s.dev g) :=
  answers_of_whenReady (laneSubstitution · g) hready rfl

theorem answers_laneGroupGate (g : Nat) : Answers (.laneGroupGate g) s (laneGate s.dev g) :=
  answers_of_whenReady (laneGate · g) hready rfl

theorem answers_laneGroupUngate (g : Nat) : Answers (.laneGroupUngate g) s (laneUngate s.dev g) :=
  answers_of_whenReady (laneUngate · g) hready rfl

end Commands

/-- Settles O52: each command on a ready slice runs its operation on the group (`replaceLane_lanes`, `laneGate_eq`,
`laneUngate_of_first`, `laneUngate_of_ungating`), and `ungateNext` leaves alone a group that does not wait. -/
theorem laneGroupsServeAndRest : Obligations.LaneGroupsServeAndRest := by
  refine fun s g l grp hready hgrp => ⟨settles_lanePatrol hready [(g, l)], fun hnone => ?none, fun r rs hr => ?substituted, ?gate,
    fun hgate hopen => ⟨fun hnone hfirst => ?first, fun hother => ?waits⟩, fun t ht => ungateDone_lanes hgrp ht⟩
  case none =>
    refine ⟨_, answers_laneSubstitution hready g, ?_⟩
    rw [laneSubstitution_lanes, replaceLane_of_none_retired hgrp hnone]
  case substituted =>
    have hlanes := (laneSubstitution_lanes s.dev g).trans (replaceLane_lanes hgrp hr)
    refine ⟨_, answers_laneSubstitution hready g, ?_, fun h hh => ?_, ?_⟩
    · rw [hlanes, List.getElem?_set_self (List.getElem?_eq_some_iff.mp hgrp).1]
      rfl
    · rw [hlanes, List.getElem?_set_ne hh.symm]
    · rw [laneSubstitution_ready, laneSubstitution_lanes]
  case gate =>
    have hrun := answers_laneGroupGate hready g
    rwa [laneGate_eq hgrp] at hrun
  case first => exact laneUngate_of_first hgrp hgate hopen hnone hfirst ▸ answers_laneGroupUngate hready g
  case waits => exact laneUngate_of_ungating hgrp hgate hopen hother ▸ answers_laneGroupUngate hready g

end Sys2Proof.Machine
end

section
/-! The step of the slice and its reset (R408, R409, log entries 1, 2 and 8): a command in front of the queue, the passing
of time on an empty one, the slice after reset, and the obligations O54, O55 and O56. -/

namespace Sys2Proof.Machine

/-! ### A command in front, and the slice after reset -/

theorem step_cons (c : Instr) (q : List Instr) (s : State) (h : s.pending = c :: q) : step s = exec c { s with pending := q } := by
  simp only [step, h]

theorem step_nil {s : State} (h : s.pending = []) : step s = .next { s with dev := idleTick s.dev } := by
  simp only [step, h]

/-- Settles O54, by the step of a queue that is not empty. -/
theorem stepRunsFront : Obligations.StepRunsFront := fun c s => step_cons c s.pending { s with pending := c :: s.pending } rfl

theorem reset_sound : State.reset.dev.Sound where
  ident := by decide
  clk := by decide
  bounded := ⟨by decide, by decide, by decide⟩
  od := rfl
  snaps := rfl
  rings := rfl
  seqs := rfl
  gens := rfl
  timers := rfl
  flows := rfl
  acct := rfl
  groups := rfl
  inflight := rfl
  tgens := rfl
  tiles := rfl
  window := rfl
  ctx := ⟨rfl, rfl, rfl, rfl, nofun, rfl, rfl, rfl⟩
  fabi := by decide
  trace := by decide
  lanes := rfl
  epochs := rfl

/-- Settles O56: every table of the slice after reset is empty, and its counters are at 0 (`reset_sound`). -/
theorem resetIsSound : Obligations.ResetIsSound := ⟨reset_sound, rfl⟩

/-! ### What goes on before time passes (R145, R449) -/

section Idle
variable {d : Device}

theorem closeBuilding_of_waiting (h : ∀ p ∈ d.groups, ∀ st, p.2.building = some st → st.toIssue ≠ []) (g : Nat) :
    closeBuilding d g = d := by
  refine closeBuilding_of_toIssue fun st hst => ?_
  cases hg : Map.find d.groups g with
  | none => simp [Device.group, Map.getD, hg] at hst
  | some x =>
    refine h _ (Map.mem_of_find hg) st ?_
    simpa [Device.group, Map.getD, hg] using hst

theorem closeSteps_of_waiting (h : ∀ p ∈ d.groups, ∀ st, p.2.building = some st → st.toIssue ≠ []) : closeSteps d = d :=
  List.foldlRecOn (motive := fun e => e = d) _ closeBuilding rfl fun e he g _ => by rw [he, closeBuilding_of_waiting h]

theorem sourceWaits_of_unitTurn {x : UnitSource} (h : unitTurn d x = true) : sourceWaits d.mgmt x = true := by
  simp only [unitTurn, Bool.and_eq_true, decide_eq_true_eq] at h
  exact List.find?_some h.2

theorem mbRun_of_not_waiting (h : d.mgmt.mbWaits = false) : mbRun d = d := by
  have hturn : unitTurn d .mailbox = false := by
    by_contra hne
    have hwaits : d.mgmt.mbWaits = true := sourceWaits_of_unitTurn (Bool.eq_true_of_not_eq_false hne)
    exact absurd hwaits (by simp [h])
  simp [mbRun, hturn]

/-- What goes on first: building steps that have lost their last commands, and the request in the mailbox. -/
def idleFirst (d : Device) : Device := settle d (mbRun (closeSteps d))

theorem idleFirst_of_nothing (hsteps : ∀ p ∈ d.groups, ∀ st, p.2.building = some st → st.toIssue ≠ [])
    (hmb : d.mgmt.mbWaits = false) : idleFirst d = d := by
  rw [idleFirst, closeSteps_of_waiting hsteps, mbRun_of_not_waiting hmb, settle_self]

/-! ### 64 cycles of ROOT (R402, R190) -/

/-- ROOTCYC 64 cycles later. -/
def rootLater (d : Device) : Device := d.modClk (fun c => { c with rootcyc := (c.rootcyc + idleCycles) % 2 ^ 64 })

/-- The slice 64 ROOT cycles later, with what the context store notes at a new TICK. -/
def idlePassed (d : Device) : Device :=
  if (rootLater d).tick = d.tick then rootLater d else (rootLater d).modCtx (noteMoves ((rootLater d).tick % 100 = 1))

theorem idleTick_of_held (h : d.clk.phase = .held) : idleTick d = d := if_pos h

theorem idleTick_of_running (h : d.clk.phase ≠ .held) : idleTick d = idleStart (idleRns (ungateDone (idlePassed (idleFirst d)))) :=
  if_neg h

theorem idlePassed_eq (d : Device) : idlePassed d =
    { d with clk := { d.clk with rootcyc := (d.clk.rootcyc + 64) % 2 ^ 64 }, ctx := (idlePassed d).ctx } := by
  rw [idlePassed]
  split <;> rfl

@[simp] theorem idlePassed_lanes (d : Device) : (idlePassed d).lanes = d.lanes := (congrArg Device.lanes (idlePassed_eq d)).trans rfl
@[simp] theorem idlePassed_rns (d : Device) : (idlePassed d).rns = d.rns := (congrArg Device.rns (idlePassed_eq d)).trans rfl
@[simp] theorem idlePassed_turn (d : Device) : (idlePassed d).turn = d.turn := (congrArg Device.turn (idlePassed_eq d)).trans rfl

theorem idlePassed_ctx (d : Device) : (idlePassed d).ctx = { d.ctx with busyAll := (idlePassed d).ctx.busyAll } := by
  rw [idlePassed]
  split <;> rfl

theorem tick_idlePassed (d : Device) : (idlePassed d).tick = (rootLater d).tick := by
  rw [idlePassed]
  split <;> rfl

theorem idlePassed_ctx_of_same_tick (h : (idlePassed d).tick = d.tick) : (idlePassed d).ctx = d.ctx := by
  rw [idlePassed, if_pos (tick_idlePassed d ▸ h)]
  rfl

/-! ### Where nothing waits (R52, R121, R407) -/

theorem idleRns_of_none (ht : d.rns.classT = []) (hc : d.rns.classC = []) : idleRns d = d :=
  List.foldlRecOn (motive := fun e => e = d) _ rnsSclk rfl fun e he k _ => by simp [he, rnsSclk, ht, hc]

theorem idleStart_of_none (hbehind : d.turn.behind = []) (hgranted : ∀ x ∈ d.turn.decisions, x.phase ≠ .granted) :
    idleStart d = d := by
  have hfind : d.turn.decisions.find? (fun x => x.phase = .granted && !contHeld d x) = none :=
    List.find?_eq_none.mpr fun x hx => by simp [hgranted x hx]
  simp [idleStart, startGranted, hfind, startBehind, hbehind]

theorem idlePassed_of_still (hlanes : ∀ l ∈ d.lanes, l.gate = .on ∨ l.gate = .gated) (ht : d.rns.classT = [])
    (hc : d.rns.classC = []) (hbehind : d.turn.behind = []) (hgranted : ∀ x ∈ d.turn.decisions, x.phase ≠ .granted) :
    idleStart (idleRns (ungateDone (idlePassed d))) = idlePassed d := by
  rw [ungateDone_of_still (by simpa using hlanes), idleRns_of_none (by simpa using ht) (by simpa using hc),
    idleStart_of_none (by simpa using hbehind) (by simpa using hgranted)]

end Idle

/-- Settles O55: an idle step of a slice out of reset is what goes on first (`idleFirst`), 64 cycles of ROOT (`idlePassed`),
and what the lanes, the port of random words and the turnstile do then; where nothing waits each of these is idle. -/
theorem idleStepPassesTime : Obligations.IdleStepPassesTime := by
  intro s hpending
  have hstep (h : s.dev.clk.phase ≠ .held) : step s = .next { s with
      dev := idleStart (idleRns (ungateDone (idlePassed (idleFirst s.dev)))) } :=
    (step_nil hpending).trans (congrArg (next s) (idleTick_of_running h))
  refine ⟨fun hheld => ?held, fun hrunning => ⟨idleFirst_of_nothing, idlePassed (idleFirst s.dev),
    idlePassed_eq _, idlePassed_ctx _, idlePassed_ctx_of_same_tick, hstep hrunning, fun hlanes ht hc hbehind hgranted => ?still⟩⟩
  case held => rw [step_nil hpending, idleTick_of_held hheld]
  case still =>
    have hstill := idlePassed_of_still hlanes ht hc hbehind hgranted
    exact (hstep hrunning).trans (congrArg (next s) hstill)

end Sys2Proof.Machine
end

section
/-! Posts of drafts (R37, R322) and direct reads (R450, R451): the obligations O42 and O21. -/

namespace Sys2Proof.Machine

/-- A directly mapped entry is served before FY_READY too (R37). -/
theorem settles_of_whenPresent {i : Instr} {s : State} (f : Device → Device)
    (hpresent : fyPresent s.dev = true) (hexec : exec i s = done s (whenPresent s.dev f)) : Settles i s (f s.dev) := by
  rw [whenPresent_true hpresent] at hexec
  exact hexec

theorem answers_of_whenPresent {i : Instr} {s : State} (f : Device → Device)
    (hpresent : fyPresent s.dev = true) (hexec : exec i s = next s (whenPresent s.dev f)) : Answers i s (f s.dev) := by
  rwa [whenPresent_true hpresent] at hexec

/-! ### DRAFT_POST (R322) -/

section Drafts
variable {d : Device} {v slot n : Nat} {q : Seq}

/-- A post that the bank's rules take: the sequence may be posted to, the version and the bank are those expected, and no
draft and no other post is held. -/
def takesPost (d : Device) (q : Seq) (v : Nat) : Bool :=
  mayPost d q && bf v 31 16 = q.spec.dseq && bit v 15 = q.spec.dbank && !q.spec.dvalid && !q.spec.reading

/-- DRAFT_POSTs are counted (Table 12.13). -/
def countPost (d : Device) : Device := bump d Od.SPEC_STATS 0

theorem draftPost_of_not_live (h : liveSlot (countPost d) (bf v 63 32) = none) : draftPost d v = discardDraft (countPost d) := by
  rw [countPost] at h
  simp only [draftPost, countPost, h]

theorem draftPost_of_no_staging (h : liveSlot (countPost d) (bf v 63 32) = some slot)
    (hfree : leastFree (usedStaging (countPost d)) 4096 = none) : draftPost d v = discardDraft (countPost d) := by
  rw [countPost] at h hfree
  rw [countPost]
  cases hq : (bump d Od.SPEC_STATS 0).seq? slot <;> simp only [draftPost, h, hq, hfree]

theorem draftPost_of_live (h : liveSlot (countPost d) (bf v 63 32) = some slot) (hq : (countPost d).seq? slot = some q)
    (hfree : leastFree (usedStaging (countPost d)) 4096 = some n) : draftPost d v =
      if takesPost (countPost d) q v then
        fabiRead (modSpec (countPost d) slot (fun s => { s with reading := true, readSlot := n })) (.draftBank slot)
          (bankAddr (countPost d) slot q.spec.dbank) 64
      else discardDraft (countPost d) := by
  rw [countPost] at h hq hfree
  simp only [draftPost, countPost, h, hq, hfree]
  rfl

end Drafts

/-- Settles O42: a post is discarded where its handle is of no live sequence, where the sequence does not take it
(`takesPost`), and where no staging slot is free. -/
theorem draftsAreReadOrDiscarded : Obligations.DraftsAreReadOrDiscarded := by
  intro s v hpresent
  have hrun : Settles (.draftPost v) s (draftPost s.dev v) := settles_of_whenPresent (draftPost · v) hpresent rfl
  have hdiscard (h : draftPost s.dev v = discardDraft (countPost s.dev)) :
      Settles (.draftPost v) s (bump (bump s.dev Od.SPEC_STATS 0) Od.SPEC_STATS 1) := by
    rw [h] at hrun
    exact hrun
  refine ⟨fun h => hdiscard (draftPost_of_not_live h),
    fun slot q hslot hq => ⟨fun hrefused => ?discarded, fun n hfree htaken => ?read⟩⟩
  case discarded =>
    cases hfree : leastFree (usedStaging (countPost s.dev)) 4096 with
    | none => exact hdiscard (draftPost_of_no_staging hslot hfree)
    | some n =>
      have hnot : takesPost (countPost s.dev) q v = false := hrefused.resolve_right fun hnone => nomatch hfree.symm.trans hnone
      exact hdiscard ((draftPost_of_live hslot hq hfree).trans (if_neg (by simp [hnot])))
  case read =>
    rw [draftPost_of_live hslot hq hfree, if_pos (show takesPost (countPost s.dev) q v = true from htaken)] at hrun
    exact hrun

/-! ### Direct reads (R450, R451) -/

section Direct
variable {d : Device} {off idx sub size p w : Nat} {writes : Bool}

theorem word64_zero (v : Nat) : word64 v 0 = v % 2 ^ 64 := rfl

theorem word64_eq_div (v w : Nat) : word64 v w = v / 2 ^ (64 * w) % 2 ^ 64 := by
  rw [word64, Nat.shiftRight_eq_div_pow]

theorem directAt_ring (hp : p < 256) (hw : w < 4) : directAt (32 * p + 8 * w) = some (Od.RING_STATE, p, 8, true, false) := by
  have hoff : 32 * p + 8 * w < 0x2000 := by omega
  have haligned : (32 * p + 8 * w) % 8 = 0 := by omega
  have hpair : (32 * p + 8 * w) / 32 = p := by omega
  simp only [directAt, hoff, haligned, hpair, if_true]

theorem directAt_msi (hw : w < 4) : directAt (0x4030 + 8 * w) = some (Od.MSI_PENDING, 0, 8, true, false) := by
  rcases w with _ | _ | _ | _ | w
  · rfl
  · rfl
  · rfl
  · rfl
  · omega

/-- A readable entry of the directly mapped region answers with what its load returns. -/
theorem directRead_of_readable (h : directAt off = some (idx, sub, size, true, writes)) :
    directRead d off = emit (directLoad d off).1 (.fabt false (directLoad d off).2) := by
  simp only [directRead, h]

theorem directLoad_ring_latch (hp : p < 256) : directLoad d (32 * p) =
    ({ d with mgmt := { d.mgmt with ringLatch := Map.put d.mgmt.ringLatch p (ringState d p) } }, ringState d p % 2 ^ 64) := by
  have hat : directAt (32 * p) = some (Od.RING_STATE, p, 8, true, false) := directAt_ring (w := 0) hp (by omega)
  have hword : 32 * p % 32 / 8 = 0 := by omega
  simp only [directLoad, hat, hword, if_true, Device.modMgmt, Map.getD, Map.find_put_same, Option.getD_some, word64_zero]

theorem directLoad_ring_word (hp : p < 256) (hpos : 1 ≤ w) (hw : w < 4) : directLoad d (32 * p + 8 * w) =
    (d, Map.getD d.mgmt.ringLatch p 0 / 2 ^ (64 * w) % 2 ^ 64) := by
  have hword : (32 * p + 8 * w) % 32 / 8 = w := by omega
  have hlater : w ≠ 0 := by omega
  simp only [directLoad, directAt_ring hp hw, hword, hlater, if_true, if_false, word64_eq_div]

theorem directLoad_msi_latch : directLoad d 0x4030 =
    ({ d with mgmt := { d.mgmt with msiLatch := odGet d Od.MSI_PENDING 0 } }, odGet d Od.MSI_PENDING 0 % 2 ^ 64) := rfl

theorem directLoad_msi_word (hpos : 1 ≤ w) (hw : w < 4) : directLoad d (0x4030 + 8 * w) =
    (d, d.mgmt.msiLatch / 2 ^ (64 * w) % 2 ^ 64) := by
  have hword : (0x4030 + 8 * w - 0x4030) / 8 = w := by omega
  have hlater : w ≠ 0 := by omega
  have hne : ¬ Od.MSI_PENDING = Od.RING_STATE := by decide
  simp only [directLoad, directAt_msi hw, hword, hlater, hne, if_true, if_false, word64_eq_div]

theorem directLoad_of_plain (h : directAt off = some (idx, sub, size, true, writes)) (hring : idx ≠ Od.RING_STATE)
    (hmsi : idx ≠ Od.MSI_PENDING) : directLoad d off = (d, odRead d idx sub % 2 ^ (8 * size)) := by
  simp only [directLoad, h, hring, hmsi, if_false]

end Direct

/-- A load of a readable offset is answered with the value that the model's load returns. -/
theorem answers_directRead {s : State} {off idx sub size v : Nat} {writes : Bool} {d : Device} (hpresent : fyPresent s.dev = true)
    (hat : directAt off = some (idx, sub, size, true, writes)) (hload : directLoad s.dev off = (d, v)) :
    Answers (.directReadLatch off) s (emit d (.fabt false v)) := by
  have hrun : Answers (.directReadLatch off) s (directRead s.dev off) := answers_of_whenPresent (directRead · off) hpresent rfl
  rwa [directRead_of_readable hat, hload] at hrun

/-- Settles O21: which entry an offset reads (`directAt_ring`, `directAt_msi`), and what its load returns and latches
(`directLoad`). -/
theorem directReadsLatchWords : Obligations.DirectReadsLatchWords := by
  intro s hpresent
  refine ⟨fun p hp => ?ringLatch, fun p w hp hpos hw => ?ringWord, ?msiLatch, fun w hpos hw => ?msiWord,
    fun off idx sub size w hat hring hmsi => ?plain⟩
  case ringLatch => exact answers_directRead hpresent (directAt_ring (w := 0) hp (by omega)) (directLoad_ring_latch hp)
  case ringWord => exact answers_directRead hpresent (directAt_ring hp hw) (directLoad_ring_word hp hpos hw)
  case msiLatch => exact answers_directRead hpresent (directAt_msi (w := 0) (by omega)) directLoad_msi_latch
  case msiWord => exact answers_directRead hpresent (directAt_msi hw) (directLoad_msi_word hpos hw)
  case plain => exact answers_directRead hpresent hat (directLoad_of_plain hat hring hmsi)

end Sys2Proof.Machine
end

section
/-! Index epochs (R355 to R358): their slots, their activation, and publishing at the owner and at every slice; the
obligations O48 and O47. -/

namespace Sys2Proof.Machine

/-! ### The slots (R355) -/

section Slots
variable {d : Device} {e f epoch index : Nat} {x y : EpochSlot} {st : EState}

theorem getD_of_getElem? (h : d.epochs[e]? = some x) : d.epochs.getD e {} = x := by
  simp [List.getD, h]

theorem setEpoch_epochs (d : Device) (e : Nat) (x : EpochSlot) : (setEpoch d e x).epochs = d.epochs.set e x := by
  have hraise {c : Bool} {f : Device} : (if c = true then raiseVector f 3 else f).epochs = f.epochs := by
    split
    · exact raiseVector_epochs f 3
    · rfl
  rw [setEpoch, hraise, traceRec_epochs, setAt_eq_set]

theorem epochIn_eq_some {p : EpochSlot → Bool} : epochIn d st p = some (e, x) ↔
    d.epochs[e]? = some x ∧ (x.state = st ∧ p x = true) ∧
      ∀ j y, j < e → d.epochs[j]? = some y → y.state = st → p y = false := by
  rw [epochIn, find?_indexed_eq_some]
  simp

theorem epochIn_eq_none {p : EpochSlot → Bool} : epochIn d st p = none ↔
    ∀ (j : Nat) (y : EpochSlot), d.epochs[j]? = some y → y.state = st → p y = false := by
  rw [epochIn, find?_indexed_eq_none]
  simp

/-! ### Activation (R356) -/

/-- At most one slot of an index is CURRENT. -/
def OneCurrent (l : List EpochSlot) : Prop := ∀ (f g : Nat) (y z : EpochSlot),
  l[f]? = some y → l[g]? = some z → y.state = .current → z.state = .current → y.index = z.index → f = g

/-- What the activation of an epoch of an index makes of another slot: the one that was CURRENT for the index is RETIRED. -/
def EpochSlot.superseded (index now : Nat) (y : EpochSlot) : EpochSlot :=
  if y.state = .current ∧ y.index = index then { y with state := .retired, retireTick := now } else y

/-- The slot that was CURRENT for the index is RETIRED. -/
def retireCurrent (d : Device) (index : Nat) : Device :=
  match epochIn d .current (fun s => s.index = index) with
  | some (o, t) => setEpoch d o { t with state := .retired, retireTick := d.tick }
  | none => d

theorem activateEpoch_of_installed (h : epochIn d .installed (fun y => y.epoch = epoch && y.index = index) = some (e, x)) :
    activateEpoch d epoch index = setEpoch (retireCurrent d index) e { x with state := .current } := by
  simp only [activateEpoch, h]
  rfl

theorem activateEpoch_of_not_installed (h : epochIn d .installed (fun y => y.epoch = epoch && y.index = index) = none) :
    activateEpoch d epoch index = d := by
  simp only [activateEpoch, h]

theorem retireCurrent_epochs_length (d : Device) (index : Nat) : (retireCurrent d index).epochs.length = d.epochs.length := by
  unfold retireCurrent
  split
  · rw [setEpoch_epochs, List.length_set]
  · rfl

theorem retireCurrent_epoch (hone : OneCurrent d.epochs) (hf : d.epochs[f]? = some y) :
    (retireCurrent d index).epochs[f]? = some (y.superseded index d.tick) := by
  unfold retireCurrent EpochSlot.superseded
  split
  next o t hcurrent =>
    obtain ⟨ho, ⟨hstate, hindex⟩, -⟩ := epochIn_eq_some.mp hcurrent
    have hindex : t.index = index := of_decide_eq_true hindex
    rw [setEpoch_epochs]
    by_cases hfo : f = o
    · obtain rfl : t = y := Option.some.inj (ho.symm.trans (hfo ▸ hf))
      rw [hfo, if_pos ⟨hstate, hindex⟩, List.getElem?_set_self (List.getElem?_eq_some_iff.mp ho).1]
    · have hother : ¬ (y.state = .current ∧ y.index = index) := fun ⟨hy, hi⟩ =>
        hfo (hone f o y t hf ho hy hstate (hi.trans hindex.symm))
      rw [if_neg hother, List.getElem?_set_ne (Ne.symm hfo), hf]
  next hnone =>
    have hother : ¬ (y.state = .current ∧ y.index = index) := fun ⟨hy, hi⟩ =>
      of_decide_eq_false (epochIn_eq_none.mp hnone f y hf hy) hi
    rw [if_neg hother, hf]

section Activated
variable (h : epochIn d .installed (fun y => y.epoch = epoch && y.index = index) = some (e, x))
include h

theorem activateEpoch_epoch_same : (activateEpoch d epoch index).epochs[e]? = some { x with state := .current } := by
  obtain ⟨he, -, -⟩ := epochIn_eq_some.mp h
  have hlt : e < (retireCurrent d index).epochs.length :=
    retireCurrent_epochs_length d index ▸ (List.getElem?_eq_some_iff.mp he).1
  rw [activateEpoch_of_installed h, setEpoch_epochs, List.getElem?_set_self hlt]

theorem activateEpoch_epoch_ne (hone : OneCurrent d.epochs) (hne : f ≠ e) (hf : d.epochs[f]? = some y) :
    (activateEpoch d epoch index).epochs[f]? = some (y.superseded index d.tick) := by
  rw [activateEpoch_of_installed h, setEpoch_epochs, List.getElem?_set_ne (Ne.symm hne), retireCurrent_epoch hone hf]

theorem activateEpoch_epochs_length : (activateEpoch d epoch index).epochs.length = d.epochs.length := by
  rw [activateEpoch_of_installed h, setEpoch_epochs, List.length_set, retireCurrent_epochs_length]

/-- A CURRENT slot after the activation is the activated one, or was CURRENT for another index. -/
theorem current_of_activated (hone : OneCurrent d.epochs) (hf : (activateEpoch d epoch index).epochs[f]? = some y)
    (hcurrent : y.state = .current) : (f = e ∧ y.index = index) ∨ (f ≠ e ∧ d.epochs[f]? = some y ∧ y.index ≠ index) := by
  by_cases hfe : f = e
  · obtain ⟨-, ⟨-, hx⟩, -⟩ := epochIn_eq_some.mp h
    have hindex : x.index = index := by simp only [Bool.and_eq_true, decide_eq_true_eq] at hx; exact hx.2
    rw [hfe, activateEpoch_epoch_same h] at hf
    exact .inl ⟨hfe, Option.some.inj hf ▸ hindex⟩
  · have hlt : f < d.epochs.length := activateEpoch_epochs_length h ▸ (List.getElem?_eq_some_iff.mp hf).1
    have hold : d.epochs[f]? = some d.epochs[f] := List.getElem?_eq_getElem hlt
    obtain rfl := Option.some.inj ((activateEpoch_epoch_ne h hone hfe hold).symm.trans hf)
    unfold EpochSlot.superseded at hcurrent ⊢
    split at hcurrent
    · exact nomatch hcurrent
    · next hother => exact .inr ⟨hfe, by rwa [if_neg hother], fun hi => hother ⟨hcurrent, by rwa [if_neg hother] at hi⟩⟩

theorem activateEpoch_oneCurrent (hone : OneCurrent d.epochs) : OneCurrent (activateEpoch d epoch index).epochs := by
  intro f g y z hf hg hy hz hindex
  rcases current_of_activated h hone hf hy with ⟨hfe, hyi⟩ | ⟨-, hfold, hyi⟩ <;>
    rcases current_of_activated h hone hg hz with ⟨hge, hzi⟩ | ⟨-, hgold, hzi⟩
  · exact hfe.trans hge.symm
  · exact absurd (hindex.symm.trans hyi) hzi
  · exact absurd (hindex.trans hzi) hyi
  · exact hone f g y z hfold hgold hy hz hindex

end Activated
end Slots

/-- Settles O48: the activated slot (`activateEpoch_epoch_same`), every other one (`activateEpoch_epoch_ne`), and the
invariant, by where a CURRENT slot comes from (`current_of_activated`). -/
theorem activationKeepsOneCurrent : Obligations.ActivationKeepsOneCurrent := fun _ _ _ _ _ h hone =>
  ⟨activateEpoch_epoch_same h, fun _ _ hne hf => activateEpoch_epoch_ne h hone hne hf, activateEpoch_oneCurrent h hone⟩

/-! ### A slice's part in publishing (R356, R358) -/

section Slice
variable {d : Device} {src pub addr epoch index e : Nat} {desc : BitVec 1024} {x : EpochSlot}

theorem install_of_free (hfree : epochIn d .free (fun _ => true) = some (e, x))
    (hsame : epochIn d .installed (fun y => y.index = bf desc.toNat 991 988) = none) :
    install d src pub addr desc = sendXfer (setEpoch d e
      { state := .installed, epoch := bf desc.toNat 1023 992, index := bf desc.toNat 991 988, desc := desc, descAddr := addr })
      src (.epochAck pub true) 32 := by
  simp only [install, hfree, hsame]

theorem install_of_refused (h : epochIn d .free (fun _ => true) = none ∨
    epochIn d .installed (fun y => y.index = bf desc.toNat 991 988) ≠ none) :
    install d src pub addr desc = sendXfer d src (.epochAck pub false) 32 := by
  dsimp only [install]
  split
  next hfree hsame => exact (h.elim (fun hnone => nomatch hnone.symm.trans hfree) (fun hne => hne hsame)).elim
  next => rfl

theorem cancelEpoch_of_installed (h : epochIn d .installed (fun y => y.epoch = epoch && y.index = index) = some (e, x)) :
    cancelEpoch d epoch index = setEpoch d e {} := by
  simp only [cancelEpoch, h]

theorem cancelEpoch_of_not_installed (h : epochIn d .installed (fun y => y.epoch = epoch && y.index = index) = none) :
    cancelEpoch d epoch index = d := by
  simp only [cancelEpoch, h]

/-- A RETIRED slot without pins whose grace has passed (R358). -/
def mayFree (d : Device) (e : Nat) (x : EpochSlot) : Prop :=
  x.state = .retired ∧ epochPins d e = 0 ∧ x.retireTick + odGet d Od.EPOCH_GRACE 0 ≤ d.tick

theorem epochGrace_of_mayFree (he : d.epochs[e]? = some x) (h : mayFree d e x) : epochGrace d e = setEpoch d e {} := by
  obtain ⟨hretired, hpins, hgrace⟩ := h
  simp [epochGrace, List.getD, he, hretired, hpins, hgrace]

theorem epochGrace_of_not_mayFree (he : d.epochs[e]? = some x) (h : ¬ mayFree d e x) : epochGrace d e = d := by
  rw [epochGrace, getD_of_getElem? he]
  refine if_neg fun hfree => h ?_
  simpa [mayFree, and_assoc] using hfree

end Slice

/-! ### The owner's part in publishing (R356) -/

theorem modFirst_const {α : Type} {p : α → Bool} {f : α → α} {l : List α} {a : α} (h : l.find? p = some a) :
    modFirst p f l = modFirst p (fun _ => f a) l := by
  induction l with
  | nil => rfl
  | cons b l ih =>
    by_cases hb : p b = true
    · rw [List.find?_cons_of_pos hb] at h
      rw [modFirst, modFirst, if_pos hb, if_pos hb, Option.some.inj h]
    · rw [List.find?_cons_of_neg hb] at h
      rw [modFirst, modFirst, if_neg hb, if_neg hb, ih h]

section Owner
variable {d : Device} {a : EpochAck} {x : Publication} {pub : Nat}

/-- The publication with an acknowledgement taken off. -/
def Publication.acked (src : Nat) (x : Publication) : Publication :=
  { x with
    awaiting := x.awaiting.filter (· ≠ src)
    installed := if x.phase = .installing then x.installed ++ [src] else x.installed }

theorem epochAcked_of_not_asked (hx : pub? d a.pub = some x) (hsrc : a.src ∉ x.awaiting) : epochAcked d a = d := by
  simp [epochAcked, hx, hsrc]

theorem epochAcked_of_failed (hx : pub? d a.pub = some x) (hsrc : a.src ∈ x.awaiting) (hphase : x.phase = .installing)
    (hfail : a.accepted = false ∨ x.tick + 10 < d.tick) : epochAcked d a = cancelPub d x := by
  simp [epochAcked, hx, hsrc, hphase, hfail]

theorem epochAcked_of_refused_late (hx : pub? d a.pub = some x) (hsrc : a.src ∈ x.awaiting) (hphase : x.phase ≠ .installing)
    (hrefused : a.accepted = false) : epochAcked d a = d := by
  simp [epochAcked, hx, hsrc, hphase, hrefused]

theorem pub?_modPub (hx : pub? d pub = some x) {f : Publication → Publication} (hkeep : ∀ y, (f y).pub = y.pub) :
    pub? (modPub d pub f) pub = some (f x) := by
  have hfind := find?_modFirst_same (p := fun y : Publication => decide (y.pub = pub)) (f := f) (by simp [hkeep]) d.pubs
  exact hfind.trans (congrArg (Option.map f) hx)

theorem epochAcked_of_taken (hx : pub? d a.pub = some x) (hsrc : a.src ∈ x.awaiting) (haccepted : a.accepted = true)
    (hintime : x.phase ≠ .installing ∨ d.tick ≤ x.tick + 10) : epochAcked d a =
      advancePub { d with pubs := modFirst (fun p => p.pub = a.pub) (fun _ => x.acked a.src) d.pubs } (x.acked a.src) := by
  have hnotlate : ¬ (x.phase = .installing ∧ x.tick + 10 < d.tick) := by
    rintro ⟨hphase, hlate⟩
    exact hintime.elim (· hphase) (fun h => absurd hlate (by omega))
  have hpub : pub? (modPub d a.pub (Publication.acked a.src)) a.pub = some (x.acked a.src) := pub?_modPub hx fun _ => rfl
  have hmod : modPub d a.pub (Publication.acked a.src) =
      { d with pubs := modFirst (fun p => p.pub = a.pub) (fun _ => x.acked a.src) d.pubs } :=
    congrArg (fun l => { d with pubs := l }) (modFirst_const hx)
  have htaken : epochAcked d a = match pub? (modPub d a.pub (Publication.acked a.src)) a.pub with
      | some y => advancePub (modPub d a.pub (Publication.acked a.src)) y
      | none => modPub d a.pub (Publication.acked a.src) := by
    simp only [epochAcked, hx]
    rw [if_neg (by simp [hsrc]), if_neg (by simpa [haccepted] using hnotlate), if_neg (by simp [haccepted])]
    rfl
  rw [htaken, hpub, ← hmod]

theorem installTimeout_of_late (hx : pub? d pub = some x) (hphase : x.phase = .installing) (hasked : x.awaiting ≠ [])
    (hlate : x.tick + 10 < d.tick) : installTimeout d pub = cancelPub d x := by
  simp [installTimeout, hx, hphase, hasked, hlate]

theorem installTimeout_of_early (hx : pub? d pub = some x) (hearly : d.tick ≤ x.tick + 10) : installTimeout d pub = d := by
  have hnotlate : ¬ x.tick + 10 < d.tick := by omega
  simp [installTimeout, hx, hnotlate]

end Owner

section Runs
variable {s : State} (hready : fyReady s.dev = true)
include hready

theorem answers_install (src pub addr : Nat) (desc : BitVec 1024) :
    Answers (.install src pub addr desc) s (install s.dev src pub addr desc) :=
  answers_of_whenReady (install · src pub addr desc) hready rfl

theorem answers_activate (src pub epoch index : Nat) :
    Answers (.activate src pub epoch index) s (activate s.dev src pub epoch index) :=
  answers_of_whenReady (activate · src pub epoch index) hready rfl

theorem answers_cancel (src pub epoch index : Nat) : Answers (.cancel src pub epoch index) s (cancelEpoch s.dev epoch index) :=
  answers_of_whenReady (cancelEpoch · epoch index) hready rfl

theorem answers_epochGraceExpiry (e : Nat) : Answers (.epochGraceExpiry e) s (epochGrace s.dev e) :=
  answers_of_whenReady (epochGrace · e) hready rfl

theorem answers_epochTransferAck (a : EpochAck) : Answers (.epochTransferAck a) s (epochAcked s.dev a) :=
  answers_of_whenReady (epochAcked · a) hready rfl

theorem answers_installTimeout (pub : Nat) : Answers (.installTimeout pub) s (installTimeout s.dev pub) :=
  answers_of_whenReady (installTimeout · pub) hready rfl

end Runs

/-- Settles O47: a slice's part (`install`, `activate`, `cancelEpoch`, `epochGrace`) and the owner's (`epochAcked`,
`installTimeout`), a case of each for a clause. -/
theorem publicationsReachEverySlice : Obligations.PublicationsReachEverySlice := by
  refine ⟨fun s src pub addr epoch index desc hready => ⟨fun e x hfree hsame => ?installed, fun h => ?refused,
      answers_activate hready src pub epoch index, fun e x h => ?cancelled, fun h => ?notHeld,
      fun e x he => ⟨fun hretired hpins hgrace => ?freed, fun h => ?kept⟩⟩,
    fun s a x hready hx => ⟨fun hsrc => ?notAsked, fun hsrc hphase h => ?failed, fun hsrc hphase h => ?refusedLate,
      fun hsrc haccepted hintime => ?taken, fun hphase hasked hlate => ?timeout, fun hearly => ?early⟩⟩
  case installed => exact install_of_free hfree hsame ▸ answers_install hready src pub addr desc
  case refused => exact install_of_refused h ▸ answers_install hready src pub addr desc
  case cancelled => exact cancelEpoch_of_installed h ▸ answers_cancel hready src pub epoch index
  case notHeld =>
    have hrun := answers_cancel hready src pub epoch index
    rwa [cancelEpoch_of_not_installed h] at hrun
  case freed => exact epochGrace_of_mayFree he ⟨hretired, hpins, hgrace⟩ ▸ answers_epochGraceExpiry hready e
  case kept =>
    have hnot : ¬ mayFree s.dev e x := fun ⟨hretired, hpins, hgrace⟩ => by
      rcases h with h | h | h
      · exact h hretired
      · exact h hpins
      · omega
    have hrun := answers_epochGraceExpiry hready e
    rwa [epochGrace_of_not_mayFree he hnot] at hrun
  case notAsked =>
    have hrun := answers_epochTransferAck hready a
    rwa [epochAcked_of_not_asked hx hsrc] at hrun
  case failed => exact epochAcked_of_failed hx hsrc hphase h ▸ answers_epochTransferAck hready a
  case refusedLate =>
    have hrun := answers_epochTransferAck hready a
    rwa [epochAcked_of_refused_late hx hsrc hphase h] at hrun
  case taken =>
    have hrun := answers_epochTransferAck hready a
    rw [epochAcked_of_taken hx hsrc haccepted hintime] at hrun
    exact hrun
  case timeout => exact installTimeout_of_late hx hphase hasked hlate ▸ answers_installTimeout hready a.pub
  case early =>
    have hrun := answers_installTimeout hready a.pub
    rwa [installTimeout_of_early hx hearly] at hrun

end Sys2Proof.Machine
end

section
/-! Dictionary writes of the clocks (R402, R403) and of the check value channels (R421 to R430), and what a snoop point
leaves as it was: the obligations O15 and O13. -/

namespace Sys2Proof.Machine

/-! ### A command that writes one entry -/

section Written
variable {i : Instr} {s : State} {path : Path} {idx sub v : Nat} {data : List Byte} {eff : Effect} {d e : Device}

theorem answers_of_entry_ok (hexec : exec i s = next s (pathWrite s.dev path idx sub data eff))
    (htaken : WriteTaken s.dev path idx sub data d) (hvalue : ofLe data &&& keptBits d idx = v)
    (heff : eff d v = (e, some .ok)) : Answers i s (respondWrite e path idx sub .ok (readBack e idx sub)) := by
  rw [Answers, hexec, pathWrite_of_effect_ok htaken (hvalue ▸ heff)]
  rfl

theorem answers_of_entry_refused {st : Status} (hexec : exec i s = next s (pathWrite s.dev path idx sub data eff))
    (htaken : WriteTaken s.dev path idx sub data d) (hvalue : ofLe data &&& keptBits d idx = v)
    (heff : eff d v = refusedBy d st) (hst : st ≠ .ok) : Answers i s (respondWrite d path idx sub st 0) := by
  rw [Answers, hexec, pathWrite_of_effect_refused htaken (hvalue ▸ heff) hst]
  rfl

end Written

/-! ### ROOT_MHZ and TICK_LOAD (R402, R403) -/

section Time
variable {d : Device} {t v : Nat}

theorem tick_tickOffset (d : Device) (o : Nat) :
    (d.modClk (fun c => { c with tickOffset := o })).tick = (d.clk.rootcyc / d.mhz + o) % 2 ^ 64 := rfl

/-- TICKOFFSET at which TICK reads `t`. -/
def offsetFor (d : Device) (t : Nat) : Nat := (t + 2 ^ 64 - d.clk.rootcyc / d.mhz % 2 ^ 64) % 2 ^ 64

def loadTick (d : Device) (t : Nat) : Device := d.modClk (fun c => { c with tickOffset := offsetFor d t })

theorem tick_loadTick (ht : t < 2 ^ 64) : (loadTick d t).tick = t := by
  have hraw : d.clk.rootcyc / d.mhz % 2 ^ 64 < 2 ^ 64 := Nat.mod_lt _ (by decide)
  rw [loadTick, tick_tickOffset, offsetFor]
  omega

theorem loadTick_eq (d : Device) (t : Nat) :
    loadTick d t = { d with clk := { d.clk with tickOffset := (loadTick d t).clk.tickOffset } } := rfl

theorem tick_lt (d : Device) : d.tick < 2 ^ 64 := Nat.mod_lt _ (by decide)

/-- The slice once ROOT_MHZ holds `v`, where TICK may not fall. -/
def rootMhzWritten (d : Device) (v : Nat) : Device :=
  if (odSet d Od.ROOT_MHZ 0 v).tick < d.tick then loadTick (odSet d Od.ROOT_MHZ 0 v) d.tick else odSet d Od.ROOT_MHZ 0 v

theorem effRootMhz_eq (d : Device) (v : Nat) : effRootMhz d v = (rootMhzWritten d v, some .ok) := by
  dsimp only [effRootMhz, rootMhzWritten]
  split <;> rfl

theorem tick_rootMhzWritten (d : Device) (v : Nat) : (rootMhzWritten d v).tick = max d.tick (odSet d Od.ROOT_MHZ 0 v).tick := by
  unfold rootMhzWritten
  split
  · next hfalls => rw [tick_loadTick (tick_lt d), Nat.max_eq_left hfalls.le]
  · next hstays => exact (Nat.max_eq_right (Nat.le_of_not_lt hstays)).symm

theorem rootMhzWritten_eq (d : Device) (v : Nat) : rootMhzWritten d v =
    { odSet d Od.ROOT_MHZ 0 v with clk := { d.clk with tickOffset := (rootMhzWritten d v).clk.tickOffset } } := by
  unfold rootMhzWritten
  split <;> rfl

theorem effTickLoad_of_idle (htimers : d.timers = []) (hrings : anyRingEnabled d = false) :
    effTickLoad d v = (loadTick d v, some .ok) := by
  simp only [effTickLoad, htimers, hrings]
  rfl

theorem effTickLoad_of_in_use (h : d.timers ≠ [] ∨ anyRingEnabled d = true) : effTickLoad d v = refusedBy d .rejFormat :=
  if_pos (by simpa using h)

end Time

/-- Settles O15: what the two entries do with TICK (`tick_rootMhzWritten`, `tick_loadTick`). -/
theorem timeEntriesSetTick : Obligations.TimeEntriesSetTick := by
  intro s path d v
  have hmhz (hv : v < 65536) : ofLe (leBytes v 2) &&& keptBits d Od.ROOT_MHZ = v :=
    ofLe_leBytes_kept (k := 256) rfl hv (by omega)
  have hload (hv : v < 2 ^ 64) : ofLe (leBytes v 8) &&& keptBits d Od.TICK_LOAD = v :=
    ofLe_leBytes_kept (k := 256) rfl hv (by omega)
  refine ⟨fun htaken hv => ⟨rootMhzWritten d v, ?rootMhz, tick_rootMhzWritten d v, rootMhzWritten_eq d v⟩,
    fun htaken hv htimers hrings => ⟨loadTick d v, ?tickLoad, tick_loadTick hv, loadTick_eq d v⟩, fun htaken h => ?refused⟩
  case rootMhz => exact answers_of_entry_ok rfl htaken (hmhz hv) (effRootMhz_eq d v)
  case tickLoad => exact answers_of_entry_ok rfl htaken (hload hv) (effTickLoad_of_idle htimers hrings)
  case refused => exact answers_of_entry_refused rfl htaken rfl (effTickLoad_of_in_use h) (by decide)

/-! ### The entries of the check value channels (R423, R428, R430) -/

section Channels
variable {d : Device} {c v : Nat}

/-- The slice once CVC_CFG of a channel holds `v`: a channel that becomes enabled starts, and no record that is passing
meets it. -/
def cvcConfigured (d : Device) (c v : Nat) : Device :=
  if cvcEnabled v && !cvcEnabled (odGet d Od.CVC_CFG c)
    then modViews (chanMod (odSet d Od.CVC_CFG c v) c (cvcStart v)) (fun x => { x with chans := Map.del x.chans c })
    else odSet d Od.CVC_CFG c v

theorem effCvcCfg_of_ok (hok : cvcCfgOk d c v = true) : effCvcCfg c d v = (cvcConfigured d c v, some .ok) :=
  if_neg (by simp [hok])

theorem effCvcReset_of_channel (hv : v < 64) :
    effCvcReset d v = (d.modCvc (fun c => { c with chans := Map.mod c.chans v cvcCommit }), some .ok) := by
  rw [effCvcReset, if_neg (by omega), if_neg (by omega)]

theorem effCvcReset_all : effCvcReset d 0xFF =
    (d.modCvc (fun c => { c with chans := c.chans.map (fun (p : Nat × Channel) => (p.1, cvcCommit p.2)) }), some .ok) := rfl

/-! ### A snoop point that no channel sees (R421, R422) -/

theorem cvcOne_of_not_seen {point sel r n seq cfg : Nat} (h : cvcSees cfg point sel = false) :
    cvcOne d c cfg point sel r n seq = d := if_neg (by simp [h])

theorem cvcLegacy_of_disabled {view : CvcView} {point sel r n : Nat} (h : bit view.legacy 31 = false) :
    cvcLegacy d view point sel r n = d := if_neg (by simp [h])

theorem cvcPass_of_not_seen {point sel r n seq : Nat}
    (hchans : (odStored d Od.CVC_CFG).all (fun p => !cvcSees p.2 point sel) = true)
    (hlegacy : bit (odGet d Od.LEGACY_CFG 0) 31 = false) : cvcPass d point sel r n seq = d := by
  have hnone : (odStored d Od.CVC_CFG).foldl (fun d p => cvcOne d p.1 p.2 point sel r n seq) d = d :=
    List.foldlRecOn (motive := fun e => e = d) _ _ rfl fun e he p hp => by
      have hunseen : cvcSees p.2 point sel = false := by simpa using List.all_eq_true.mp hchans p hp
      rw [cvcOne_of_not_seen hunseen, he]
  exact (congrArg (cvcLegacy · (cvcView d) point sel r n) hnone).trans (cvcLegacy_of_disabled hlegacy)

end Channels

/-- Settles O13: the effect of each entry with the value that reaches it, and a snoop point, which changes the check value
channels only (`cvcPass_eq`). -/
theorem channelEntriesTakeTheirValues : Obligations.ChannelEntriesTakeTheirValues := by
  refine ⟨fun s path d => ⟨fun c v htaken hok => ?cfg, fun v hv htaken => ?reset, fun htaken => ?resetAll,
    fun v hv htaken => ?ctrl, fun v htaken => ?value⟩, fun d point sel r n seq => ⟨cvcPass_eq .., cvcPass_of_not_seen⟩⟩
  case cfg =>
    have hvalue : ofLe (leBytes v.toNat 8) &&& keptBits d Od.CVC_CFG = v.toNat &&& 0xFFFFFF8000000000 :=
      congrArg (· &&& 0xFFFFFF8000000000) (ofLe_leBytes v.isLt)
    exact answers_of_entry_ok rfl htaken hvalue (effCvcCfg_of_ok hok)
  case reset =>
    have hvalue : ofLe (leBytes v 1) &&& keptBits d Od.CVC_RESET = v := ofLe_leBytes_kept (k := 256) rfl (by omega) (by omega)
    exact answers_of_entry_ok rfl htaken hvalue (effCvcReset_of_channel hv)
  case resetAll => exact answers_of_entry_ok rfl htaken (ofLe_leBytes_kept (k := 256) rfl (by decide) (by decide)) effCvcReset_all
  case ctrl =>
    have hvalue : ofLe (leBytes v 4) &&& keptBits d Od.LEGACY_CTRL = v := ofLe_leBytes_kept (k := 1) rfl (by omega) (by omega)
    exact answers_of_entry_ok rfl htaken hvalue rfl
  case value =>
    have hvalue : ofLe (leBytes v.toNat 8) &&& keptBits d Od.LEGACY_VALUE = v.toNat :=
      ofLe_leBytes_kept (k := 256) rfl v.isLt (by omega)
    exact answers_of_entry_ok rfl htaken hvalue rfl

end Sys2Proof.Machine
end

section
/-! The management unit's requests (R444 to R457): a write of any entry on any path, and the mailbox's reads, commits and
info records; the obligations O14 and O20. -/

namespace Sys2Proof.Machine

/-! ### A write of any entry (R447, R449) -/

section Write
variable {d0 d e : Device} {path : Path} {idx sub : Nat} {data : List Byte}

/-- A value that the entry refuses is answered with its status, whatever the entry left of the slice. -/
theorem pathWrite_of_effect_other {st : Status} {eff : Effect} (htaken : WriteTaken d0 path idx sub data d)
    (heff : eff d (ofLe data &&& keptBits d idx) = (e, some st)) (hst : st ≠ .ok) :
    pathWrite d0 path idx sub data eff = respondWrite e path idx sub st 0 := by
  obtain ⟨-, -, -, hcheck⟩ := id htaken
  simp only [pathWrite_of_taken htaken, performWrite, countMasked_of_writeCheck hcheck, hcheck, heff]

/-- What a taken write makes of the slice, by the status that its entry's effect gives. -/
theorem entryWrite_of_taken (htaken : WriteTaken d0 path idx sub data d) :
    let r := effectOf path idx sub d (ofLe data &&& keptBits d idx)
    (r.2 = some .ok → entryWrite d0 path idx sub data = respondWrite r.1 path idx sub .ok (readBack r.1 idx sub)) ∧
    (∀ st, r.2 = some st → st ≠ .ok → entryWrite d0 path idx sub data = respondWrite r.1 path idx sub st 0) ∧
    (r.2 = none → entryWrite d0 path idx sub data = r.1) :=
  ⟨fun h => pathWrite_of_effect_ok htaken (Prod.ext rfl h), fun _ h hst => pathWrite_of_effect_other htaken (Prod.ext rfl h) hst,
    fun h => pathWrite_of_effect_pending htaken (Prod.ext rfl h)⟩

/-- A vendor-defined WRITE has an OP of Table 18.4 and its form, so it is not refused before its turn (R449, R453). -/
theorem refusal_of_write {m : MctpMsg} (hcontrol : m.control = false) (hform : m.formatOk = true) (hop : m.op = OP_WRITE) :
    m.refusal = none := by
  simp [MctpMsg.refusal, hcontrol, hform, hop]

theorem mctpServe_of_head {m : MctpMsg} {op : Nat} {f : Device → MctpMsg → Device} (hpresent : fyPresent d = true)
    (hhead : d.mgmt.queue.head? = some m) (hturn : unitTurn d .mctp = true) (hcontrol : m.control = false)
    (hrefusal : m.refusal = none) (hop : m.op = op) : mctpServe d op f = f d m := by
  obtain ⟨rest, hqueue⟩ : ∃ rest, d.mgmt.queue = m :: rest := List.head?_eq_some_iff.mp hhead
  rw [mctpServe, whenPresent_true hpresent]
  simp [hqueue, hturn, hcontrol, hrefusal, hop]

/-! ### MB_WRITE (R448) -/

section Mailbox
variable {reqId : Nat}

theorem acceptWrite_of_free (hfree : d.mgmt.busy = false) : acceptWrite d (.mailbox reqId) idx sub data =
    (mbAccept d OP_WRITE reqId idx sub data, unitTurn (mbAccept d OP_WRITE reqId idx sub data) .mailbox) := by
  simp [acceptWrite, hfree]

theorem acceptWrite_of_other (hbusy : d.mgmt.busy = true)
    (hother : mbHolds d OP_WRITE reqId idx sub = false ∨ mbValue d.mgmt ≠ data) :
    acceptWrite d (.mailbox reqId) idx sub data = ({ d with mgmt := { d.mgmt with overrun := true } }, false) := by
  refine if_pos ?_
  rw [hbusy]
  rcases hother with h | h <;> simp [h]

theorem entryWrite_of_not_accepted (hpresent : fyPresent d = true) (haccept : acceptWrite d path idx sub data = (e, false)) :
    entryWrite d path idx sub data = e := by
  simp [entryWrite, pathWrite, whenPresent_true hpresent, haccept]

/-- A WRITE of the mailbox that fails a check is answered with the check's status. -/
theorem entryWrite_of_failed {st : Status} (hpresent : fyPresent d = true)
    (haccept : acceptWrite d (.mailbox reqId) idx sub data = (e, true))
    (hcheck : writeCheck (tookTurn e (.mailbox reqId)) (.mailbox reqId) idx sub data.length (ofLe data) = some st) :
    entryWrite d (.mailbox reqId) idx sub data = mbRespond (tookTurn e (.mailbox reqId)) reqId st [] := by
  simp [entryWrite, pathWrite, whenPresent_true hpresent, haccept, performWrite, countMasked, hcheck, respondWrite]

end Mailbox
end Write

/-- The commands that write one entry on a path answer as the write does. -/
theorem settles_of_entryWrite {i : Instr} {s : State} {path : Path} {idx sub : Nat} {data : List Byte} {d : Device}
    (hexec : exec i s = done s (entryWrite s.dev path idx sub data)) (h : entryWrite s.dev path idx sub data = d) :
    Settles i s d := h ▸ hexec

/-- Settles O14: each command that names the entry is the same write (`entryWrite_of_taken`); MB_WRITE that is not taken
waits or sets OVERRUN, by what `acceptWrite` makes of it. -/
theorem registerWritesHaveTheirEntrysEffect : Obligations.RegisterWritesHaveTheirEntrysEffect := by
  intro s path idx sub data served
  have hserved (i : Instr) (path : Path)
      (hexec : fyPresent s.dev = true → exec i s = done s (entryWrite s.dev path idx sub data)) : served i path := by
    intro d htaken
    obtain ⟨hok, hrefused, hpending⟩ := entryWrite_of_taken htaken
    have hrun := hexec htaken.1
    exact ⟨fun h => settles_of_entryWrite hrun (hok h), fun st h hst => settles_of_entryWrite hrun (hrefused st h hst),
      fun h => settles_of_entryWrite hrun (hpending h)⟩
  refine ⟨hserved _ path fun _ => rfl, fun reqId => hserved _ _ fun _ => rfl, fun m hhead hturn hcontrol hform hop hidx hsub hdata =>
    hserved _ _ fun hpresent => ?mctp, fun reqId hpresent hfree => ⟨fun hturn st hcheck => ?failed, fun hturn => ?waits⟩,
    fun reqId hpresent hbusy hother => ?overrun⟩
  case mctp =>
    have hrefusal := refusal_of_write hcontrol hform hop
    rw [← hidx, ← hsub, ← hdata]
    exact congrArg (done s) (mctpServe_of_head hpresent hhead hturn hcontrol hrefusal hop)
  case failed =>
    have haccept := (acceptWrite_of_free (reqId := reqId) (idx := idx) (sub := sub) (data := data) hfree).trans
      (congrArg (Prod.mk _) hturn)
    exact settles_of_entryWrite rfl (entryWrite_of_failed hpresent haccept hcheck)
  case waits =>
    have haccept := (acceptWrite_of_free (reqId := reqId) (idx := idx) (sub := sub) (data := data) hfree).trans
      (congrArg (Prod.mk _) hturn)
    exact settles_of_entryWrite rfl (entryWrite_of_not_accepted hpresent haccept)
  case overrun => exact settles_of_entryWrite rfl (entryWrite_of_not_accepted hpresent (acceptWrite_of_other hbusy hother))

/-! ### Operations after which nothing is to be settled -/

/-- What parity deltas and mirror writes follow from is the same in both. -/
structure SameWork (d0 d : Device) : Prop where
  seqs : d.seqs = d0.seqs
  timers : d.timers = d0.timers
  ctx : d.ctx = d0.ctx
  inflight : d.inflight = d0.inflight
  gated : d.faults.gated = d0.faults.gated
  releases : d.faults.releases = d0.faults.releases
  gatedAcks : d.faults.gatedAcks = d0.faults.gatedAcks

namespace SameWork
variable {d0 d e : Device}

theorem refl (d : Device) : SameWork d d := ⟨rfl, rfl, rfl, rfl, rfl, rfl, rfl⟩

/-- The turns of the management unit are none of the slice's work (R449). -/
theorem turn (h : SameWork d0 d) (path : Path) : SameWork d0 (tookTurn d path) := by
  cases path <;> exact ⟨h.seqs, h.timers, h.ctx, h.inflight, h.gated, h.releases, h.gatedAcks⟩

theorem trans (h : SameWork d0 d) (h' : SameWork d e) : SameWork d0 e :=
  ⟨h'.seqs.trans h.seqs, h'.timers.trans h.timers, h'.ctx.trans h.ctx, h'.inflight.trans h.inflight,
    h'.gated.trans h.gated, h'.releases.trans h.releases, h'.gatedAcks.trans h.gatedAcks⟩

theorem settle_eq (h : SameWork d0 d) : settle d0 d = d :=
  settle_same h.seqs h.timers h.ctx h.inflight h.gated h.releases h.gatedAcks

end SameWork

theorem sameWork_of_eq {d0 d : Device} (hseqs : d.seqs = d0.seqs) (htimers : d.timers = d0.timers) (hctx : d.ctx = d0.ctx)
    (hinflight : d.inflight = d0.inflight) (hfaults : d.faults = d0.faults) : SameWork d0 d :=
  ⟨hseqs, htimers, hctx, hinflight, hfaults ▸ rfl, hfaults ▸ rfl, hfaults ▸ rfl⟩

theorem answers_of_sameWork {i : Instr} {s : State} {d : Device} (hrun : Settles i s d) (h : SameWork s.dev d) :
    Answers i s d := by
  rwa [Settles, h.settle_eq] at hrun

/-! ### The request in the mailbox (R448, R449) -/

section Served
variable {d : Device} {op reqId idx sub : Nat} {f : Device → Device × Status × List Byte}

theorem mbAccept_eq (d : Device) (op reqId idx sub : Nat) (value : List Byte) : mbAccept d op reqId idx sub value =
    { d with mgmt := (mbAccept d op reqId idx sub value).mgmt, cvc := (mbAccept d op reqId idx sub value).cvc } := by
  rw [mbAccept, mbGo, cvcPass_eq]
  rfl

/-- Whether the mailbox has its turn does not rest on the request that it takes. -/
theorem unitTurn_mbAccept (d : Device) (op reqId idx sub : Nat) (value : List Byte) (x : UnitSource) :
    unitTurn (mbAccept d op reqId idx sub value) x = unitTurn (d.modMgmt (fun m => { m with mbWaits := true })) x := by
  rw [mbAccept, mbGo, cvcPass_eq]
  rfl

theorem sameWork_mbAccept (d : Device) (op reqId idx sub : Nat) (value : List Byte) :
    SameWork d (mbAccept d op reqId idx sub value) := by
  rw [mbAccept_eq]
  exact ⟨rfl, rfl, rfl, rfl, rfl, rfl, rfl⟩

theorem sameWork_mbRespond (d : Device) (reqId : Nat) (st : Status) (data : List Byte) :
    SameWork d (mbRespond d reqId st data) := by
  rw [mbRespond, cvcPass_eq]
  exact (sameWork_of_eq rfl rfl rfl rfl rfl).trans (sameWork_of_eq (raiseVector_seqs ..) (raiseVector_timers ..)
    (raiseVector_ctx ..) (raiseVector_inflight ..) ((congrArg Device.faults (raiseVector_frame ..)).trans rfl))

theorem sameWork_latchRead (d : Device) (r : OdRow) (idx sub : Nat) : SameWork d (latchRead d r idx sub) := by
  unfold latchRead acctSnapshot cvcSnapshot
  repeat' split
  all_goals exact ⟨rfl, rfl, rfl, rfl, rfl, rfl, rfl⟩

theorem mbOverrun_of_busy (hbusy : d.mgmt.busy = true) : mbOverrun d = { d with mgmt := { d.mgmt with overrun := true } } := by
  simp [mbOverrun, Device.modMgmt, hbusy]

theorem mbOverrun_of_free (hfree : d.mgmt.busy = false) : mbOverrun d = d := by
  have hover : (d.mgmt.overrun || d.mgmt.busy) = d.mgmt.overrun := by rw [hfree, Bool.or_false]
  simp only [mbOverrun, Device.modMgmt, hover]

theorem mbServe_of_overrun (hpresent : fyPresent d = true) (hbusy : d.mgmt.busy = true)
    (hother : mbHolds d op reqId idx sub = false) :
    mbServe d op reqId idx sub f = { d with mgmt := { d.mgmt with overrun := true } } := by
  simp [mbServe, whenPresent_true hpresent, hbusy, hother, mbOverrun_of_busy]

theorem mbServe_of_taken (hpresent : fyPresent d = true) (hfree : d.mgmt.busy = false)
    (hturn : unitTurn (mbAccept d op reqId idx sub []) .mailbox = true) :
    mbServe d op reqId idx sub f = mbAnswer (mbAccept d op reqId idx sub []) reqId f := by
  simp [mbServe, whenPresent_true hpresent, hfree, hturn]

theorem mbServe_of_taken_waits (hpresent : fyPresent d = true) (hfree : d.mgmt.busy = false)
    (hturn : unitTurn (mbAccept d op reqId idx sub []) .mailbox = false) :
    mbServe d op reqId idx sub f = mbAccept d op reqId idx sub [] := by
  simp [mbServe, whenPresent_true hpresent, hfree, hturn]

theorem mbServe_of_held (hpresent : fyPresent d = true) (hbusy : d.mgmt.busy = true) (hheld : mbHolds d op reqId idx sub = true)
    (hturn : unitTurn d .mailbox = true) : mbServe d op reqId idx sub f = mbAnswer d reqId f := by
  simp [mbServe, whenPresent_true hpresent, hbusy, hheld, hturn]

theorem mbServe_of_held_waits (hpresent : fyPresent d = true) (hbusy : d.mgmt.busy = true)
    (hheld : mbHolds d op reqId idx sub = true) (hturn : unitTurn d .mailbox = false) :
    mbServe d op reqId idx sub f = d := by
  simp [mbServe, whenPresent_true hpresent, hbusy, hheld, hturn]

/-! ### What is answered (R444, R446) -/

variable {row : OdRow}

theorem readEntry_of_readable (hrow : odRow idx sub = some row) (hacc : row.acc ≠ 3) (hsize : row.size ≤ 256) :
    readEntry d 256 idx sub = (latchRead d row idx sub, .ok, leBytes (odRead d idx sub) row.size) := by
  simp [readEntry, hrow, hacc, Nat.not_lt.mpr hsize]

theorem readEntry_of_write_only (hrow : odRow idx sub = some row) (hacc : row.acc = 3) :
    readEntry d 256 idx sub = (d, .rejFormat, []) := by
  simp [readEntry, hrow, hacc]

theorem readEntry_of_absent (hrow : odRow idx sub = none) : readEntry d 256 idx sub = (d, .rejFormat, []) := by
  simp only [readEntry, hrow]

theorem mbCommit_of_ok (hok : commitOk idx sub = true) : mbCommit d idx sub = (commitEntry d idx sub, .ok, []) := if_pos hok

theorem mbCommit_of_refused (hno : commitOk idx sub = false) : mbCommit d idx sub = (d, .rejFormat, []) := by
  simp [mbCommit, hno]

theorem infoEntry_of_row (hrow : odRow idx sub = some row) :
    infoEntry d idx sub = (d, .ok, leBytes (infoRecord row idx sub) 16) := by
  simp only [infoEntry, hrow]

theorem infoEntry_of_absent (hrow : odRow idx sub = none) : infoEntry d idx sub = (d, .rejFormat, []) := by
  simp only [infoEntry, hrow]

/-- The answer by what serving the request gives. -/
theorem mbAnswer_eq {e : Device} {st : Status} {data : List Byte} (h : f (tookTurn d (.mailbox reqId)) = (e, st, data)) :
    mbAnswer d reqId f = mbRespond e reqId st data := by
  simp only [mbAnswer, h]

/-! ### A commit (R63, R444) -/

theorem commitEntry_of_no_snapshot (hsnap : Map.find d.snaps (odKey idx sub) = none) : commitEntry d idx sub = d := by
  simp only [commitEntry, hsnap]

/-- Causes that the commit of ALERT_CAUSE leaves (R63, R389). -/
def keptCauses (d : Device) (idx snap : Nat) : Nat :=
  if idx = Od.ALERT_CAUSE then snap &&& (raisedNow d ||| standingCauses d) else 0

theorem commitEntry_of_snapshot {snap since : Nat} (hsnap : Map.find d.snaps (odKey idx sub) = some (snap, since)) :
    commitEntry d idx sub = odSet { d with snaps := Map.del d.snaps (odKey idx sub) } idx sub
      (committed idx sub (odGet d idx sub) (snap - keptCauses d idx snap) since) := by
  have hkept : (if idx = Od.ALERT_CAUSE then snap - (snap &&& (raisedNow d ||| standingCauses d)) else snap) =
      snap - keptCauses d idx snap := by
    unfold keptCauses
    split <;> rfl
  simp only [commitEntry, hsnap, hkept]

end Served

/-! ### The commands of the mailbox -/

/-- What a READ that finds `found` in the word gives. -/
def readServed (idx sub : Nat) (found : DiagFind) (d : Device) : Device × Status × List Byte :=
  readEntry (diagRead d idx found) 256 idx sub

section Commands
variable {s : State} {d e : Device} {r idx sub : Nat}

theorem settles_mbRead {found : DiagFind} (h : mbServe s.dev OP_READ r idx sub (readServed idx sub found) = d) :
    Settles (.mbRead r idx sub found) s d := h ▸ rfl

theorem answers_mbRead {found : DiagFind} (h : mbServe s.dev OP_READ r idx sub (readServed idx sub found) = d)
    (hwork : SameWork s.dev d) : Answers (.mbRead r idx sub found) s d := answers_of_sameWork (settles_mbRead h) hwork

theorem answers_mbCommit (h : mbServe s.dev OP_COMMIT r idx sub (mbCommit · idx sub) = d) : Answers (.mbCommit r idx sub) s d :=
  h ▸ rfl

theorem answers_mbReadInfo (h : mbServe s.dev OP_INFO r idx sub (infoEntry · idx sub) = d) :
    Answers (.mbReadInfo r idx sub) s d := h ▸ rfl

theorem answers_mailboxOverrun (hpresent : fyPresent s.dev = true) : Answers .mailboxOverrun s (mbOverrun s.dev) :=
  answers_of_whenPresent mbOverrun hpresent rfl

/-- A READ that is served and answered without data touches no work of the slice. -/
theorem sameWork_answered (h : SameWork s.dev d) (st : Status) (data : List Byte) :
    SameWork s.dev (mbRespond (tookTurn d (.mailbox r)) r st data) :=
  (h.turn (.mailbox r)).trans (sameWork_mbRespond (tookTurn d (.mailbox r)) r st data)

/-- A READ that is served reads the entry of the slice that has taken the mailbox's turn. -/
theorem answers_mbRead_of_served {row : OdRow} (hserve : mbServe s.dev OP_READ r idx sub (readServed idx sub none) =
      mbAnswer d r (readServed idx sub none)) (h : SameWork s.dev d)
    (hrow : odRow idx sub = some row) (hacc : row.acc ≠ 3) (hsize : row.size ≤ 256) :
    Answers (.mbRead r idx sub) s (mbRespond (latchRead (tookTurn d (.mailbox r)) row idx sub) r .ok
      (leBytes (odRead (tookTurn d (.mailbox r)) idx sub) row.size)) :=
  answers_mbRead (hserve.trans (mbAnswer_eq (readEntry_of_readable hrow hacc hsize)))
    (((h.turn (.mailbox r)).trans (sameWork_latchRead ..)).trans (sameWork_mbRespond ..))

end Commands

/-- Settles O20: which case of R448 and R449 a request meets (`mbServe`), and what serving it gives (`readEntry`,
`mbCommit`, `infoEntry`). -/
theorem mailboxServesRequests : Obligations.MailboxServesRequests := by
  intro s r idx sub hpresent taken a held
  have hwork (op : Nat) : SameWork s.dev (taken op) := sameWork_mbAccept s.dev op r idx sub []
  have hsame (op : Nat) : a op = { s.dev with mgmt := (a op).mgmt, cvc := (a op).cvc } :=
    congrArg (tookTurn · (.mailbox r)) (mbAccept_eq s.dev op r idx sub [])
  have hturns {b : Bool} (h : unitTurn (taken OP_READ) .mailbox = b) (op : Nat) :
      unitTurn (mbAccept s.dev op r idx sub []) .mailbox = b :=
    (unitTurn_mbAccept ..).trans ((unitTurn_mbAccept ..).symm.trans h)
  refine ⟨fun hbusy i hi => ?overrun, fun hfree hturn => ⟨?readWaits, ?commitWaits, ?infoWaits⟩,
    fun hbusy hturn => ⟨fun e hheld hrow hacc hsize => ?heldRead, fun hheld hok => ?heldCommit, fun e hheld hrow => ?heldInfo⟩,
    fun hbusy hturn => ⟨fun hheld => ?heldReadWaits, fun hheld => ?heldCommitWaits, fun hheld => ?heldInfoWaits⟩,
    fun found e hfree hturn _ hrow hacc hsize => ?diag, fun hfree => ?noOverrun,
    fun hfree hturn => ⟨fun e hrow => ⟨fun hacc hsize => ?read, fun hacc => ?writeOnly, ?info⟩, fun hrow => ⟨?noRead, ?noInfo⟩,
      fun hno => ?noCommit, fun hok hsnap => ?emptyCommit, fun snap since hok hsnap => ?commit⟩⟩
  case overrun =>
    rcases hi with rfl | ⟨hheld, rfl⟩ | ⟨hheld, rfl⟩ | ⟨hheld, rfl⟩
    · exact mbOverrun_of_busy hbusy ▸ answers_mailboxOverrun hpresent
    · exact answers_mbRead (mbServe_of_overrun hpresent hbusy hheld) ⟨rfl, rfl, rfl, rfl, rfl, rfl, rfl⟩
    · exact answers_mbCommit (mbServe_of_overrun hpresent hbusy hheld)
    · exact answers_mbReadInfo (mbServe_of_overrun hpresent hbusy hheld)
  case noOverrun =>
    have hrun := answers_mailboxOverrun hpresent
    rwa [mbOverrun_of_free hfree] at hrun
  case readWaits => exact answers_mbRead (mbServe_of_taken_waits hpresent hfree (hturns hturn _)) (hwork OP_READ)
  case commitWaits => exact answers_mbCommit (mbServe_of_taken_waits hpresent hfree (hturns hturn _))
  case infoWaits => exact answers_mbReadInfo (mbServe_of_taken_waits hpresent hfree (hturns hturn _))
  case heldRead => exact answers_mbRead_of_served (mbServe_of_held hpresent hbusy hheld hturn) (.refl _) hrow hacc hsize
  case heldCommit =>
    exact answers_mbCommit ((mbServe_of_held hpresent hbusy hheld hturn).trans (mbAnswer_eq (mbCommit_of_ok hok)))
  case heldInfo =>
    exact answers_mbReadInfo ((mbServe_of_held hpresent hbusy hheld hturn).trans (mbAnswer_eq (infoEntry_of_row hrow)))
  case heldReadWaits => exact answers_mbRead (mbServe_of_held_waits hpresent hbusy hheld hturn) (.refl _)
  case heldCommitWaits => exact answers_mbCommit (mbServe_of_held_waits hpresent hbusy hheld hturn)
  case heldInfoWaits => exact answers_mbReadInfo (mbServe_of_held_waits hpresent hbusy hheld hturn)
  case diag =>
    exact settles_mbRead ((mbServe_of_taken hpresent hfree (hturns hturn _)).trans
      (mbAnswer_eq (readEntry_of_readable hrow hacc hsize)))
  case read =>
    exact answers_mbRead_of_served (mbServe_of_taken hpresent hfree (hturns hturn _)) (hwork OP_READ) hrow hacc hsize
  case writeOnly =>
    exact answers_mbRead ((mbServe_of_taken hpresent hfree (hturns hturn _)).trans (mbAnswer_eq (readEntry_of_write_only hrow hacc)))
      (sameWork_answered (hwork OP_READ) ..)
  case noRead =>
    exact answers_mbRead ((mbServe_of_taken hpresent hfree (hturns hturn _)).trans (mbAnswer_eq (readEntry_of_absent hrow)))
      (sameWork_answered (hwork OP_READ) ..)
  case info =>
    exact answers_mbReadInfo ((mbServe_of_taken hpresent hfree (hturns hturn _)).trans (mbAnswer_eq (infoEntry_of_row hrow)))
  case noInfo =>
    exact answers_mbReadInfo ((mbServe_of_taken hpresent hfree (hturns hturn _)).trans (mbAnswer_eq (infoEntry_of_absent hrow)))
  case noCommit =>
    exact answers_mbCommit ((mbServe_of_taken hpresent hfree (hturns hturn _)).trans (mbAnswer_eq (mbCommit_of_refused hno)))
  case emptyCommit =>
    have hentry : commitEntry (a OP_COMMIT) idx sub = a OP_COMMIT :=
      commitEntry_of_no_snapshot (by rw [hsame OP_COMMIT]; exact hsnap)
    exact answers_mbCommit ((mbServe_of_taken hpresent hfree (hturns hturn _)).trans
      (mbAnswer_eq ((mbCommit_of_ok hok).trans (congrArg (·, Status.ok, []) hentry))))
  case commit =>
    have hentry := commitEntry_of_snapshot (d := a OP_COMMIT) (idx := idx) (sub := sub) (snap := snap) (since := since)
      (by rw [hsame OP_COMMIT]; exact hsnap)
    have hrun := answers_mbCommit ((mbServe_of_taken hpresent hfree (hturns hturn _)).trans
      (mbAnswer_eq ((mbCommit_of_ok hok).trans (congrArg (·, Status.ok, []) hentry))))
    have hsnaps : (a OP_COMMIT).snaps = s.dev.snaps := (congrArg Device.snaps (hsame OP_COMMIT)).trans rfl
    have hnow : odGet (a OP_COMMIT) idx sub = odGet s.dev idx sub :=
      odGet_od _ _ ((congrArg Device.od (hsame OP_COMMIT)).trans rfl) ((congrArg Device.ident (hsame OP_COMMIT)).trans rfl)
    have hkept : keptCauses (a OP_COMMIT) idx snap = keptCauses s.dev idx snap := by rw [hsame OP_COMMIT]; rfl
    rw [hsnaps, hnow, hkept] at hrun
    exact hrun

end Sys2Proof.Machine
end

section
/-! Resets, input levels and isolation (R402, R408 to R411, Table 15.4), and the accesses that the port takes when isolation
ends (R38, R66): the obligations O1 and O2. -/

namespace Sys2Proof.Machine

/-! ### What a reset leaves (Table 15.4) -/

section Held
variable {d : Device} {c : Clk} {mapLost keepLog : Bool}

theorem heldDevice_cleared : (heldDevice d (heldClk c mapLost) keepLog).cleared := by
  cases keepLog <;> (unfold Device.cleared; refine ⟨rfl, ?_⟩; repeat' apply And.intro) <;> rfl

/-- The only entry that a reset with the log kept leaves off its default is FLOG_READ (R371, R408). -/
theorem odGet_heldDevice {idx sub : Nat} (hsub : sub < 256) : odGet (heldDevice d c true) idx sub =
    if idx = Od.FLOG_READ ∧ sub = 0 then odGet d idx sub else odDefault d idx sub := by
  have hdefault : odDefault (heldDevice d c true) idx sub = odDefault d idx sub := rfl
  rw [odGet, odGet, hdefault]
  show Map.getD (Map.set [] (odKey Od.FLOG_READ 0) (Map.find d.od (odKey Od.FLOG_READ 0))) _ _ = _
  by_cases hread : idx = Od.FLOG_READ ∧ sub = 0
  · obtain ⟨rfl, rfl⟩ := hread
    cases hfind : Map.find d.od (odKey Od.FLOG_READ 0) <;> simp [Map.getD, hfind, Map.set, Map.put, Map.del, Map.find]
  · have hkey : odKey Od.FLOG_READ 0 ≠ odKey idx sub := by
      unfold odKey
      omega
    rw [if_neg hread]
    cases Map.find d.od (odKey Od.FLOG_READ 0) <;> simp [Map.getD, Map.set, Map.put, Map.del, Map.find, hkey]

end Held

/-- The input that falls reads 0, and the others read as before. -/
theorem level_of_named (b : Bool) (i : Instr) : false = (b && decide (i ≠ i)) := by simp

theorem level_of_other (b : Bool) {i j : Instr} (h : i ≠ j) : b = (b && decide (i ≠ j)) := by simp [h]

/-- Settles O1: every reset is `heldDevice` with the clock unit of `heldClk`. -/
theorem resetsClearTheSlice : Obligations.ResetsClearTheSlice := by
  refine ⟨fun s i b hi => ?lost, fun s i b hi => ?kept⟩
  case lost =>
    rcases hi with rfl | rfl
    · exact ⟨_, rfl, rfl, rfl, heldDevice_cleared, rfl, rfl, rfl, rfl, rfl, level_of_named .., rfl, rfl, rfl, rfl⟩
    · exact ⟨_, rfl, rfl, rfl, heldDevice_cleared, rfl, rfl, rfl, rfl, rfl, level_of_other _ nofun, rfl, rfl, rfl, rfl⟩
  case kept =>
    rcases hi with rfl | rfl
    · exact ⟨_, rfl, rfl, rfl, heldDevice_cleared, rfl, fun _ _ _ hsub => odGet_heldDevice hsub, rfl, rfl, rfl, rfl, rfl,
        level_of_named .., level_of_other _ nofun, level_of_other _ nofun⟩
    · cases b with
      | false => exact ⟨{ s with dev := srstAssert s.dev }, rfl, rfl, rfl, heldDevice_cleared, rfl,
          fun _ _ _ hsub => odGet_heldDevice hsub, rfl, rfl, rfl, rfl, rfl, level_of_other _ nofun, level_of_named .., level_of_other _ nofun⟩
      | true => exact ⟨{ s with dev := lockLost s.dev }, rfl, rfl, rfl, heldDevice_cleared, rfl,
          fun _ _ _ hsub => odGet_heldDevice hsub, rfl, rfl, rfl, rfl, rfl, level_of_other _ nofun, level_of_other _ nofun, level_of_named ..⟩

/-! ### Release (R409, R411) -/

section Release
variable {d : Device} {staggered : Bool}

/-- No reset input is low. -/
def allReleased (c : Clk) : Bool := c.porstN && c.wrstN && c.srstN && c.rootLock

/-- The clock unit of a slice that starts. -/
def startedClk (c : Clk) (staggered : Bool) : Clk :=
  { c with phase := .waiting, bist := c.mapLost, staggered := staggered, phaseCyc := 0, rootcyc := 0, tickOffset := 0 }

theorem startWaiting_of_released (h : allReleased d.clk = true) :
    startWaiting d staggered = { d with clk := startedClk d.clk staggered } :=
  congrArg (fun c => { d with clk := c }) (if_pos h)

theorem startWaiting_of_low (h : allReleased d.clk = false) (hheld : d.clk.phase = .held) :
    (startWaiting d staggered).clk.phase = .held :=
  (congrArg Clk.phase (if_neg (Bool.not_eq_true _ ▸ h))).trans hheld

/-- The release of an input that was low, the last of them. -/
theorem release_of_last {b : Bool} {e : Device} (hb : b = false) (h : allReleased e.clk = true) :
    (if b then d else startWaiting e staggered) = { e with clk := startedClk e.clk staggered } := by
  rw [hb, ← startWaiting_of_released h]
  rfl

/-- An input that is high already stays so; one that was low may start the slice. -/
theorem phase_of_release {b : Bool} {e : Device} (hd : d.clk.phase = .held) (he : e.clk.phase = .held)
    (hlow : allReleased e.clk = false) : (if b then d else startWaiting e staggered).clk.phase = .held := by
  cases b with
  | true => exact hd
  | false => exact startWaiting_of_low hlow he

end Release

/-! ### The accesses that isolation held back (R38, R66) -/

section Pump
variable {d : Device}

/-- Beside the port, an access that goes out shows in the model's log of outputs only. -/
def PortOnly (d e : Device) : Prop := e = { d with fabi := e.fabi, out := e.out }

theorem fabiPump_portOnly (d : Device) : PortOnly d (fabiPump d) := by
  unfold fabiPump
  split
  · rfl
  · split <;> rfl

theorem fabiPumpAll_portOnly (n : Nat) (d : Device) : PortOnly d (fabiPumpAll n d) := by
  induction n generalizing d with
  | zero => rfl
  | succ n ih => exact Eq.trans (ih (fabiPump d)) (congrArg (fun e : Device => { e with
      fabi := (fabiPumpAll n (fabiPump d)).fabi, out := (fabiPumpAll n (fabiPump d)).out }) (fabiPump_portOnly d))

theorem fabiPump_of_none_waiting (h : d.fabi.waiting = []) : fabiPump d = d := by simp only [fabiPump, h]

theorem fabiPumpAll_of_none_waiting (n : Nat) (h : d.fabi.waiting = []) : fabiPumpAll n d = d := by
  induction n with
  | zero => rfl
  | succ n ih => rw [fabiPumpAll, fabiPump_of_none_waiting h, ih]

/-- Identifiers of the accesses on the port and held back, in their order. -/
def accessIds (d : Device) : List Nat := (d.fabi.outstanding ++ d.fabi.waiting).map FabiReq.id

theorem accessIds_fabiPump (d : Device) : accessIds (fabiPump d) = accessIds d := by
  unfold fabiPump
  split
  · rfl
  · next w ws hw =>
    split
    · simp [accessIds, fabiOut, hw]
    · rfl

theorem accessIds_fabiPumpAll (n : Nat) (d : Device) : accessIds (fabiPumpAll n d) = accessIds d := by
  induction n generalizing d with
  | zero => rfl
  | succ n ih => rw [fabiPumpAll, ih, accessIds_fabiPump]

/-- The port has no room for more, or holds nothing back. -/
def Drained (d : Device) : Prop := d.fabi.waiting = [] ∨ 512 ≤ d.fabi.outstanding.length

theorem fabiPump_of_drained (h : Drained d) : fabiPump d = d := by
  rcases h with h | hfull
  · exact fabiPump_of_none_waiting h
  · have hshut : fabiOpen d = false := by simp [fabiOpen, Nat.not_lt.mpr hfull]
    unfold fabiPump
    split <;> simp [hshut]

theorem fabiPumpAll_of_drained (n : Nat) (h : Drained d) : fabiPumpAll n d = d := by
  induction n with
  | zero => rfl
  | succ n ih => rw [fabiPumpAll, fabiPump_of_drained h, ih]

theorem length_outstanding_fabiPump (hopen : d.clk.isoN = true) (h : ¬ Drained d) :
    (fabiPump d).fabi.outstanding.length = d.fabi.outstanding.length + 1 := by
  obtain ⟨hwaits, hroom⟩ := not_or.mp h
  obtain ⟨w, ws, hw⟩ := List.exists_cons_of_ne_nil hwaits
  have hport : fabiOpen d = true := by simp [fabiOpen, hopen, Nat.lt_of_not_le hroom]
  simp [fabiPump, hw, hport, fabiOut]

/-- `n` accesses go out, unless the port is drained before. -/
theorem fabiPumpAll_drains (n : Nat) (hopen : d.clk.isoN = true) :
    Drained (fabiPumpAll n d) ∨ d.fabi.outstanding.length + n ≤ (fabiPumpAll n d).fabi.outstanding.length := by
  induction n generalizing d with
  | zero => exact .inr le_rfl
  | succ n ih =>
    by_cases h : Drained d
    · exact .inl (by rwa [fabiPumpAll_of_drained _ h])
    · have hnext := ih (d := fabiPump d) ((congrArg (·.clk.isoN) (fabiPump_portOnly d)).trans hopen)
      rw [length_outstanding_fabiPump hopen h] at hnext
      exact hnext.imp id fun hlen => by rw [fabiPumpAll]; omega

theorem fabiPumpAll_drained (hopen : d.clk.isoN = true) : Drained (fabiPumpAll 512 d) :=
  (fabiPumpAll_drains 512 hopen).elim id fun h => .inr (Nat.le_trans (Nat.le_add_left ..) h)

end Pump

/-- The slice that isolation holds no longer. -/
def joined (d : Device) : Device := d.modClk (fun c => { c with isoN := true })

theorem answers_fyIsoNRelease (s : State) : Answers .fyIsoNRelease s (fabiPumpAll 512 (joined s.dev)) := rfl

/-- Settles O2: the release of an input starts the slice where it is the last one low (`startWaiting_of_released`), and the
port takes what it held back until it is drained (`fabiPumpAll_drained`). -/
theorem levelsHoldAndReleaseTheSlice : Obligations.LevelsHoldAndReleaseTheSlice := by
  refine ⟨fun s c hc => ?levels, fun s => ⟨?isolate, ?join⟩⟩
  case levels =>
    subst hc
    refine ⟨fun hp hw hs hl => ?_, fun hw hp hs hl => ?_, fun hs hp hw hl => ?_, fun hl hp hw hs => ?_,
      fun hheld => ⟨fun hlow => ?_, fun hlow => ?_, fun hlow => ?_, fun hlow => ?_⟩⟩
    · exact congrArg (next s) (release_of_last hp (by simp [allReleased, Device.modClk, *]))
    · exact congrArg (next s) (release_of_last hw (by simp [allReleased, Device.modClk, *]))
    · have hrun : exec (.fySrstNRelease false) s = next s (srstRelease s.dev) := rfl
      exact hrun.trans (congrArg (next s) (release_of_last hs (by simp [allReleased, Device.modClk, *])))
    · have hrun : exec (.fySrstNRelease true) s = next s (lockGained s.dev) := rfl
      exact hrun.trans (congrArg (next s) (release_of_last hl (by simp [allReleased, Device.modClk, *])))
    · exact ⟨_, rfl, phase_of_release hheld hheld (by simpa [allReleased, Device.modClk] using hlow)⟩
    · exact ⟨_, rfl, phase_of_release hheld hheld (by simpa [allReleased, Device.modClk] using hlow)⟩
    · exact ⟨{ s with dev := srstRelease s.dev }, rfl,
        phase_of_release hheld hheld (by simpa [allReleased, Device.modClk] using hlow)⟩
    · exact ⟨{ s with dev := lockGained s.dev }, rfl,
        phase_of_release hheld hheld (by simpa [allReleased, Device.modClk] using hlow)⟩
  case isolate => exact ⟨_, rfl, rfl, by simp [fyPresent], by simp [fyReady],
      by simp [fyIdle, fyPresent], by simp [fyAlert, fyPresent]⟩
  case join =>
    have hids : accessIds (fabiPumpAll 512 (joined s.dev)) = accessIds s.dev := accessIds_fabiPumpAll 512 (joined s.dev)
    refine ⟨_, answers_fyIsoNRelease s, fabiPumpAll_portOnly 512 (joined s.dev), fun h => ?_, fabiPumpAll_drained rfl, hids⟩
    rw [fabiPumpAll_of_none_waiting (d := joined s.dev) 512 h]
    exact ⟨rfl, rfl⟩

end Sys2Proof.Machine
end

section
/-! The phases of start-up (R411, R414, Table 15.5), and the class-T table's generation (R301, R302, R304): the obligation
O3. -/

namespace Sys2Proof.Machine

/-! ### A phase that is over -/

section Phases
variable {d : Device} {p : Phase} {n : Nat}

theorem phaseOver_of_cycles (hphase : d.clk.phase = p) (hcycles : phaseCycles d.clk = n)
    (hlong : d.clk.phaseCyc + n ≤ d.clk.rootcyc) : phaseOver d p = true := by
  simp [phaseOver, hphase, hcycles, hlong]

theorem phaseOver_of_other (hphase : d.clk.phase ≠ p) : phaseOver d p = false := by
  simp [phaseOver, hphase]

theorem toPhase_of_cycles (hcycles : phaseCycles d.clk = n) (p : Phase) :
    toPhase d p = { d with clk := { d.clk with phase := p, phaseCyc := d.clk.phaseCyc + n } } :=
  hcycles ▸ rfl

theorem sliceStart_of_due (hphase : d.clk.phase = .waiting) (hdue : startCycle d ≤ d.clk.rootcyc) :
    sliceStart d = { d with clk := { d.clk with phase := .dict, phaseCyc := startCycle d } } :=
  if_pos (by simp [hphase, hdue])

/-! ### Rows and their repair (R409, R414) -/

/-- Rows that take a spare row: none where the slice only clears. -/
def rowsToRepair (c : Clk) (failing : Nat) : Nat := if c.bist then failing else 0

/-- The clock unit once failing rows have spare rows in their place. -/
def repairedClk (c : Clk) (failing : Nat) : Clk :=
  { c with spareRows := c.spareRows - rowsToRepair c failing, rowsRepaired := c.rowsRepaired + rowsToRepair c failing }

theorem repairRows_of_enough (h : d.clk.bist = true → n ≤ d.clk.spareRows) :
    repairRows d n = some { d with clk := repairedClk d.clk n } := by
  refine if_neg ?_
  split
  · next hbist => exact Nat.not_lt.mpr (h hbist)
  · omega

theorem repairRows_of_few (hbist : d.clk.bist = true) (h : d.clk.spareRows < n) : repairRows d n = none :=
  if_pos (by simpa [hbist] using h)

theorem dictDone_of_repaired (hover : phaseOver d .dict = true) (h : d.clk.bist = true → n ≤ d.clk.spareRows) :
    dictDone d n = { d with clk := { repairedClk d.clk n with
      phase := .grotto, phaseCyc := d.clk.phaseCyc + phaseCycles d.clk, present := true } } := by
  rw [dictDone, if_pos hover, repairRows_of_enough h]
  rfl

theorem dictDone_of_few (hover : phaseOver d .dict = true) (hbist : d.clk.bist = true) (h : d.clk.spareRows < n) :
    dictDone d n = failStart d 1 := by
  rw [dictDone, if_pos hover, repairRows_of_few hbist h]

theorem grottoDone_of_repaired (hover : phaseOver d .grotto = true) (h : d.clk.bist = true → n ≤ d.clk.spareRows) :
    grottoDone d n = { d with clk := { repairedClk d.clk n with
      phase := .lanes, phaseCyc := d.clk.phaseCyc + phaseCycles d.clk, mapLost := false } } := by
  rw [grottoDone, if_pos hover, repairRows_of_enough h]
  rfl

theorem grottoDone_of_few (hover : phaseOver d .grotto = true) (hbist : d.clk.bist = true) (h : d.clk.spareRows < n) :
    grottoDone d n = failStart d 1 := by
  rw [grottoDone, if_pos hover, repairRows_of_few hbist h]

/-! ### Lane groups and the cipher's test (R307, R414) -/

/-- The slice with the lanes retired that the start-up test finds failing. -/
def testedLanes (d : Device) (ls : List (Nat × Nat)) : Device :=
  (ls.foldl (fun d p => retireLane d p.1 p.2) d).modClk (fun c => { c with lanesRetired := c.lanesRetired + ls.length })

theorem lanesDone_of_over (hover : phaseOver d .lanes = true) (ls : List (Nat × Nat)) : lanesDone d ls =
    if (testedLanes d ls).lanes.all (fun l => l.active = 0) then failStart (testedLanes d ls) 2
    else toPhase (testedLanes d ls) .cipher :=
  if_pos hover

theorem testedLanes_nil (d : Device) : testedLanes d [] = d := rfl

/-- The ciphertext of FIPS 197 C.1. -/
abbrev publishedCt : BitVec 128 := 0x5AC5B47080B7CDD830047B6AD8E0C469#128

theorem cipherDone_of_published (hover : phaseOver d .cipher = true) :
    cipherDone d (List.replicate 8 publishedCt) = toPhase d .table := by
  rw [cipherDone, if_pos hover, if_pos (by decide)]

theorem cipherDone_of_other {cts : List (BitVec 128)} (hover : phaseOver d .cipher = true) (h : ∃ x ∈ cts, x ≠ publishedCt) :
    cipherDone d cts = failStart d 3 := by
  have hall : cts.all (fun c => c = publishedCt) = false := by simpa using h
  rw [cipherDone, if_pos hover, hall, Bool.and_false, if_neg (by decide)]

/-! ### The class-T table (R301, R302, R304) -/

/-- The generation that ends in start-up is counted. -/
def generated (d : Device) : Device := bump (toPhase d .final) Od.RNG_STATS 3

theorem applyHeldKey_of_none (hkey : d.clk.heldKey = none) : applyHeldKey d = d := by simp only [applyHeldKey, hkey]

theorem tableDone_start_up (hover : phaseOver d .table = true) (hkey : d.clk.heldKey = none) : tableDone d none = generated d := by
  rw [tableDone, if_pos hover, applyHeldKey_of_none hkey]
  rfl

theorem tableDone_start_up_error (hover : phaseOver d .table = true) (hkey : d.clk.heldKey = none) (a : Nat) :
    tableDone d (some a) = tableError (generated d) a := by
  rw [tableDone, if_pos hover, applyHeldKey_of_none hkey]
  rfl

section Regeneration
variable {t : Nat} (hover : phaseOver d .table = false) (hbusy : d.clk.tableBusy = some t)
include hover hbusy

theorem tableDone_of_early (hearly : d.clk.rootcyc < t) (found : Option Nat) : tableDone d found = d := by
  simp only [tableDone, hover, hbusy, hearly, Bool.false_eq_true, if_false, if_true]

theorem tableDone_of_error (hlate : t ≤ d.clk.rootcyc) (a : Nat) :
    tableDone d (some a) = tableError (bump d Od.RNG_STATS 3) a := by
  simp only [tableDone, hover, hbusy, Nat.not_lt.mpr hlate, Bool.false_eq_true, if_false]

/-- The slice once a regeneration has ended. -/
def regenerated (d : Device) : Device :=
  (bump d Od.RNG_STATS 3).modClk (fun c => { c with tableBusy := none, tablePath := none })

theorem tableDone_of_no_write (hlate : t ≤ d.clk.rootcyc) (hpath : d.clk.tablePath = none) :
    tableDone d none = regenerated d := by
  simp only [tableDone, hover, hbusy, Nat.not_lt.mpr hlate, Bool.false_eq_true, if_false, bump_clk, hpath]
  rfl

theorem tableDone_of_write {path : Path} (hlate : t ≤ d.clk.rootcyc) (hpath : d.clk.tablePath = some path) :
    tableDone d none = respondWrite (regenerated d) path Od.TABLE_KEY 0 .ok 0 := by
  simp only [tableDone, hover, hbusy, Nat.not_lt.mpr hlate, Bool.false_eq_true, if_false, bump_clk, hpath]
  rfl

end Regeneration

/-! ### An uncorrectable word of the table (R304, R374) -/

theorem retireWord_rootcyc (d : Device) (a : Nat) : (retireWord d a).clk.rootcyc = d.clk.rootcyc := by
  unfold retireWord
  split <;> rfl

theorem retireWord_odne (d : Device) (a : Nat) {idx sub : Nat} (hidx : Od.FAULT_STATS ≠ idx) (hsub : sub < 256) :
    odGet (retireWord d a) idx sub = odGet d idx sub := by
  unfold retireWord
  split
  · rfl
  · exact od_bump_ne (d.modClk (fun c => { c with spareRows := c.spareRows - 1 })) (odKey_ne_of_index hidx (by decide) hsub)

theorem noteBadWord_rootcyc (d : Device) (a : Nat) : (noteBadWord d a).clk.rootcyc = d.clk.rootcyc := by
  dsimp only [noteBadWord]
  split
  · rfl
  · split
    · exact retireWord_rootcyc d a
    · rfl

theorem noteBadWord_odne (d : Device) (a : Nat) {idx sub : Nat} (hidx : Od.FAULT_STATS ≠ idx) (hsub : sub < 256) :
    odGet (noteBadWord d a) idx sub = odGet d idx sub := by
  dsimp only [noteBadWord]
  split
  · rfl
  · split
    · exact retireWord_odne d a hidx hsub
    · rfl

theorem bit_alertLog_of_bit {k : Nat} (h : bit (odGet d Od.ALERT_CAUSE 0) k = true) (cause loc handle status detail : Nat) :
    bit (odGet (alertLog d cause loc handle status detail) Od.ALERT_CAUSE 0) k = true :=
  bit_flogWrite_of_bit _ (by simp [bit_raiseCause, h]) ..

theorem eccUe_clk (d : Device) (a handle status : Nat) : (eccUe d a handle status).clk = d.clk := by
  rw [eccUe, alertLog_clk, bump_clk]

theorem tableError_tableBusy (d : Device) (a : Nat) : (tableError d a).clk.tableBusy = some (d.clk.rootcyc + 131072) := by
  show some ((noteBadWord (alertLog (bump (eccUe d a 0 0) Od.RNG_STATS 4) ALERT_RNG_TABLE_ERR a 0 0 0) a).clk.rootcyc + 131072) = _
  rw [noteBadWord_rootcyc, alertLog_clk, bump_clk, eccUe_clk]

/-- Beside its own cause, the error leaves those that stand. -/
theorem bit_tableError {k : Nat} (d : Device) (a : Nat)
    (h : bit (odGet (alertLog (bump (eccUe d a 0 0) Od.RNG_STATS 4) ALERT_RNG_TABLE_ERR a 0 0 0) Od.ALERT_CAUSE 0) k = true) :
    bit (odGet (tableError d a) Od.ALERT_CAUSE 0) k = true := by
  rw [← noteBadWord_odne _ a (by decide) (by decide)] at h
  exact h

theorem tableError_bit_table (d : Device) (a : Nat) : bit (odGet (tableError d a) Od.ALERT_CAUSE 0) ALERT_RNG_TABLE_ERR = true :=
  bit_tableError d a (bit_alertLog_same ..)

theorem tableError_bit_ecc (d : Device) (a : Nat) : bit (odGet (tableError d a) Od.ALERT_CAUSE 0) ALERT_ECC_UE = true := by
  refine bit_tableError d a (bit_alertLog_of_bit ?_ ..)
  rw [od_bump_ne _ (by decide)]
  exact bit_alertLog_same ..

/-! ### Final checks and failure (R411, R414) -/

theorem finalDone_of_over (hover : phaseOver d .final = true) :
    finalDone d =
      if d.clk.isoN then emit ((toPhase d .ready).modClk (fun c => { c with ready := true })) (.lgiCredit lgiPool)
      else (toPhase d .ready).modClk (fun c => { c with ready := true }) :=
  if_pos hover

/-- The cause of R414 of a FAIL code. -/
def failCause (code : Nat) : Nat := if code = 3 then ALERT_RNG_SELFTEST else ALERT_ECC_UE

theorem failStart_clk (d : Device) (code : Nat) :
    (failStart d code).clk = { d.clk with phase := .failed, failCode := code } := by
  rw [failStart, alertLog_clk]
  rfl

theorem failStart_bit (d : Device) (code : Nat) : bit (odGet (failStart d code) Od.ALERT_CAUSE 0) (failCause code) = true :=
  bit_alertLog_same ..

end Phases

/-- A command of start-up that fails leaves FY_PRESENT and FY_READY as they were. -/
theorem fails_of_failStart {s : State} {i : Instr} {code : Nat} (hexec : exec i s = next s (failStart s.dev code)) :
    ∃ t, exec i s = .next t ∧ t.dev.clk.phase = .failed ∧ t.dev.clk.failCode = code ∧ t.dev.clk.ready = s.dev.clk.ready ∧
      t.dev.clk.present = s.dev.clk.present ∧ bit (odGet t.dev Od.ALERT_CAUSE 0) (failCause code) = true := by
  refine ⟨_, hexec, ?_, ?_, ?_, ?_, failStart_bit s.dev code⟩
  all_goals rw [failStart_clk]

/-- Settles O3: a phase that is over moves the slice on (`dictDone_of_repaired` and its siblings) or fails
(`fails_of_failStart`), and the table with an error is generated again (`tableError_tableBusy`). -/
theorem startUpRunsOrFails : Obligations.StartUpRunsOrFails := by
  refine ⟨fun s n cts => ?runs, fun d a => ⟨tableError_tableBusy d a, tableError_bit_table d a, tableError_bit_ecc d a⟩,
    fun s n cts => ?fails⟩
  case runs =>
    refine ⟨fun hphase hdue => ?start, fun hphase hlong hrows => ?dict, fun hphase hlong hrows => ?grotto,
      fun hphase hlong => ⟨fun hany => ?lanes, fun ls => ?tested⟩, fun hphase hlong hcts => ?cipher,
      fun hphase hlong hkey => ?table, fun hphase t hbusy => ?regeneration, fun hphase hlong => ?final⟩
    case start => exact congrArg (next s) (sliceStart_of_due hphase hdue)
    case dict =>
      have hcycles : phaseCycles s.dev.clk = 21600 := by simp [phaseCycles, hphase]
      have hdone := dictDone_of_repaired (phaseOver_of_cycles hphase hcycles hlong) hrows
      rw [hcycles] at hdone
      exact congrArg (next s) hdone
    case grotto =>
      have hcycles : phaseCycles s.dev.clk = if s.dev.clk.bist then 7128000 else 262144 := by simp [phaseCycles, hphase]
      have hdone := grottoDone_of_repaired (phaseOver_of_cycles hphase hcycles hlong) hrows
      rw [hcycles] at hdone
      exact congrArg (next s) hdone
    case lanes =>
      have hcycles : phaseCycles s.dev.clk = 37800 := by simp [phaseCycles, hphase]
      have hserves : ¬ (s.dev.lanes.all (fun l => l.active = 0)) = true := by simpa using hany
      have hdone := lanesDone_of_over (phaseOver_of_cycles hphase hcycles hlong) []
      rw [testedLanes_nil, if_neg hserves, toPhase_of_cycles hcycles] at hdone
      exact congrArg (next s) hdone
    case tested =>
      have hcycles : phaseCycles s.dev.clk = 37800 := by simp [phaseCycles, hphase]
      exact congrArg (next s) (lanesDone_of_over (phaseOver_of_cycles hphase hcycles hlong) ls)
    case cipher =>
      have hcycles : phaseCycles s.dev.clk = 5400 := by simp [phaseCycles, hphase]
      have hdone := cipherDone_of_published (phaseOver_of_cycles hphase hcycles hlong)
      rw [toPhase_of_cycles hcycles] at hdone
      exact hcts ▸ congrArg (next s) hdone
    case table =>
      have hcycles : phaseCycles s.dev.clk = 131072 := by simp [phaseCycles, hphase]
      have hover := phaseOver_of_cycles hphase hcycles hlong
      have hgenerated := congrArg (bump · Od.RNG_STATS 3) (toPhase_of_cycles hcycles .final)
      exact ⟨congrArg (next s) ((tableDone_start_up hover hkey).trans hgenerated), fun a =>
        congrArg (next s) ((tableDone_start_up_error hover hkey a).trans (congrArg (tableError · a) hgenerated))⟩
    case regeneration =>
      have hover : phaseOver s.dev .table = false := phaseOver_of_other (by simp [hphase])
      exact ⟨fun hearly u => congrArg (next s) (tableDone_of_early hover hbusy hearly u), fun hlate =>
        ⟨fun hpath => congrArg (next s) (tableDone_of_no_write hover hbusy hlate hpath),
          fun p hpath => congrArg (next s) (tableDone_of_write hover hbusy hlate hpath),
          fun a => congrArg (next s) (tableDone_of_error hover hbusy hlate a)⟩⟩
    case final =>
      have hcycles : phaseCycles s.dev.clk = 5400 := by simp [phaseCycles, hphase]
      have hdone := finalDone_of_over (phaseOver_of_cycles hphase hcycles hlong)
      rw [toPhase_of_cycles hcycles] at hdone
      exact congrArg (next s) hdone
  case fails =>
    refine ⟨fun hphase hlong hbist hfew => ?dict, fun hphase hlong hbist hfew => ?grotto, fun hphase hlong hclosed => ?lanes,
      fun hphase hlong hct => ?cipher⟩
    case dict =>
      have hover := phaseOver_of_cycles hphase (by simp [phaseCycles, hphase]) hlong
      exact fails_of_failStart (congrArg (next s) (dictDone_of_few hover hbist hfew))
    case grotto =>
      have hover := phaseOver_of_cycles hphase (by simp [phaseCycles, hphase, hbist]) hlong
      exact fails_of_failStart (congrArg (next s) (grottoDone_of_few hover hbist hfew))
    case lanes =>
      have hover := phaseOver_of_cycles hphase (by simp [phaseCycles, hphase]) hlong
      exact fails_of_failStart (congrArg (next s) ((lanesDone_of_over hover []).trans (if_pos hclosed)))
    case cipher =>
      have hover := phaseOver_of_cycles hphase (by simp [phaseCycles, hphase]) hlong
      exact fails_of_failStart (congrArg (next s) (cipherDone_of_other hover hct))

end Sys2Proof.Machine
end

section
/-! Words of the grotto that the scrub finds wrong (R370 to R374): what a report of an error leaves as it was, the count of a
window, retired words, and the obligation O51. -/

namespace Sys2Proof.Machine

/-! ### Reports of errors (R371, R374) -/

/-- `e` is `d` but for what reporting an error writes: statistics, the cause and its interrupt, and the fault log. -/
def Reported (d e : Device) : Prop := e = { d with
  od := e.od, snaps := e.snaps, trace := e.trace, fabi := e.fabi, out := e.out
  faults := { d.faults with
    flog := e.faults.flog, flogHead := e.faults.flogHead, raised := e.faults.raised, raisedMclk := e.faults.raisedMclk } }

theorem reported_alertLog (d : Device) (cause loc handle status detail : Nat) :
    Reported d (alertLog d cause loc handle status detail) := alertLog_frame ..

theorem reported_flogWrite (d : Device) (kind loc handle status detail : Nat) :
    Reported d (flogWrite d kind loc handle status detail) := flogWrite_frame ..

theorem reported_bump (d : Device) (idx sub : Nat) : Reported d (bump d idx sub) := rfl

namespace Reported
variable {d e : Device} (h : Reported d e)
include h

theorem clk : e.clk = d.clk := (congrArg Device.clk h).trans rfl
theorem seqs : e.seqs = d.seqs := (congrArg Device.seqs h).trans rfl
theorem ident : e.ident = d.ident := (congrArg Device.ident h).trans rfl
theorem ceCount : e.faults.ceCount = d.faults.ceCount := (congrArg (·.faults.ceCount) h).trans rfl
theorem ceRaised : e.faults.ceRaised = d.faults.ceRaised := (congrArg (·.faults.ceRaised) h).trans rfl
theorem ceWindow : e.faults.ceWindow = d.faults.ceWindow := (congrArg (·.faults.ceWindow) h).trans rfl
theorem eccSeen : e.faults.eccSeen = d.faults.eccSeen := (congrArg (·.faults.eccSeen) h).trans rfl
theorem stayed : e.faults.stayed = d.faults.stayed := (congrArg (·.faults.stayed) h).trans rfl

theorem sameWork : SameWork d e :=
  ⟨h.seqs, (congrArg Device.timers h).trans rfl, (congrArg Device.ctx h).trans rfl, (congrArg Device.inflight h).trans rfl,
    (congrArg (·.faults.gated) h).trans rfl, (congrArg (·.faults.releases) h).trans rfl,
    (congrArg (·.faults.gatedAcks) h).trans rfl⟩

end Reported

/-! ### The count of a window (R372) -/

section Window
variable {d : Device}

/-- The count is above the limit for the first time in the window. -/
def ceDue (d : Device) : Bool := odGet d Od.ECC_CE_LIMIT 0 < d.faults.ceCount && !d.faults.ceRaised

def ceFlagged (d : Device) : Device := d.modFaults (fun f => { f with ceRaised := true })

theorem ceJudge_of_due (h : ceDue d = true) : ceJudge d = alertLog (ceFlagged d) ALERT_ECC_CE_RATE 0 0 0 d.faults.ceCount :=
  if_pos h

theorem ceJudge_of_not_due (h : ceDue d = false) : ceJudge d = d := if_neg (by rw [← ceDue, h]; decide)

/-- Judging reports, and notes that it has reported. -/
theorem reported_ceJudge (d : Device) :
    Reported (d.modFaults (fun f => { f with ceRaised := (ceJudge d).faults.ceRaised })) (ceJudge d) := by
  cases h : ceDue d with
  | true =>
    have hraised : (ceJudge d).faults.ceRaised = true := by
      rw [ceJudge_of_due h]
      exact (reported_alertLog ..).ceRaised
    rw [hraised, ceJudge_of_due h]
    exact reported_alertLog ..
  | false =>
    rw [ceJudge_of_not_due h]
    rfl

theorem tick_ceJudge (d : Device) : (ceJudge d).tick = d.tick := by
  have hmhz : odGet (ceJudge d) Od.ROOT_MHZ 0 = odGet d Od.ROOT_MHZ 0 := by
    cases h : ceDue d with
    | true =>
      rw [ceJudge_of_due h, alertLog_odne _ _ _ _ _ _ (by decide) (by decide) (by decide)]
      rfl
    | false => rw [ceJudge_of_not_due h]
  simp only [Device.tick, Device.mhz, hmhz, (reported_ceJudge d).clk]
  rfl

theorem ceWindowEnd_of_same (h : eccWindow d = d.faults.ceWindow) : ceWindowEnd d = d := if_pos h

/-- The slice at the start of a window. -/
def windowBegun (d : Device) : Device :=
  (ceJudge d).modFaults (fun f => { f with ceCount := 0, ceWindow := eccWindow (ceJudge d), ceRaised := false })

theorem ceWindowEnd_of_other (h : eccWindow d ≠ d.faults.ceWindow) : ceWindowEnd d = windowBegun d := if_neg h

end Window

/-! ### Words that erred before (R373) -/

theorem Map.find_filter_of_none {α : Type} {m : Map α} {p : Nat × α → Bool} {k : Nat} (h : ∀ a, p (k, a) = false) :
    Map.find (m.filter p : Map α) k = none := by
  induction m with
  | nil => rfl
  | cons x m ih =>
    cases hx : p x with
    | true =>
      have hne : x.1 ≠ k := by
        rintro rfl
        exact Bool.false_ne_true ((h x.2).symm.trans hx)
      rw [List.filter_cons_of_pos hx, Map.find, if_neg hne, ih]
    | false => rw [List.filter_cons_of_neg (by simp [hx]), ih]

section Words
variable {d : Device} {a t : Nat}

theorem sameWork_noteBadWord (d : Device) (a : Nat) : SameWork d (noteBadWord d a) := by
  dsimp only [noteBadWord, retireWord]
  repeat' split
  all_goals exact ⟨rfl, rfl, rfl, rfl, rfl, rfl, rfl⟩

theorem noteBadWord_ce (d : Device) (a : Nat) : (noteBadWord d a).faults.ceCount = d.faults.ceCount ∧
    (noteBadWord d a).faults.ceRaised = d.faults.ceRaised := by
  dsimp only [noteBadWord, retireWord]
  repeat' split
  all_goals exact ⟨rfl, rfl⟩

theorem noteBadWord_of_new (h : Map.find d.faults.eccSeen a = none) :
    noteBadWord d a = d.modFaults (fun f => { f with eccSeen := Map.put f.eccSeen a d.clk.rootcyc }) := by
  simp only [noteBadWord, h]

theorem noteBadWord_of_early (h : Map.find d.faults.eccSeen a = some t) (hearly : d.clk.rootcyc < t + scrubPeriod) :
    noteBadWord d a = d := by
  simp only [noteBadWord, h, Nat.not_le.mpr hearly, if_false]

theorem noteBadWord_of_late (h : Map.find d.faults.eccSeen a = some t) (hlate : t + scrubPeriod ≤ d.clk.rootcyc) :
    noteBadWord d a = retireWord d a := by
  simp only [noteBadWord, h, hlate, if_true]

theorem retireWord_of_no_spare (h : d.clk.spareRows = 0) :
    retireWord d a = d.modFaults (fun f => { f with stayed := (f.stayed ++ [a / 512]).dedup }) := if_pos h

theorem retireWord_of_spare (h : d.clk.spareRows ≠ 0) :
    (retireWord d a).clk = { d.clk with spareRows := d.clk.spareRows - 1 } ∧
    Map.find (retireWord d a).faults.eccSeen a = none := by
  rw [retireWord, if_neg h]
  exact ⟨rfl, Map.find_filter_of_none (by simp)⟩

end Words

/-! ### A corrected word (R372, R373) -/

section Corrected
variable {d : Device} {a : Nat}

/-- The slice that has counted a corrected word. -/
def countedWord (d : Device) : Device :=
  (bump d Od.FAULT_STATS 0).modFaults (fun f => { f with ceCount := f.ceCount + 1 })

/-- In a row that could not be retired the error is logged. -/
def logStayed (d : Device) (a : Nat) : Device :=
  if d.faults.stayed.contains (a / 512) then flogWrite d ALERT_ECC_CE_RATE a 0 0 0 else d

theorem reported_logStayed (d : Device) (a : Nat) : Reported d (logStayed d a) := by
  unfold logStayed
  split
  · exact reported_flogWrite ..
  · rfl

theorem corrected_eq (h : eccWindow d = d.faults.ceWindow) :
    corrected d a = logStayed (noteBadWord (ceJudge (countedWord d)) a) a := by
  rw [corrected, ceWindowEnd_of_same h]
  rfl

theorem sameWork_countedWord (d : Device) : SameWork d (countedWord d) := ⟨rfl, rfl, rfl, rfl, rfl, rfl, rfl⟩

theorem sameWork_ceJudge (d : Device) : SameWork d (ceJudge d) := by
  have hflag : SameWork d (ceFlagged d) := ⟨rfl, rfl, rfl, rfl, rfl, rfl, rfl⟩
  cases h : ceDue d with
  | true =>
    rw [ceJudge_of_due h]
    exact hflag.trans (reported_alertLog ..).sameWork
  | false =>
    rw [ceJudge_of_not_due h]
    exact .refl d

theorem sameWork_judged (d : Device) : SameWork d (ceJudge (countedWord d)) :=
  (sameWork_countedWord d).trans (sameWork_ceJudge (countedWord d))

theorem judged_clk (d : Device) : (ceJudge (countedWord d)).clk = d.clk := (reported_ceJudge (countedWord d)).clk

theorem judged_eccSeen (d : Device) : (ceJudge (countedWord d)).faults.eccSeen = d.faults.eccSeen :=
  (reported_ceJudge (countedWord d)).eccSeen

theorem judged_raised (hlimit : odGet d Od.ECC_CE_LIMIT 0 < d.faults.ceCount + 1) (hraised : d.faults.ceRaised = false) :
    bit (odGet (ceJudge (countedWord d)) Od.ALERT_CAUSE 0) ALERT_ECC_CE_RATE = true ∧
    (ceJudge (countedWord d)).faults.ceRaised = true := by
  have hentry : odGet (countedWord d) Od.ECC_CE_LIMIT 0 = odGet d Od.ECC_CE_LIMIT 0 := od_bump_ne d (by decide)
  have hcount : (countedWord d).faults.ceCount = d.faults.ceCount + 1 := rfl
  have hfirst : (countedWord d).faults.ceRaised = false := hraised
  have hdue : ceDue (countedWord d) = true := by simp [ceDue, hentry, hcount, hlimit, hfirst]
  rw [ceJudge_of_due hdue]
  exact ⟨bit_alertLog_same .., (reported_alertLog ..).ceRaised⟩

theorem bit_logStayed {k : Nat} (h : bit (odGet d Od.ALERT_CAUSE 0) k = true) :
    bit (odGet (logStayed d a) Od.ALERT_CAUSE 0) k = true := by
  unfold logStayed
  split
  · exact bit_flogWrite_of_bit d h ..
  · exact h

end Corrected

theorem settles_scrub {s : State} (hready : fyReady s.dev = true) (a : Nat) (loc : GrottoLoc) (found : Ecc) :
    Settles (.scrub a loc found) s (scrub s.dev a loc found) :=
  settles_of_whenReady (scrub · a loc found) hready rfl

theorem answers_eccCeWindow {s : State} (hready : fyReady s.dev = true) : Answers .eccCeWindow s (ceWindowEnd s.dev) :=
  answers_of_whenReady ceWindowEnd hready rfl

/-- Settles O51: a corrected word is counted and judged (`judged_raised`), its row retired or noted (`noteBadWord`), and
logged where the row stays (`logStayed`). -/
theorem grottoErrorsAreHandled : Obligations.GrottoErrorsAreHandled := by
  intro s a loc hready
  refine ⟨answers_self_of_settles (settles_scrub hready a loc .clean) rfl, settles_scrub hready a loc .uncorrectable,
    fun hwindow => ?corrected, fun hwindow => ?within, fun hwindow => ?ends⟩
  case within =>
    have hrun := answers_eccCeWindow hready
    rwa [ceWindowEnd_of_same hwindow] at hrun
  case ends =>
    have hrun := answers_eccCeWindow hready
    rw [ceWindowEnd_of_other hwindow] at hrun
    exact ⟨windowBegun s.dev, hrun, rfl, rfl, congrArg (· / 100000) (tick_ceJudge s.dev), (reported_ceJudge s.dev).seqs⟩
  case corrected =>
    have hrun := settles_scrub hready a loc .correctable
    rw [show scrub s.dev a loc .correctable = _ from corrected_eq hwindow] at hrun
    have hclk := judged_clk s.dev
    have hseen := judged_eccSeen s.dev
    generalize hj : ceJudge (countedWord s.dev) = j at hrun hclk hseen
    have hlog := reported_logStayed (noteBadWord j a) a
    have hwork : SameWork s.dev (logStayed (noteBadWord j a) a) :=
      ((hj ▸ sameWork_judged s.dev).trans (sameWork_noteBadWord j a)).trans hlog.sameWork
    refine ⟨logStayed (noteBadWord j a) a, answers_of_sameWork hrun hwork, ?count, hwork.seqs,
      fun t ht hlate hspare => ?retired, fun t ht hlate hspare => ?stays, fun t ht hearly => ?early, fun ht => ?new,
      fun hlimit hraised => ?rate⟩
    case count =>
      rw [hlog.ceCount, (noteBadWord_ce j a).1, ← hj]
      exact (reported_ceJudge (countedWord s.dev)).ceCount
    case retired =>
      rw [← hseen] at ht
      rw [← hclk] at hlate hspare ⊢
      have hretired := retireWord_of_spare (a := a) hspare
      rwa [← noteBadWord_of_late ht hlate, ← hlog.clk, ← hlog.eccSeen] at hretired
    case stays =>
      rw [← hseen] at ht
      rw [← hclk] at hlate hspare ⊢
      have hstays := (noteBadWord_of_late ht hlate).trans (retireWord_of_no_spare hspare)
      rw [hlog.clk, hlog.stayed, hstays]
      exact ⟨rfl, by simp [Device.modFaults]⟩
    case early =>
      rw [← hseen] at ht ⊢
      rw [← hclk] at hearly ⊢
      rw [hlog.clk, hlog.eccSeen, noteBadWord_of_early ht hearly]
      exact ⟨rfl, rfl⟩
    case new =>
      rw [← hseen] at ht
      rw [← hclk, hlog.clk, hlog.eccSeen, noteBadWord_of_new ht]
      exact ⟨rfl, Map.find_put_same ..⟩
    case rate =>
      obtain ⟨hbit, hflag⟩ := judged_raised hlimit hraised
      rw [hj] at hbit hflag
      refine ⟨bit_logStayed ?_, ?_⟩
      · rwa [noteBadWord_odne j a (by decide) (by decide)]
      · rw [hlog.ceRaised, (noteBadWord_ce j a).2, hflag]

end Sys2Proof.Machine
end

section
/-! Changing capacity and draining (R140, R389 to R393): what each entry makes of the slice, the drain of the slice and of a
tile, and the obligation O19. -/

namespace Sys2Proof.Machine

theorem settles_of_entry_ok {i : Instr} {s : State} {path : Path} {idx sub v : Nat} {data : List Byte} {eff : Effect}
    {d e : Device} (hexec : exec i s = done s (pathWrite s.dev path idx sub data eff))
    (htaken : WriteTaken s.dev path idx sub data d) (hvalue : ofLe data &&& keptBits d idx = v)
    (heff : eff d v = (e, some .ok)) : Settles i s (respondWrite e path idx sub .ok (readBack e idx sub)) := by
  rw [Settles, Answers, hexec, pathWrite_of_effect_ok htaken (hvalue ▸ heff)]
  rfl

/-! ### The entries (R140, R389 to R391) -/

section Entries
variable {d : Device} {v n : Nat}

/-- What the write of TILE_LOST makes of the slice of the tile. -/
def tileLost (d : Device) (tile : Nat) : Device := (effTileLost d tile).1

theorem effTileLost_of_here (h : n / 128 = d.ident.index) : effTileLost d n = (tileLost d n, some .ok) := by
  have hok : (effTileLost d n).2 = some .ok := by
    dsimp only [effTileLost]
    rw [if_neg (not_not.mpr h)]
  exact Prod.ext rfl hok

theorem effAcctReset_of_client (hc : v ≤ 4095) : effAcctReset d v = (sendReset d v, some .ok) := by
  rw [effAcctReset, if_neg (by omega), if_neg (by omega)]

end Entries

/-! ### Draining (R390, R392) -/

section Draining
variable {d : Device} {tile t : Nat}

theorem sliceQuiesced_of_no_drain (h : odGet d Od.SLICE_DRAIN 0 = 0) : sliceQuiesced d = d := if_pos h

theorem sliceQuiesced_of_drain (h : odGet d Od.SLICE_DRAIN 0 ≠ 0) : sliceQuiesced d =
    if drained d then (if quiet d then odSet d Od.SLICE_QUIESCED 0 1 else d) else writebackAll d := if_neg h

theorem tileDrainTimeout_of_none (h : (d.tile tile).drainTick = none) : tileDrainTimeout d tile = d := by
  simp only [tileDrainTimeout, h]

theorem tileDrainTimeout_of_drain (h : (d.tile tile).drainTick = some t) : tileDrainTimeout d tile =
    if d.tick < t + odGet d Od.TILE_DRAIN_US 0 then d
    else clearTile (killOffline d ((commandsOn d tile).map Prod.fst)) tile := by
  simp only [tileDrainTimeout, h]

end Draining

section Runs
variable {s : State} (hready : fyReady s.dev = true)
include hready

theorem settles_sliceQuiesced : Settles .sliceQuiesced s (sliceQuiesced s.dev) := settles_of_whenReady sliceQuiesced hready rfl

theorem settles_tileDrainTimeout (tile : Nat) : Settles (.tileDrainTimeout tile) s (tileDrainTimeout s.dev tile) :=
  settles_of_whenReady (tileDrainTimeout · tile) hready rfl

end Runs

/-- Settles O19: the entries by the effect of each, the drain of the slice and of a tile by their cases. -/
theorem capacityChangesComeToRest : Obligations.CapacityChangesComeToRest := by
  refine ⟨fun s path d => ⟨fun v hbytes hv htaken => ?online, fun htaken => ?drain, fun htaken => ?resume,
      fun x v hv htaken => ?tiles, fun n hn htaken hhere => ⟨tileLost d n, effTileLost_of_here hhere, ?lost⟩,
      fun c hc htaken => ?reset, fun htaken => ?resetAll⟩,
    fun s tile hready => ⟨fun hoff => ?notDraining, fun hon => ⟨fun hdrained hquiet => ?quiesced, fun hdrained hquiet => ?asked,
      fun hdrained => ?writeback⟩, fun hnone => ?noTile, fun t ht => ⟨fun hearly => ?early, fun hlate => ?late⟩⟩⟩
  case online =>
    have hvalue : ofLe (leBytes v 4) &&& keptBits d Od.SLICE_ONLINE = v := ofLe_leBytes_kept (k := d.ident.n) rfl hbytes hv
    exact settles_of_entry_ok rfl htaken hvalue rfl
  case drain => exact settles_of_entry_ok rfl htaken (ofLe_leBytes_kept (k := 256) rfl (by decide) (by decide)) rfl
  case resume => exact settles_of_entry_ok rfl htaken (ofLe_leBytes_kept (k := 256) rfl (by decide) (by decide)) rfl
  case tiles =>
    have hvalue : ofLe (leBytes v 8) &&& keptBits d Od.TILE_ONLINE = v := ofLe_leBytes_kept (k := 256) rfl hv (by omega)
    exact settles_of_entry_ok rfl htaken hvalue rfl
  case lost =>
    have hvalue : ofLe (leBytes n 2) &&& keptBits d Od.TILE_LOST = n := ofLe_leBytes_kept (k := 256) rfl hn (by omega)
    exact settles_of_entry_ok rfl htaken hvalue (effTileLost_of_here hhere)
  case reset =>
    have hvalue : ofLe (leBytes c 2) &&& keptBits d Od.ACCT_RESET = c := ofLe_leBytes_kept (k := 256) rfl (by omega) (by omega)
    exact answers_of_entry_ok rfl htaken hvalue (effAcctReset_of_client hc)
  case resetAll => exact answers_of_entry_ok rfl htaken (ofLe_leBytes_kept (k := 256) rfl (by decide) (by decide)) rfl
  case notDraining => exact answers_self_of_settles (settles_sliceQuiesced hready) (sliceQuiesced_of_no_drain hoff)
  case quiesced =>
    have hrun := settles_sliceQuiesced hready
    rw [sliceQuiesced_of_drain hon, if_pos hdrained, if_pos hquiet] at hrun
    exact answers_of_sameWork hrun (sameWork_of_eq rfl rfl rfl rfl rfl)
  case asked =>
    refine answers_self_of_settles (settles_sliceQuiesced hready) ?_
    rw [sliceQuiesced_of_drain hon, if_pos hdrained, hquiet]
    rfl
  case writeback =>
    have hrun := settles_sliceQuiesced hready
    rw [sliceQuiesced_of_drain hon, hdrained] at hrun
    exact hrun
  case noTile => exact answers_self_of_settles (settles_tileDrainTimeout hready tile) (tileDrainTimeout_of_none hnone)
  case early =>
    exact answers_self_of_settles (settles_tileDrainTimeout hready tile) ((tileDrainTimeout_of_drain ht).trans (if_pos hearly))
  case late =>
    have hrun := settles_tileDrainTimeout hready tile
    rw [tileDrainTimeout_of_drain ht, if_neg (Nat.not_lt.mpr hlate)] at hrun
    exact hrun

end Sys2Proof.Machine
end

section
/-! ENDs that wait for an owner of their ring pair (R30, R387): what settling a slice leaves of the transfers that have left,
and the refutation of O50. -/

namespace Sys2Proof.Machine

/-! ### Transfers that have left stay so while pages are brought and waits end (R102, R218, R224) -/

namespace KeepsSends
variable {d0 d e : Device} {slot k i cause tile : Nat}

/-- A step that leaves the port and the outputs as they were. -/
theorem same (h : KeepsSends d0 d) (hout : e.out = d.out := by rfl) (hfabi : e.fabi = d.fabi := by rfl) : KeepsSends d0 e :=
  h.trans (.of_eq hout hfabi)

theorem cancelKind {b : Bool} {kinds : List Nat} (h : KeepsSends d0 d) : KeepsSends d0 (cancelKind d slot b kinds) := by
  unfold Machine.cancelKind
  split
  · split
    · exact h.same
    · exact h
  · exact h

theorem evalWait (h : KeepsSends d0 d) : KeepsSends d0 (evalWait d slot) := by
  unfold Machine.evalWait
  split
  · exact h
  · split
    · exact (cancelKind (d := modTcb d slot endWait) h.same).same
    · exact h

theorem setIfHolds (h : KeepsSends d0 d) : KeepsSends d0 (setIfHolds d slot i) := by
  unfold Machine.setIfHolds
  split
  · split
    · exact evalWait (d := setFlagBit d slot i true) h.same
    · exact h
  · exact h

theorem wakePages (d : Device) : KeepsSends d (wakePages d) :=
  foldl (fun d p => by split <;> [exact setIfHolds (refl d); exact refl d]) _ d

/-! Page tables -/

theorem ptabWrite {addr data len : Nat} (h : KeepsSends d0 d) : KeepsSends d0 (ptabWrite d slot addr data len) :=
  (same (e := modBlk d slot (fun c => { c with ptabWrites := c.ptabWrites + 1 })) h).trans (fabiNew _ _ _ _ _ _ _)

theorem takeLeaf (h : KeepsSends d0 d) : KeepsSends d0 (takeLeaf d slot k) := by
  unfold Machine.takeLeaf
  split
  · exact h
  · split
    · exact h
    · split
      · exact h
      · exact ptabWrite h.same

theorem writePtab (h : KeepsSends d0 d) : KeepsSends d0 (writePtab d slot k) := by
  unfold Machine.writePtab
  dsimp only
  split
  · exact h.takeLeaf
  · split
    · exact h.takeLeaf
    · exact h.takeLeaf.ptabWrite

theorem dropNamed (h : KeepsSends d0 d) : KeepsSends d0 (dropNamed d i) := by
  have hunname (e : Device) (s k : Nat) : KeepsSends e (unname e s k) :=
    writePtab (d := setPage e s k (fun r => { r with t0 := false })) (of_eq rfl rfl)
  refine (same (e := dropCopy d i) h).trans (foldl (fun e p => foldl (fun f kr => ?_) _ e) _ _)
  split
  · exact hunname f p.1 kr.1
  · exact refl f

theorem dropStrays (d : Device) : KeepsSends d (dropStrays d) :=
  foldl (fun d _ => dropNamed (refl d)) _ d

/-! Moves of pages -/

theorem cvcPass {point sel r n seq : Nat} (h : KeepsSends d0 d) : KeepsSends d0 (cvcPass d point sel r n seq) := by
  rw [cvcPass_eq]
  exact h.same

theorem chargeMove {m : Move} (h : KeepsSends d0 d) : KeepsSends d0 (chargeMove d m) := by
  unfold Machine.chargeMove
  split
  · exact h
  · exact h.same

theorem postMove {m : Move} (h : KeepsSends d0 d) : KeepsSends d0 (postMove d m) := by
  unfold Machine.postMove
  split
  · exact h.same
  next id _ =>
    have hposted := chargeMove (m := m) (same (e := d.modCtx (fun c => { c with moves := Map.put c.moves id m })) h)
    dsimp only
    split
    · exact (hposted.trans (emit _ _)).cvcPass.cvcPass
    · exact (hposted.trans (emit _ _)).cvcPass

theorem promotePage (h : KeepsSends d0 d) : KeepsSends d0 (promotePage d slot k cause) := by
  unfold Machine.promotePage
  split
  · exact h
  · split
    · split
      · exact h
      · split
        · split
          · exact writePtab h.same
          · exact h
        · split
          · exact h
          · exact postMove h.same
    · exact h

theorem ownPage (h : KeepsSends d0 d) : KeepsSends d0 (ownPage d slot k i tile cause) := by
  unfold Machine.ownPage
  split
  · exact postMove h.same
  · exact h

theorem fillPage (h : KeepsSends d0 d) : KeepsSends d0 (fillPage d slot k cause) := by
  unfold Machine.fillPage
  split
  · exact h
  · split
    · split
      · split
        · exact h
        · exact postMove (postMove h.same)
      · exact h
    · exact h

theorem writebackPage {drop : Bool} {payer : Option Nat} (h : KeepsSends d0 d) :
    KeepsSends d0 (writebackPage d slot k cause drop payer) := by
  unfold Machine.writebackPage
  split
  · exact h
  · split
    · split
      · exact h
      · split
        · exact postMove h.same
        · exact h
    · exact h

theorem bringPage (h : KeepsSends d0 d) : KeepsSends d0 (bringPage d slot k cause) := by
  unfold Machine.bringPage
  split
  · exact h
  · split
    · split
      · exact h
      · split
        · split
          · exact h.writebackPage
          · split
            · exact h.dropNamed.promotePage
            · split
              · exact h.ownPage
              · exact h
        · exact h.promotePage
    · exact h.fillPage
    · exact h

theorem bringPages {n : Nat} (h : KeepsSends d0 d) : KeepsSends d0 (bringPages d slot cause n k) := by
  induction n generalizing d k with
  | zero => exact h
  | succ n ih => exact ih h.bringPage

theorem traceMove {q : Seq} {kind fromT toT pages : Nat} (h : KeepsSends d0 d) :
    KeepsSends d0 (traceMove d q kind fromT toT pages cause tile) := by
  unfold Machine.traceMove
  split
  · exact h
  · rw [traceRec_frame]
    exact h.same

theorem bringTraced (h : KeepsSends d0 d) : KeepsSends d0 (bringTraced d slot cause) := by
  unfold Machine.bringTraced Machine.traceBring
  split
  · exact h
  · split
    · exact h.bringPages
    · exact h.bringPages.traceMove.traceMove

theorem chooseAff (h : KeepsSends d0 d) : KeepsSends d0 (chooseAff d slot) := by
  unfold Machine.chooseAff
  split
  · exact h
  · dsimp only
    repeat' split
    all_goals exact h.same

theorem requestRoom {need : Nat} (h : KeepsSends d0 d) : KeepsSends d0 (requestRoom d slot tile need) := by
  unfold Machine.requestRoom
  split
  · exact h
  · split
    · exact h
    · exact h.same

theorem bringAll (h : KeepsSends d0 d) : KeepsSends d0 (bringAll d slot cause) := by
  unfold Machine.bringAll
  dsimp only
  split
  · exact h.chooseAff.bringTraced
  · split
    · split
      · exact h.chooseAff.bringTraced.requestRoom
      · exact h.chooseAff.bringTraced
    · exact h.chooseAff.bringTraced

theorem bringWaiting (d : Device) : KeepsSends d (bringWaiting d) :=
  foldl (fun d p => by split <;> [exact bringAll (refl d); exact refl d]) _ d

end KeepsSends

/-- At N = 8 there is no parity and no mirror, and a slice that has borrowed no frames tells of none: settling such a slice
takes back no transfer. -/
theorem keepsSends_settle {d0 : Device} (hn : d0.ident.n < 16) (hnone : lenders d0 = []) (d : Device) :
    KeepsSends d (settle d0 d) := by
  have hsmall : d0.ident.n ≠ 32 := by omega
  unfold settle
  split
  · exact .refl d
  · simp only [settleBorrowed, hnone, List.foldl_nil, settleMirror, hsmall, ne_eq, not_false_eq_true, decide_true,
      Bool.true_or, if_true, settleParity, hn]
    exact ((KeepsSends.dropStrays d).trans (.bringWaiting _)).trans (.wakePages _)

/-! ### An END behind the turn's end of its sequence (R30) -/

/-- A completion of one sequence on ring pair 0. -/
def completionOf (ctype : Nat) : Compl :=
  { ring := 0, ctype := ctype, status := .ok, handle := 5, client := 7, userTag := 0, tokenEnd := 0, hseqOf := 0, arg0 := 0
    arg1 := 0, arg2 := 0, noIrq := false, home := 0 }

/-- A ready slice of eight: the TURN_END of a sequence is on its way to slice 1, and its END waits for an owner of the pair. -/
def endBehindTurnEnd : State :=
  { dev := { State.reset.dev with
      ident := { n := 8 }
      clk := { State.reset.dev.clk with ready := true, isoN := true }
      fabi := { outstanding := [{ id := 0, kind := .xfer 1, write := true, addr := 0, len := 64, data := 0,
                                  xfer := some (1, .completion (completionOf CT_TURN_END)) }] }
      faults := { orphanEnds := [completionOf CT_END] } }
    pending := [] }

/-- Slice 1 enables pair 0. -/
abbrev endHeld : Device := ownership endBehindTurnEnd.dev 0 1

/-- The END is held behind the TURN_END of its handle. -/
theorem endHeld_sends_nothing (k : Nat) (x : Xfer) : ¬ endHeld.sends k x := by
  have hout : endHeld.out = [] := by decide
  have hwaiting : endHeld.fabi.waiting = [] := by decide
  simp [Device.sends, hout, hwaiting]

theorem exec_ownershipAnnouncement_endHeld :
    exec (.ownershipAnnouncement 0 1) endBehindTurnEnd = next endBehindTurnEnd endHeld := by
  have hsettled : settle endBehindTurnEnd.dev endHeld = endHeld := settle_same rfl rfl rfl rfl rfl rfl rfl
  exact congrArg (next endBehindTurnEnd) hsettled

/-- Refutes O50: its clause on ring pairs sends every END that waited for an owner at once, while the model holds one behind
a completion of its handle that is still on its way to the new owner, so that the two keep their order (R30): here the
TURN_END of the same sequence (`endBehindTurnEnd`). -/
theorem not_rebuiltStripesFindTheirPlace : ¬ Obligations.RebuiltStripesFindTheirPlace := by
  rintro ⟨-, hpairs⟩
  obtain ⟨hannounced, -⟩ := hpairs endBehindTurnEnd 0 1 [] (by decide)
  obtain ⟨e, hrun, -, -, hsends, -⟩ := hannounced (by decide)
  have hend : e.sends 1 (.endC (completionOf CT_END)) := hsends _ List.mem_cons_self rfl rfl
  have hsettled : settle endBehindTurnEnd.dev e = endHeld := by
    have hnext := hrun.symm.trans exec_ownershipAnnouncement_endHeld
    simpa [next] using hnext
  exact endHeld_sends_nothing _ _ (hsettled ▸ keepsSends_settle (by decide) (by decide) e _ _ hend)

end Sys2Proof.Machine
end

section
/-! The invariant along every step (R62, R66, R408 to R411): what the commands of resets, isolation and start-up keep, beside
the rest of which `exec_kept` speaks. The obligations O57 and O58. -/

namespace Sys2Proof.Machine

/-! ### Levels, phases and widths -/

section Levels
variable {c c' : Clk}

theorem Clk.legal_iff : c.legal = true ↔ (allReleased c = true ∨ c.phase = .held) ∧
    (c.phase = .held → c.present = false ∧ c.ready = false) ∧ (c.ready = true → c.present = true) ∧
    (c.phase.afterDict = true → c.present = true) := by
  simp only [Clk.legal, allReleased, Bool.and_eq_true, Bool.or_eq_true, Bool.not_eq_true', decide_eq_true_eq, decide_eq_false_iff_not]
  grind

/-- A slice that runs stays legal while no level falls, and FY_PRESENT is 1 where the phase or FY_READY asks for it. -/
theorem Clk.legal_of_running (h : c.legal = true) (hrun : c.phase ≠ .held) (hlevels : allReleased c' = allReleased c)
    (hphase : c'.phase ≠ .held) (hready : c'.ready = true → c'.present = true)
    (hdict : c'.phase.afterDict = true → c'.present = true) : c'.legal = true := by
  obtain ⟨hreleased, -⟩ := Clk.legal_iff.mp h
  exact Clk.legal_iff.mpr ⟨.inl (hlevels.trans (hreleased.resolve_right hrun)), fun hheld => absurd hheld hphase, hready, hdict⟩

theorem Clk.ready_present (h : c.legal = true) : c.ready = true → c.present = true := (Clk.legal_iff.mp h).2.2.1

theorem Clk.afterDict_present (h : c.legal = true) (hphase : c.phase.afterDict = true) : c.present = true :=
  (Clk.legal_iff.mp h).2.2.2 hphase

theorem Clk.held_of_low (h : c.legal = true) (hlow : allReleased c = false) : c.phase = .held :=
  (Clk.legal_iff.mp h).1.resolve_left (by simp [hlow])

end Levels

theorem Clk.Bounded.sameCounters {c c' : Clk} (h : c.Bounded) (hcyc : c'.rootcyc = c.rootcyc := by rfl)
    (hoffset : c'.tickOffset = c.tickOffset := by rfl) (hrows : c'.spareRows ≤ c.spareRows := by exact le_rfl) : c'.Bounded :=
  ⟨hcyc ▸ h.rootcyc, hoffset ▸ h.tickOffset, Nat.le_trans hrows h.spareRows⟩

/-! ### What a command of resets and start-up keeps -/

/-- The invariant stands, the place too, and FY_READY has not risen. -/
structure Brought (d0 d : Device) : Prop where
  sound : d.Sound
  ident : d.ident = d0.ident
  ready : d.clk.ready = true → d0.clk.ready = true

section Brought
variable {d0 d e : Device} {f : Clk → Clk}

theorem Device.Sound.brought (h : d.Sound) : Brought d d := ⟨h, rfl, id⟩

/-- An operation of the slice's work follows. -/
theorem Brought.kept (h : Brought d0 d) (hkept : Kept d e) : Brought d0 e :=
  ⟨hkept.sound h.sound, hkept.ident.trans h.ident, fun hready => h.ready (hkept.clk.ready hready)⟩

theorem Kept.brought (h : Kept d e) (hsound : d.Sound) : Brought d e := hsound.brought.kept h

theorem Device.Sound.modClk (h : d.Sound) (hlegal : (f d.clk).legal = true) (hbounded : (f d.clk).Bounded) : (d.modClk f).Sound :=
  { h with clk := hlegal, bounded := hbounded }

/-- The clock unit changes: levels and phase stay legal, counters in their widths, and FY_READY does not rise. -/
theorem Brought.modClk (h : Brought d0 d) (hlegal : (f d.clk).legal = true) (hbounded : (f d.clk).Bounded)
    (hready : (f d.clk).ready = true → d.clk.ready = true) : Brought d0 (d.modClk f) :=
  ⟨h.sound.modClk hlegal hbounded, h.ident, fun hr => h.ready (hready hr)⟩

/-! ### Resets and their release (R408, R409) -/

theorem heldClk_legal (c : Clk) (mapLost : Bool) : (heldClk c mapLost).legal = true :=
  Clk.legal_iff.mpr ⟨.inr rfl, fun _ => ⟨rfl, rfl⟩, nofun, nofun⟩

theorem heldClk_bounded {c : Clk} (mapLost : Bool) (h : c.spareRows ≤ 10752) : (heldClk c mapLost).Bounded where
  rootcyc := Nat.two_pow_pos 64
  tickOffset := Nat.two_pow_pos 64
  spareRows := by
    show (if mapLost = true then 10752 else c.spareRows) ≤ 10752
    split <;> omega

/-- A slice in reset has empty tables, and fresh lane groups and epoch slots. -/
theorem heldDevice_sound {c : Clk} (mapLost keepLog : Bool) (h : d.Sound) (hrows : c.spareRows ≤ 10752) :
    (heldDevice d (heldClk c mapLost) keepLog).Sound := by
  have hlog : Map.wf (Map.set ([] : Map Nat) (odKey Od.FLOG_READ 0) (Map.find d.od (odKey Od.FLOG_READ 0))) = true :=
    Map.wf_set _ _ rfl
  have hbounded := heldClk_bounded mapLost hrows
  have hlegal := heldClk_legal c mapLost
  have hctx : Ctx.Sound ({} : Ctx) := ⟨rfl, rfl, rfl, rfl, nofun, rfl, rfl, rfl⟩
  cases keepLog
  · exact ⟨h.ident, hlegal, hbounded, rfl, rfl, rfl, rfl, rfl, rfl, rfl, rfl, rfl, rfl, rfl, rfl, rfl, hctx,
      Nat.zero_le _, Nat.zero_le _, rfl, rfl⟩
  · exact ⟨h.ident, hlegal, hbounded, hlog, rfl, rfl, rfl, rfl, rfl, rfl, rfl, rfl, rfl, rfl, rfl, rfl, hctx,
      Nat.zero_le _, Nat.zero_le _, rfl, rfl⟩

theorem heldDevice_brought {c : Clk} (mapLost keepLog : Bool) (h : d.Sound) (hrows : c.spareRows = d.clk.spareRows) :
    Brought d (heldDevice d (heldClk c mapLost) keepLog) where
  sound := heldDevice_sound mapLost keepLog h (hrows ▸ h.bounded.spareRows)
  ident := by cases keepLog <;> rfl
  ready := by cases keepLog <;> exact nofun

/-- A held slice whose inputs are all high starts; another one stays held. -/
theorem startWaiting_brought {staggered : Bool} (h : d.Sound) (hheld : d.clk.phase = .held) : Brought d (startWaiting d staggered) := by
  obtain ⟨-, hdown, -⟩ := Clk.legal_iff.mp h.clk
  obtain ⟨hpresent, hready⟩ := hdown hheld
  have hnoReady : d.clk.ready = true → d.clk.present = true := by simp [hready]
  cases hall : allReleased d.clk with
  | true =>
    rw [startWaiting_of_released hall]
    exact h.brought.modClk (f := (startedClk · staggered)) (Clk.legal_iff.mpr ⟨.inl hall, nofun, hnoReady, nofun⟩)
      ⟨Nat.two_pow_pos 64, Nat.two_pow_pos 64, h.bounded.spareRows⟩ id
  | false =>
    have hsame : startWaiting d staggered = d.modClk (fun c => { c with staggered := staggered }) :=
      congrArg (fun c => { d with clk := c }) (if_neg (Bool.not_eq_true _ ▸ hall))
    rw [hsame]
    exact h.brought.modClk h.clk h.bounded.sameCounters id

/-- The release of an input that was low: only then was the slice held. -/
theorem release_brought {b staggered : Bool} {f : Clk → Clk} (h : d.Sound) (hlow : b = false → allReleased d.clk = false)
    (hphase : (f d.clk).phase = d.clk.phase) (hpresent : (f d.clk).present = d.clk.present)
    (hready : (f d.clk).ready = d.clk.ready) (hbounded : (f d.clk).Bounded) :
    Brought d (if b then d else startWaiting (d.modClk f) staggered) := by
  cases b with
  | true => exact h.brought
  | false =>
    have hheld : d.clk.phase = .held := Clk.held_of_low h.clk (hlow rfl)
    obtain ⟨-, hdown, hp, hdict⟩ := Clk.legal_iff.mp h.clk
    have hlegal : (f d.clk).legal = true := Clk.legal_iff.mpr
      ⟨.inr (hphase.trans hheld), hphase ▸ hpresent ▸ hready ▸ hdown, hpresent ▸ hready ▸ hp, hphase ▸ hpresent ▸ hdict⟩
    have hraised : Brought d (d.modClk f) := h.brought.modClk hlegal hbounded (hready ▸ id)
    obtain ⟨hsound, hident, hrise⟩ := startWaiting_brought (staggered := staggered) hraised.sound (hphase.trans hheld)
    exact ⟨hsound, hident, fun hr => hraised.ready (hrise hr)⟩

/-! ### Start-up (R411, R414) -/

/-- A phase that runs is over, so the slice is not held. -/
theorem phase_of_phaseOver {p : Phase} (h : phaseOver d p = true) : d.clk.phase = p := by
  simp only [phaseOver, Bool.and_eq_true, decide_eq_true_eq] at h
  exact h.1

/-- A slice that runs moves to another phase, with FY_PRESENT at 1 where that phase asks for it. -/
theorem Brought.newPhase {f : Clk → Clk} (h : Brought d0 d) (hrun : d.clk.phase ≠ .held)
    (hlevels : allReleased (f d.clk) = allReleased d.clk) (hphase : (f d.clk).phase ≠ .held)
    (hready : (f d.clk).ready = d.clk.ready) (hpresent : d.clk.present = true → (f d.clk).present = true)
    (hdict : (f d.clk).phase.afterDict = true → (f d.clk).present = true) (hbounded : (f d.clk).Bounded) :
    Brought d0 (d.modClk f) :=
  h.modClk (Clk.legal_of_running h.sound.clk hrun hlevels hphase
    (fun hr => hpresent (Clk.ready_present h.sound.clk (hready ▸ hr))) hdict) hbounded (hready ▸ id)

theorem Brought.toPhase {p : Phase} (h : Brought d0 d) (hrun : d.clk.phase ≠ .held) (hphase : p ≠ .held)
    (hdict : p.afterDict = true → d.clk.present = true) : Brought d0 (toPhase d p) :=
  h.newPhase hrun rfl hphase rfl id hdict h.sound.bounded.sameCounters

theorem failStart_brought {code : Nat} (h : Brought d0 d) (hrun : d.clk.phase ≠ .held) : Brought d0 (failStart d code) :=
  have hfailed : Brought d0 (d.modClk (fun c => { c with phase := .failed, failCode := code })) :=
    h.newPhase hrun rfl nofun rfl id nofun h.sound.bounded.sameCounters
  hfailed.kept (alertLog_kept hfailed.sound.kept)

theorem sliceStart_brought (h : d.Sound) : Brought d (sliceStart d) := by
  unfold sliceStart
  split
  · next hdue =>
    have hwaits : d.clk.phase = .waiting := by simp_all
    exact h.brought.newPhase (by simp [hwaits]) rfl nofun rfl id nofun h.bounded.sameCounters
  · exact h.brought

theorem dictDone_brought {n : Nat} (h : d.Sound) : Brought d (dictDone d n) := by
  unfold dictDone
  split
  · next hover =>
    have hrun : d.clk.phase ≠ .held := by simp [phase_of_phaseOver hover]
    split
    · exact failStart_brought h.brought hrun
    · next e hrows =>
      have hkept : Kept d e := (repairRows_kept h.kept).of_eq hrows
      have he : Brought d e := hkept.brought h
      exact he.newPhase (f := fun c => { c with phase := .grotto, phaseCyc := c.phaseCyc + phaseCycles c, present := true })
        (hkept.clk.phase ▸ hrun) rfl nofun rfl (fun _ => rfl) (fun _ => rfl) he.sound.bounded.sameCounters
  · exact h.brought

theorem grottoDone_brought {n : Nat} (h : d.Sound) : Brought d (grottoDone d n) := by
  unfold grottoDone
  split
  · next hover =>
    have hphase := phase_of_phaseOver hover
    have hrun : d.clk.phase ≠ .held := by simp [hphase]
    split
    · exact failStart_brought h.brought hrun
    · next e hrows =>
      have hkept : Kept d e := (repairRows_kept h.kept).of_eq hrows
      have he : Brought d e := hkept.brought h
      have hpresent : e.clk.present = true := Clk.afterDict_present he.sound.clk (by rw [hkept.clk.phase, hphase]; rfl)
      have hlanes := he.toPhase (p := .lanes) (hkept.clk.phase ▸ hrun) nofun (fun _ => hpresent)
      exact hlanes.modClk hlanes.sound.clk hlanes.sound.bounded.sameCounters id
  · exact h.brought

theorem testedLanes_kept {ls : List (Nat × Nat)} (h : Kept d0 d) : Kept d0 (testedLanes d ls) :=
  Device_modClk_kept (Kept.foldl (fun _ _ he => retireLane_kept he) h) fun _ hc => { hc with }

theorem lanesDone_brought {ls : List (Nat × Nat)} (h : d.Sound) : Brought d (lanesDone d ls) := by
  cases hover : phaseOver d .lanes with
  | false => simpa [lanesDone, hover] using h.brought
  | true =>
    have hphase := phase_of_phaseOver hover
    have hkept : Kept d (testedLanes d ls) := testedLanes_kept h.kept
    have hlanes : (testedLanes d ls).clk.phase = .lanes := hkept.clk.phase.trans hphase
    have hrun : (testedLanes d ls).clk.phase ≠ .held := by simp [hlanes]
    have he := hkept.brought h
    rw [lanesDone_of_over hover]
    split
    · exact failStart_brought he hrun
    · exact he.toPhase hrun nofun fun _ => Clk.afterDict_present he.sound.clk (by rw [hlanes]; rfl)

theorem cipherDone_brought {cts : List (BitVec 128)} (h : d.Sound) : Brought d (cipherDone d cts) := by
  unfold cipherDone
  split
  · next hover =>
    have hphase := phase_of_phaseOver hover
    have hrun : d.clk.phase ≠ .held := by simp [hphase]
    split
    · exact h.brought.toPhase hrun nofun fun _ => Clk.afterDict_present h.clk (by rw [hphase]; rfl)
    · exact failStart_brought h.brought hrun
  · exact h.brought

/-- In start-up the phase ends, with the key that waited for it; afterwards only a regeneration does. -/
theorem tableDone_brought {found : Option Nat} (h : d.Sound) : Brought d (tableDone d found) := by
  cases hover : phaseOver d .table with
  | true =>
    have hphase := phase_of_phaseOver hover
    have hkey : Kept d (applyHeldKey d) := applyHeldKey_kept h.kept
    have htable : (applyHeldKey d).clk.phase = .table := hkey.clk.phase.trans hphase
    have hfinal : Brought d (toPhase (applyHeldKey d) .final) := (hkey.brought h).toPhase (by simp [htable]) nofun
      fun _ => Clk.afterDict_present (hkey.sound h).clk (by rw [htable]; rfl)
    have hcount := bump_kept (a1 := Od.RNG_STATS) (a2 := 3) hfinal.sound.kept
    rw [tableDone, if_pos hover]
    cases found with
    | none => exact hfinal.kept hcount
    | some a => exact hfinal.kept (tableError_kept hcount)
  | false =>
    have hcount := bump_kept (a1 := Od.RNG_STATS) (a2 := 3) h.kept
    have hended : Kept d (regenerated d) := Device_modClk_kept hcount fun _ hc => { hc with }
    refine Kept.brought ?_ h
    cases hbusy : d.clk.tableBusy with
    | none => simpa [tableDone, hover, hbusy] using h.kept
    | some t =>
      rcases Nat.lt_or_ge d.clk.rootcyc t with hearly | hlate
      · rw [tableDone_of_early hover hbusy hearly]
        exact h.kept
      · cases found with
        | some a => exact tableDone_of_error hover hbusy hlate a ▸ tableError_kept hcount
        | none =>
          cases hpath : d.clk.tablePath with
          | none => exact tableDone_of_no_write hover hbusy hlate hpath ▸ hended
          | some path => exact tableDone_of_write hover hbusy hlate hpath ▸ respondWrite_kept hended

/-- FY_READY rises, with FY_PRESENT at 1 already. -/
theorem finalDone_sound (h : d.Sound) : (finalDone d).Sound ∧ (finalDone d).ident = d.ident := by
  cases hover : phaseOver d .final with
  | false => simpa [finalDone, hover] using h
  | true =>
    have hphase := phase_of_phaseOver hover
    have hpresent : d.clk.present = true := Clk.afterDict_present h.clk (by rw [hphase]; rfl)
    have hready : ((toPhase d .ready).modClk (fun c => { c with ready := true })).Sound :=
      h.modClk (f := fun c => { c with phase := .ready, phaseCyc := c.phaseCyc + phaseCycles c, ready := true })
        (Clk.legal_of_running h.clk (by simp [hphase]) rfl nofun (fun _ => hpresent) (fun _ => hpresent)) h.bounded.sameCounters
    rw [finalDone_of_over hover]
    split
    · exact ⟨(emit_kept hready.kept).sound hready, rfl⟩
    · exact ⟨hready, rfl⟩

end Brought

/-! ### Every command -/

/-- Resets, isolation, rails and start-up: but for the final checks FY_READY does not rise. -/
theorem exec_bringUp {i : Instr} {s : State} (hi : bringUp i = true) (hfinal : i ≠ .finalChecks) (h : s.dev.Sound) :
    ∃ d, exec i s = next s d ∧ Brought s.dev d := by
  cases i with
  | finalChecks => exact absurd rfl hfinal
  | porstNAssert => exact ⟨_, rfl, heldDevice_brought true false h rfl⟩
  | wrstNAssert => exact ⟨_, rfl, heldDevice_brought _ true h rfl⟩
  | fySrstNAssert lock => cases lock <;> exact ⟨_, rfl, heldDevice_brought _ true h rfl⟩
  | railGating _ => exact ⟨_, rfl, heldDevice_brought true false h rfl⟩
  | porstNRelease => exact ⟨_, rfl, release_brought h (by simp +contextual [allReleased]) rfl rfl rfl h.bounded.sameCounters⟩
  | wrstNRelease => exact ⟨_, rfl, release_brought h (by simp +contextual [allReleased]) rfl rfl rfl h.bounded.sameCounters⟩
  | fySrstNRelease lock =>
    cases lock <;> exact ⟨_, rfl, release_brought h (by simp +contextual [allReleased]) rfl rfl rfl h.bounded.sameCounters⟩
  | fyIsoNAssert => exact ⟨_, rfl, h.brought.modClk h.clk h.bounded.sameCounters id⟩
  | fyIsoNRelease =>
    have hjoined : Brought s.dev (joined s.dev) := h.brought.modClk h.clk h.bounded.sameCounters id
    exact ⟨_, rfl, hjoined.kept (fabiPumpAll_kept hjoined.sound.kept)⟩
  | sliceStart => exact ⟨_, rfl, sliceStart_brought h⟩
  | dictionaryRegionDone _ => exact ⟨_, rfl, dictDone_brought h⟩
  | grottoTestDone _ => exact ⟨_, rfl, grottoDone_brought h⟩
  | laneGroupsDone _ => exact ⟨_, rfl, lanesDone_brought h⟩
  | cipherSelfTest _ => exact ⟨_, rfl, cipherDone_brought h⟩
  | classTTableDone _ => exact ⟨_, rfl, tableDone_brought h⟩
  | _ => exact nomatch hi

/-- Every command answers a next state with the queue as it was; only the final checks raise FY_READY. -/
theorem exec_sound (i : Instr) {s : State} (h : s.dev.Sound) : ∃ d, exec i s = next s d ∧ d.Sound ∧ d.ident = s.dev.ident ∧
    (i ≠ .finalChecks → d.clk.ready = true → s.dev.clk.ready = true) := by
  cases hi : bringUp i with
  | false =>
    obtain ⟨t, hexec, hqueue, hkept⟩ := exec_kept i hi h.kept
    exact ⟨t.dev, hexec.trans (by rw [next, ← hqueue]), hkept.sound h, hkept.ident, fun _ => hkept.clk.ready⟩
  | true =>
    by_cases hfinal : i = .finalChecks
    · subst hfinal
      obtain ⟨hsound, hident⟩ := finalDone_sound h
      exact ⟨_, rfl, hsound, hident, fun hne => absurd rfl hne⟩
    · obtain ⟨d, hexec, hbrought⟩ := exec_bringUp hi hfinal h
      exact ⟨d, hexec, hbrought.sound, hbrought.ident, fun _ => hbrought.ready⟩

/-- Settles O57: a command by `exec_sound`, the passing of time by `idleTick_kept`. -/
theorem everyStepKeepsSound : Obligations.EveryStepKeepsSound := by
  intro s t h hstep
  cases hqueue : s.pending with
  | nil =>
    rw [step_nil hqueue] at hstep
    obtain rfl := Host.Outcome.next.inj hstep
    exact (idleTick_kept h.kept).sound h
  | cons c rest =>
    rw [step_cons c rest s hqueue] at hstep
    obtain ⟨d, hexec, hsound, -⟩ := exec_sound c (s := { s with pending := rest }) h
    obtain rfl := Host.Outcome.next.inj (hexec.symm.trans hstep)
    exact hsound

/-- Settles O58: the answer and the rise of FY_READY by `exec_sound`, the levels by `exec_kept`. -/
theorem onlyBringUpMovesLevels : Obligations.OnlyBringUpMovesLevels := by
  refine ⟨fun c s h => ?answers, fun c s t hc h hexec => ?levels, fun c s t h hexec hlow hrise => ?rises⟩
  case answers =>
    obtain ⟨d, hexec, -, hident, -⟩ := exec_sound c h
    exact ⟨_, hexec, rfl, hident⟩
  case levels =>
    obtain ⟨u, hu, -, hkept⟩ := exec_kept c hc h.kept
    obtain rfl := Host.Outcome.next.inj (hu.symm.trans hexec)
    have hclk := hkept.clk
    exact ⟨hclk.porstN, hclk.wrstN, hclk.srstN, hclk.isoN, hclk.rootLock, hclk.phase, hclk.present, hclk.ready⟩
  case rises =>
    obtain ⟨d, hnext, -, -, hready⟩ := exec_sound c h
    obtain rfl := Host.Outcome.next.inj (hnext.symm.trans hexec)
    have hfinal : c = .finalChecks := by
      by_contra hne
      simp [hready hne hrise] at hlow
    subst hfinal
    obtain rfl := congrArg State.dev (Host.Outcome.next.inj hnext)
    have hover : phaseOver s.dev .final = true := by
      by_contra hno
      simp [finalDone, hno, hlow] at hrise
    have hphase := phase_of_phaseOver hover
    simp only [phaseOver, hphase, phaseCycles, Bool.and_eq_true, decide_eq_true_eq] at hover
    exact ⟨rfl, hphase, hover.2⟩

end Sys2Proof.Machine
end

section
/-! The slice's work waits for FY_READY (R62, R67): the obligation O59. -/

namespace Sys2Proof.Machine

theorem whenReady_false {d : Device} {f : Device → Device} (h : fyReady d = false) : whenReady d f = d :=
  if_neg (by simp [h])

theorem next_whenReady_of_not_ready {s : State} (h : fyReady s.dev = false) (f : Device → Device) :
    next s (whenReady s.dev f) = .next s := by
  rw [whenReady_false h, next]

theorem done_whenReady_of_not_ready {s : State} (h : fyReady s.dev = false) (f : Device → Device) :
    done s (whenReady s.dev f) = .next s := by
  rw [done, whenReady_false h, settle_self, next]

/-- Settles O59: the meaning of each of these commands waits for FY_READY, whether or not parity deltas and mirror writes
follow from what it writes. -/
theorem workWaitsForReady : Obligations.WorkWaitsForReady := by
  intro c s hworks h
  cases c with
  | sqRecordRead _ _ | completionTransfer _ | completionWrite _ | cqStall _ | cqIrqTimeout _ | endTransfer _
  | aggRoundOpen _ | deltaEntry _ _ | aggRoundClose | aggregateEntry _ _ | acctAggLost | resetEntry _ _
  | energyCorrUpdate | switchRateSample | mirrorWrite _ _ _ | mirrorTimeout | rnsRequest _ _ | install _ _ _ _
  | installTimeout _ | activate _ _ _ _ | cancel _ _ _ _ | epochTransferAck _ | epochGraceExpiry _ | parityDelta _
  | parityAck _ _ _ | sliceSuspect _ | eccCeWindow | laneSubstitution _ | laneGroupGate _ | laneGroupUngate _
  | traceExport | submit _ | cont _ | abort _ | abortClient _ | pause _ | resume _ | save _ | restore _ | epochPublish _ =>
    exact next_whenReady_of_not_ready h _
  | handOver _ | handOverAck _ _ | handOverTimeout _ | hostCommandTransfer _ | hostCommandAck _ _ _ | prefixLookup _ _
  | lookupAnswer _ _ | lookupTimeout _ | queueRetest | queueSweep | deadlineExpiry _ | ttlExpiry _ | quarantineExpiry _
  | notBeforeExpiry _ | backoffExpiry _ | idleDemoteExpiry _ | demotionStageDeferred _ | slotReclaim | endRetry _
  | endWrittenReport _ | release _ | stepBuild _ _ | cmdIssue _ | completion _ | killAck _ | cmdTimeout _
  | killAckTimeout _ | lgiBeat _ _ | samplePosition _ _ _ | digestRound _ _ | sequenceCommit _ | modelWarmupDone _ _
  | pgmStatus _ | ctxReclaim | replayTimeout _ | selectionClaim _ | selectionDelivered _ | spawn _ | rebuildStripe _
  | forwardPair _ _ _ _ | ownershipAnnouncement _ _ | frameRequest _ | sliceQuiesced | tileDrainTimeout _ | scrub _ _ _
  | lanePatrol _ | setParam _ =>
    exact done_whenReady_of_not_ready h _
  | _ => exact nomatch hworks

end Sys2Proof.Machine
end

section
/-! Budget records, their staleness, telemetry and lane duty (R56 to R59, R406): the obligation O53. -/

namespace Sys2Proof.Machine

section Power
variable {d : Device}

/-- The SEQ of the record is that of the last accepted one (R56). -/
def repeatsBudget (d : Device) (r : Nat) : Bool := match d.power.budget with | some x => x.seq = Pwr.seq r | none => false

/-- The slice with the record accepted. -/
def budgetTaken (d : Device) (r : Nat) : Device := { d with power := { d.power with
  budget := some { seq := Pwr.seq r, dieMw := Pwr.dieMw r, fyMw := Pwr.fyMw r, headroom := Pwr.headroom r, tempMax := Pwr.tempMax r }
  acceptTick := d.tick, stale := false } }

theorem budgetRecord_eq (d : Device) (r : Nat) :
    budgetRecord d r = if !chkOk r 32 || repeatsBudget d r then d else budgetTaken d r := rfl

theorem pwrStale_of_fresh (h : d.power.stale = true ∨ d.tick < d.power.acceptTick + 100 * odGet d Od.PWR_STALE_LIMIT 0) :
    pwrStale d = d :=
  if_pos (by simpa using h)

theorem pwrStale_of_late (hfresh : d.power.stale = false)
    (hlate : d.power.acceptTick + 100 * odGet d Od.PWR_STALE_LIMIT 0 ≤ d.tick) : pwrStale d =
      raiseVector (alertLog { d with power := { d.power with stale := true } } ALERT_PWR_STALE 0 0 0 0) 7 :=
  if_neg (by simp [hfresh, hlate])

/-- D stays within its range whatever the interval's power: it falls in the ratio of budget to power, or rises by 16. -/
theorem nextDuty_range {duty : Nat} (p b : Nat) (hlow : 64 ≤ duty) (hhigh : duty ≤ 256) :
    64 ≤ nextDuty duty p b ∧ nextDuty duty p b ≤ 256 := by
  unfold nextDuty
  split
  · next hover =>
    have hfalls : duty * b / p ≤ duty := Nat.div_le_of_le_mul (Nat.mul_comm p duty ▸ Nat.mul_le_mul_left duty (Nat.le_of_lt hover))
    omega
  · split <;> omega

/-- The slice whose record of the interval has left. -/
def telemetrySent (d : Device) (p busy : Nat) : Device := { d with
  clk := { d.clk with duty := nextDuty d.clk.duty p (fyBudget d) }
  power := { d.power with laneFj := 0, stepEstUj := 0, ingressBound := false, throttled := false, teleRound := d.tick / 100 }
  out := d.out ++ [.telemetry (BitVec.ofNat 256 (telemetryRecord d p busy))] }

theorem telemetry_of_sent {p busy : Nat} (h : d.tick / 100 = d.power.teleRound) : telemetry d p busy = d := if_pos h

theorem telemetry_of_new_interval {p busy : Nat} (h : d.tick / 100 ≠ d.power.teleRound) :
    telemetry d p busy = telemetrySent d p busy :=
  if_neg h

theorem answers_telemetry {s : State} (p busy : Nat) (hpresent : fyPresent s.dev = true) :
    Answers (.telemetry p busy) s (telemetry s.dev p busy) :=
  answers_of_whenPresent (telemetry · p busy) hpresent rfl

end Power

/-- Settles O53: a record is discarded or taken (`budgetRecord_eq`), staleness is raised once (`pwrStale_of_late`), and the
record of an interval leaves once (`telemetry_of_new_interval`, then `telemetry_of_sent`). -/
theorem budgetsAndTelemetryFollowTheirIntervals : Obligations.BudgetsAndTelemetryFollowTheirIntervals := by
  refine ⟨fun s b hpresent => ?budget, fun s hpresent => ?stale, fun s p busy hpresent => ?telemetry⟩
  case budget =>
    have hrun : Answers (.budgetRecord b) s (budgetRecord s.dev b.toNat) :=
      answers_of_whenPresent (budgetRecord · b.toNat) hpresent rfl
    rw [budgetRecord_eq] at hrun
    refine ⟨fun hbad => ?_, fun hchk hnew => ?_⟩
    · have hbad' : chkOk b.toNat 32 = false ∨ repeatsBudget s.dev b.toNat = true := hbad
      rwa [if_pos (by simpa using hbad')] at hrun
    · have hnew' : repeatsBudget s.dev b.toNat = false := hnew
      rw [if_neg (by simp [hchk, hnew'])] at hrun
      exact hrun
  case stale =>
    have hrun : Answers .pwrStale s (pwrStale s.dev) := answers_of_whenPresent pwrStale hpresent rfl
    exact ⟨fun hfresh => pwrStale_of_fresh hfresh ▸ hrun, fun hfresh hlate => pwrStale_of_late hfresh hlate ▸ hrun⟩
  case telemetry =>
    have hrun := answers_telemetry p busy hpresent
    refine ⟨fun hsent => by rwa [telemetry_of_sent hsent] at hrun, fun hnew => ?_⟩
    rw [telemetry_of_new_interval hnew] at hrun
    have hagain := answers_telemetry (s := { s with dev := telemetrySent s.dev p busy }) p busy hpresent
    rw [telemetry_of_sent (d := telemetrySent s.dev p busy) rfl] at hagain
    exact ⟨_, hrun, rfl, rfl, rfl, rfl, rfl, nextDuty_range p _, hagain⟩

end Sys2Proof.Machine
end

section
/-! What tiles return: completions, acknowledged kills and timeouts (R44, R45, R181, R187), and the beats of LGI (R48). The
obligations O36 and O38. -/

namespace Sys2Proof.Machine

/-- A port error is no work of which parity deltas or mirror writes tell. -/
theorem answers_of_counted {i : Instr} {s : State} {k : Nat} (h : Settles i s (portErr s.dev k)) : Answers i s (portErr s.dev k) :=
  answers_of_sameWork h ⟨rfl, rfl, rfl, rfl, rfl, rfl, rfl⟩

section Returns
variable {d : Device} {i r : Nat} {c : InFlight}

theorem revoked_of_killing (h : c.istate = .killing) : c.revoked = true := by simp [InFlight.revoked, h]
theorem revoked_of_orphan (h : c.istate = .orphan) : c.revoked = true := by simp [InFlight.revoked, h]
theorem not_revoked_of_issued (h : c.istate = .issued) : c.revoked = false := by simp [InFlight.revoked, h]
theorem not_revoked_of_draining (h : c.istate = .draining) : c.revoked = false := by simp [InFlight.revoked, h]

/-! ### COMPLETION (R44, R45, R181) -/

theorem completion_of_unknown (h : byTag d (bf r 255 224) = none) : completion d r = portErr d PERR_DSP_FORMAT := by
  simp only [completion, h]

section Known
variable (htag : byTag d (bf r 255 224) = some (i, c))
include htag

theorem completion_of_good (hchk : chkOk r 32 = true) : completion d r =
    if c.revoked then returnCredit (portErr d PERR_DSP_STALE) c.tile
    else if c.istate = .issued then acceptCompletion d i c r else d := by
  simp only [completion, htag, hchk, Bool.not_true, Bool.false_eq_true, if_false]

theorem completion_of_bad (hchk : chkOk r 32 = false) : completion d r =
    if c.revoked then returnCredit (portErr d PERR_DSP_FORMAT) c.tile
    else if c.istate = .issued then
      commandFailed ((returnCredit (bump (portErr d PERR_DSP_FORMAT) Od.DISPATCH_STATS 1) c.tile).modInflight i
        (fun x => { x with failEntry := 0xFFFF })) i 1 (fun _ => true)
    else portErr d PERR_DSP_FORMAT := by
  simp only [completion, htag, hchk, Bool.not_false, if_true]

end Known

/-! ### KILL_ACK (R44) -/

theorem killAck_of_unknown (h : byTag d (bf r 127 96) = none) : killAck d r = portErr d PERR_DSP_FORMAT := by
  simp only [killAck, h]

/-- The command's credit comes back where its tile had abandoned it. -/
def abandoned (d : Device) (r : Nat) (c : InFlight) : Device := if bf r 83 80 = 0 then returnCredit d c.tile else d

section Known
variable (htag : byTag d (bf r 127 96) = some (i, c))
include htag

theorem killAck_of_bad (hchk : chkOk r 16 = false) : killAck d r = portErr d PERR_DSP_FORMAT := by
  simp [killAck, htag, hchk]

theorem killAck_of_stray (hchk : chkOk r 16 = true) (hrevoked : c.revoked = false) : killAck d r = d := by
  simp [killAck, htag, hchk, hrevoked]

theorem killAck_of_killing (hchk : chkOk r 16 = true) (hstate : c.istate = .killing) :
    killAck d r = returned (freeEntry (abandoned d r c) i) (commandSlots c) := by
  simp [killAck, htag, hchk, revoked_of_killing hstate, hstate, abandoned]

theorem killAck_of_orphan (hchk : chkOk r 16 = true) (hstate : c.istate = .orphan) : killAck d r =
    returned (freeEntry ((abandoned d r c).modTile c.tile (fun t => { t with suspect := false })) i) (commandSlots c) := by
  simp [killAck, htag, hchk, revoked_of_orphan hstate, hstate, abandoned]

end Known

/-! ### Timeouts (R187) -/

section Timeouts
variable (hentry : Map.find d.inflight i = some c)
include hentry

theorem cmdTimeout_of_due (hstate : c.istate = .issued ∨ c.istate = .draining) (hdue : c.dueTick ≤ d.tick) :
    cmdTimeout d i = commandFailed (bump d Od.DISPATCH_STATS 3) i 3 (fun _ => true) := by
  rcases hstate with hstate | hstate <;> simp [cmdTimeout, hentry, hstate, hdue]

theorem cmdTimeout_of_early (hdue : d.tick < c.dueTick) : cmdTimeout d i = d := by
  simp [cmdTimeout, hentry, Nat.not_le.mpr hdue]

theorem killAckTimeout_of_due (hstate : c.istate = .killing) (hdue : c.dueTick ≤ d.tick) : killAckTimeout d i =
    alertLog (bump ((d.modInflight i (fun x => { x with istate := .orphan })).modTile c.tile (fun t => { t with suspect := true }))
      Od.DISPATCH_STATS 4) ALERT_TILE_HUNG c.tile 0 0 (tagOf d i c) := by
  simp only [killAckTimeout, hentry, hstate, hdue, decide_true, Bool.and_self, if_true]
  rfl

theorem killAckTimeout_of_early (hdue : d.tick < c.dueTick) : killAckTimeout d i = d := by
  simp [killAckTimeout, hentry, Nat.not_le.mpr hdue]

end Timeouts

/-! ### Beats (R48) -/

section Beats
variable {h data : Nat}

theorem lgiBeat_of_unknown (htag : byTag d (Lgi.tag h) = none) :
    lgiBeat d h data = emit (portErr d PERR_LGI_STALE) (.lgiCredit 1) := by
  simp only [lgiBeat, htag]

theorem lgiBeat_of_known (htag : byTag d (Lgi.tag h) = some (i, c)) : lgiBeat d h data =
    if c.revoked then emit (portErr d PERR_LGI_STALE) (.lgiCredit 1)
    else if beatOk d c h data then acceptBeat d i c h data
    else commandFailed (emit (portErr d PERR_LGI_FORMAT) (.lgiCredit 1)) i 2 (fun _ => true) := by
  simp only [lgiBeat, htag]

end Beats

end Returns

/-- Settles O36: each record runs to its operation, whose cases are `completion_of_good` and its siblings. -/
theorem returnsEndCommands : Obligations.ReturnsEndCommands := by
  intro s hready d
  have hcompletion (b : BitVec 256) : Settles (.completion b) s (completion s.dev b.toNat) :=
    settles_of_whenReady (completion · b.toNat) hready rfl
  have hack (b : BitVec 128) : Settles (.killAck b) s (killAck s.dev b.toNat) :=
    settles_of_whenReady (killAck · b.toNat) hready rfl
  have htimeout (i : Nat) : Settles (.cmdTimeout i) s (cmdTimeout s.dev i) := settles_of_whenReady (cmdTimeout · i) hready rfl
  have hackTimeout (i : Nat) : Settles (.killAckTimeout i) s (killAckTimeout s.dev i) :=
    settles_of_whenReady (killAckTimeout · i) hready rfl
  refine ⟨fun b htag => ?unknown, fun b htag => ?unknownAck, fun b i c htag hchk => ?good, fun b i c htag hchk => ?bad,
    fun b i c htag => ⟨fun hchk => ?badAck, fun hchk hnot => ?stray, fun hchk hstate => ?killing, fun hchk hstate => ?orphan⟩,
    fun i c hentry => ⟨fun hstate hdue => ?due, fun hstate hdue => ?ackDue, fun hearly => ⟨?early, ?ackEarly⟩⟩⟩
  case unknown => exact answers_of_counted (completion_of_unknown htag ▸ hcompletion b)
  case unknownAck => exact answers_of_counted (killAck_of_unknown htag ▸ hack b)
  case good =>
    have hrun := hcompletion b
    rw [completion_of_good htag hchk] at hrun
    refine ⟨fun hstate => ?_, fun hstate => answers_self_of_settles hrun ?_, fun hrevoked => ?_⟩
    · simpa [not_revoked_of_issued hstate, hstate] using hrun
    · simp [not_revoked_of_draining hstate, hstate, d]
    · simpa [hrevoked] using hrun
  case bad =>
    have hrun := hcompletion b
    rw [completion_of_bad htag hchk] at hrun
    refine ⟨fun hstate => ?_, fun hstate => ?_, fun hrevoked => ?_⟩
    · simpa [not_revoked_of_issued hstate, hstate] using hrun
    · simpa [not_revoked_of_draining hstate, hstate] using hrun
    · simpa [hrevoked] using hrun
  case badAck => exact answers_of_counted (killAck_of_bad htag hchk ▸ hack b)
  case stray => exact answers_self_of_settles (hack b) (killAck_of_stray htag hchk hnot)
  case killing =>
    have hrun := hack b
    rwa [killAck_of_killing htag hchk hstate] at hrun
  case orphan =>
    have hrun := hack b
    rwa [killAck_of_orphan htag hchk hstate] at hrun
  case due => exact cmdTimeout_of_due hentry hstate hdue ▸ htimeout i
  case ackDue =>
    have hrun := hackTimeout i
    rwa [killAckTimeout_of_due hentry hstate hdue] at hrun
  case early => exact answers_self_of_settles (htimeout i) (cmdTimeout_of_early hentry hearly)
  case ackEarly => exact answers_self_of_settles (hackTimeout i) (killAckTimeout_of_early hentry hearly)

/-- Settles O38: a beat of no command (`lgiBeat_of_unknown`) or of one (`lgiBeat_of_known`). -/
theorem beatsAreAcceptedOrCounted : Obligations.BeatsAreAcceptedOrCounted := by
  intro s h x hready
  have hrun : Settles (.lgiBeat h x) s (lgiBeat s.dev h.toNat x.toNat) :=
    settles_of_whenReady (fun d => lgiBeat d h.toNat x.toNat) hready rfl
  refine ⟨fun htag => answers_of_sameWork (lgiBeat_of_unknown htag ▸ hrun) ⟨rfl, rfl, rfl, rfl, rfl, rfl, rfl⟩, fun i c htag => ?_⟩
  rw [lgiBeat_of_known htag] at hrun
  refine ⟨fun hrevoked => answers_of_sameWork ?_ ⟨rfl, rfl, rfl, rfl, rfl, rfl, rfl⟩, fun hrevoked hok => ?_, fun hrevoked hok => ?_⟩
  · simpa [hrevoked] using hrun
  · simpa [hrevoked, hok] using hrun
  · simpa [hrevoked, hok] using hrun

end Sys2Proof.Machine
end

section
/-! Statuses of page moves (R54, R225): the obligation O43. -/

namespace Sys2Proof.Machine

section Moves
variable {d : Device} {r : Nat} {m : Move}

/-- The move has left the table, and the first descriptor that waited for a place in it goes on. -/
def moveOver (d : Device) (id : Nat) (m : Move) (st : Nat) : Device :=
  let e := { d with ctx := { d.ctx with moves := Map.del d.ctx.moves id } }
  postWaiting (if st = 0 then moveDone (countMoved e m) m else moveError e m st)

/-- A tile that drains gives up the copies that no move holds any more (R390). -/
def tileCleared (d : Device) (m : Move) : Device :=
  if (d.tile m.tile).drainTick.isSome && !m.isWeights then clearTile d m.tile else d

theorem pgmStatus_of_bad (hchk : chkOk r 16 = false) : pgmStatus d r = d := by
  simp [pgmStatus, hchk]

section Good
variable (hchk : chkOk r 16 = true)
include hchk

theorem pgmStatus_of_none (hmove : Map.find d.ctx.moves (bf r 127 112) = none) :
    pgmStatus d r = if bf r 111 104 = 0 then d else portErr d PERR_PGM := by
  simp [pgmStatus, hchk, hmove]

theorem pgmStatus_of_move (hmove : Map.find d.ctx.moves (bf r 127 112) = some m) : pgmStatus d r =
    let e := tileCleared (moveOver d (bf r 127 112) m (bf r 111 104)) m
    if m.isWeights then e else afterMove (serveFrames e m.tile) m.slot := by
  simp only [pgmStatus, hchk, hmove, Bool.not_true, Bool.false_eq_true, if_false]
  rfl

end Good
end Moves

/-- Settles O43: a status is discarded (`pgmStatus_of_bad`), meets no move (`pgmStatus_of_none`), or ends its move
(`pgmStatus_of_move`). -/
theorem moveStatusesActOnTheirMove : Obligations.MoveStatusesActOnTheirMove := by
  intro s b hready id st
  have hrun : Settles (.pgmStatus b) s (pgmStatus s.dev b.toNat) := settles_of_whenReady (pgmStatus · b.toNat) hready rfl
  refine ⟨fun hchk => answers_self_of_settles hrun (pgmStatus_of_bad hchk), fun hchk hmove => ⟨fun hst => ?done, fun hst => ?other⟩,
    fun m hchk hmove => ⟨fun hweights => ?weights, fun hweights => ?page⟩⟩
  case done => exact answers_self_of_settles hrun ((pgmStatus_of_none hchk hmove).trans (if_pos hst))
  case other =>
    rw [pgmStatus_of_none hchk hmove, if_neg hst] at hrun
    exact answers_of_sameWork hrun ⟨rfl, rfl, rfl, rfl, rfl, rfl, rfl⟩
  case weights =>
    rw [pgmStatus_of_move hchk hmove] at hrun
    dsimp only at hrun
    rw [if_pos hweights] at hrun
    exact hrun
  case page =>
    rw [pgmStatus_of_move hchk hmove] at hrun
    dsimp only at hrun
    rw [if_neg (by simp [hweights])] at hrun
    exact hrun

end Sys2Proof.Machine
end

section
/-! Random words for tiles (R50 to R52, R304, R311, R312): the obligation O46. -/

namespace Sys2Proof.Machine

/-! ### A request joins its pipe (R51, R304) -/

section Requests
variable {d : Device} {b : BitVec 256} {t : Option Nat}

/-- Requests in the two pipes. -/
def rnsHeld (d : Device) : Nat := d.rns.classT.length + d.rns.classC.length

theorem rnsCredits_eq_zero_iff : rnsCredits d = 0 ↔ 64 ≤ rnsHeld d := by
  unfold rnsCredits rnsHeld
  omega

/-- The request at the end of its pipe. -/
def rnsJoin (d : Device) (b : BitVec 256) (rstatus seed : Nat) : Device :=
  let j : RnsJob := { req := b, seed := seed, rstatus := rstatus }
  { d with rns := if Rns.cls b.toNat = 1 then { d.rns with classC := d.rns.classC ++ [j] } else { d.rns with classT := d.rns.classT ++ [j] } }

theorem rnsRequest_of_no_credit (h : 64 ≤ rnsHeld d) : rnsRequest d b t = d := if_pos (rnsCredits_eq_zero_iff.mpr h)

theorem rnsRequest_of_credit (h : rnsHeld d < 64)
    (ht : t = none ∨ Rns.cls b.toNat = 1 ∨ d.clk.tableBusy ≠ none) : rnsRequest d b t = rnsAccept d b := by
  have hcredit : rnsCredits d ≠ 0 := fun h0 => Nat.not_le.mpr h (rnsCredits_eq_zero_iff.mp h0)
  rcases ht with rfl | hcls | hbusy
  · simp [rnsRequest, hcredit]
  · cases t <;> simp [rnsRequest, hcredit, hcls]
  · cases t <;> simp [rnsRequest, hcredit, Option.isNone_iff_eq_none, hbusy]

theorem rnsRequest_of_bad_word {a : Nat} (h : rnsHeld d < 64) (hcls : Rns.cls b.toNat = 0) (hbusy : d.clk.tableBusy = none) :
    rnsRequest d b (some a) = rnsAccept (tableError d a) b := by
  have hcredit : rnsCredits d ≠ 0 := fun h0 => Nat.not_le.mpr h (rnsCredits_eq_zero_iff.mp h0)
  simp [rnsRequest, hcredit, hcls, hbusy]

/-- What the checks of R51 find in the request decides what joins. -/
theorem rnsAccept_of_refused {st k seed : Nat} (h : rnsCheck d b.toNat = (st, k, seed)) (hst : st ≠ 0) :
    rnsAccept d b = rnsJoin (portErr d k) b st seed := by
  simp only [rnsAccept, h, hst, if_false]
  rfl

theorem rnsAccept_of_passed {k seed : Nat} (h : rnsCheck d b.toNat = (0, k, seed)) : rnsAccept d b = rnsJoin d b 0 seed := by
  simp only [rnsAccept, h, if_true]
  rfl

/-- The request's form is that of R50. -/
def rnsFormOk (r : Nat) : Bool := chkOk r 32 && Rns.words r ≠ 0 && Rns.words r ≤ 4096 && Rns.rsvd r = 0

section Checks
variable {r i seed : Nat} {c : InFlight}

theorem rnsCheck_of_form (h : rnsFormOk r = false) : rnsCheck d r = (3, PERR_LGI_FORMAT, 0) := by
  refine if_pos ?_
  simp only [rnsFormOk, Bool.and_eq_false_iff, decide_eq_false_iff_not, Nat.not_le] at h
  simp only [Bool.or_eq_true, Bool.not_eq_true', decide_eq_true_eq]
  tauto

variable (hform : rnsFormOk r = true)
include hform

theorem rnsCheck_of_formed : rnsCheck d r = match byTag d (Rns.tag r) with
    | none => (2, PERR_LGI_STALE, 0)
    | some (_, c) =>
      if c.revoked || c.istate = .reserved then (2, PERR_LGI_STALE, 0)
      else match rnsSeed d c (Rns.entry r) with
        | none => (3, PERR_LGI_FORMAT, 0)
        | some seed => if Rns.cls r = 1 && rngClassOf d (Rns.part r) = 0 then (1, PERR_RNS_DENIED, 0) else (0, 0, seed) := by
  refine (if_neg ?_).trans rfl
  simp only [rnsFormOk, Bool.and_eq_true, decide_eq_true_eq] at hform
  simp [hform, Nat.not_lt.mpr hform.1.2]

theorem rnsCheck_of_unknown (htag : byTag d (Rns.tag r) = none) : rnsCheck d r = (2, PERR_LGI_STALE, 0) := by
  rw [rnsCheck_of_formed hform, htag]

theorem rnsCheck_of_revoked (htag : byTag d (Rns.tag r) = some (i, c)) (h : c.revoked = true ∨ c.istate = .reserved) :
    rnsCheck d r = (2, PERR_LGI_STALE, 0) := by
  rw [rnsCheck_of_formed hform, htag]
  exact if_pos (by simpa using h)

section Standing
variable (htag : byTag d (Rns.tag r) = some (i, c)) (hrevoked : c.revoked = false) (hreserved : c.istate ≠ .reserved)
include htag hrevoked hreserved

theorem rnsCheck_of_no_seed (hseed : rnsSeed d c (Rns.entry r) = none) : rnsCheck d r = (3, PERR_LGI_FORMAT, 0) := by
  rw [rnsCheck_of_formed hform, htag]
  simp [hrevoked, hreserved, hseed]

theorem rnsCheck_of_seed (hseed : rnsSeed d c (Rns.entry r) = some seed) : rnsCheck d r =
    if Rns.cls r = 1 && rngClassOf d (Rns.part r) = 0 then (1, PERR_RNS_DENIED, 0) else (0, 0, seed) := by
  rw [rnsCheck_of_formed hform, htag]
  simp [hrevoked, hreserved, hseed]

end Standing
end Checks

/-- Each refusal has its counter of Table 2.13. -/
theorem rnsCheck_counter (d : Device) (r : Nat) : (rnsCheck d r).2.1 < 256 := by
  cases hform : rnsFormOk r with
  | false =>
    rw [rnsCheck_of_form hform]
    decide
  | true =>
    rw [rnsCheck_of_formed hform]
    repeat' split
    all_goals
      dsimp only
      decide

/-! ### The table is generated again (R304) -/

theorem noteBadWord_rns (d : Device) (a : Nat) : (noteBadWord d a).rns = d.rns := by
  dsimp only [noteBadWord]
  split
  · rfl
  · split
    · unfold retireWord
      split <;> rfl
    · rfl

theorem tableError_rns (d : Device) (a : Nat) : (tableError d a).rns = d.rns := by
  show (noteBadWord (alertLog (bump (eccUe d a 0 0) Od.RNG_STATS 4) ALERT_RNG_TABLE_ERR a 0 0 0) a).rns = d.rns
  rw [noteBadWord_rns, alertLog_rns, bump_rns, eccUe, alertLog_rns, bump_rns]

/-- A request of class T joins its pipe, whatever its check; its entry of ALERT_CAUSE and the clock unit stay. -/
theorem rnsAccept_of_class_t (hcls : Rns.cls b.toNat = 0) : ∃ j : RnsJob, j.req = b ∧
    (rnsAccept d b).rns = { d.rns with classT := d.rns.classT ++ [j] } ∧ (rnsAccept d b).clk = d.clk ∧
    odGet (rnsAccept d b) Od.ALERT_CAUSE 0 = odGet d Od.ALERT_CAUSE 0 := by
  rcases hcheck : rnsCheck d b.toNat with ⟨st, k, seed⟩
  have hclass : Rns.cls b.toNat ≠ 1 := by omega
  by_cases hst : st = 0
  · subst hst
    rw [rnsAccept_of_passed hcheck]
    exact ⟨_, rfl, if_neg hclass, rfl, rfl⟩
  · have hcounter : k < 256 := (congrArg (·.2.1) hcheck).symm.trans_lt (rnsCheck_counter d _)
    rw [rnsAccept_of_refused hcheck hst]
    exact ⟨_, rfl, if_neg hclass, rfl, od_bump_ne d (odKey_ne_of_index (by decide) hcounter (by decide))⟩

end Requests

/-! ### The two pipes and the port (R52, R311, R312) -/

section Pipes
variable {d : Device} {k : Nat} {c : Bool} {j : RnsJob} {js : List RnsJob}

/-- The pipe of class C, or that of class T. -/
def Rns.pipe (p : Rns) (c : Bool) : List RnsJob := if c then p.classC else p.classT

/-- The class-C pipe has a beat ready in the SCLK. -/
def rnsReadyC (d : Device) (k : Nat) : Bool := !d.rns.classC.isEmpty && (d.rns.readyC || k % 4 = 0)

/-- The SCLK belongs to the class-C pipe. -/
def rnsTurnC (d : Device) (k : Nat) : Bool := rnsReadyC d k && (d.rns.classT.isEmpty || !d.rns.lastC)

/-- The slice in the SCLK, before its beat. -/
def rnsReadied (d : Device) (k : Nat) : Device := { d with rns := { d.rns with readyC := rnsReadyC d k } }

theorem rnsSclk_of_generating (h : d.clk.tableBusy ≠ none) : rnsSclk d k = d :=
  if_pos (by simp [Option.isSome_iff_ne_none, h])

theorem rnsSclk_of_empty (ht : d.rns.classT = []) (hc : d.rns.classC = []) : rnsSclk d k = d :=
  if_pos (by simp [ht, hc])

theorem rnsSclk_of_running (hbusy : d.clk.tableBusy = none) (hiso : d.clk.isoN = true)
    (hsome : d.rns.classT ≠ [] ∨ d.rns.classC ≠ []) : rnsSclk d k = sendBeat (rnsReadied d k) (rnsTurnC d k) := by
  have hempty : (d.rns.classT.isEmpty && d.rns.classC.isEmpty) = false := by simpa [Decidable.imp_iff_not_or] using hsome
  refine (if_neg (by simp [hbusy, hiso, hempty])).trans ?_
  show (if rnsTurnC d k then _ else _) = _
  cases rnsTurnC d k <;> rfl

theorem sendBeat_of_empty (h : d.rns.pipe c = []) : sendBeat d c = d := by
  cases c <;> simp_all [sendBeat, Rns.pipe]

/-- The port once the pipe's next beat has left. -/
def Rns.sent (p : Rns) (c : Bool) : Rns :=
  if c then { p with classC := popBeat p.classC, readyC := false, lastC := true } else { p with classT := popBeat p.classT, lastC := false }

theorem sendBeat_of_cons (h : d.rns.pipe c = j :: js) : sendBeat d c =
    { bumpBy (emit d (rnsBeat d j)) Od.RNG_STATS (ofBool c) j.wordsNow with rns := d.rns.sent c } := by
  cases c
  · have hpipe : d.rns.classT = j :: js := h
    simp only [sendBeat, hpipe, Bool.false_eq_true, if_false]
    rfl
  · have hpipe : d.rns.classC = j :: js := h
    simp only [sendBeat, hpipe, if_true]
    rfl

theorem Rns.sent_pipe (p : Rns) (c : Bool) : (p.sent c).pipe c = popBeat (p.pipe c) := by cases c <;> rfl
theorem Rns.sent_pipe_other (p : Rns) (c : Bool) : (p.sent c).pipe (!c) = p.pipe (!c) := by cases c <;> rfl
theorem Rns.sent_lastC (p : Rns) (c : Bool) : (p.sent c).lastC = c := by cases c <;> rfl

theorem rnsReadied_pipe (d : Device) (k : Nat) (c : Bool) : (rnsReadied d k).rns.pipe c = d.rns.pipe c := by cases c <;> rfl

/-! ### A beat -/

/-- Beats of the response. -/
def beatsOf (j : RnsJob) : Nat := if j.rstatus = 0 then (Rns.words j.req.toNat + 63) / 64 else j.sent + 1

theorem beats_eq (j : RnsJob) : j.beats = beatsOf j := rfl

/-- Word `k` of the response: zero where it was refused or revoked, and past WORDS. -/
def rnsWordOf (d : Device) (j : RnsJob) (k : Nat) : BitVec 64 :=
  let r := j.req.toNat
  if j.rstatus ≠ 0 ∨ Rns.words r ≤ k then 0 else
    BitVec.ofNat 64 (randWord (odGet d Od.TABLE_KEY 0) (Rns.cls r) j.seed 0x10 (Rns.position r) (Rns.draw r) (Rns.elementBase r + k))

theorem rnsBeat_eq (d : Device) (j : RnsJob) : rnsBeat d j =
    .rnsBeat (Rns.tag j.req.toNat) (Rns.entry j.req.toNat) (decide (beatsOf j ≤ j.sent + 1)) j.rstatus
      ((List.range 64).map (fun i => rnsWordOf d j (64 * j.sent + i))) := by
  unfold rnsBeat
  rw [beats_eq]
  by_cases hst : j.rstatus = 0
  · simp [hst, rnsWordOf, rnsWord]
  · simp [hst, rnsWordOf, List.map_const']

/-- The key of the table is no matter of the pipes. -/
theorem rnsWordOf_readied (d : Device) (k : Nat) (j : RnsJob) : rnsWordOf (rnsReadied d k) j = rnsWordOf d j := by
  have hkey : odGet (rnsReadied d k) Od.TABLE_KEY 0 = odGet d Od.TABLE_KEY 0 := rfl
  funext i
  simp only [rnsWordOf, hkey]

/-- A SCLK whose pipe holds a response sends its next beat. -/
theorem rnsSclk_of_cons (hbusy : d.clk.tableBusy = none) (hiso : d.clk.isoN = true)
    (hpipe : d.rns.pipe (rnsTurnC d k) = j :: js) : rnsSclk d k =
      { bumpBy (emit (rnsReadied d k) (rnsBeat (rnsReadied d k) j)) Od.RNG_STATS (ofBool (rnsTurnC d k)) j.wordsNow with
        rns := (rnsReadied d k).rns.sent (rnsTurnC d k) } := by
  have hsome : d.rns.classT ≠ [] ∨ d.rns.classC ≠ [] := by
    cases hturn : rnsTurnC d k <;> simp_all [Rns.pipe]
  rw [rnsSclk_of_running hbusy hiso hsome]
  exact sendBeat_of_cons ((rnsReadied_pipe ..).trans hpipe)

/-- A beat leaves the rest of the slice as it is. -/
def BeatOnly (d e : Device) : Prop := e = { d with od := e.od, snaps := e.snaps, out := e.out, rns := e.rns }

theorem rnsSclk_frame (hbusy : d.clk.tableBusy = none) (hiso : d.clk.isoN = true)
    (hpipe : d.rns.pipe (rnsTurnC d k) = j :: js) : BeatOnly d (rnsSclk d k) := by
  have hcounted (e : Device) (i n : Nat) : bumpBy e Od.RNG_STATS i n =
      { e with od := (bumpBy e Od.RNG_STATS i n).od, snaps := (bumpBy e Od.RNG_STATS i n).snaps } := rfl
  rw [rnsSclk_of_cons hbusy hiso hpipe, BeatOnly, hcounted]
  rfl

end Pipes

/-- Settles O46: a request joins its pipe as its check says (`rnsAccept_of_refused`, `rnsAccept_of_passed`), a SCLK sends one
beat of one pipe (`sendBeat_of_cons`), and a revoked tag's responses take RSTATUS STALE. -/
theorem randomRequestsAreServed : Obligations.RandomRequestsAreServed := by
  refine ⟨fun s b hz hready => ?requests, fun d k => ⟨rnsSclk_of_generating, fun hbusy hiso => ?beats⟩, fun d tag => ?revoked⟩
  case requests =>
    intro r held formOk joins
    have hrun : exec (.rnsRequest b hz) s = next s (rnsRequest s.dev b hz.table) :=
      answers_of_whenReady (fun d => rnsRequest d b hz.table) hready rfl
    refine ⟨fun hfull => ?full, fun a hfree htable hcls hbusy => ?again, fun hfree htable => ?joins⟩
    case full => exact hrun.trans (congrArg (next s) (rnsRequest_of_no_credit hfull))
    case again =>
      rw [htable, rnsRequest_of_bad_word hfree hcls hbusy] at hrun
      obtain ⟨j, hreq, hrns, hclk, hcause⟩ := rnsAccept_of_class_t (d := tableError s.dev a) hcls
      refine ⟨_, hrun, ?_, ?_, j, hreq, ?_⟩
      · rw [hclk, tableError_tableBusy]
      · rw [hcause, tableError_bit_table]
      · rw [hrns, tableError_rns]
    case joins =>
      rw [rnsRequest_of_credit hfree htable] at hrun
      have refused {st n seed : Nat} (hcheck : rnsCheck s.dev r = (st, n, seed)) (hst : st ≠ 0) : joins (portErr s.dev n) st seed :=
        hrun.trans (congrArg (next s) (rnsAccept_of_refused hcheck hst))
      refine ⟨fun hform => refused (rnsCheck_of_form hform) (by decide),
        fun hform htag => refused (rnsCheck_of_unknown hform htag) (by decide),
        fun i c hform htag => ⟨fun hgone => refused (rnsCheck_of_revoked hform htag hgone) (by decide),
          fun hrevoked hreserved => ⟨fun hseed => refused (rnsCheck_of_no_seed hform htag hrevoked hreserved hseed) (by decide),
            fun seed hseed => ⟨fun hcls hclass => ?denied, fun hcls => ?passed⟩⟩⟩⟩
      case denied =>
        refine refused ((rnsCheck_of_seed hform htag hrevoked hreserved hseed).trans (if_pos ?_)) (by decide)
        simp [hcls, rngClassOf, hclass]
      case passed =>
        have hcheck := (rnsCheck_of_seed hform htag hrevoked hreserved hseed).trans (if_neg (by
          rcases hcls with hcls | hodd
          · simp [hcls]
          · simp [rngClassOf, hodd]))
        exact hrun.trans (congrArg (next s) (rnsAccept_of_passed hcheck))
  case beats =>
    intro turnC
    refine ⟨fun ht hturn => ?none, fun j js hpipe => ?one, fun ht hc hready => ?alternate⟩
    case none =>
      by_cases hc : d.rns.classC = []
      · rw [rnsSclk_of_empty ht hc]
        exact ⟨rfl, rfl⟩
      · have hturn' : rnsTurnC d k = false := hturn
        have hempty : (rnsReadied d k).rns.pipe false = [] := ht
        rw [rnsSclk_of_running hbusy hiso (.inr hc), hturn', sendBeat_of_empty hempty]
        exact ⟨rfl, rfl⟩
    case one =>
      have hsent := rnsSclk_of_cons hbusy hiso (hpipe : d.rns.pipe (rnsTurnC d k) = j :: js)
      intro r nb word e
      have hrns : e.rns = (rnsReadied d k).rns.sent (rnsTurnC d k) := congrArg Device.rns hsent
      refine ⟨?_, ?_, ?_, ?_, ?_⟩
      · have hout : e.out = d.out ++ [rnsBeat (rnsReadied d k) j] := congrArg Device.out hsent
        have hbeat := rnsBeat_eq (rnsReadied d k) j
        rw [rnsWordOf_readied] at hbeat
        exact hout.trans (congrArg (d.out ++ [·]) hbeat)
      · show e.rns.pipe (rnsTurnC d k) = popBeat (j :: js)
        rw [hrns, Rns.sent_pipe, rnsReadied_pipe]
        exact congrArg popBeat hpipe
      · have h := Rns.sent_pipe_other (rnsReadied d k).rns (rnsTurnC d k)
        rw [← hrns, rnsReadied_pipe] at h
        revert h
        show _ → (if rnsTurnC d k then _ else _) = (if rnsTurnC d k then _ else _)
        cases rnsTurnC d k <;> exact id
      · rw [hrns, Rns.sent_lastC]
        rfl
      · exact rnsSclk_frame hbusy hiso hpipe
    case alternate =>
      have hturn : rnsTurnC d k = !d.rns.lastC := by
        simp [rnsTurnC, rnsReadyC, List.isEmpty_eq_false_iff.mpr ht, List.isEmpty_eq_false_iff.mpr hc, hready]
      obtain ⟨j, js, hpipe⟩ : ∃ j js, d.rns.pipe (rnsTurnC d k) = j :: js := by
        cases rnsTurnC d k
        · exact List.exists_cons_of_ne_nil ht
        · exact List.exists_cons_of_ne_nil hc
      rw [rnsSclk_of_cons hbusy hiso hpipe, ← hturn]
      exact Rns.sent_lastC _ _
  case revoked =>
    intro stopped
    have hstopped (j : RnsJob) :
        (if (decide (rnsTag j.req = tag) && decide (j.rstatus = 0)) = true then { j with rstatus := 2 } else j) = stopped j := by
      simp only [Bool.and_eq_true, decide_eq_true_eq]
      rfl
    have hrns : (revokeRns d tag).rns = { d.rns with
        classT := d.rns.classT.map fun j => if (decide (rnsTag j.req = tag) && decide (j.rstatus = 0)) = true then { j with rstatus := 2 } else j
        classC := d.rns.classC.map fun j => if (decide (rnsTag j.req = tag) && decide (j.rstatus = 0)) = true then { j with rstatus := 2 } else j } := rfl
    simpa only [hstopped] using hrns

end Sys2Proof.Machine
end

section
/-! MSI_MASK (R65), the entries of the trace and what leaves of it (R436, R437): the obligation O16. -/

namespace Sys2Proof.Machine

section Trace
variable {d : Device} {v : Nat} {r : BitVec 256}

/-- The slice once MSI_MASK holds `v`: each pending vector whose mask bit that clears is sent. -/
def msiMaskWritten (d : Device) (v : Nat) : Device :=
  ((List.range 256).filter (fun i => bit (odGet d Od.MSI_MASK 0) i && !bit v i)).foldl sendPending (odSet d Od.MSI_MASK 0 v)

theorem effMsiMask_eq (d : Device) (v : Nat) : effMsiMask d v = (msiMaskWritten d v, some .ok) := rfl

/-- The slice once TRACE_TAIL has been written with `v` (R437). -/
def traceTailWritten (d : Device) (v : Nat) : Device :=
  if seqAfter d.trace.tail v || seqAfter v d.trace.head then d else { d with trace := { d.trace with tail := v } }

theorem effTraceTail_eq (d : Device) (v : Nat) : effTraceTail d v = (traceTailWritten d v, some .ok) := by
  unfold effTraceTail traceTailWritten earlier
  split <;> rfl

/-- The slice once TRACE_HOST_BASE holds `v`: the counts start at 0. -/
def traceBaseWritten (d : Device) (v : Nat) : Device :=
  (dropExports (odSet d Od.TRACE_HOST_BASE 0 v)).modTrace (fun t => { t with head := 0, tail := 0, issued := 0, lost := [] })

theorem effTraceBase_eq (d : Device) (v : Nat) : effTraceBase d v = (traceBaseWritten d v, some .ok) := rfl

/-- Exports that are outstanding keep their place on the port. -/
theorem traceBaseWritten_outstanding (d : Device) (v : Nat) :
    (traceBaseWritten d v).fabi.outstanding.length = d.fabi.outstanding.length :=
  List.length_map _

/-! ### Trace records to the host (R436, R437) -/

theorem exportReady_iff : exportReady d = true ↔ odGet d Od.TRACE_HOST_BASE 0 ≠ 0 ∧
    seqDiff ((d.trace.head + d.trace.issued) % 2 ^ 32) d.trace.tail < 2 ^ odGet d Od.TRACE_HOST_LOG2 0 ∧
    d.fabi.outstanding.length < 448 := by
  simp only [exportReady, Bool.and_eq_true, decide_eq_true_eq, and_assoc]
  rfl

/-- The slice whose record `r` leaves for its place in the host ring. -/
def traceExported (d : Device) (r : BitVec 256) : Device :=
  let pos := (d.trace.head + d.trace.issued) % 2 ^ 32
  fabiWrite { d with trace := { d.trace with issued := d.trace.issued + 1 } } (.traceExport pos)
    (odGet d Od.TRACE_HOST_BASE 0 + 32 * (pos % 2 ^ odGet d Od.TRACE_HOST_LOG2 0)) 32 r.toNat

theorem traceExport_of_ready (hrecord : d.trace.ring[d.trace.issued]? = some r) (hready : exportReady d = true) :
    traceExport d = traceExported d r := by
  simp only [traceExport, hrecord, hready, Bool.not_true, Bool.false_eq_true, if_false]
  rfl

theorem traceExport_of_none (h : d.trace.ring.length ≤ d.trace.issued) : traceExport d = d := by
  simp only [traceExport, List.getElem?_eq_none h]

theorem traceExport_of_not_ready (h : exportReady d = false) : traceExport d = d := by
  cases hrecord : d.trace.ring[d.trace.issued]? <;> simp [traceExport, hrecord, h]

end Trace

/-- Settles O16: the entries by the effect of each, the trace records by `traceExport_of_ready` and its siblings. -/
theorem traceIsKeptAndExported : Obligations.TraceIsKeptAndExported := by
  refine ⟨fun s path d => ⟨fun v htaken => ?mask, fun v hv htaken => ?tail,
    fun v hv htaken => ⟨traceBaseWritten d v, ?base, rfl, rfl, rfl, traceBaseWritten_outstanding d v⟩⟩, fun s hready => ?exports⟩
  case mask => exact answers_of_entry_ok rfl htaken (ofLe_leBytes_kept (k := 256) rfl v.isLt v.isLt) (effMsiMask_eq d v.toNat)
  case tail => exact answers_of_entry_ok rfl htaken (ofLe_leBytes_kept (k := 256) rfl hv (by omega)) (effTraceTail_eq d v)
  case base => exact answers_of_entry_ok rfl htaken (ofLe_leBytes_kept (k := 256) rfl hv (by omega)) (effTraceBase_eq d v)
  case exports =>
    have hrun : Answers .traceExport s (traceExport s.dev) := answers_of_whenReady traceExport hready rfl
    refine ⟨fun r hrecord hbase => ?_, fun hrests => ?_⟩
    · intro pos hroom hport
      rwa [traceExport_of_ready hrecord (exportReady_iff.mpr ⟨hbase, hroom, hport⟩)] at hrun
    · rcases hrests with hnone | hrests
      · rwa [traceExport_of_none hnone] at hrun
      · have hnot : exportReady s.dev = false := by
          refine Bool.eq_false_iff.mpr fun hok => ?_
          obtain ⟨hbase, hroom, hport⟩ := exportReady_iff.mp hok
          rcases hrests with h | h | h
          · exact hbase h
          · exact Nat.not_lt.mpr h hport
          · exact Nat.not_lt.mpr h hroom
        rwa [traceExport_of_not_ready hnot] at hrun

end Sys2Proof.Machine
end

section
/-! Doorbells (R35, R37, R75 to R77): the obligation O4. -/

namespace Sys2Proof.Machine

/-! ### Reads that start (R38, R77) -/

section Reads
variable {d : Device} {p k n : Nat} {x : FabiReq}

/-- Accesses on the FAB_I port and those that it holds back. -/
def portAccesses (d : Device) : List FabiReq := d.fabi.outstanding ++ d.fabi.waiting

theorem mem_portAccesses_fabiRead (kind : FabiKind) (addr len : Nat) (h : x ∈ portAccesses d) :
    x ∈ portAccesses (fabiRead d kind addr len) := by
  have hold : x ∈ d.fabi.outstanding ∨ x ∈ d.fabi.waiting := List.mem_append.mp h
  unfold fabiRead fabiNew fabiIssue
  split
  · rcases hold with h | h <;> simp [portAccesses, fabiOut, h]
  · rcases hold with h | h <;> simp [portAccesses, h]

/-- A read that starts goes out, or waits for the port. -/
theorem exists_access_fabiRead (d : Device) (kind : FabiKind) (addr len : Nat) : ∃ x ∈ portAccesses (fabiRead d kind addr len),
    x.kind = kind ∧ x.write = false ∧ x.len = len ∧ x.addr = addr % 2 ^ 64 := by
  unfold fabiRead fabiNew fabiIssue
  split
  · exact ⟨_, List.mem_append_left _ (List.mem_append_right _ (List.mem_singleton_self _)), rfl, rfl, rfl, rfl⟩
  · exact ⟨_, List.mem_append_right _ (List.mem_append_right _ (List.mem_singleton_self _)), rfl, rfl, rfl, rfl⟩

theorem mem_portAccesses_sqFetch (n : Nat) (h : x ∈ portAccesses d) : x ∈ portAccesses (sqFetch d p n) := by
  induction n generalizing d with
  | zero => exact h
  | succ n ih =>
    unfold sqFetch
    dsimp only
    split
    · exact ih (mem_portAccesses_fabiRead _ _ _ h)
    · exact h

/-- The next covered record is read where fewer than 8 are read ahead. -/
theorem exists_access_sqFetch (hnext : (d.ring p).fetchNext = k) (hcovered : k ≠ (d.ring p).sqTail)
    (hahead : seqDiff k (d.ring p).sqHead < 8) (herr : (d.ring p).errSq = false) :
    ∃ x ∈ portAccesses (sqFetch d p (n + 1)), x.kind = .sqRead p k ∧ x.write = false ∧ x.len = 128 ∧
      x.addr = (odGet d Od.SQ_BASE p + 128 * (k % 2 ^ odGet d Od.SQ_LOG2 p)) % 2 ^ 64 := by
  have hmore : ((d.ring p).fetchNext ≠ (d.ring p).sqTail && seqDiff (d.ring p).fetchNext (d.ring p).sqHead < 8 &&
      !(d.ring p).errSq) = true := by simp [hnext, hcovered, hahead, herr]
  obtain ⟨x, hmem, hx⟩ := exists_access_fabiRead (d.modRing p (fun r => { r with fetchNext := ((d.ring p).fetchNext + 1) % 2 ^ 32 }))
    (.sqRead p (d.ring p).fetchNext) (odGet d Od.SQ_BASE p + 128 * ((d.ring p).fetchNext % sqSize d p)) 128
  rw [sqFetch, if_pos hmore]
  rw [hnext] at hx hmem ⊢
  exact ⟨x, mem_portAccesses_sqFetch n hmem, hx⟩

end Reads

/-! ### What a doorbell write meets before its own tests (R35, R37, R76) -/

section Doorbells
variable {d : Device} {p v : Nat} {f : Device → Device}

theorem doorbell_of_early (hpresent : fyPresent d = true) (hready : fyReady d = false) :
    doorbell d p f = bump d Od.PORT_ERR_COUNTS 0x0A := by
  rw [doorbell, whenPresent_true hpresent, hready]
  rfl

theorem doorbell_of_not_owned (hpresent : fyPresent d = true) (hready : fyReady d = true) (howned : ringOwned d p = false) :
    doorbell d p f = emit (bump d Od.PORT_ERR_COUNTS 0x01) (.fabt true 0) := by
  rw [doorbell, whenPresent_true hpresent, hready, howned]
  rfl

theorem doorbell_of_disabled (hpresent : fyPresent d = true) (hready : fyReady d = true) (howned : ringOwned d p = true)
    (henabled : ringEnabled d p = false) : doorbell d p f = doorbellErr d p := by
  rw [doorbell, whenPresent_true hpresent, hready, howned, henabled]
  rfl

theorem doorbell_of_enabled (hpresent : fyPresent d = true) (hready : fyReady d = true) (howned : ringOwned d p = true)
    (henabled : ringEnabled d p = true) : doorbell d p f = f d := by
  rw [doorbell, whenPresent_true hpresent, hready, howned, henabled]
  rfl

/-! ### SQ_TAIL and CQ_HEAD (R75, R76, R90) -/

theorem sqTailOk_iff : sqTailOk d p v = true ↔ seqDiff v (d.ring p).sqHead ≤ 2 ^ odGet d Od.SQ_LOG2 p ∧
    seqAfter (d.ring p).sqTail v = false := by
  simp only [sqTailOk, earlier, Bool.and_eq_true, decide_eq_true_eq, Bool.not_eq_true']
  rfl

theorem cqHeadOk_iff : cqHeadOk d p v = true ↔ seqAfter (d.ring p).cqHead v = false ∧ seqAfter v (d.ring p).cqTail = false := by
  simp [cqHeadOk, earlier]

/-- The slice once CQ_HEAD has taken the count. -/
def cqHeadTaken (d : Device) (p v : Nat) : Device := unstall (noteFull (d.modRing p (fun r => { r with cqHead := v })) p) p

theorem unstall_eq (d : Device) (p : Nat) : unstall d p = { d with rings := (unstall d p).rings } := by
  unfold unstall
  split <;> rfl

theorem unstall_ring_ne {q : Nat} (h : q ≠ p) : (unstall d p).ring q = d.ring q := by
  unfold unstall
  split
  · exact d.modRing_ring_ne _ h
  · rfl

/-- A ring that has emptied to half is not STALLED. -/
theorem unstall_ring_same (d : Device) (p : Nat) : ∃ stalled, (unstall d p).ring p = { d.ring p with stalled := stalled } ∧
    (seqDiff (d.ring p).cqTail (d.ring p).cqHead ≤ cqSize d p / 2 → stalled = false) := by
  unfold unstall
  split
  · exact ⟨false, d.modRing_ring_same .., fun _ => rfl⟩
  · next hmore => exact ⟨_, rfl, fun h => absurd h hmore⟩

theorem cqHeadTaken_eq (d : Device) (p v : Nat) : cqHeadTaken d p v = { d with rings := (cqHeadTaken d p v).rings } :=
  (unstall_eq ..).trans rfl

theorem cqHeadTaken_ring_ne {q : Nat} (h : q ≠ p) : (cqHeadTaken d p v).ring q = d.ring q := by
  rw [cqHeadTaken, unstall_ring_ne h, noteFull, Device.modRing_ring_ne _ _ h, Device.modRing_ring_ne _ _ h]

theorem cqHeadTaken_ring_same (d : Device) (p v : Nat) : ∃ since stalled,
    (cqHeadTaken d p v).ring p = { d.ring p with cqHead := v, fullSince := since, stalled := stalled } ∧
    (seqDiff (d.ring p).cqTail v ≤ 2 ^ odGet d Od.CQ_LOG2 p / 2 → stalled = false) := by
  obtain ⟨stalled, hring, hclear⟩ := unstall_ring_same (noteFull (d.modRing p (fun r => { r with cqHead := v })) p) p
  simp only [noteFull, Device.modRing_ring_same, cqSize, odGet_modRing] at hring hclear
  exact ⟨_, stalled, hring, hclear⟩

end Doorbells

/-- Settles O4: what a doorbell write meets first is `doorbell_of_early` and its siblings; an accepted SQ_TAIL reads ahead
(`exists_access_sqFetch`), and an accepted CQ_HEAD frees places of its ring (`cqHeadTaken_ring_same`). -/
theorem doorbellsMoveRingCounts : Obligations.DoorbellsMoveRingCounts := by
  refine ⟨fun s p v hready hpresent howned henabled => ?enabled, fun s p v i hi hpresent => ?none⟩
  case enabled =>
    intro r
    have htail : exec (.sqTail p v) s = next s (if sqTailOk s.dev p v
        then sqFetch (s.dev.modRing p (fun r => { r with sqTail := v })) p 8 else doorbellErr s.dev p) :=
      congrArg (next s) (doorbell_of_enabled hpresent hready howned henabled)
    have hhead : exec (.cqHead p v) s = next s (if cqHeadOk s.dev p v then cqHeadTaken s.dev p v else doorbellErr s.dev p) :=
      congrArg (next s) (doorbell_of_enabled hpresent hready howned henabled)
    refine ⟨fun hroom hlater => ?tail, fun hbad => ?badTail, fun hlater hwritten => ?head, fun hbad => ?badHead⟩
    case tail =>
      rw [if_pos (sqTailOk_iff.mpr ⟨hroom, hlater⟩)] at htail
      obtain ⟨k, hring⟩ := sqFetch_ring_same (s.dev.modRing p (fun r => { r with sqTail := v })) p 8
      rw [Device.modRing_ring_same] at hring
      have hmoved := s.dev.modRing_ring_same p (fun r => { r with sqTail := v })
      refine ⟨_, htail, rfl, rfl, fun k hnext hcovered hahead herr => ?_, (sqFetch_eq ..).trans rfl, hring ▸ rfl, hring ▸ rfl,
        hring ▸ rfl, hring ▸ rfl, hring ▸ rfl, hring ▸ rfl, fun q hq => ?_⟩
      · have hread := exists_access_sqFetch (n := 7) (d := s.dev.modRing p (fun r => { r with sqTail := v }))
          (p := p) (k := k) (by rwa [hmoved]) (by rwa [hmoved]) (by rwa [hmoved]) (by rwa [hmoved])
        simp only [odGet_modRing] at hread
        exact hread
      · rw [sqFetch_ring_ne _ _ hq, Device.modRing_ring_ne _ _ hq]
    case badTail => exact htail.trans (congrArg (next s) (if_neg fun hok => hbad (sqTailOk_iff.mp hok)))
    case head =>
      rw [if_pos (cqHeadOk_iff.mpr ⟨hlater, hwritten⟩)] at hhead
      obtain ⟨since, stalled, hring, hclear⟩ := cqHeadTaken_ring_same s.dev p v
      exact ⟨_, hhead, rfl, cqHeadTaken_eq .., hring ▸ rfl, hring ▸ rfl, hring ▸ rfl, hring ▸ hclear, fun q hq => cqHeadTaken_ring_ne hq⟩
    case badHead => exact hhead.trans (congrArg (next s) (if_neg fun hok => hbad (cqHeadOk_iff.mp hok)))
  case none =>
    have hrun : ∃ f, exec i s = next s (doorbell s.dev p f) := by rcases hi with rfl | rfl <;> exact ⟨_, rfl⟩
    obtain ⟨f, hrun⟩ := hrun
    exact ⟨fun hready => hrun.trans (congrArg (next s) (doorbell_of_early hpresent hready)),
      fun hready howned => hrun.trans (congrArg (next s) (doorbell_of_not_owned hpresent hready howned)),
      fun hready howned henabled => hrun.trans (congrArg (next s) (doorbell_of_disabled hpresent hready howned henabled))⟩

end Sys2Proof.Machine
end

section
/-! Accesses on FAB_T, refused ones and those to the mailbox's registers (R33, R35, R37, R445, R448, R452): the obligation O5. -/

namespace Sys2Proof.Machine

section Fabt
variable {d : Device} {a : FabtAccess} {c : Nat}

/-- The access lies in the registers of the mailbox (Table 18.3). -/
def toMailbox (a : FabtAccess) : Bool := 0x100000 ≤ a.offset && a.offset < 0x101000

theorem toMailbox_of_outside (h : a.offset < 0x100000 ∨ 0x101000 ≤ a.offset) : toMailbox a = false := by
  simp only [toMailbox, Bool.and_eq_false_iff, decide_eq_false_iff_not]
  omega

theorem toMailbox_of_inside (hlow : 0x100000 ≤ a.offset) (hhigh : a.offset < 0x101000) : toMailbox a = true := by
  simp [toMailbox, hlow, hhigh]

theorem fabtAccess_eq (d : Device) (a : FabtAccess) : fabtAccess d a = if toMailbox a && (fabtCase d a).isNone
    then whenPresent d (fun d => mbRegister d (a.offset - 0x100000) a.size a.write a.value.toNat) else fabtRefused d a := rfl

theorem fabtAccess_of_mailbox (hpresent : fyPresent d = true) (hinside : toMailbox a = true) (hcase : fabtCase d a = none) :
    fabtAccess d a = mbRegister d (a.offset - 0x100000) a.size a.write a.value.toNat := by
  simp only [fabtAccess_eq, hinside, hcase, Option.isNone_none, Bool.and_self, if_true, whenPresent_true hpresent]

/-- Refused, or outside the mailbox. -/
theorem fabtAccess_of_elsewhere (h : toMailbox a = false ∨ fabtCase d a ≠ none) : fabtAccess d a = fabtRefused d a := by
  rw [fabtAccess_eq]
  rcases h with h | h
  · simp [h]
  · simp [h]

theorem fabtRefused_of_early (hpresent : fyPresent d = true) (hbell : isDoorbell a = true) (hready : fyReady d = false) :
    fabtRefused d a = bump d Od.PORT_ERR_COUNTS 0x0A := by
  rw [fabtRefused, whenPresent_true hpresent, hbell, hready]
  rfl

section Served
variable (hpresent : fyPresent d = true) (hserved : isDoorbell a = false ∨ fyReady d = true)
include hpresent hserved

theorem fabtRefused_of_case (hcase : fabtCase d a = some c) : fabtRefused d a = emit (bump d Od.PORT_ERR_COUNTS c) (.fabt true 0) := by
  rw [fabtRefused, whenPresent_true hpresent, hcase]
  exact if_neg (by rcases hserved with h | h <;> simp [h])

theorem fabtRefused_of_permitted (hcase : fabtCase d a = none) : fabtRefused d a = d := by
  rw [fabtRefused, whenPresent_true hpresent, hcase]
  exact if_neg (by rcases hserved with h | h <;> simp [h])

end Served

/-! ### The registers of the mailbox (R445, R448) -/

section Registers
variable {off size v : Nat}

theorem mbRegister_of_read : mbRegister d off size false v = emit d (.fabt false (mbLoad d.mgmt off size)) := rfl

theorem mbRegister_of_busy (hbusy : d.mgmt.busy = true) :
    mbRegister d off size true v = { d with mgmt := { d.mgmt with overrun := true } } := by
  rw [← mbOverrun_of_busy hbusy, mbRegister, hbusy]
  rfl

theorem mbRegister_of_store (hfree : d.mgmt.busy = false) (hoff : off ≠ 0x010) :
    mbRegister d off size true v = { d with mgmt := mbStore d.mgmt off size v } := by
  rw [mbRegister, hfree, if_neg (by simp), if_neg (by simp), if_neg hoff]
  rfl

theorem mbRegister_of_go (hfree : d.mgmt.busy = false) :
    mbRegister d 0x010 size true v = if v % 2 ^ 32 = 1 then mbRun (mbGo d) else d := by
  rw [mbRegister, hfree]
  rfl

end Registers

/-! ### Which accesses are refused (R35, Table 2.13) -/

theorem isDoorbell_of_bell (hoff : a.offset < 0x100000) (hwrite : a.write = true) (hsize : a.size = 4)
    (hbell : a.offset % 4096 = 0 ∨ a.offset % 4096 = 4) : isDoorbell a = true := by
  simp [isDoorbell, hoff, hwrite, hsize, hbell]

theorem fabtCase_of_foreign_pair (hoff : a.offset < 0x100000) (howned : ringOwned d (a.offset / 4096) = false) :
    fabtCase d a = some 0x01 := by
  simp [fabtCase, hoff, howned]

theorem fabtCase_of_window_write (hlow : 0x400000 ≤ a.offset) (hhigh : a.offset < 0x800000) (hwrite : a.write = true) :
    fabtCase d a = some 0x01 := by
  have h1 : ¬ a.offset < 0x100000 := by omega
  have h2 : ¬ a.offset < 0x101000 := by omega
  have h3 : ¬ a.offset < 0x120000 := by omega
  simp [fabtCase, h1, h2, h3, hlow, hhigh, hwrite]

theorem fabtCase_of_foreign_transfer (hlow : 0x800000 ≤ a.offset) (hhigh : a.offset < 0x900000) (hwrite : a.write = true)
    (hsource : a.fromSlice = false) : fabtCase d a = some 0x02 := by
  have h1 : ¬ a.offset < 0x100000 := by omega
  have h2 : ¬ a.offset < 0x101000 := by omega
  have h3 : ¬ a.offset < 0x120000 := by omega
  have h4 : ¬ a.offset < 0x800000 := by omega
  simp [fabtCase, h1, h2, h3, h4, hlow, hhigh, hwrite, hsource]

theorem fabtCase_of_read_only (hoff : a.offset = 0x114008) (hwrite : a.write = true) (hsize : a.size = 4) :
    fabtCase d a = some 0x09 := by
  have hentry : directAt (a.offset - 0x110000) = some (Od.TRACE_HEAD, 0, 4, true, false) := by
    rw [show a.offset - 0x110000 = 0x4008 by omega]
    decide
  have h1 : ¬ a.offset < 0x100000 := by omega
  have h2 : ¬ a.offset < 0x101000 := by omega
  have h3 : 0x110000 ≤ a.offset ∧ a.offset < 0x120000 := by omega
  simp [fabtCase, h1, h2, h3, hentry, hwrite, hsize]

end Fabt

/-! ### Stores to directly mapped entries (R452) -/

theorem entryWrite_of_direct_refused {d : Device} {idx sub : Nat} {data : List Byte} {st : Status} (hpresent : fyPresent d = true)
    (hdirect : directlyWritten idx = true) (hcheck : writeCheck d .direct idx sub data.length (ofLe data) = some st)
    (hst : st ≠ .ok) : entryWrite d .direct idx sub data = directRefuse d idx sub st := by
  simp [entryWrite, pathWrite, whenPresent_true hpresent, acceptWrite, hdirect, tookTurn, performWrite, countMasked, hcheck,
    respondWrite, hst]

/-! ### Port errors (R33, R444) -/

theorem odKey_ne_of_ne {i j i' j' : Nat} (hj : j < 256) (hj' : j' < 256) (h : (i, j) ≠ (i', j')) : odKey i' j' ≠ odKey i j := by
  simp only [ne_eq, Prod.mk.injEq, odKey] at h ⊢
  omega

/-- Settles O5: an access runs to `fabtAccess`, which refuses it (`fabtRefused_of_case`) or acts on a register of the mailbox
(`mbRegister_of_read` and its siblings); a store that is refused runs to `directRefuse`. -/
theorem refusedAccessesOnlyCount : Obligations.RefusedAccessesOnlyCount := by
  refine ⟨fun s hpresent => ⟨fun a c hcase hserved => ?refused, fun a hcase hlow hhigh => ?mailbox,
    fun a hoff hwrite hsize hbell hready => ?early, fun a hcase hserved hoff => ?permitted,
    fun a hoff _ _ _ howned => fabtCase_of_foreign_pair hoff howned,
    fun a hlow hhigh hwrite => fabtCase_of_window_write hlow hhigh hwrite,
    fun a hlow hhigh hwrite hsource => fabtCase_of_foreign_transfer hlow hhigh hwrite hsource,
    fun a hoff hwrite hsize => fabtCase_of_read_only hoff hwrite hsize, fun idx sub data st hdirect hst hcheck => ?direct⟩,
    fun d k hk hwf => ⟨od_bump_same d hwf, fun i j hj hne => od_bump_ne d (odKey_ne_of_ne hj hk hne), rfl⟩⟩
  case refused =>
    have hrun : Settles (.fabtAccessRefused a) s (fabtAccess s.dev a) := rfl
    rw [fabtAccess_of_elsewhere (.inr (by simp [hcase])), fabtRefused_of_case hpresent hserved hcase] at hrun
    exact answers_of_sameWork hrun ⟨rfl, rfl, rfl, rfl, rfl, rfl, rfl⟩
  case mailbox =>
    have hrun : Settles (.fabtAccessRefused a) s (fabtAccess s.dev a) := rfl
    rw [fabtAccess_of_mailbox hpresent (toMailbox_of_inside hlow hhigh) hcase] at hrun
    refine ⟨fun hread => ?_, fun hwrite hbusy => ?_, fun hwrite hfree hoff => ?_, fun hwrite hfree hoff => ?_⟩
    · rw [hread, mbRegister_of_read] at hrun
      exact answers_of_sameWork hrun ⟨rfl, rfl, rfl, rfl, rfl, rfl, rfl⟩
    · rw [hwrite, mbRegister_of_busy hbusy] at hrun
      exact answers_of_sameWork hrun ⟨rfl, rfl, rfl, rfl, rfl, rfl, rfl⟩
    · rw [hwrite, mbRegister_of_store hfree (by omega)] at hrun
      exact answers_of_sameWork hrun ⟨rfl, rfl, rfl, rfl, rfl, rfl, rfl⟩
    · rw [hwrite, hoff, mbRegister_of_go hfree] at hrun
      exact ⟨fun hgo => by rwa [if_pos hgo] at hrun, fun hgo => answers_self_of_settles hrun (if_neg hgo)⟩
  case early =>
    have hrun : Settles (.fabtAccessRefused a) s (fabtAccess s.dev a) := rfl
    rw [fabtAccess_of_elsewhere (.inl (toMailbox_of_outside (.inl hoff))),
      fabtRefused_of_early hpresent (isDoorbell_of_bell hoff hwrite hsize hbell) hready] at hrun
    exact answers_of_sameWork hrun ⟨rfl, rfl, rfl, rfl, rfl, rfl, rfl⟩
  case permitted =>
    have hrun : Settles (.fabtAccessRefused a) s (fabtAccess s.dev a) := rfl
    exact answers_self_of_settles hrun ((fabtAccess_of_elsewhere (.inl (toMailbox_of_outside hoff))).trans
      (fabtRefused_of_permitted hpresent hserved hcase))
  case direct =>
    have hrun : Settles (.directWriteRefused idx sub data) s (entryWrite s.dev .direct idx sub (directData idx data)) := rfl
    rw [entryWrite_of_direct_refused hpresent hdirect hcheck hst] at hrun
    exact answers_of_sameWork hrun ⟨rfl, rfl, rfl, rfl, rfl, rfl, rfl⟩

end Sys2Proof.Machine
end

section
/-! Responses on FAB_I (R38, R40, R77, R92, R371, R463): the obligation O6. -/

namespace Sys2Proof.Machine

section Responses
variable {d : Device} {id : Nat} {r : FabiReq}

/-! ### Writes and reads (R38) -/

theorem fabiWritten_of_write (hfind : fabiFind d id = some r) (hwrite : r.write = true) :
    fabiWritten d id = wroteKind (fabiDone d id) r := by
  simp only [fabiWritten, hfind, hwrite, if_true]

theorem fabiReadBack_of_read {data : List Byte} (hfind : fabiFind d id = some r) (hread : r.write = false)
    (hlength : data.length = r.len) : fabiReadBack d id data = readKind (fabiDone d id) r data := by
  simp [fabiReadBack, hfind, hread, hlength]

/-! ### Error responses (R40, R371, R463) -/

/-- The handle of the sequence that the access serves, 0 where it serves none. -/
def servedHandle (d : Device) (r : FabiReq) : Nat := match r.kind.slot with | some slot => slotHandle d slot | none => 0

/-- The slice that has counted and logged the error, with the status in which the sequence ends. -/
def fabricErr (d : Device) (r : FabiReq) (status : Nat) : Device :=
  alertLog (bump d Od.PORT_ERR_COUNTS 0x08) ALERT_FABRIC_ERR 0 (servedHandle d r) status 0

theorem fabiError_eq (hfind : fabiFind d id = some r) : fabiError d id =
    let retry := r.kind.onceMore && !r.again
    let e := fabricErr d r (if retry || servedHandle d r = 0 then 0 else r.kind.faultStatus)
    if retry then fabiAgain e id else failedKind (fabiDone e id) r := by
  simp only [fabiError, hfind]
  rfl

theorem fabiError_of_first (hfind : fabiFind d id = some r) (honce : r.kind.onceMore = true) (hfirst : r.again = false) :
    fabiError d id = fabiAgain (fabricErr d r 0) id := by
  rw [fabiError_eq hfind, honce, hfirst]
  rfl

theorem fabiError_of_last (hfind : fabiFind d id = some r) (hlast : r.kind.onceMore = false ∨ r.again = true) :
    fabiError d id = failedKind (fabiDone (fabricErr d r (if servedHandle d r = 0 then 0 else r.kind.faultStatus)) id) r := by
  have hno : (r.kind.onceMore && !r.again) = false := by rcases hlast with h | h <;> simp [h]
  rw [fabiError_eq hfind, hno]
  simp

/-! ### No access outstanding -/

section None
variable (hfind : fabiFind d id = none)
include hfind

theorem fabiWritten_of_none : fabiWritten d id = d := by simp only [fabiWritten, hfind]
theorem fabiReadBack_of_none (data : List Byte) : fabiReadBack d id data = d := by simp only [fabiReadBack, hfind]
theorem fabiError_of_none : fabiError d id = d := by simp only [fabiError, hfind]
theorem sqRecordArrived_of_none (x : SqRec) : sqRecordArrived d id x = d := by simp only [sqRecordArrived, hfind]

end None

/-! ### A submission record (R77) -/

theorem fabiDone_portOnly (d : Device) (id : Nat) : PortOnly d (fabiDone d id) :=
  (fabiPump_portOnly _).trans rfl

theorem PortOnly.modRing {e : Device} (h : PortOnly d e) (p : Nat) (f : Ring → Ring) : e.modRing p f =
    { d with rings := (e.modRing p f).rings, fabi := (e.modRing p f).fabi, out := (e.modRing p f).out } :=
  congrArg (fun g : Device => { g with rings := (e.modRing p f).rings }) h

theorem fabiDone_ring (d : Device) (id p : Nat) : (fabiDone d id).ring p = d.ring p :=
  congrArg (fun m : Map Ring => Map.getD m p {}) (fabiDone_rings d id)

theorem sqRecordArrived_of_read {p k : Nat} {x : SqRec} (hfind : fabiFind d id = some r) (hkind : r.kind = .sqRead p k) :
    sqRecordArrived d id x = (fabiDone d id).modRing p (fun q => { q with held := Map.put q.held k x }) := by
  simp only [sqRecordArrived, hfind, hkind]

end Responses

theorem whenPresent_self {d : Device} {f : Device → Device} (h : f d = d) : whenPresent d f = d := by
  unfold whenPresent
  split
  · exact h
  · rfl

/-- Settles O6: each response runs to its operation, whose cases are `fabiWritten_of_write` and its siblings. -/
theorem fabiResponsesServeTheirAccess : Obligations.FabiResponsesServeTheirAccess := by
  refine ⟨fun s id r hpresent hfind => ?served, fun s id hfind => ?none, fun s id p k x r hready hfind hkind => ?record⟩
  case served =>
    have hwritten : Settles (.fabiWriteResponse id) s (fabiWritten s.dev id) := settles_of_whenPresent (fabiWritten · id) hpresent rfl
    have hreadBack (data : List Byte) : Settles (.fabiReadResponse id data) s (fabiReadBack s.dev id data) :=
      settles_of_whenPresent (fabiReadBack · id data) hpresent rfl
    have herror : Settles (.fabiErrorResponse id) s (fabiError s.dev id) := settles_of_whenPresent (fabiError · id) hpresent rfl
    refine ⟨fun hwrite => fabiWritten_of_write hfind hwrite ▸ hwritten,
      fun data hread hlength => fabiReadBack_of_read hfind hread hlength ▸ hreadBack data,
      fun honce hfirst => ?_, fun hlast => ?_⟩
    · rw [fabiError_of_first hfind honce hfirst] at herror
      exact herror
    · rw [fabiError_of_last hfind hlast] at herror
      exact herror
  case none =>
    have settled {i : Instr} {f : Device → Device} (hexec : exec i s = done s (whenPresent s.dev f)) (hf : f s.dev = s.dev) :
        Answers i s s.dev := answers_self_of_settles hexec (whenPresent_self hf)
    refine ⟨settled rfl (fabiWritten_of_none hfind), fun data => settled rfl (fabiReadBack_of_none hfind data),
      settled rfl (fabiError_of_none hfind), fun x => ?_⟩
    cases hready : fyReady s.dev with
    | false => exact workWaitsForReady (.sqRecordRead id x) s rfl hready
    | true =>
      have hrun : Answers (.sqRecordRead id x) s (sqRecordArrived s.dev id x) :=
        answers_of_whenReady (sqRecordArrived · id x) hready rfl
      rwa [sqRecordArrived_of_none hfind] at hrun
  case record =>
    have hrun : Answers (.sqRecordRead id x) s (sqRecordArrived s.dev id x) :=
      answers_of_whenReady (sqRecordArrived · id x) hready rfl
    rw [sqRecordArrived_of_read hfind hkind] at hrun
    refine ⟨_, hrun, rfl, ?_, ?_, fun q hq => ?_, rfl, rfl⟩
    · exact (fabiDone_portOnly s.dev id).modRing p (fun q => { q with held := Map.put q.held k x })
    · rw [Device.modRing_ring_same, fabiDone_ring]
    · rw [Device.modRing_ring_ne _ _ hq, fabiDone_ring]

end Sys2Proof.Machine
end

section
/-! Management packets and requests (R60, R61, R444, R449, R453 to R456): the obligations O23 and O24. -/

namespace Sys2Proof.Machine

/-! ### What management messages touch -/

/-- Beside the management unit, its counters and what leaves, the slices are the same. -/
def MgtOnly (d e : Device) : Prop := e = { d with mgmt := e.mgmt, od := e.od, snaps := e.snaps, out := e.out }

theorem MgtOnly.trans {d e f : Device} (h : MgtOnly d e) (h' : MgtOnly e f) : MgtOnly d f :=
  Eq.trans h' (congrArg (fun g : Device => { g with mgmt := f.mgmt, od := f.od, snaps := f.snaps, out := f.out }) h)

theorem MgtOnly.sameWork {d e : Device} (h : MgtOnly d e) : SameWork d e := by
  rw [MgtOnly] at h
  rw [h]
  exact ⟨rfl, rfl, rfl, rfl, rfl, rfl, rfl⟩

/-! ### Sending -/

section Sending
variable {d : Device} {m : MctpMsg} {src tag : Nat} {body b : List Byte}

theorem foldl_emit {α : Type} (g : α → Out) (l : List α) (d : Device) :
    l.foldl (fun d x => emit d (g x)) d = { d with out := d.out ++ l.map g } := by
  induction l generalizing d with
  | nil => simp
  | cons x l ih =>
    rw [List.foldl_cons, ih (emit d (g x)), emit, List.append_assoc, List.map_cons]
    rfl

theorem mctpSend_eq (d : Device) (src tag : Nat) (body : List Byte) : mctpSend d src tag body =
    { bump d Od.MCTP_STATS 0 with out := d.out ++
        (mctpPackets (odGet d Od.MCTP_EID 0) src tag (body.length / 64 + 1) 0 body).map Out.mgt } :=
  foldl_emit Out.mgt _ (bump d Od.MCTP_STATS 0)

@[simp] theorem mctpSend_mgmt : (mctpSend d src tag body).mgmt = d.mgmt := by
  rw [mctpSend_eq]
  rfl

theorem mctpSend_mgtOnly (d : Device) (src tag : Nat) (body : List Byte) : MgtOnly d (mctpSend d src tag body) := by
  rw [mctpSend_eq]
  rfl

/-! ### Requests that need no entry -/

theorem mctpRefuse_of_head (n : Nat) (h : ∀ m, d.mgmt.queue.head? = some m → m.refusal = none) : mctpRefuse n d = d := by
  cases n with
  | zero => rfl
  | succ n =>
    unfold mctpRefuse
    split
    · rfl
    · next m ms hqueue => simp only [h m (by rw [hqueue, List.head?_cons])]

theorem mctpRefuse_of_refused {n : Nat} {ms : List MctpMsg} (hqueue : d.mgmt.queue = m :: ms) (hrefusal : m.refusal = some b) :
    mctpRefuse (n + 1) d = mctpRefuse n (mctpSend (d.modMgmt (fun g => { g with queue := ms })) m.src m.tag b) := by
  simp only [mctpRefuse, hqueue, hrefusal]

/-- Requests leave the queue from its head; nothing else of the management unit changes. -/
theorem mctpRefuse_mgmt (n : Nat) (d : Device) :
    ∃ k, (mctpRefuse n d).mgmt = { d.mgmt with queue := d.mgmt.queue.drop k } := by
  induction n generalizing d with
  | zero => exact ⟨0, rfl⟩
  | succ n ih =>
    unfold mctpRefuse
    split
    · exact ⟨0, rfl⟩
    · next m ms hqueue =>
      split
      · next b _ =>
        obtain ⟨k, hk⟩ := ih (mctpSend (d.modMgmt (fun g => { g with queue := ms })) m.src m.tag b)
        exact ⟨k + 1, by rw [hk, mctpSend_mgmt, hqueue]; rfl⟩
      · exact ⟨0, rfl⟩

theorem mctpRefuse_mgtOnly (n : Nat) (d : Device) : MgtOnly d (mctpRefuse n d) := by
  induction n generalizing d with
  | zero => rfl
  | succ n ih =>
    unfold mctpRefuse
    split
    · rfl
    · next ms _ =>
      split
      · exact ((show MgtOnly d (d.modMgmt (fun g => { g with queue := ms })) from rfl).trans (mctpSend_mgtOnly ..)).trans (ih _)
      · rfl

theorem mctpAnswer_mgtOnly (d : Device) (src tag : Nat) (body : List Byte) : MgtOnly d (mctpAnswer d src tag body) :=
  ((show MgtOnly d (d.modMgmt (fun m => { m with queue := m.queue.drop 1 })) from rfl).trans (mctpSend_mgtOnly ..)).trans
    (mctpRefuse_mgtOnly ..)

theorem refusal_of_unsupported (hcontrol : m.control = true) (hno : controlSupported m.command = false) :
    m.refusal = some (controlBody m 0x05 []) := by
  simp [MctpMsg.refusal, hcontrol, hno]

theorem refusal_of_bad_form (hvendor : m.control = false) (hbad : m.formatOk = false ∨ m.op = 0 ∨ 4 < m.op) :
    m.refusal = some (mctpBody m.op m.reqId m.idx m.sub .rejFormat []) := by
  have hno : (m.formatOk && 1 ≤ m.op && m.op ≤ 4) = false := by
    rcases hbad with h | h | h <;> simp [h]
  simp only [MctpMsg.refusal, hvendor, hno]
  rfl

theorem refusal_of_op (hvendor : m.control = false) (hform : m.formatOk = true) (hlow : 1 ≤ m.op) (hhigh : m.op ≤ 4) :
    m.refusal = none := by
  simp [MctpMsg.refusal, hvendor, hform, hlow, hhigh]

end Sending

/-! ### Assembly (R454) -/

section Assembly
variable {d : Device} {p : MctpPacket}

/-- The part belongs to the message of the packet. -/
def ofMessage (p : MctpPacket) (x : MctpPart) : Bool := x.src = p.src && x.tag = p.tag && x.tagOwner = p.tagOwner

theorem ofMessage_iff {x : MctpPart} : ofMessage p x = true ↔ x.src = p.src ∧ x.tag = p.tag ∧ x.tagOwner = p.tagOwner := by
  simp [ofMessage, and_assoc]

theorem ofMessage_joinPacket (d : Device) (p : MctpPacket) : ofMessage p (joinPacket d p) = true := by
  have hdead : ofMessage p (deadPart p) = true := by simp [ofMessage, deadPart]
  unfold joinPacket
  split
  · split
    · simp [ofMessage]
    · exact hdead
  · split
    · exact hdead
    · next x hfind =>
      have hx : ofMessage p x = true := List.find?_some hfind
      split
      · exact hx
      · exact hdead

theorem setPart_parts (d : Device) (p : MctpPacket) (x : Option MctpPart) :
    (setPart d p x).mgmt.parts = d.mgmt.parts.filter (fun y => !ofMessage p y) ++ x.toList := rfl

@[simp] theorem setPart_queue (d : Device) (p : MctpPacket) (x : Option MctpPart) :
    (setPart d p x).mgmt.queue = d.mgmt.queue := rfl

theorem setPart_mgtOnly (d : Device) (p : MctpPacket) (x : Option MctpPart) : MgtOnly d (setPart d p x) := rfl

@[simp] theorem odGet_setPart (d : Device) (p : MctpPacket) (x : Option MctpPart) (i j : Nat) :
    odGet (setPart d p x) i j = odGet d i j := odGet_od i j rfl rfl

theorem find_others (l : List MctpPart) : (l.filter (fun y => !ofMessage p y)).find? (ofMessage p) = none := by
  refine List.find?_eq_none.mpr fun y hy => ?_
  have hno : !ofMessage p y := (List.mem_filter.mp hy).2
  simpa using hno

theorem partOf_setPart_none : partOf (setPart d p none) p = none := by
  show ((setPart d p none).mgmt.parts).find? (ofMessage p) = none
  rw [setPart_parts, Option.toList_none, List.append_nil, find_others]

theorem partOf_setPart_some {x : MctpPart} (hx : ofMessage p x = true) : partOf (setPart d p (some x)) p = some x := by
  show ((setPart d p (some x)).mgmt.parts).find? (ofMessage p) = some x
  rw [setPart_parts, List.find?_append, find_others, Option.none_or, Option.toList_some, List.find?_singleton, if_pos hx]

/-- Messages of others stay as they are. -/
theorem mem_setPart {x : Option MctpPart} {y : MctpPart} (hx : ∀ z ∈ x, ofMessage p z = true) (hy : ofMessage p y = false) :
    y ∈ (setPart d p x).mgmt.parts ↔ y ∈ d.mgmt.parts := by
  have hother : y ∉ x.toList := fun h => by simp [hx y (Option.mem_toList.mp h)] at hy
  simp only [setPart_parts, List.mem_append, List.mem_filter, hy, hother, Bool.not_false, and_true, or_false]

/-- A part that is followed to its end only is no request. -/
theorem acceptable_deadPart : acceptable (deadPart p) = false := by simp [acceptable, deadPart]

/-! ### A whole message -/

/-- The request of a whole message. -/
def MctpPart.request (x : MctpPart) : MctpMsg := { src := x.src, tag := x.tag, body := x.body }

/-- A request joins the queue. -/
def queued (d : Device) (m : MctpMsg) : Device := d.modMgmt (fun g => { g with queue := g.queue ++ [m] })

variable {x : MctpPart}

theorem mctpMessage_of_request (h : acceptable x = true) : mctpMessage d x = mctpRefuse 4 (queued d x.request) := if_pos h

theorem mctpMessage_of_other (h : acceptable x = false) : mctpMessage d x = mctpDiscard d := by simp [mctpMessage, h]

theorem mctpMessage_mgtOnly (d : Device) (x : MctpPart) : MgtOnly d (mctpMessage d x) := by
  cases h : acceptable x with
  | true =>
    rw [mctpMessage_of_request h]
    exact (show MgtOnly d (queued d x.request) from rfl).trans (mctpRefuse_mgtOnly ..)
  | false =>
    rw [mctpMessage_of_other h]
    rfl

/-- A message changes no part, and adds at most one request. -/
theorem mctpMessage_mgmt (d : Device) (x : MctpPart) : (mctpMessage d x).mgmt.parts = d.mgmt.parts ∧
    (mctpMessage d x).mgmt.queue.length ≤ d.mgmt.queue.length + 1 := by
  cases h : acceptable x with
  | true =>
    obtain ⟨k, hk⟩ := mctpRefuse_mgmt 4 (queued d x.request)
    rw [mctpMessage_of_request h, hk]
    refine ⟨rfl, ?_⟩
    simp [queued]
  | false =>
    rw [mctpMessage_of_other h]
    exact ⟨rfl, Nat.le_succ _⟩

theorem mctpMessage_queue_of_kept (h : acceptable x = true) (hhead : ∀ m, d.mgmt.queue.head? = some m → m.refusal = none)
    (hkept : x.request.refusal = none) : (mctpMessage d x).mgmt.queue = d.mgmt.queue ++ [x.request] := by
  have hfirst : ∀ m, (queued d x.request).mgmt.queue.head? = some m → m.refusal = none := by
    intro m hm
    cases hqueue : d.mgmt.queue with
    | nil => simp_all [queued]
    | cons a l => exact hhead m (by simpa [queued, hqueue] using hm)
  rw [mctpMessage_of_request h, mctpRefuse_of_head 4 hfirst]
  rfl

/-- A request that finds none waiting and needs no entry is answered at once, and the queue stays empty. -/
theorem mctpMessage_of_refused {b : List Byte} (h : acceptable x = true) (hempty : d.mgmt.queue = [])
    (hrefusal : x.request.refusal = some b) : (mctpMessage d x).mgmt.queue = [] ∧ (mctpMessage d x).out =
      d.out ++ (mctpPackets (odGet d Od.MCTP_EID 0) x.src x.tag (b.length / 64 + 1) 0 b).map Out.mgt := by
  have hqueue : (queued d x.request).mgmt.queue = x.request :: [] := by simp [queued, hempty]
  have hsent : mctpMessage d x = mctpSend (d.modMgmt (fun g => { g with queue := [] })) x.src x.tag b := by
    rw [mctpMessage_of_request h, mctpRefuse_of_refused hqueue hrefusal, mctpRefuse_of_head 3 (by simp)]
    rfl
  rw [hsent]
  exact ⟨by simp, by rw [mctpSend_eq]; rfl⟩

/-! ### The packet -/

/-- A packet that begins a message anew discards what there is of the message of its source and tag. -/
def begun (d : Device) (p : MctpPacket) : Device := if p.som && (partOf d p).isSome then mctpDiscard d else d

theorem begun_cases (d : Device) (p : MctpPacket) : begun d p = mctpDiscard d ∨ begun d p = d := by
  unfold begun
  split
  · exact .inl rfl
  · exact .inr rfl

@[simp] theorem begun_mgmt (d : Device) (p : MctpPacket) : (begun d p).mgmt = d.mgmt := by
  rcases begun_cases d p with h | h <;> rw [h]
  rfl

theorem begun_mgtOnly (d : Device) (p : MctpPacket) : MgtOnly d (begun d p) := by
  rcases begun_cases d p with h | h <;> rw [h] <;> rfl

theorem begun_out (d : Device) (p : MctpPacket) : (begun d p).out = d.out := by
  rcases begun_cases d p with h | h <;> rw [h]
  rfl

theorem odGet_begun_eid (d : Device) (p : MctpPacket) : odGet (begun d p) Od.MCTP_EID 0 = odGet d Od.MCTP_EID 0 := by
  rcases begun_cases d p with h | h <;> rw [h]
  exact od_bump_ne d (by decide)

theorem mctpPacket_of_full (h : 4 ≤ d.mgmt.queue.length ∨ 4 ≤ mgtBuffered d) : mctpPacket d p = d :=
  if_pos (by rcases h with h | h <;> simp [h])

theorem mctpPacket_of_other (hother : p.dest ≠ odGet d Od.MCTP_EID 0) (hnull : p.dest ≠ 0) : mctpPacket d p = d :=
  if_pos (by simp [mctpMine, hother, hnull])

section Taken
variable (hqueue : d.mgmt.queue.length < 4) (hbuffer : mgtBuffered d < 4) (hmine : p.dest = odGet d Od.MCTP_EID 0 ∨ p.dest = 0)
include hqueue hbuffer hmine

theorem mctpPacket_of_taken : mctpPacket d p =
    if p.eom then mctpMessage (setPart (begun d p) p none) (joinPacket d p)
    else setPart (begun d p) p (some (joinPacket d p)) := by
  have hmine : mctpMine d p = true := by rcases hmine with h | h <;> simp [mctpMine, h]
  simp [mctpPacket, Nat.not_le.mpr hqueue, Nat.not_le.mpr hbuffer, hmine, begun]

theorem mctpPacket_of_more (heom : p.eom = false) : mctpPacket d p = setPart (begun d p) p (some (joinPacket d p)) := by
  rw [mctpPacket_of_taken hqueue hbuffer hmine, heom]
  rfl

theorem mctpPacket_of_last (heom : p.eom = true) :
    mctpPacket d p = mctpMessage (setPart (begun d p) p none) (joinPacket d p) := by
  rw [mctpPacket_of_taken hqueue hbuffer hmine, heom]
  rfl

end Taken

/-- A count of R33 holds one more after a bump, whatever the dictionary holds beside it. -/
theorem odGet_mctpDiscard (d : Device) :
    odGet (mctpDiscard d) Od.MCTP_STATS 2 = min (2 ^ 48 - 1) (odGet d Od.MCTP_STATS 2 + 1) := by
  have hdefault : odDefault d Od.MCTP_STATS 2 = 0 := rfl
  have hcount : satAdd statMax (odGet d Od.MCTP_STATS 2) 1 = min (2 ^ 48 - 1) (odGet d Od.MCTP_STATS 2 + 1) := rfl
  have hset : odGet (mctpDiscard d) Od.MCTP_STATS 2 = satAdd statMax (odGet d Od.MCTP_STATS 2) 1 :=
    odGet_odSet_of_ne_default d (by rw [hdefault, hcount]; omega)
  rw [hset, hcount]

end Assembly

/-- Settles O23: a packet that is taken joins its message (`mctpPacket_of_more`), and the last one ends it
(`mctpPacket_of_last`): the whole message is queued (`mctpMessage_queue_of_kept`), answered (`mctpMessage_of_refused`) or
discarded (`mctpMessage_of_other`). -/
theorem mctpPacketsAssemble : Obligations.MctpPacketsAssemble := by
  intro s p hpresent
  have hrun : Answers (.mctpPacket p) s (mctpPacket s.dev p) := answers_of_whenPresent (mctpPacket · p) hpresent rfl
  refine ⟨fun hfull => mctpPacket_of_full hfull ▸ hrun, fun hother hnull => mctpPacket_of_other hother hnull ▸ hrun,
    fun hqueue hbuffer hmine => ⟨mctpPacket s.dev p, hrun, ?_⟩⟩
  obtain ⟨hsrc, htag, -⟩ := ofMessage_iff.mp (ofMessage_joinPacket s.dev p)
  have hrequest : (joinPacket s.dev p).request = { src := p.src, tag := p.tag, body := (joinPacket s.dev p).body } := by
    rw [MctpPart.request, hsrc, htag]
  cases heom : p.eom with
  | false =>
    have hmore := mctpPacket_of_more hqueue hbuffer hmine heom
    have hkept : (mctpPacket s.dev p).mgmt.queue = s.dev.mgmt.queue := by
      rw [hmore]
      rw [setPart_queue, begun_mgmt]
    refine ⟨hkept ▸ hqueue.le, fun _ => ⟨hkept, ?joined⟩, nofun, fun x hx => ?others, nofun, nofun, nofun, ?only⟩
    case joined =>
      rw [hmore]
      exact partOf_setPart_some (ofMessage_joinPacket s.dev p)
    case others =>
      rw [hmore, mem_setPart (by simp [ofMessage_joinPacket]) ((Bool.not_eq_true' _).mp hx), begun_mgmt]
    case only =>
      rw [hmore]
      exact (begun_mgtOnly s.dev p).trans (setPart_mgtOnly ..)
  | true =>
    have hlast := mctpPacket_of_last hqueue hbuffer hmine heom
    have hcleared : (setPart (begun s.dev p) p none).mgmt.queue = s.dev.mgmt.queue := by
      rw [setPart_queue, begun_mgmt]
    obtain ⟨hparts, hlength⟩ := mctpMessage_mgmt (setPart (begun s.dev p) p none) (joinPacket s.dev p)
    rw [hcleared] at hlength
    rw [hlast]
    refine ⟨by omega, nofun, fun _ => ?ended, fun x hx => ?others, fun _ hok hhead hkept => ?kept,
      fun _ hok hempty => ?answered, fun hsom hpart _ => ?discarded, ?only⟩
    case ended =>
      exact (congrArg (List.find? (ofMessage p)) hparts).trans partOf_setPart_none
    case others =>
      rw [hparts, mem_setPart (by simp) ((Bool.not_eq_true' _).mp hx), begun_mgmt]
    case kept =>
      rw [mctpMessage_queue_of_kept hok (by rwa [hcleared]) (by rwa [hrequest]), hcleared, hrequest]
    case answered =>
      have hsent {b : List Byte} (hrefusal : (joinPacket s.dev p).request.refusal = some b) :=
        mctpMessage_of_refused hok (hcleared.trans hempty) hrefusal
      have hout : (setPart (begun s.dev p) p none).out = s.dev.out := begun_out s.dev p
      rw [hrequest, odGet_setPart, odGet_begun_eid, hsrc, htag, hout] at hsent
      exact ⟨fun hcontrol hno => hsent (refusal_of_unsupported hcontrol hno),
        fun hvendor hbad => hsent (refusal_of_bad_form hvendor hbad)⟩
    case discarded =>
      have hdead : joinPacket s.dev p = deadPart p := by simp [joinPacket, hsom, hpart]
      have hbegun : begun s.dev p = s.dev := by simp [begun, hsom]
      rw [hdead, mctpMessage_of_other acceptable_deadPart, hbegun, odGet_mctpDiscard, odGet_setPart]
      exact ⟨rfl, rfl⟩
    case only =>
      exact ((begun_mgtOnly s.dev p).trans (setPart_mgtOnly ..)).trans (mctpMessage_mgtOnly ..)

/-! ### Dictionary requests (R449, R453, R455) -/

section Served
variable {d : Device} {op : Nat} {m : MctpMsg} {row : OdRow} {most idx sub : Nat}

theorem mctpServe_of_not_turn (hturn : unitTurn d .mctp = false) (op : Nat) (f : Device → MctpMsg → Device) :
    mctpServe d op f = d := by
  refine whenPresent_self ?_
  split
  · rfl
  · simp [hturn]

/-- The slice that has taken the turn of MCTP. -/
def mctpTurn (d : Device) : Device := { d with mgmt := { d.mgmt with lastSource := .mctp } }

theorem mctpReply_of_head {f : Device → MctpMsg → Device × Status × List Byte} {e : Device} {st : Status} {data : List Byte}
    (hpresent : fyPresent d = true) (hhead : d.mgmt.queue.head? = some m) (hturn : unitTurn d .mctp = true)
    (hcontrol : m.control = false) (hrefusal : m.refusal = none) (hop : m.op = op) (hf : f (mctpTurn d) m = (e, st, data)) :
    mctpReply d op f = mctpAnswer e m.src m.tag (mctpBody m.op m.reqId m.idx m.sub st data) := by
  have htook : f (tookTurn d (.mctp m.src m.tag m.reqId)) m = (e, st, data) := hf
  rw [mctpReply, mctpServe_of_head hpresent hhead hturn hcontrol hrefusal hop, htook, hop]
  rfl

theorem readEntry_of_fits (hrow : odRow idx sub = some row) (hacc : row.acc ≠ 3) (hsize : row.size ≤ most) :
    readEntry d most idx sub = (latchRead d row idx sub, .ok, leBytes (odRead d idx sub) row.size) := by
  simp [readEntry, hrow, hacc, Nat.not_lt.mpr hsize]

theorem readEntry_of_no_fit (hno : ∀ row, odRow idx sub = some row → row.acc = 3 ∨ most < row.size) :
    readEntry d most idx sub = (d, .rejFormat, []) := by
  cases hrow : odRow idx sub with
  | none => simp only [readEntry, hrow]
  | some row => simp [readEntry, hrow, hno row hrow]

theorem mctpCommitEntry_of_refused (hno : commitOk idx sub = false) : mctpCommitEntry d idx sub = (d, .rejFormat, []) := by
  simp [mctpCommitEntry, hno]

theorem mctpCommitEntry_of_permitted (hok : commitOk idx sub = true)
    (hmask : bit (odGet d Od.MCTP_WRITE_MASK 0) (idx / 256) = true) :
    mctpCommitEntry d idx sub = (commitEntry d idx sub, .ok, []) := by
  simp [mctpCommitEntry, hok, hmask]

theorem mctpCommitEntry_of_masked (hok : commitOk idx sub = true)
    (hmask : bit (odGet d Od.MCTP_WRITE_MASK 0) (idx / 256) = false) :
    mctpCommitEntry d idx sub = (bump d Od.MCTP_STATS 1, .rejSealedWrite, []) := by
  simp [mctpCommitEntry, hok, hmask]

/-! ### Control commands (R60, R456) -/

theorem controlServe_of_head {cmd cc : Nat} {f : Device → MctpMsg → Device × Nat × List Byte} {ms : List MctpMsg} {e : Device}
    {data : List Byte} (hpresent : fyPresent d = true) (hqueue : d.mgmt.queue = m :: ms) (hcontrol : m.control = true)
    (hcmd : m.command = cmd) (hf : f d m = (e, cc, data)) :
    controlServe d cmd f = mctpAnswer e m.src m.tag (controlBody m cc data) := by
  rw [controlServe, whenPresent_true hpresent]
  simp only [hqueue, hcontrol, hcmd, hf]
  rfl

theorem setEid_of_set (hlength : m.body.length = 5) (hop : m.byte 3 % 4 < 2) (hnull : m.byte 4 ≠ 0) (hall : m.byte 4 ≠ 0xFF) :
    setEid d m = (odSet d Od.MCTP_EID 0 (m.byte 4), 0x00, [0x00, BitVec.ofNat 8 (m.byte 4), 0x00]) := by
  simp [setEid, hlength, hop, hnull, hall]

theorem setEid_of_length (h : m.body.length ≠ 5) : setEid d m = (d, 0x03, []) := if_pos h

theorem setEid_of_invalid (hlength : m.body.length = 5) (hbad : 2 ≤ m.byte 3 % 4 ∨ m.byte 4 = 0 ∨ m.byte 4 = 0xFF) :
    setEid d m = (d, 0x02, []) := by
  have hno : ¬ (m.byte 3 % 4 < 2 ∧ m.byte 4 ≠ 0 ∧ m.byte 4 ≠ 0xFF) := by omega
  simp only [setEid, hlength, ne_eq, not_true_eq_false, if_false, Bool.and_eq_true, decide_eq_true_eq, and_assoc]
  exact if_neg hno

theorem vendorSupport_of_first (h : m.byte 3 = 0) : vendorSupport d m =
    (d, 0x00, [0xFF, 0x00] ++ vendorBytes ++ (leBytes (odGet d Od.MCTP_VDM_VERSION 0) 2).reverse) := if_pos h

theorem vendorSupport_of_other (h : m.byte 3 ≠ 0) : vendorSupport d m = (d, 0x02, []) := if_neg h

end Served

/-- Settles O24: a request at the head of the queue is answered by what serving it gives (`mctpReply_of_head`,
`controlServe_of_head`); without the turn of MCTP a dictionary request waits. -/
theorem mctpRequestsAreServedInOrder : Obligations.MctpRequestsAreServedInOrder := by
  refine ⟨fun s m ms hpresent hqueue => ⟨fun hturn => ?waits, fun hturn hvendor hform => ?served⟩,
    fun s m ms hpresent hqueue hcontrol => ?control⟩
  case waits =>
    have hread := mctpServe_of_not_turn hturn OP_READ
    have hwrite := mctpServe_of_not_turn hturn OP_WRITE
    have hcommit := mctpServe_of_not_turn hturn OP_COMMIT
    have hinfo := mctpServe_of_not_turn hturn OP_INFO
    exact ⟨answers_self_of_settles rfl (hread _), answers_self_of_settles rfl (hwrite _),
      congrArg (next s) (hcommit _), congrArg (next s) (hinfo _)⟩
  case served =>
    have hhead : s.dev.mgmt.queue.head? = some m := by rw [hqueue, List.head?_cons]
    have hreply {op : Nat} {f : Device → MctpMsg → Device × Status × List Byte} {e : Device} {st : Status} {data : List Byte}
        (hop : m.op = op) (hlow : 1 ≤ op) (hhigh : op ≤ 4) (hf : f (mctpTurn s.dev) m = (e, st, data)) :=
      mctpReply_of_head hpresent hhead hturn hvendor (refusal_of_op hvendor hform (hop ▸ hlow) (hop ▸ hhigh)) hop hf
    have hread {found : DiagFind} {e : Device} {st : Status} {data : List Byte} (hop : m.op = OP_READ)
        (hf : readEntry (diagRead (mctpTurn s.dev) m.idx found) 128 m.idx m.sub = (e, st, data)) :
        Settles (.mctpRead found) s (mctpAnswer e m.src m.tag (mctpBody m.op m.reqId m.idx m.sub st data)) :=
      congrArg (done s) (hreply hop (by decide) (by decide) hf)
    have hturned : SameWork s.dev (mctpTurn s.dev) := (SameWork.refl s.dev).turn (.mctp m.src m.tag m.reqId)
    have hanswered {e : Device} (body : List Byte) (h : SameWork s.dev e) : SameWork s.dev (mctpAnswer e m.src m.tag body) :=
      h.trans (mctpAnswer_mgtOnly ..).sameWork
    refine ⟨fun hop => ⟨fun row hrow hacc hsize => ?read, fun found row _ hrow hacc hsize => ?diag, fun hno => ?noRead⟩,
      fun hop => ⟨fun hno => ?noCommit, fun hok hmask => ?commit, fun hok hmask => ?masked⟩,
      fun hop => ⟨fun row hrow => ?info, fun hrow => ?noInfo⟩⟩
    case read =>
      exact answers_of_sameWork (hread (found := none) hop (readEntry_of_fits hrow hacc hsize))
        (hanswered _ (hturned.trans (sameWork_latchRead ..)))
    case diag => exact hread hop (readEntry_of_fits hrow hacc hsize)
    case noRead => exact answers_of_sameWork (hread (found := none) hop (readEntry_of_no_fit hno)) (hanswered _ hturned)
    case noCommit => exact congrArg (next s) (hreply hop (by decide) (by decide) (mctpCommitEntry_of_refused hno))
    case commit => exact congrArg (next s) (hreply hop (by decide) (by decide) (mctpCommitEntry_of_permitted hok hmask))
    case masked => exact congrArg (next s) (hreply hop (by decide) (by decide) (mctpCommitEntry_of_masked hok hmask))
    case info => exact congrArg (next s) (hreply hop (by decide) (by decide) (infoEntry_of_row hrow))
    case noInfo => exact congrArg (next s) (hreply hop (by decide) (by decide) (infoEntry_of_absent hrow))
  case control =>
    have hserve {cmd cc : Nat} {f : Device → MctpMsg → Device × Nat × List Byte} {e : Device} {data : List Byte}
        (hcmd : m.command = cmd) (hf : f s.dev m = (e, cc, data)) :
        next s (controlServe s.dev cmd f) = .next { s with dev := mctpAnswer e m.src m.tag (controlBody m cc data) } :=
      congrArg (next s) (controlServe_of_head hpresent hqueue hcontrol hcmd hf)
    exact ⟨fun hcmd hlength hop hnull hall => hserve hcmd (setEid_of_set hlength hop hnull hall),
      fun hcmd hlength => hserve hcmd (setEid_of_length hlength),
      fun hcmd hlength hbad => hserve hcmd (setEid_of_invalid hlength hbad),
      fun hcmd hset => hserve hcmd (vendorSupport_of_other hset), fun hcmd => hserve hcmd rfl, fun hcmd => hserve hcmd rfl,
      fun hcmd => hserve hcmd rfl, fun hcmd hset => hserve hcmd (vendorSupport_of_first hset)⟩

end Sys2Proof.Machine
end
